-- ==== Sys2Proof/Word.lean ====
section
/-! DEFINITION. The word types of the TH4 (R5, R29): a register is 32 bits, memory is counted in bytes. -/

namespace Sys2Proof

/-- A register or a general register of a tile control core. -/
abbrev Word := BitVec 32

/-- The smallest unit the physical address space counts (R19). -/
abbrev Byte := BitVec 8

/-- A word from a number, wrapping at 32 bits. -/
abbrev word (n : Nat) : Word := BitVec.ofNat 32 n

/-- A byte from a number, wrapping at 8 bits. -/
abbrev byte (n : Nat) : Byte := BitVec.ofNat 8 n

end Sys2Proof
end

