-- ==== Sys2Proof/Syntax.lean ====
section
/-! DEFINITION. The commands the TH4 takes: one constructor per row of spec/opcode_table.json, with the operands the
row's rule gives it. A register command carries its requester, a physical event what the event brings. -/

namespace Sys2Proof

/-- A requester (Table 2.4, R30): its class (0 TCC, 1 DMA, 2 host, 3 scheduler, 4 Hook engine, 5 voxel engine, 6 Adsel,
7 AON controller or cascade), its index within the class and the tenant it carries. -/
structure Req where
  cls : Nat
  index : Nat
  tenant : Nat
deriving DecidableEq, Repr

/-- How the work of a cast-on step ended (R93, R101): done, or failed with a code of Table 5.6 and its detail. -/
inductive StepResult where
  | done
  | failed (code detail : Nat)
deriving DecidableEq, Repr

/-- What PROVISION brings over the TAP (R113): the public-key digests and the serial number blown into the fuses of a
BLANK part, and the DeviceID certificate it accepts. The device secret comes from the device's own TRNG. -/
structure Provision where
  imgKeys : List (List Byte)
  svc : List Byte
  integ : List Byte
  serial : Nat
  certificate : List Byte
deriving DecidableEq, Repr

/-- An inbound host TLP (R391, R392): a write of bytes (none where its byte enable is off) or a read of `len` bytes at an
offset of a BAR, the IDE stream it came on (0 to 2) where it came on one, and EP, its poison mark. -/
structure HostTlp where
  write : Bool
  offset : Nat
  data : List (Option Byte)
  len : Nat
  stream : Option Nat
  ep : Bool
deriving DecidableEq, Repr

/-- The status of a PCIe completion (R394). -/
inductive CplStatus where
  | success
  | unsupported
  | abort
  | poisoned
deriving DecidableEq, Repr

/-- A wake pin (R57, R187) and the level it has changed to. -/
structure PinLevel where
  pin : Nat
  high : Bool
deriving DecidableEq, Repr

/-- A frame start or frame end packet at receiver `n` (R165), and the errors in its header: 0 none, 1 one bit, which the ECC
corrects, 2 more. -/
structure ShortPacket where
  n : Nat
  ecc : Nat
deriving DecidableEq, Repr

/-- An in-band interrupt at controller `n` (R170, R171): the target's address and up to 8 payload bytes. -/
structure Ibi where
  n : Nat
  addr : Nat
  payload : List Byte
deriving DecidableEq, Repr

/-- A data scan of the boundary chain (R432): the bits shifted in, and whether it is a further scan under the EXTEST that is
current; otherwise SAMPLE/PRELOAD is loaded for it. -/
structure BoundaryScan where
  extest : Bool
  bits : List Bool
deriving DecidableEq, Repr

/-- A host configuration-space write the device acts on (R393, R395, R396, R401): D0 or D3hot, the MSI-X function mask and
Enable, the ASPM enables, an IDE stream's enable, an address association of a selective stream. -/
inductive PcieCfg where
  | power (d3hot : Bool)
  | msixMask (masked enable : Bool)
  | aspm (l1 l12 : Bool)
  | ideEnable (stream : Nat) (on : Bool)
  | ideAssoc (stream base limit : Nat)
deriving DecidableEq, Repr

/-- The commands. -/
inductive Instr where
  /-- R8: A write to a register field that has no row of its own sets the field as its access code allows, after the checks of R29. -/
  | registerWrite (q : Req) (addr : Nat) (size : Nat) (v : Word)
  /-- R25: A read of ERR_CODE returns the first captured error and then clears it. -/
  | errCodeRead (q : Req) (page : Nat)
  /-- R25: A write to IRQ_CLR clears the IRQ_RAW bits written as 1, and bit 31 also clears PAGE_STATUS.WAKE_TIMEOUT. -/
  | irqClr (q : Req) (page : Nat) (v : Word)
  /-- R25: PAGE_CTRL.SOFT_RESET returns the block registers to reset, clears IRQ_RAW and ERR_CODE and aborts the block's work, unless the page is locked. -/
  | softReset (q : Req) (page : Nat) (v : Word)
  /-- R27: A write of 1 to PAGE_LOCK locks every RWL field of the page and keeps a copy for restores, for as long as the lock holds. -/
  | pageLock (q : Req) (page : Nat) (v : Word)
  /-- R31: A refused or unmapped access completes with REFUSED and zero data exactly 96 SOCCLK cycles after acceptance. -/
  | refusedCompletion (q : Req) (addr : Nat) (wr : Bool)
  /-- R32: An access stalled for a wake on access completes, in acceptance order, once its domain reaches ON. -/
  | stalledAccessComplete (dom : Nat)
  /-- R43: A write of PWR_DOM_CFG sets or withdraws the software request and changes the domain's effective target. -/
  | domCfgWrite (q : Req) (dom : Nat) (v : Word)
  /-- R46: A domain whose effective target becomes more awake than its state begins the REG step of its wake. -/
  | wakeStart (dom : Nat)
  /-- R50: A 4 µs tile slot of a quadrant expires and the next waiting tile, in ascending order, starts its REG step. -/
  | tileWakeSlot (quad : Nat)
  /-- R47: A wake step's ready signal is sampled true in handshake mode and the next step starts, or the domain reaches ON after LOGIC. -/
  | wakeStepReady (dom : Nat)
  /-- R48: The AON_WAKE_DELAY of a table-mode wake step expires and the step ends. -/
  | wakeStepDelayExpiry (dom : Nat) (ready : Bool)
  /-- R51: A domain's wake timeout expires before ON, setting PWR IRQ_RAW bit 2 and ending stalled accesses with WAKE_TIMEOUT while the wake continues. -/
  | wakeTmoExpiry (dom : Nat)
  /-- R52: A domain's idle timer reaches IDLE_TMO and the domain starts entry to IDLE_STATE. -/
  | idleTimerExpiry (dom : Nat)
  /-- R53: An entry step of a domain going to a lower state completes and the next reverse step starts, turning off a rail whose domains are all OFF. -/
  | entryStepDone (dom : Nat)
  /-- R54: A write of PWR_CHIP_SLEEP with TARGET and ARM requests a chip-state entry. -/
  | chipSleepArm (q : Req) (v : Word)
  /-- R54: A write of ARM = 0 before any domain starts entry cancels the chip-state request. -/
  | chipSleepCancel (q : Req) (v : Word)
  /-- R54: Once every over-allowance domain is idle and no other request is held, the AON controller lowers the domains, dependents first. -/
  | chipSleepEntryStart
  /-- R59: A running PLL loses lock, clearing its lock bit, setting CLK IRQ_RAW bit 1 and gating its domains' clocks. -/
  | pllUnlock (pll : Nat)
  /-- R59: A PLL regains lock and the domains it clocks resume. -/
  | pllRelock (pll : Nat)
  /-- R59: REFOSC fails, clearing REFOSC_OK, setting CLK IRQ_RAW bit 0, holding every PLL and moving the timestamp to AONCLK. -/
  | refoscFail
  /-- R60: REFOSC becomes OK and the timestamp resumes on REFOSC at the next AONCLK edge from the integer value plus one. -/
  | refoscResume
  /-- R61: Every 1,024 AONCLK ticks the AON controller writes the measured ratio to CLK_TS_RATIO. -/
  | tsRatioUpdate (ratio : Word)
  /-- R62: AON_RTC equals AON_RTC_ALARM, setting AON IRQ_RAW bit 0 and firing the RTC wake source. -/
  | rtcAlarm
  /-- R63: Adsel's write of 0x0000_4B1C to AON_WDT_KICK restarts the watchdog count. -/
  | wdtKick (q : Req) (v : Word)
  /-- R68: The watchdog count passes half its period and AON IRQ_RAW bit 1 is set. -/
  | wdtHalf
  /-- R63: The watchdog count reaches its period, frogs Adsel, resets every domain except AON, records the cause and starts a warm cast-on. -/
  | wdtExpiry
  /-- R57: A GPIO configured as a wake input changes to its active level and requests ON for SEC, SOC and HOST. -/
  | gpioWake (edge : PinLevel)
  /-- R57: The host asserts HOST_WAKE_IN, requesting ON for SEC, SOC and HOST or ending a halt or bind-off with a warm cast-on. -/
  | hostWakeIn
  /-- R72: Every 1 µs each metered output samples current and voltage and CAP updates its averages, power, energy and stretch levels. -/
  | meterSample (rail : Nat) (code : Nat) (mv : Nat)
  /-- R75: After HARD exit, every 50 µs the rail's HARD floor lifts by one OPP until it no longer limits. -/
  | hardFloorLift (rail : Nat)
  /-- R77: A tile rail falls below its OPP voltage by THRESH and the quadrant's tile clocks go to level 4 within 2 cycles. -/
  | droopDetect (quad : Nat) (mv : Nat)
  /-- R77: 64 tile-clock cycles after a droop ends, the quadrant's clocks leave the droop level. -/
  | droopRelease (quad : Nat)
  /-- R80: Every 1 µs CAP resolves each quadrant's effective OPP as the minimum of preferred and allowed and starts any slew. -/
  | oppResolve
  /-- R81: A quadrant's voltage and frequency slew reaches its target OPP. -/
  | oppSlewDone (quad : Nat)
  /-- R82: The envelope allowance falls one OPP each 10 ms above the envelope or rises one OPP each 100 ms below 90 % of it. -/
  | envelopeAllowanceStep
  /-- R83: The skin allowance falls one OPP each 10 ms above SKIN_LIMIT or rises one OPP each 100 ms well below it. -/
  | skinAllowanceStep
  /-- R84: A VBAT sample sets the VBAT allowance from VR_VBAT_LOW and checks for brown-out. -/
  | vbatSample (mv : Nat)
  /-- R85: A rail loses power-good while a domain on it is ON, so its domains go OFF at once and the scheduler frogs their jobs. -/
  | pgoodLoss (rail : Nat)
  /-- R86: Each thermal sensor samples and acts on its THROTTLE, CRITICAL and SHUTDOWN thresholds. -/
  | thermalSample (sensor : Nat) (temp : Int)
  /-- R86: A quadrant's thermal allowance falls one OPP each 1 ms above THROTTLE or rises one OPP each 10 ms below THROTTLE − HYST. -/
  | thermalAllowanceStep (quad : Nat)
  /-- R86: After a thermal shutdown, TS_AON reads below THROTTLE − HYST and a warm cast-on starts. -/
  | thermalRestart
  /-- R90: Writing 1 to a VR_FAULT bit clears the HARD trip and re-arms the output. -/
  | vrFaultClear (q : Req) (v : Word)
  /-- R71: A write of VR_LDO_CTRL switches the camera LDOs between automatic and manual control and on or off. -/
  | ldoCtrlWrite (q : Req) (v : Word)
  /-- R88: A write of CAP_HARD or CAP_WARN stores the limit clamped to the maximum code or the HARD limit, applying from the next sample. -/
  | capLimitWrite (q : Req) (rail : Nat) (hard : Bool) (v : Word)
  /-- R92: VBAT rises above brown-out and a cold cast-on starts with CAUSE POR. -/
  | powerOn
  /-- R92: A filtered low pulse on SYS_RST_N starts a cold or a warm cast-on according to its length. -/
  | sysRstNPulse (ns : Nat) (taken : Bool)
  /-- R93: A cast-on step meets its done condition and the next step starts on the path that R103 chooses. -/
  | castOnStepDone (r : StepResult)
  /-- R101: A cast-on step's timeout expires and the step fails with STEP_TIMEOUT. -/
  | stepTimeout
  /-- R92: LIFE_CMD RESTART_WARM starts a warm cast-on with CAUSE SOFTWARE. -/
  | restartWarm (q : Req) (v : Word)
  /-- R108: LIFE_CMD BIND_OFF starts the bind-off stages, or ends with NOT_READY before step 15. -/
  | bindOff (q : Req) (v : Word)
  /-- R108: A bind-off stage meets its end condition and the next stage starts, ending in DORMANT or parked. -/
  | bindOffStageDone
  /-- R108: GRACE expires in bind-off stage 2, so the remaining jobs are frogged and FORCED is set. -/
  | bindoffGraceExpiry
  /-- R99: LIFE_CMD COMMIT_ROLLBACK raises each fuse rollback counter to the highest ROLLBACK of the active slot's sections. -/
  | commitRollback (q : Req) (v : Word)
  /-- R111: A fuse bit finishes blowing, within 1 ms, and the next bit or the command's completion follows. -/
  | fuseBlowDone
  /-- R105: LIFE_CMD CLEAR_DEGRADE clears QUAD_ABSENT and OPP_CAP. -/
  | clearDegrade (q : Req) (v : Word)
  /-- R113: PROVISION over the TAP in BLANK blows the device secrets and keys, exports the DeviceID key and accepts its certificate. -/
  | provision (p : Provision)
  /-- R124: The GET_CERT command issues a tenant certificate with the caller's nonce and returns the DER chain. -/
  | getCert (q : Req) (v : Word)
  /-- R123: The REGION_ADD command creates a T2 XTS region with a fresh key slot, or ends with an error. -/
  | regionAdd (q : Req) (v : Word)
  /-- R122: The REGION_DEL command invalidates the caller's region and releases its key slot. -/
  | regionDel (q : Req) (v : Word)
  /-- R117: The INSTANTIATE command grants skeins, assigns pages, increments GENERATION, records the measurement and enables tenant 1–7 at the scheduler. -/
  | instantiate (q : Req) (v : Word)
  /-- R118: The TEARDOWN command tears down a tenant: frog, session end, key zeroise, wipe, page return. -/
  | teardown (q : Req) (v : Word)
  /-- R118: When the wipe of a torn-down tenant completes, its pages return to tenant 0 and its TEARDOWN bits clear. -/
  | teardownComplete (ten : Nat)
  /-- R127: The DBG_CHALLENGE command draws a 32-byte nonce and sets CHALLENGE_LIVE. -/
  | dbgChallenge (q : Req) (v : Word)
  /-- R131: The DBG_RELOCK command returns the debug level to the lifecycle default and reissues the alias certificate. -/
  | dbgRelock (q : Req) (v : Word)
  /-- R113: The LC_ADVANCE command checks a lifecycle token and advances the lifecycle by blowing the LC copies. -/
  | lcAdvance (q : Req) (v : Word)
  /-- R139: An undefined OP written to ADSEL_T_CMD holds BUSY for 4,096 SOCCLK cycles and ends with BAD_OPCODE. -/
  | adselBadOpcode (q : Req) (v : Word)
  /-- R135: A refused Adsel command posts REFUSED exactly 4,096 SOCCLK cycles after acceptance. -/
  | adselRefusalPost (ten : Nat)
  /-- R139: An accepted Adsel command completes, posts STATUS and RESULT and rings its NOTIFY doorbell. -/
  | adselCommandDone (ten : Nat)
  /-- R119: A TRNG health test fails, clearing TRNG_OK and setting ADSEL_PUB IRQ_RAW bit 4. -/
  | trngHealthFail
  /-- R127: A live unlock nonce expires after 10 s. -/
  | challengeExpiry
  /-- R128: Adsel takes a 64-byte unlock message from mailbox 63 and adds it to the response image or discards the partial image. -/
  | unlockMessage
  /-- R129: Each 1 µs Adsel tick samples both unlock inputs and evaluates any completed response, consuming the challenge. -/
  | unlockSampleTick
  /-- R129: 8 ms after the sampling tick the unlock outcome is posted and any debug-level change takes effect. -/
  | unlockResultPost
  /-- R136: The scheduler heartbeat does not advance for SCH_TMO while work is admitted, and Adsel frogs the scheduler. -/
  | schHeartbeatTimeout
  /-- R136: The scheduler reports an internal fault and Adsel frogs the scheduler. -/
  | schInternalFault
  /-- R137: SEC wakes from OFF after step 15 and the Adsel ROM re-verifies the image and derives the DeviceID and alias keys. -/
  | adselStart
  /-- R137: The Adsel restart finishes and FW_READY is set. -/
  | adselStartDone (r : StepResult)
  /-- R142: The low-power path completes a 16 kHz sample and sends it to the AIE and the pre-roll ring. -/
  | lpSample (pdm : List Byte)
  /-- R149: The high-quality path completes a 48 kHz frame of raw and beam channels for stream 7. -/
  | hqFrame (pdm : List Byte)
  /-- R141: At a 16 kHz sample boundary the PDM clock rate changes and settling starts. -/
  | pdmRateChange
  /-- R141: The settling time after a PDM clock start or rate change expires and the paths emit real samples. -/
  | settleEnd
  /-- R148: A write of AUD_BEAM_COMMIT marks the named beams PENDING for the next sample boundary. -/
  | audBeamCommit (q : Req) (v : Word)
  /-- R152: AUD_CTRL.SAVE copies the AUD RW registers to the restore block mirror, writes MAGIC and sets AUD IRQ_RAW bit 4. -/
  | save (q : Req) (v : Word)
  /-- R153: AUD_CTRL.CAL_RELOAD loads the calibration words from the restore block again. -/
  | calReload (q : Req) (v : Word)
  /-- R155: Each 48 kHz sample the speaker drivers play stream 9, apply gain and protection and write sense frames. -/
  | spkSample (i0 v0 i1 v1 : Int)
  /-- R157: 100 ms after a current-limit mute the driver's gain ramps back over 10 ms. -/
  | spkMuteExpiry (drv : Nat)
  /-- R157: Each ms of excess 10 ms mean power lowers the driver gain 1 dB, and each 100 ms below the limit recovers 1 dB. -/
  | spkPlimStep (drv : Nat) (mw : Nat)
  /-- R157: A driver junction crosses 150 °C, muting both drivers and setting THERM until it falls below 130 °C. -/
  | spkThermal (temp : Int)
  /-- R164: A receiver takes a long packet whole, captures it if it matches VC and DT, and handles ECC and CRC errors. -/
  | csiLongPacket (n vc dt ecc : Nat) (crcOk : Bool) (payload : List Byte)
  /-- R165: An FS short packet is stamped, starts capture and is the lock and boundary event for the stream. -/
  | csiFrameStart (p : ShortPacket)
  /-- R165: An FE short packet is stamped, ends the frame and offers a stream 4 frame to the AIE. -/
  | csiFrameEnd (p : ShortPacket)
  /-- R167: The light ISP completes an output line and CSI_LINE_CNT increments. -/
  | ispLineDone (n : Nat)
  /-- R168: No FS arrives within CSI_FRAME_TMO and IRQ_RAW bit 2 is set once per timeout. -/
  | csiFrameTmo (n : Nat)
  /-- R170: I3C_CMD ENTDAA runs dynamic address assignment on the bus. -/
  | entdaa (q : Req) (n : Nat) (v : Word)
  /-- R170: I3C_CMD write sends LEN bytes from the FIFO to target ADDR. -/
  | i3cWrite (q : Req) (n : Nat) (v : Word)
  /-- R170: I3C_CMD read reads LEN bytes from target ADDR into the FIFO. -/
  | i3cRead (q : Req) (n : Nat) (v : Word)
  /-- R170: I3C_CMD CCC sends a common command code on the bus. -/
  | i3cCcc (q : Req) (n : Nat) (v : Word)
  /-- R170: An I3C bus transfer completes, clearing BUSY and recording NACK. -/
  | i3cTransferDone (n : Nat) (nack : Bool) (data : List Byte)
  /-- R171: An in-band interrupt from a target is acknowledged and triggers its auto-read entry. -/
  | i3cIbi (ibi : Ibi)
  /-- R171: An auto-read entry's period expires and triggers its read. -/
  | i3cAutoPeriod (k : Nat)
  /-- R171: An auto-read completes and writes its 32-byte stamped record to stream 8. -/
  | i3cAutoReadDone (k : Nat) (data : List Byte)
  /-- R187: An edge on a GPIO pin sets its IRQ bit and may trigger an I3C auto-read. -/
  | gpioEdge (pin : Nat) (rising : Bool)
  /-- R187: OFS µs after a DSI vsync the FSYNC pins output a WIDTH µs pulse. -/
  | gpioFsyncPulse
  /-- R187: A write of SPI_XFER starts a SPI transfer to or from the memory buffer. -/
  | spiXfer (q : Req) (v : Word)
  /-- R187: A SPI transfer completes, clearing BUSY and setting SPI IRQ_RAW bit 0. -/
  | spiDone (data : List Byte)
  /-- R173: A DSI frame starts its first VSYNC line, stamped as the stream 10 or 11 event. -/
  | dsiVsync (n : Nat)
  /-- R177: A DSI transmitter sends a line of the composited, warped layers. -/
  | dsiLine (n line : Nat) (late : List Nat)
  /-- R175: LATCH_LEAD before vsync each layer takes the slot tagged DSI_FRAME, releases older slots, builds its warp and DSI_FRAME increments. -/
  | dsiLatch (n : Nat)
  /-- R175: A write of LAYER_SUBMIT marks a slot READY with its TAG and render pose, or ends with LATE_TAG. -/
  | layerSubmit (q : Req) (n : Nat) (l : Nat) (v : Word)
  /-- R172: A DCS short write is sent at once while the stream is stopped, otherwise in the next vertical blanking. -/
  | dsiDcs (q : Req) (n : Nat) (v : Word)
  /-- R180: STRM_CMD START zeroes both sequences and requests the endpoint domain ON. -/
  | strmStart (q : Req) (st : Nat)
  /-- R180: STRM_CMD PAUSE discards input, silences speakers or blanks displays at the next boundary. -/
  | strmPause (q : Req) (st : Nat)
  /-- R180: STRM_CMD RESUME runs a paused stream again from the next boundary. -/
  | strmResume (q : Req) (st : Nat)
  /-- R180: STRM_CMD STOP puts the stream in STOPPING and discards any frame in progress. -/
  | strmStop (q : Req) (st : Nat)
  /-- R180: At the next boundary, or after 10 ms, a stopping stream becomes STOPPED and releases its request. -/
  | strmStopComplete (st : Nat)
  /-- R182: A write of STRM_SW_SEQ releases or fills buffers and advances SW_IDX, or ends with BAD_SEQ. -/
  | strmSwSeqWrite (q : Req) (st : Nat) (v : Word)
  /-- R179: The device completes an input buffer, writes its header, advances HW_SEQ and rings any NOTIFY bell. -/
  | streamBufferComplete (st : Nat)
  /-- R179: The device consumes an output buffer and advances HW_SEQ, or counts an underrun. -/
  | streamBufferConsumed (st : Nat)
  /-- R189: An AUDIO hop or an offered VISION frame starts its AIE program, or is discarded as an overrun. -/
  | aieProgramStart (vision : Bool)
  /-- R190: An AIE program completes and writes its score outputs, incrementing each score's SEQ. -/
  | aieProgramDone (vision : Bool)
  /-- R191: AIE_LOAD_CMD START loads a model from tenant 0 memory and checks it. -/
  | aieLoadCmd (q : Req) (v : Word)
  /-- R191: An AIE model load ends, setting MODEL_VALID or ending with BAD_MODEL. -/
  | aieLoadDone
  /-- R192: A write of CASC_SCORE_IN updates source 8 + j and is evaluated against every active descriptor. -/
  | cascScoreIn (q : Req) (j : Nat) (v : Word)
  /-- R194: Every domain of a climbing ply reaches ON, so the ply becomes ACTIVE and the CASC_NOTIFY doorbell rings. -/
  | plyActive (ply : Nat)
  /-- R196: A ply's sleep timer reaches SLEEP_TMO and the ply descends once no ply it woke remains. -/
  | plySleepTimerExpiry (ply : Nat)
  /-- R197: CASC_CMD.DESCEND_ALL descends plies 3 to 1 in one tick regardless of timers. -/
  | descendAll (q : Req) (v : Word)
  /-- R196: CASC_CMD.KEEP bit j restarts ply j's sleep timer. -/
  | keep (q : Req) (v : Word)
  /-- R202: A write of a ply descriptor applies from the next evaluation, or is refused with PLY_ACTIVE or BAD_DESC, and returns a FAILED ply to INACTIVE. -/
  | descCfgWrite (q : Req) (ply : Nat) (word : Nat) (v : Word)
  /-- R207: A write of a staging word claims the staging buffer for its requester or ends with MBX_CLAIMED. -/
  | mbxSend (q : Req) (m : Nat) (w : Nat) (v : Word)
  /-- R208: A write of staging word 15 copies the message into the slot and sets FULL, or ends with MBX_FULL. -/
  | mbxPublish (q : Req) (m : Nat) (v : Word)
  /-- R209: A permitted read of slot word 15 returns it and clears FULL. -/
  | mbxSlotRead (q : Req) (m : Nat)
  /-- R210: A write of MBX_RING ORs bells into MBX_PEND and raises the receiver's event. -/
  | mbxRing (q : Req) (m : Nat) (v : Word)
  /-- R210: The receiver writes 1s to MBX_PEND to clear bells and the condition is re-evaluated. -/
  | mbxPendClear (q : Req) (m : Nat) (v : Word)
  /-- R207: MBX_CLAIM_TMO elapses with no write by the claimant, releasing the claim and zeroing the staging buffer. -/
  | mbxClaimTmo (m : Nat)
  /-- R221: A write of MBX_CFG that changes KIND, TARGET or RX_TENANT clears the mailbox, and one that changes only MODE or MSG_EN applies at once. -/
  | mbxCfgWrite (q : Req) (m : Nat) (v : Word)
  /-- R229: The ALU instruction performs the FN operation on g(a) and g(b) into g(d). -/
  | alu (t : Nat) (w : Word)
  /-- R229: ADDI writes g(a) plus the signed immediate to g(d). -/
  | addi (t : Nat) (w : Word)
  /-- R229: LUI writes the immediate shifted left 16 to g(d). -/
  | lui (t : Nat) (w : Word)
  /-- R229: ORI writes g(a) OR the zero-extended immediate to g(d). -/
  | ori (t : Nat) (w : Word)
  /-- R230: LDL loads 32 bits from the tile's own scratchpad. -/
  | ldl (t : Nat) (w : Word)
  /-- R230: STL stores 32 bits to the tile's own scratchpad. -/
  | stl (t : Nat) (w : Word)
  /-- R231: LDG issues a 32-bit global load with the job's tenant and stalls until its code returns. -/
  | ldg (t : Nat) (w : Word)
  /-- R231: STG posts a 32-bit global store with the job's tenant. -/
  | stg (t : Nat) (w : Word)
  /-- R229: A compare-and-branch instruction compares g(a) with g(b) and branches by the bundle offset. -/
  | branch (t : Nat) (w : Word)
  /-- R229: JAL writes the next bundle's offset to g(d) and branches. -/
  | jal (t : Nat) (w : Word)
  /-- R232: JR sets PC to g(a), faulting IMEM_RANGE for a target above 64 KiB. -/
  | jr (t : Nat) (w : Word)
  /-- R240: WAIT waits until EVT AND mask is non-zero, requesting the SLEEP state while it waits. -/
  | wait (t : Nat) (w : Word)
  /-- R240: WAIT.M waits until the named mailbox's condition is delivered to the tile. -/
  | waitM (t : Nat) (w : Word)
  /-- R240: A waited event becomes true and the WAIT completes, waking the domain and writing EVT to g(d). -/
  | waitRelease (t : Nat)
  /-- R248: CSRR reads a core control register into g(d). -/
  | csrr (t : Nat) (w : Word)
  /-- R248: CSRW writes g(a) to a core control register. -/
  | csrw (t : Nat) (w : Word)
  /-- R245: END ends the job or resident program and leaves the tile IDLE. -/
  | endBundle (t : Nat) (w : Word)
  /-- R245: YIELD offers a switch point at which the scheduler may save g1–g31 and switch. -/
  | yieldBundle (t : Nat) (w : Word)
  /-- R231: FENCE stalls until every earlier STG, MSG and DMA has completed. -/
  | fence (t : Nat) (w : Word)
  /-- R245: CHKPT reports a progress value to the deadline monitor. -/
  | chkpt (t : Nat) (w : Word)
  /-- R246: The FAULT instruction raises a SOFTWARE fault with its code. -/
  | fault (t : Nat) (w : Word)
  /-- R262: MSG sends the mesh message built from a scratchpad header image, posted or waiting for its response. -/
  | msg (t : Nat) (w : Word)
  /-- R269: STITCH READ returns a counter's VALUE word. -/
  | stitchRead (t : Nat) (w : Word)
  /-- R269: STITCH SET sets a counter's COUNT. -/
  | stitchSet (t : Nat) (w : Word)
  /-- R269: STITCH ADD adds a signed value to a counter with saturation and evaluates its ARMED condition. -/
  | stitchAdd (t : Nat) (w : Word)
  /-- R270: STITCH ARM writes THRESH, CMP and SCH and arms the counter, firing at once if the condition holds. -/
  | stitchArm (t : Nat) (w : Word)
  /-- R269: STITCH INIT makes a local counter LIVE for the program's tenant with a starting count. -/
  | stitchInit (t : Nat) (w : Word)
  /-- R269: STITCH FREE makes a local counter FREE and clears every field. -/
  | stitchFree (t : Nat) (w : Word)
  /-- R270: NEXTN returns the lowest local counter with NOTE set and clears that NOTE. -/
  | nextn (t : Nat) (w : Word)
  /-- R268: A remote STITCH message reaches a counter store and applies in its counter cycle, returning the VALUE word. -/
  | stitchMessageArrive (k : Nat)
  /-- R263: RECV returns the oldest inbox slot's entry word, freeing the slot with FN[0] = 1. -/
  | recv (t : Nat) (w : Word)
  /-- R233: The DMA instruction enqueues a 32-byte descriptor into the tile's 8-entry queue. -/
  | dma (t : Nat) (w : Word)
  /-- R233: A queued DMA descriptor reaches the head and its transfer starts as PUTs and GETs. -/
  | dmaTransferStart (t : Nat)
  /-- R233: A DMA transfer finishes or stops at a failing block and issues its completion stitch ADD and bell. -/
  | dmaTransferDone (t : Nat)
  /-- R236: VOP performs a vector operation of Table 11.5 on v(a) and v(b) or g(b). -/
  | vop (t : Nat) (w : Word)
  /-- R230: VLD loads 64 bytes from the tile's scratchpad into v(d). -/
  | vld (t : Nat) (w : Word)
  /-- R230: VST stores v(d) as 64 bytes into the tile's scratchpad. -/
  | vst (t : Nat) (w : Word)
  /-- R229: VBC broadcasts g(a) into every lane of v(d). -/
  | vbc (t : Nat) (w : Word)
  /-- R229: VEXT extracts one lane of v(a) into g(d). -/
  | vext (t : Nat) (w : Word)
  /-- R237: MMA adds the product of v(a) and v(b) into a matrix accumulator. -/
  | mma (t : Nat) (w : Word)
  /-- R237: MMR reads one accumulator row into v(d). -/
  | mmr (t : Nat) (w : Word)
  /-- R229: MMZ zeroes an accumulator and sets its type tag. -/
  | mmz (t : Nat) (w : Word)
  /-- R281: CIM.MAC streams 64 activations into a bank's rows and accumulates the column sums into an output entry. -/
  | cimMac (t : Nat) (w : Word)
  /-- R280: A queued CIM.MAC finishes its cycles and frees its queue place. -/
  | cimMacDone (t : Nat)
  /-- R238: CIM.RD writes 16 columns of an output entry to v(d) after earlier CIM.MACs into it. -/
  | cimRd (t : Nat) (w : Word)
  /-- R238: CIM.CLR zeroes an output entry. -/
  | cimClr (t : Nat) (w : Word)
  /-- R229: NOP does nothing in either slot. -/
  | nop (t : Nat) (x : Bool) (w : Word)
  /-- R243: TILE_CTRL.START starts a tenant 0 resident program at TILE_ENTRY on an IDLE tile, or ends with NOT_IDLE. -/
  | tileStart (q : Req) (t : Nat) (v : Word)
  /-- R247: TILE_CTRL.FROG asks the scheduler to frog the tile. -/
  | tileFrogRequest (q : Req) (t : Nat) (v : Word)
  /-- R247: A frog of a tile stops its core, clears its state, fences its port, stales its counters, clears its mailboxes and sets it IDLE. -/
  | tileFrog (t : Nat)
  /-- R265: No flit of a fenced port remains in the mesh and the fence lifts. -/
  | meshFenceLift (t : Nat)
  /-- R255: A PUT reaches its target and writes LENGTH bytes after checking every byte, then returns an ACK. -/
  | putArrive (k : Nat)
  /-- R255: A GET reaches its target and returns LENGTH bytes as DATA, marking poisoned granules. -/
  | getArrive (k : Nat)
  /-- R263: A SEND reaches the target tile and takes an inbox slot, or ends with INBOX_FULL, TOO_LONG or REFUSED. -/
  | sendArrive (k : Nat)
  /-- R260: A DOORBELL message crosses the AON side path and acts as an MBX_RING write by its requester. -/
  | doorbellMessage (k : Nat)
  /-- R257: A response reaches the requesting port, frees its tag and delivers its code and data. -/
  | meshResponse (k : Nat)
  /-- R276: SC_OP SET sets the selected counter's COUNT through the counter page. -/
  | scSet (q : Req) (page : Nat) (v : Word)
  /-- R276: SC_OP ADD adds to the selected counter through the counter page. -/
  | scAdd (q : Req) (page : Nat) (v : Word)
  /-- R276: SC_OP ARM arms the selected counter through the counter page. -/
  | scArm (q : Req) (page : Nat) (v : Word)
  /-- R276: SC_OP INIT makes the selected counter LIVE with OWNER 0. -/
  | scInit (q : Req) (page : Nat) (v : Word)
  /-- R276: SC_OP FREE makes the selected counter FREE. -/
  | scFree (q : Req) (page : Nat) (v : Word)
  /-- R284: TILE_WGT_CTRL DECLARE checks the parameters and makes the named bank LOADING, zeroing first on an owner change, or only checks with DRY. -/
  | declare (q : Req) (t : Nat) (v : Word)
  /-- R287: TILE_WGT_CTRL SEAL checks the granule map and starts the CRC of a LOADING bank. -/
  | seal (q : Req) (t : Nat) (v : Word)
  /-- R287: A seal's CRC finishes, so the bank becomes RESIDENT or ends with CRC_MISMATCH. -/
  | sealDone (t : Nat)
  /-- R289: TILE_WGT_CTRL FLIP accepts a role exchange of the tile's two banks or ends with BANK_STATE. -/
  | flip (q : Req) (t : Nat) (v : Word)
  /-- R289: 40 ns after acceptance and the drain of earlier CIM.MACs the flip ends, FLIPS increments and IRQ_RAW bit 5 is set. -/
  | flipDone (t : Nat)
  /-- R288: TILE_WGT_CTRL DISCARD starts zeroing a bank over the load path after its queued CIM.MACs. -/
  | discard (q : Req) (t : Nat) (v : Word)
  /-- R288: A bank's zeroing completes and it becomes EMPTY with no owner. -/
  | discardDone (t : Nat)
  /-- R290: A scheduler broadcast flip checks every masked tile and flips all of them or none. -/
  | broadcastFlip (mask : Nat)
  /-- R307: A write of HOOK_QUEUE enqueues a descriptor address, or ends with BAD_DESC or QUEUE_FULL. -/
  | hookQueue (q : Req) (e : Nat) (v : Word)
  /-- R307: A Hook descriptor reaches the head of its queue, is fetched and checked, and loads its weights. -/
  | hookDescActivate (e : Nat)
  /-- R310: An output row of a Hook descriptor starts once its input lines are available. -/
  | hookRowStart (e : Nat)
  /-- R309: A Hook descriptor ends, writes STATUS and issues its notifications after its writes are acknowledged. -/
  | hookDescEnd (e : Nat)
  /-- R311: A write of HOOK_CANCEL cancels every descriptor of the engine within 1 µs. -/
  | hookCancel (q : Req) (e : Nat) (v : Word)
  /-- R322: STATE_T_CMD START allocates the lowest FREE state-table entry for the tenant. -/
  | stateStart (q : Req) (ten : Nat) (v : Word)
  /-- R322: STATE_T_CMD PAUSE sets PAUSE on the entry. -/
  | statePause (q : Req) (ten : Nat) (v : Word)
  /-- R322: STATE_T_CMD RESUME clears PAUSE on the entry. -/
  | stateResume (q : Req) (ten : Nat) (v : Word)
  /-- R322: STATE_T_CMD RESET sets RESET so the next step starts from zero state. -/
  | stateReset (q : Req) (ten : Nat) (v : Word)
  /-- R322: STATE_T_CMD END frees the entry once no step on it is active. -/
  | stateEnd (q : Req) (ten : Nat) (v : Word)
  /-- R322: STATE_T_CMD READ copies the entry into STATE_T_ENTRY0–7. -/
  | stateRead (q : Req) (ten : Nat) (v : Word)
  /-- R323: A write of STATE_T_SUBMIT enqueues a recurrent step, or ends with BAD_DESC or QUEUE_FULL. -/
  | stateTSubmit (q : Req) (ten : Nat) (v : Word)
  /-- R319: A step reaches the head of the state queue and is fetched and checked. -/
  | stateStepActivate
  /-- R318: Once all of a step's writes are acknowledged, the entry commits, STATUS is written and NOTE is issued. -/
  | stateStepCommit
  /-- R328: A write of VOX_QUEUE enqueues a voxel descriptor, or ends with BAD_DESC or QUEUE_FULL. -/
  | voxQueue (q : Req) (v : Word)
  /-- R333: An active VOXELISE descriptor builds a site set from points and writes per-site features. -/
  | voxelise
  /-- R340: A waiting STREAM VOXELISE takes the next completed stream 5 buffer and reads it. -/
  | voxeliseStreamRead
  /-- R335: An active SPCONV descriptor builds or reuses a rulebook and computes sparse convolution at occupied sites. -/
  | spconv
  /-- R338: An active BEV descriptor collapses a site set into a dense bird's-eye-view tensor. -/
  | bev
  /-- R309: A voxel step ends, writes STATUS, DROPPED and AUX and issues its notifications. -/
  | voxStepEnd
  /-- R341: A write of VOX_CANCEL cancels every voxel descriptor. -/
  | voxCancel (q : Req) (v : Word)
  /-- R351: MEM_SKEIN_CMD ADD creates a skein record from the staged words. -/
  | skeinAdd (q : Req) (v : Word)
  /-- R351: MEM_SKEIN_CMD DEL releases every granule of the record for wiping. -/
  | skeinDel (q : Req) (v : Word)
  /-- R352: The wipe engine finishes zeroing a WIPING granule and it becomes FREE. -/
  | wipeGranuleDone (t2 : Bool)
  /-- R357: MEM_T_CMD MOVE queues a checked copy that poisons its source and optionally releases it. -/
  | move (q : Req) (ten : Nat) (v : Word)
  /-- R358: A MOVE reaches the head of the shared queue, assigns its destination granules and starts copying. -/
  | moveStart
  /-- R357: The last write of a MOVE is acknowledged, the source is poisoned, REL releases and STATUS and NOTE follow. -/
  | moveDone
  /-- R355: MEM_T_CMD CLEAN writes back dirty lines of the caller's cache in the range. -/
  | clean (q : Req) (ten : Nat) (v : Word)
  /-- R355: MEM_T_CMD FLUSH writes back and invalidates lines of the caller's cache in the range. -/
  | flush (q : Req) (ten : Nat) (v : Word)
  /-- R355: MEM_T_CMD INVALIDATE invalidates lines of the caller's cache in the range without writing back. -/
  | invalidate (q : Req) (ten : Nat) (v : Word)
  /-- R355: A cache maintenance operation finishes its range and posts its status. -/
  | cacheOpDone (ten : Nat)
  /-- R350: MEM_T_CMD RELEASE releases the owner's SHARED granules in the range for wiping. -/
  | release (q : Req) (ten : Nat) (v : Word)
  /-- R353: A write of POOL_WB_SETS or POOL_WB_WIN enables or reconfigures a tenant's pool cache, flushing first while EN is 1. -/
  | poolWbConfig (q : Req) (ten : Nat) (win : Bool) (v : Word)
  /-- R355: A configuration flush of a tenant's pool cache completes and the new configuration applies. -/
  | poolFlushDone (ten : Nat)
  /-- R367: A write of SCH_JOB_SUBMIT fetches the job and swatch descriptors and checks them for admission. -/
  | schJobSubmit (q : Req) (ten : Nat) (v : Word)
  /-- R368: 1,024 SOCCLK cycles after submission the admission result posts as OK, QUEUE_FULL or REFUSED. -/
  | admissionPost (ten : Nat)
  /-- R371: After an admission, release, scoreboard entry or job end the scheduler dispatches READY jobs by priority. -/
  | schedulerEvaluate
  /-- R373: After the victim's drains and frame saves, the incoming job starts or resumes from its frame. -/
  | switchDone (slot : Nat)
  /-- R375: Every tile of a preempted job has executed YIELD or END, so the spill path waits for its outstanding work. -/
  | spillYielded (slot : Nat)
  /-- R375: No work of the preempted job remains, so the scheduler issues MOVEs with REL to its SPILL skein. -/
  | spillDrained (slot : Nat)
  /-- R375: The spilled granules are FREE and the best-effort job is dispatched, or a failed spill sets SCH IRQ_RAW bit 2. -/
  | spillMoved (slot : Nat)
  /-- R375: The spilled data is moved back and the job resumes from its YIELD, or ends with RESTORE_FAIL. -/
  | spillRestoreDone (slot : Nat)
  /-- R376: Every 1 µs and at each CHKPT the deadline monitor projects each deadline job's finish. -/
  | dlmEvaluate
  /-- R377: Once each tile's frog is complete, the swatch job is dispatched as a reserved job. -/
  | swatchDispatch (slot : Nat)
  /-- R379: A job ends, releasing its requests and SCOPE JOB skeins, writing STATUS and issuing NOTE. -/
  | jobEnd (slot : Nat)
  /-- R379: A write of SCH_T_CANCEL cancels a job of the window's tenant, frogging it first if it runs. -/
  | schTCancel (q : Req) (ten : Nat) (v : Word)
  /-- R379: 1,024 SOCCLK cycles after a cancel its result posts as OK or REFUSED. -/
  | schCancelPost (ten : Nat)
  /-- R388: SCH_FLIP_CMD GO issues a broadcast flip of the mask, or ends with FLIP_FAIL. -/
  | schFlipCmd (q : Req) (v : Word)
  /-- R381: RPT_T_COMMIT checks the tenant's shadow rows for commit at the next period start. -/
  | rptTCommit (q : Req) (ten : Nat) (v : Word)
  /-- R381: 16,384 SOCCLK cycles after a commit its result posts as OK or REFUSED. -/
  | rptCommitPost (ten : Nat)
  /-- R383: A write of RPT_CFG starts the table, stops it at once, or changes stream or lock from the next period. -/
  | rptCfgWrite (q : Req) (v : Word)
  /-- R383: A write of RPT_PERIOD takes effect at the next period start, or is ignored with BAD_PERIOD. -/
  | rptPeriodWrite (q : Req) (v : Word)
  /-- R389: A write of RPT_RANGE sets a tenant's rows, invalidating removed rows, or is ignored with RANGE_OVERLAP. -/
  | rptRangeWrite (q : Req) (ten : Nat) (v : Word)
  /-- R382: A lock event within the capture window sets the next anchor and adjusts P_EST. -/
  | rptLockEvent (stamp : Nat)
  /-- R382: No lock event arrives by A_n + CAPTURE, so the table free-runs for the period and MISSED increments. -/
  | rptCaptureMiss
  /-- R382: A Repeat Table period starts at its anchor and pending commits and timing changes apply. -/
  | rptPeriodStart
  /-- R384: At A_n + OFFSET − LEAD the scheduler requests the row's tile, HOOK and VOX domains. -/
  | rowLead (row : Nat)
  /-- R385: At A_n + OFFSET a row's instance is scheduled and becomes READY when its predecessor and dependency are met, or is skipped. -/
  | rowRelease (row : Nat)
  /-- R391: A host BAR0 request becomes one 32-bit register access with the tenant of R392. -/
  | hostBar0Request (h : HostTlp)
  /-- R391: A host BAR2 TLP becomes one access to DRAM with the tenant of R392. -/
  | hostBar2Request (h : HostTlp)
  /-- R394: An outbound access receives its completion, or ends with HOST_ABORT or POISON. -/
  | outboundCompletion (tag : Nat) (status : CplStatus) (data : List Byte)
  /-- R394: An outbound non-posted request receives no completion in 10 ms and ends with CPL_TIMEOUT. -/
  | cplTimeout (tag : Nat)
  /-- R398: The PCIe link trains to L0 and HOST IRQ_RAW bit 0 is set. -/
  | linkUp (gen : Nat) (width : Nat)
  /-- R398: The data link goes down, every IDE stream becomes Insecure and TDIs go to ERROR. -/
  | dlDown
  /-- R398: PCIE_PERST_N, Hot Reset or Link Disable acts as DL_Down and resets configuration space and TDIs. -/
  | linkReset
  /-- R398: A function-level reset acts as PCIE_PERST_N without retraining and completes within 100 ms. -/
  | flr
  /-- R396: The link enters L1.2, letting the HOST domain become idle. -/
  | linkL12Entry
  /-- R396: The link returns to L0 and pending MSI-X messages are sent. -/
  | linkL1Exit
  /-- R397: PCIE_WAKE_N has been asserted for 1 s without the link reaching L0 and is released. -/
  | pcieWakeTimeout
  /-- R398: A write of HOST_HS with KEY 0x48 completes cast-on step 13 and sets DONE. -/
  | hostHandshake (q : Req) (v : Word)
  /-- R399: An SPDM GET_VERSION request over DOE returns the supported version. -/
  | getVersion
  /-- R399: An SPDM GET_CAPABILITIES request returns the responder's capabilities. -/
  | getCapabilities
  /-- R399: An SPDM NEGOTIATE_ALGORITHMS request selects the P-384, SHA-384 and AES-256-GCM suite. -/
  | negotiateAlgorithms (ok : Bool)
  /-- R400: An SPDM GET_DIGESTS request returns the digests of the populated certificate slots. -/
  | getDigests
  /-- R400: An SPDM GET_CERTIFICATE request returns a slot's certificate chain. -/
  | getCertificate (slot : Nat) (offset : Nat) (len : Nat)
  /-- R399: An SPDM CHALLENGE request is answered with a signature by the alias key. -/
  | challenge (slot : Nat) (nonce : BitVec 256)
  /-- R400: An SPDM KEY_EXCHANGE on slot t makes a session of t, ending any older session on that slot. -/
  | keyExchange (slot session : Nat) (pub : BitVec 768)
  /-- R399: An SPDM FINISH completes the session handshake. -/
  | finish (session : Nat) (ok : Bool)
  /-- R399: An SPDM KEY_UPDATE refreshes the session keys. -/
  | keyUpdate (session : Nat)
  /-- R400: An SPDM HEARTBEAT keeps a session alive. -/
  | heartbeat (session : Nat)
  /-- R400: Three heartbeat periods pass without a heartbeat and the session ends. -/
  | heartbeatMissed (session : Nat)
  /-- R400: An SPDM END_SESSION ends the session, unbinds bounce mode, stops the TDI and zeroises its stream keys. -/
  | endSession (session : Nat)
  /-- R404: The BOUNCE_BIND message derives the bounce keys and binds the tenant in bounce mode. -/
  | bounceBind (session : Nat)
  /-- R404: The BOUNCE_UNBIND message ends the bounce binding and zeroises its keys. -/
  | bounceUnbind (session : Nat)
  /-- R401: An IDE_KM KEY_PROG programs a stream's idle key set into a key slot. -/
  | keyProg (session stream : Nat) (rx : Bool)
  /-- R402: An IDE_KM K_SET_GO enables a key set for receive or switches transmission at the next packet. -/
  | kSetGo (session stream : Nat) (rx : Bool)
  /-- R402: A received IDE packet is integrity-checked, and its first use of a new key set retires the old set. -/
  | idePacketRx (stream : Nat) (newSet ok : Bool)
  /-- R403: TDISP LOCK_INTERFACE locks tenant t's TDI onto one of its selective streams. -/
  | lockInterface (session : Nat) (stream : Nat)
  /-- R403: TDISP START_INTERFACE moves the TDI to RUN. -/
  | startInterface (session : Nat)
  /-- R403: TDISP STOP_INTERFACE moves the TDI to CONFIG_UNLOCKED. -/
  | stopInterface (session : Nat)
  /-- R403: TDISP GET_DEVICE_INTERFACE_REPORT returns the TDI's MMIO ranges. -/
  | getDeviceInterfaceReport (session : Nat)
  /-- R406: A write of BNC_T_SUBMIT queues a bounce descriptor. -/
  | bncTSubmit (q : Req) (ten : Nat) (v : Word)
  /-- R406: A bounce descriptor reaches the head of its queue, is checked and starts opening or sealing its record. -/
  | bounceDescActivate (cpl : Option CplStatus) (data : List Byte)
  /-- R406: A bounce descriptor's last write is acknowledged, its SEQ advances and STATUS and NOTE follow. -/
  | bounceDescEnd
  /-- R411: A write of RING_T_DB sets TAIL, clears STOPPED and starts the intake, or captures BAD_TAIL. -/
  | ringTDb (q : Req) (ten : Nat) (v : Word)
  /-- R414: The intake fetches the next descriptor of a ring whose slot entry is not open, or stops the ring on a failure. -/
  | ringFetch (r : Nat) (cpl : Option CplStatus) (data : List Byte)
  /-- R415: 256 SOCCLK cycles after a fetch the descriptor is accepted or rejected, RSEQ_NEXT increments and its Row Log entry is written. -/
  | ringCheckEnd (r : Nat)
  /-- R417: An accepted ring command is issued to its engine in RSEQ order once its predecessors and any FENCE allow. -/
  | commandIssue (r : Nat)
  /-- R413: The ring NOP command finishes OK when issued. -/
  | ringNop (r : Nat)
  /-- R417: The ring SUBMIT command submits a job as the ring's tenant. -/
  | ringSubmit (r : Nat)
  /-- R418: The ring CANCEL command cancels a command of its own ring as soon as it is accepted. -/
  | ringCancel (r : Nat)
  /-- R416: The MODEL_LOAD command declares, loads, seals and optionally records a model across a tile set, all or nothing. -/
  | modelLoad (r : Nat)
  /-- R413: The MODEL_DROP command discards the tenant's matching banks and frees its SCH_MODEL records. -/
  | modelDrop (r : Nat)
  /-- R413: The ring MOVE command runs a MOVE from the tenant's MEM window. -/
  | ringMove (r : Nat)
  /-- R413: The ring CACHE command runs CLEAN, FLUSH or INVALIDATE on the tenant's pool cache. -/
  | ringCache (r : Nat)
  /-- R413: The ring BOUNCE command submits a bounce descriptor for the tenant. -/
  | ringBounce (r : Nat)
  /-- R419: An engine's start or ending moves a Row Log entry to STARTED or a terminal state, mirrors it and rings its bell. -/
  | rowLogUpdate (r rseq : Nat)
  /-- R422: A write of RING_T_RESYNC rewrites every non-FREE entry of the region and the head record to the mirror. -/
  | ringTResync (q : Req) (ten : Nat) (v : Word)
  /-- R427: A write of RING_CFG.EN enables a bound ring with a sufficient Row Log region and resyncs its mirror. -/
  | ringEnable (q : Req) (r : Nat) (v : Word)
  /-- R428: A write of ROWLOG_PART sets a ring's Row Log region, or is ignored with RING_ACTIVE or BAD_CMD. -/
  | rowlogPartWrite (q : Req) (r : Nat) (v : Word)
  /-- R429: JTAG_TRST_N low or five TCK cycles with TMS high reset the TAP controller. -/
  | tapReset
  /-- R432: The TAP instruction EXTEST at capability B makes the boundary chain drive the pads. -/
  | extest
  /-- R430: The TAP instruction SAMPLE/PRELOAD captures and preloads the boundary chain. -/
  | samplePreload (pads : List Bool) (scan : BoundaryScan)
  /-- R430: The TAP instruction IDCODE returns 0x2540_47F9. -/
  | idcode
  /-- R432: The TAP instruction CLAMP holds the pads from the chain and selects bypass. -/
  | clamp
  /-- R432: The TAP instruction HIGHZ places the chained pads in high impedance. -/
  | highz
  /-- R433: An Update-DR of the TAP instruction DBG_CHALLENGE requests a challenge and Capture-DR returns the live nonce. -/
  | tapDbgChallenge
  /-- R433: An Update-DR of the TAP instruction DBG_RESPONSE completes an unlock response. -/
  | dbgResponse (image : List Byte)
  /-- R430: The TAP instruction DBG_STATUS returns ADSEL_STATUS. -/
  | dbgStatus
  /-- R434: An Update-DR of DBG_ACCESS issues one 32-bit access without an ownership check. -/
  | dbgAccess (shift : BitVec 80)
  /-- R431: BYPASS, or an instruction not allowed or not listed, selects the 1-bit bypass register. -/
  | bypass (code : Nat)
  /-- R435: A write of DBG_HALT_REQ halts each named tile at its next bundle boundary. -/
  | dbgHaltReq (q : Req) (hi : Bool) (v : Word)
  /-- R435: A write of DBG_RESUME lets each named halted tile run on. -/
  | dbgResume (q : Req) (hi : Bool) (v : Word)
  /-- R436: A write of DBG_STEP issues COUNT bundles on a halted tile and halts it again. -/
  | dbgStep (q : Req) (v : Word)
  /-- R438: An access to DBG_REG_DATA reads or writes the selected state of a halted tile, or ends with NOT_HALTED. -/
  | dbgRegData (q : Req) (wr : Bool) (v : Word)
  /-- R439: A traced tile event produces a 16-byte record that is buffered and written to the trace ring. -/
  | traceRecord (t : Nat)
  /-- R442: A write of DBG_PMC_SEL selects a counter's event and clears its count. -/
  | pmcSelWrite (q : Req) (k : Nat) (v : Word)
  /-- R37: VR_IO18 finishes its soft-start and VR_STATUS.PGOOD bit 9 becomes 1, releasing the PDM, I3C and SPI balls from their off states. -/
  | io18PowerGood
  /-- R395: A host configuration-space write changes the function's power state, MSI-X function mask, ASPM enables or IDE stream enable, and pending MSI-X messages are sent when D3hot or the mask ends. -/
  | pcieConfigRequest (c : PcieCfg)
deriving DecidableEq, Repr

end Sys2Proof
end

