-- ==== Sys2Proof/Config.lean ====
section
/-! DEFINITION. What the spec leaves open: constants with no body, one per open value, so that no proof can see a
value of it. The assumption log names each. -/

namespace Sys2Proof.Config

/-- R83: the power Pf after one update of the first-order skin filter, from its last value, the total power in mW and
the time constant TAU in seconds. The rule names the filter and gives no discrete form of it. -/
opaque skinFilter : Nat → Nat → Nat → Nat

/-- R166, R174, R176: whether a quotient of a rule (its number), numerator over denominator, that is no integer is rounded up. -/
opaque roundsUp : Nat → Int → Nat → Bool

/-- R166: a missing colour of a pixel at the frame's edge, from the values its neighbours inside the frame have. -/
opaque demosaicEdge : List Nat → Nat

/-- R142: the two half-band decimators and the 20 Hz high-pass of the low-power path: from the name of their state, whether
the clock is at 3.072 MHz and four CIC outputs, the name of the next state and the 16 kHz sample. -/
opaque lpFilter : Nat → Bool → List Int → Nat × Int

/-- R145: the FIR filter of the high-quality path: from the name of its state and four CIC outputs, the name of the next state and
the 48 kHz sample. -/
opaque hqFilter : Nat → List Int → Nat × Int

/-- R154, R155: a sample after a gain in 0.01 dB, among the values the rule's error and rounding allow. -/
opaque audioGain : Int → Int → Int

/-- R146: one interpolator phase (1 to 63) applied to eight samples. -/
opaque interpolate : Nat → List Int → Int

/-- R157, R158: a sample in step `k` of a ramp of `n` steps, among the values from 0 to the sample. -/
opaque rampSample : Nat → Nat → Int → Int

/-- R176: a display pose (a quaternion as 16 bytes: w, x, y, z in FP32) turned at a gyro rate (x, y, z, raw) times GYRO_SCALE for a
number of timestamp ticks; the rule gives no numerical method. -/
opaque gyroTurn : List Byte → Int × Int × Int → Word → Int → List Byte

/-- R176: where a display pixel is sampled, as two numerators and a denominator in pixels, when the focal lengths give K no inverse or a
pose is no rotation. -/
opaque warpOpen : Nat → Nat → Int × Int × Int

/-- R174: a byte of a blended pixel whose colour, above its own alpha, takes the sum past 255. -/
opaque overBright : Int → Nat

/-- R186: LENGTH of an input buffer of a host-virtual stream, whose bytes the host writes: the n-th such value. -/
opaque hostLength : Nat → Nat

/-- R307: a byte of a Hook engine's weight buffer that no descriptor has loaded since the buffer was last empty. -/
opaque weightByte : Nat → Byte

/-- Counts of clock cycles (HOOK_BUSY_CYC, VOX_BUSY_CYC, TILE_CYCLE, PMC cycle events): the n-th such value a step needs. -/
opaque cycles : Nat → Word

/-- R317: the error of sigma of an FP32 value, as bits, in ULP; at most 8 counts. -/
opaque sigma : Nat → Int

/-- R317: the error of tanh, likewise. -/
opaque tanh : Nat → Int

/-- R333: byte `i` of a site's 64 bytes of the work area, from its count, sums and maxima; the rule gives no layout. -/
opaque workByte : Nat → List Int → List Int → Nat → Byte

/-- R332: a coordinate of a DEPTH16 point where FX or FY is 0, from the numerator. -/
opaque depthByZero : Int → Int

/-- R189: 8 * log2 of the energy of a mel band (0 to 39) of a 400-sample window, as an integer before OFFSET is taken
off; the rule gives neither the band edges' shape nor the rounding. -/
opaque melEnergy : List Int → Nat → Int

/-- R293: whether the self-test finds that a column (0 to 127) of a bank fails (tile, bank, column). -/
opaque columnFails : Nat → Nat → Nat → Bool

/-- R236: MAX (true) or MIN of two floats, from the type code and the operands' bits: whether one NaN operand leaves the other operand,
or zeros of different signs give -0; the rule does not say. -/
opaque maxMin : Bool → Nat → Nat → Nat → Bool

/-- R235: the error of EXP, RSQRT, SIGMOID or GELU (by OP) of a float of a type code, in ULP; only what the rule's bound allows counts. -/
opaque lookup : Nat → Nat → Nat → Int

/-- R235: whether GELU of minus infinity, by type code, is an invalid operation; else it is the limit, -0. -/
opaque geluInvalid : Nat → Bool

/-- R236: the byte an INT32 lane outside -128 to 127 converts to; R234 states float-to-integer conversion only. -/
opaque narrow : Int → Byte

/-- R404: the export master secret of an SPDM session, from the name the key exchange gave it. -/
opaque exportSecret : Nat → List Byte

/-- R405, R423: AES-256-GCM under a key and an IV with an AAD: the ciphertext of a plaintext, then the 16-byte tag. -/
opaque gcmSeal : List Byte → List Byte → List Byte → List Byte → List Byte

/-- R405: the plaintext that AES-256-GCM under a key and an IV gives for a ciphertext, whatever its tag. -/
opaque gcmPlain : List Byte → List Byte → List Byte → List Byte

/-- R106: LIFE_LINE.CAUSE of the n-th warm cast-on with which HOST_WAKE_IN ends a halt; Table 5.1 gives none. -/
opaque haltWakeCause : Nat → Nat

/-- R124: the DER of a Name: 0 the DeviceID certificate's subject, 1 the alias certificate's, 1 + t tenant t's; the rules give none. -/
opaque certName : Nat → List Byte

/-- R124: the DER of a certificate's notBefore. -/
opaque certNotBefore : List Byte

/-- R124: whether basicConstraints (0) and keyUsage (1) are marked critical. -/
opaque certCritical : Nat → Bool

/-- R124: the serial number of a tenant certificate, by the DER of its measurements. -/
opaque certSerial : List Byte → Nat

/-- R124: the ECDSA P-384 signature over SHA-384 of a message, R then S, by the key material's name. -/
opaque ecdsaSign : Nat → List Byte → BitVec 768

/-- R124: the public key, X and Y, of a private key, by the key material's name. -/
opaque publicKey : Nat → BitVec 768

/-- R121: the name of the DeviceID key that UDS derives: the same UDS gives the same key. -/
opaque deviceKeyName : Nat → Nat

/-- R96, R97, R117: SHA-384 of a byte string, as the number its 48 bytes spell. -/
opaque sha384 : List Byte → BitVec 384

/-- R107: byte `i` of the image the n-th DRAM training gives. -/
opaque training : Nat → Nat → Byte

/-- R399: what a CHALLENGE_AUTH or KEY_EXCHANGE_RSP carries beside its code (a nonce or a public key of Adsel's and a
signature), from the certificate slot and what the request brought. -/
opaque spdmSign : Nat → Nat → List Byte

/-- R122: byte `i` of a 256-byte T2 unit encrypted with XTS-AES-256, from the key material's name, the unit's address / 256
and its bytes. -/
opaque xtsEnc : Nat → Nat → List Byte → Nat → Byte

/-- R122: byte `i` of such a unit decrypted. -/
opaque xtsDec : Nat → Nat → List Byte → Nat → Byte

/-- R127: byte `i` of the n-th challenge nonce. -/
opaque challengeNonce : Nat → Nat → Byte

/-- R128: whether an ECDSA P-384 signature (R and S) over SHA-384 of a message verifies under a public key (X and Y). -/
opaque ecdsaVerify : List Byte → List Byte → List Byte → Bool

/-- R25, R32: ERR_INFO.OFFSET of an access to memory, by its address: the rule gives the page offset of a register access. -/
opaque memOffset : Nat → BitVec 12

/-- R113: the device secret the n-th PROVISION draws from the TRNG. -/
opaque deviceSecret : Nat → BitVec 384

/-- R113, R121: the DeviceID public key of a device secret, X and Y. -/
opaque deviceKey : Nat → List Byte

/-- R113: the public key an X.509 certificate in DER carries. -/
opaque certificateKey : List Byte → List Byte

end Sys2Proof.Config
end

