-- ==== Sys2Proof/Machine/Bits.lean ====
section
/-! DEFINITION. Bit fields, sign extension and byte order (R5): the helpers every register and record uses. -/

namespace Sys2Proof.Machine

/-- The number held in bits [hi:lo] of `n`. -/
def nbits (n hi lo : Nat) : Nat := (n >>> lo) % 2 ^ (hi + 1 - lo)

/-- The number held in bits [hi:lo] of a word. -/
def bits (w : Word) (hi lo : Nat) : Nat := nbits w.toNat hi lo

/-- Bit `i` of a word. -/
def bit (w : Word) (i : Nat) : Bool := w.toNat.testBit i

/-- `w` with bits [hi:lo] replaced by the low bits of `v`. -/
def setBits (w : Word) (hi lo v : Nat) : Word :=
  let m := (2 ^ (hi + 1 - lo) - 1) * 2 ^ lo
  word ((w.toNat - (w.toNat &&& m)) + (v % 2 ^ (hi + 1 - lo)) * 2 ^ lo)

/-- `w` with bit `i` set to `b`. -/
def setBit (w : Word) (i : Nat) (b : Bool) : Word := setBits w i i b.toNat

/-- `n` read as a two's complement number of `w` bits. -/
def signed (w n : Nat) : Int :=
  let n := n % 2 ^ w
  if n < 2 ^ (w - 1) then n else (n : Int) - 2 ^ w

/-- The word whose two's complement value is `i` (wrapping). -/
def ofInt (i : Int) : Word := BitVec.ofInt 32 i

/-- An integer held to the range of a signed field of `w` bits. -/
def clampS (w : Nat) (i : Int) : Int :=
  if i < -(2 ^ (w - 1)) then -(2 ^ (w - 1)) else if i > 2 ^ (w - 1) - 1 then 2 ^ (w - 1) - 1 else i

/-- The number a list of bytes spells, lowest address first (R5). -/
def leNat : List Byte → Nat
  | [] => 0
  | b :: l => b.toNat + 256 * leNat l

/-- The `n` bytes of a number, lowest address first (R5). -/
def leBytes : Nat → Nat → List Byte
  | 0, _ => []
  | n + 1, v => byte v :: leBytes n (v / 256)

/-- `n` entries of a list from position `i`, short where the list ends. -/
def slice {α : Type} (l : List α) (i n : Nat) : List α := (l.drop i).take n

/-- Bit positions below `n` that are set in `v`, rising. -/
def setPositions (n v : Nat) : List Nat := (List.range n).filter fun i => v.testBit i

/-- Round `n` up to a multiple of `k` (`k` not 0). -/
def roundUp (n k : Nat) : Nat := (n + k - 1) / k * k

/-- Quotient rounded up (`k` not 0). -/
def ceilDiv (n k : Nat) : Nat := (n + k - 1) / k

/-- A quotient (`den` not 0) that a rule rounds to an integer, up or down as the rule leaves open. -/
def roundOpen (rule : Nat) (num : Int) (den : Nat) : Int :=
  let q := num / (den : Int)
  if num % (den : Int) = 0 then q else if Config.roundsUp rule num den then q + 1 else q

/-- `v` held to [0, 255]. -/
def clamp8 (v : Int) : Nat := (max 0 (min 255 v)).toNat

/-- List entry `i`, or `d` past the end. -/
def at' {α : Type} (d : α) (l : List α) (i : Nat) : α := l.getD i d

end Sys2Proof.Machine
end

