-- ==== Sys2Proof/Machine/Regs.lean ====
section
/-! DEFINITION. The register names of the spec's register tables (each block chapter) as register keys: page × 0x1000 + offset,
the offset from 0x00_8000_0000 (R23). A page family takes its instance, an array its index; a mailbox register takes the mailbox. -/

namespace Sys2Proof.Machine

abbrev GLB_CHIP_ID : Nat := 0x100
abbrev PWR_CHIP_STATE : Nat := 0x1100
abbrev PWR_CHIP_SLEEP : Nat := 0x1104
abbrev PWR_DOMAIN_STATE (k : Nat) : Nat := 0x1110 + 4 * k
abbrev PWR_WAKE_EARLY (k : Nat) : Nat := 0x1130 + 4 * k
abbrev PWR_WGT_RETAIN (k : Nat) : Nat := 0x1140 + 4 * k
abbrev PWR_DOM_CFG (n : Nat) : Nat := 0x1400 + 4 * n
abbrev PWR_DOM_TMO (n : Nat) : Nat := 0x1600 + 4 * n
abbrev PWR_DOM_STAT (n : Nat) : Nat := 0x1800 + 4 * n
abbrev CLK_STATUS : Nat := 0x2100
abbrev CLK_REFOSC_CTRL : Nat := 0x2104
abbrev CLK_TS_LO : Nat := 0x2110
abbrev CLK_TS_HI : Nat := 0x2114
abbrev CLK_TS_RATIO : Nat := 0x2118
abbrev CLK_AON_TRIM : Nat := 0x211C
abbrev AON_RTC_LO : Nat := 0x6100
abbrev AON_RTC_HI : Nat := 0x6104
abbrev AON_RTC_ALARM_LO : Nat := 0x6108
abbrev AON_RTC_ALARM_HI : Nat := 0x610C
abbrev AON_WAKE_EN : Nat := 0x6110
abbrev AON_WAKE_STATUS : Nat := 0x6114
abbrev AON_WDT_CTRL : Nat := 0x6180
abbrev AON_WDT_KICK : Nat := 0x6184
abbrev AON_WDT_COUNT : Nat := 0x6188
abbrev AON_WAKE_DELAY (n : Nat) : Nat := 0x6400 + 4 * n
abbrev VR_STATUS : Nat := 0x3100
abbrev VR_VBAT : Nat := 0x3104
abbrev VR_VBAT_LOW : Nat := 0x3108
abbrev VR_FAULT : Nat := 0x310C
abbrev VR_LDO_CTRL : Nat := 0x3110
abbrev VR_OUT (i : Nat) : Nat := 0x3200 + 4 * i
abbrev CAP_CTRL : Nat := 0x4100
abbrev CAP_ENVELOPE : Nat := 0x4104
abbrev CAP_TOTAL : Nat := 0x4108
abbrev CAP_ALLOWED : Nat := 0x410C
abbrev CAP_EFFECTIVE : Nat := 0x4110
abbrev CAP_LIMITER : Nat := 0x4114
abbrev CAP_SKIN_CFG : Nat := 0x4120
abbrev CAP_SKIN_EST : Nat := 0x4124
abbrev CAP_SKIN_AMBIENT : Nat := 0x4128
abbrev CAP_PHASE_PREF (p : Nat) : Nat := 0x4140 + 4 * p
abbrev CAP_DROOP_CFG : Nat := 0x4180
abbrev CAP_DROOP_CNT (q : Nat) : Nat := 0x4184 + 4 * q
abbrev CAP_TS (s : Nat) : Nat := 0x4200 + 16 * s
abbrev CAP_TS_THR (s : Nat) : Nat := 0x4204 + 16 * s
abbrev CAP_TS_MAX (s : Nat) : Nat := 0x4208 + 16 * s
abbrev CAP_ENERGY_LO (i : Nat) : Nat := 0x4300 + 8 * i
abbrev CAP_ENERGY_HI (i : Nat) : Nat := 0x4304 + 8 * i
abbrev CAP_WARN (i : Nat) : Nat := 0x4400 + 32 * i
abbrev CAP_HARD (i : Nat) : Nat := 0x4404 + 32 * i
abbrev CAP_AVG2 (i : Nat) : Nat := 0x4408 + 32 * i
abbrev CAP_AVG50 (i : Nat) : Nat := 0x440C + 32 * i
abbrev CAP_PWR (i : Nat) : Nat := 0x4410 + 32 * i
abbrev CAP_EVT (i : Nat) : Nat := 0x4414 + 32 * i
abbrev CAP_STATE (i : Nat) : Nat := 0x4418 + 32 * i
abbrev LIFE_LINE : Nat := 0x5100
abbrev LIFE_FAILMAP : Nat := 0x5104
abbrev LIFE_FAILCNT0 : Nat := 0x5108
abbrev LIFE_FAILCNT1 : Nat := 0x510C
abbrev LIFE_FAIL_INFO : Nat := 0x5110
abbrev LIFE_DEGRADE : Nat := 0x5114
abbrev LIFE_BOOT_STATUS : Nat := 0x5118
abbrev LIFE_CTRL : Nat := 0x5120
abbrev LIFE_CMD : Nat := 0x5124
abbrev LIFE_BINDOFF_CFG : Nat := 0x5128
abbrev LIFE_BINDOFF_STAT : Nat := 0x512C
abbrev LIFE_POLICY (s : Nat) : Nat := 0x5140 + 4 * s
abbrev LIFE_STEP_TIME (s : Nat) : Nat := 0x5180 + 4 * s
abbrev ADSEL_STATUS : Nat := 0x10100
abbrev ADSEL_TENANTS : Nat := 0x10104
abbrev ADSEL_ALIAS_SERIAL : Nat := 0x10108
abbrev ADSEL_SLOTS_FREE : Nat := 0x1010C
abbrev ADSEL_SUPV : Nat := 0x10110
abbrev ADSEL_SUPV_STAT : Nat := 0x10114
abbrev ADSEL_DBG_NONCE (k : Nat) : Nat := 0x10140 + 4 * k
abbrev ADSEL_T_CMD (t : Nat) : Nat := 0x10400 + 64 * t
abbrev ADSEL_T_STAT (t : Nat) : Nat := 0x10404 + 64 * t
abbrev ADSEL_T_ADDR_LO (t : Nat) : Nat := 0x10408 + 64 * t
abbrev ADSEL_T_ADDR_HI (t : Nat) : Nat := 0x1040C + 64 * t
abbrev ADSEL_T_LEN (t : Nat) : Nat := 0x10410 + 64 * t
abbrev ADSEL_T_RESULT (t : Nat) : Nat := 0x10414 + 64 * t
abbrev ADSEL_T_INFO (t : Nat) : Nat := 0x10418 + 64 * t
abbrev ADSEL_T_REFUSED (t : Nat) : Nat := 0x1041C + 64 * t
abbrev DBG_STATUS : Nat := 0x18100
abbrev DBG_HALT_REQ_LO : Nat := 0x18104
abbrev DBG_HALT_REQ_HI : Nat := 0x18108
abbrev DBG_RESUME_LO : Nat := 0x1810C
abbrev DBG_RESUME_HI : Nat := 0x18110
abbrev DBG_STEP : Nat := 0x18114
abbrev DBG_HALTED_LO : Nat := 0x18118
abbrev DBG_HALTED_HI : Nat := 0x1811C
abbrev DBG_REG_SEL : Nat := 0x18120
abbrev DBG_REG_DATA : Nat := 0x18124
abbrev DBG_TRACE_CFG : Nat := 0x18140
abbrev DBG_TRACE_TILES : Nat := 0x18144
abbrev DBG_TRACE_BASE_LO : Nat := 0x18148
abbrev DBG_TRACE_BASE_HI : Nat := 0x1814C
abbrev DBG_TRACE_LEN : Nat := 0x18150
abbrev DBG_TRACE_WPTR : Nat := 0x18154
abbrev DBG_TRACE_STAT : Nat := 0x18158
abbrev DBG_PMC_SEL (k : Nat) : Nat := 0x18180 + 16 * k
abbrev DBG_PMC_LO (k : Nat) : Nat := 0x18184 + 16 * k
abbrev DBG_PMC_HI (k : Nat) : Nat := 0x18188 + 16 * k
abbrev DBG_ENERGY_LO (t : Nat) : Nat := 0x18200 + 8 * t
abbrev DBG_ENERGY_HI (t : Nat) : Nat := 0x18204 + 8 * t
abbrev MBX_SEND (m w : Nat) : Nat := 0x20100 + 0x1000 * (m / 16) + 64 * (m % 16) + 4 * w
abbrev MBX_SLOT (m w : Nat) : Nat := 0x20500 + 0x1000 * (m / 16) + 64 * (m % 16) + 4 * w
abbrev MBX_RING (m : Nat) : Nat := 0x20900 + 0x1000 * (m / 16) + 16 * (m % 16)
abbrev MBX_TX_STAT (m : Nat) : Nat := 0x20904 + 0x1000 * (m / 16) + 16 * (m % 16)
abbrev MBX_TX_FULLCNT (m : Nat) : Nat := 0x20908 + 0x1000 * (m / 16) + 16 * (m % 16)
abbrev MBX_PEND (m : Nat) : Nat := 0x20A00 + 0x1000 * (m / 16) + 16 * (m % 16)
abbrev MBX_MASK (m : Nat) : Nat := 0x20A04 + 0x1000 * (m / 16) + 16 * (m % 16)
abbrev MBX_RX_STAT (m : Nat) : Nat := 0x20A08 + 0x1000 * (m / 16) + 16 * (m % 16)
abbrev MBX_RX_CNT (m : Nat) : Nat := 0x20A0C + 0x1000 * (m / 16) + 16 * (m % 16)
abbrev MBX_CFG (m : Nat) : Nat := 0x20B00 + 0x1000 * (m / 16) + 16 * (m % 16)
abbrev MBX_SENDERS (m : Nat) : Nat := 0x20B04 + 0x1000 * (m / 16) + 16 * (m % 16)
abbrev MBX_CLAIM_TMO (p : Nat) : Nat := 0x20C00 + 0x1000 * p
abbrev SCH_CTRL : Nat := 0x28100
abbrev SCH_STATUS : Nat := 0x28104
abbrev SCH_HEARTBEAT : Nat := 0x28108
abbrev SCH_TILES_LO : Nat := 0x2810C
abbrev SCH_TILES_HI : Nat := 0x28110
abbrev SCH_SB : Nat := 0x28114
abbrev SCH_FLIP_LO : Nat := 0x28120
abbrev SCH_FLIP_HI : Nat := 0x28124
abbrev SCH_FLIP_CMD : Nat := 0x28128
abbrev SCH_FLIP_RESULT : Nat := 0x2812C
abbrev SCH_FLIP_FAIL_LO : Nat := 0x28130
abbrev SCH_FLIP_FAIL_HI : Nat := 0x28134
abbrev SCH_TENANT_CFG (t : Nat) : Nat := 0x28140 + 4 * t
abbrev SCH_TENANT_TILES_LO (t : Nat) : Nat := 0x28160 + 8 * t
abbrev SCH_TENANT_TILES_HI (t : Nat) : Nat := 0x28164 + 8 * t
abbrev SCH_MODEL (k : Nat) : Nat := 0x28200 + 16 * k
abbrev SCH_MODEL_SRC_LO (k : Nat) : Nat := 0x28204 + 16 * k
abbrev SCH_MODEL_SRC_HI (k : Nat) : Nat := 0x28208 + 16 * k
abbrev SCH_JOB_SUBMIT (t : Nat) : Nat := 0x28400 + 64 * t
abbrev SCH_T_STAT (t : Nat) : Nat := 0x28404 + 64 * t
abbrev SCH_T_RESULT (t : Nat) : Nat := 0x28408 + 64 * t
abbrev SCH_T_CANCEL (t : Nat) : Nat := 0x2840C + 64 * t
abbrev SCH_T_SEL (t : Nat) : Nat := 0x28410 + 64 * t
abbrev SCH_T_JOBSTAT (t : Nat) : Nat := 0x28414 + 64 * t
abbrev SCH_T_PROJ (t : Nat) : Nat := 0x28418 + 64 * t
abbrev RPT_CFG : Nat := 0x29100
abbrev RPT_PERIOD : Nat := 0x29104
abbrev RPT_CAPTURE : Nat := 0x29108
abbrev RPT_P_EST : Nat := 0x2910C
abbrev RPT_STATUS : Nat := 0x29110
abbrev RPT_ANCHOR_LO : Nat := 0x29114
abbrev RPT_ANCHOR_HI : Nat := 0x29118
abbrev RPT_ERR : Nat := 0x2911C
abbrev RPT_EVT : Nat := 0x29120
abbrev RPT_RANGE (t : Nat) : Nat := 0x29140 + 4 * t
abbrev RPT_T_SEL (t : Nat) : Nat := 0x29400 + 64 * t
abbrev RPT_T_ROW (t w : Nat) : Nat := 0x29404 + 64 * t + 4 * w
abbrev RPT_T_COMMIT (t : Nat) : Nat := 0x29414 + 64 * t
abbrev RPT_T_STAT (t : Nat) : Nat := 0x29418 + 64 * t
abbrev RPT_T_ROWSTAT (t : Nat) : Nat := 0x2941C + 64 * t
abbrev DLM_CTRL : Nat := 0x2A100
abbrev DLM_EVT : Nat := 0x2A104
abbrev DLM_LAST : Nat := 0x2A108
abbrev DLM_LAST_PROJ : Nat := 0x2A10C
abbrev MEM_STATUS : Nat := 0x30100
abbrev MEM_FREE_T0 : Nat := 0x30104
abbrev MEM_FREE_T1 : Nat := 0x30108
abbrev MEM_FREE_T2 : Nat := 0x3010C
abbrev MEM_WIPE_PEND : Nat := 0x30110
abbrev MEM_SKEIN_SEL : Nat := 0x30120
abbrev MEM_SKEIN_W (k : Nat) : Nat := 0x30124 + 4 * k
abbrev MEM_SKEIN_CMD : Nat := 0x30134
abbrev MEM_SKEIN_RESULT : Nat := 0x30138
abbrev MEM_OWN_SEL : Nat := 0x30140
abbrev MEM_OWN : Nat := 0x30144
abbrev MEM_T_CMD (t : Nat) : Nat := 0x30400 + 64 * t
abbrev MEM_T_STAT (t : Nat) : Nat := 0x30404 + 64 * t
abbrev MEM_T_SRC_LO (t : Nat) : Nat := 0x30408 + 64 * t
abbrev MEM_T_SRC_HI (t : Nat) : Nat := 0x3040C + 64 * t
abbrev MEM_T_DST_LO (t : Nat) : Nat := 0x30410 + 64 * t
abbrev MEM_T_DST_HI (t : Nat) : Nat := 0x30414 + 64 * t
abbrev MEM_T_LEN (t : Nat) : Nat := 0x30418 + 64 * t
abbrev MEM_T_NOTE (t : Nat) : Nat := 0x3041C + 64 * t
abbrev MEM_T_HELD (t k : Nat) : Nat := 0x30420 + 64 * t + 4 * k
abbrev MEM_T_QUOTA (t k : Nat) : Nat := 0x3042C + 64 * t + 4 * k
abbrev POOL_STATUS : Nat := 0x31100
abbrev POOL_WB_SETS (t : Nat) : Nat := 0x31140 + 8 * t
abbrev POOL_WB_WIN (t : Nat) : Nat := 0x31144 + 8 * t
abbrev DRAMC_STATUS : Nat := 0x32100
abbrev DRAMC_REFRESH_CFG : Nat := 0x32104
abbrev DRAMC_ECC_CORR : Nat := 0x32108
abbrev DRAMC_ECC_UNCORR : Nat := 0x3210C
abbrev DRAMC_ECC_ADDR_LO : Nat := 0x32110
abbrev DRAMC_ECC_ADDR_HI : Nat := 0x32114
abbrev DRAMPHY_TRAIN : Nat := 0x33100
abbrev DRAMPHY_SOURCE : Nat := 0x33104
abbrev DRAMPHY_CH (c w : Nat) : Nat := 0x33200 + 64 * c + 4 * w
abbrev HOST_LINK_STATUS : Nat := 0x38100
abbrev HOST_LINK_CFG : Nat := 0x38104
abbrev HOST_HS : Nat := 0x38108
abbrev HOST_EVT : Nat := 0x3810C
abbrev HOST_OUT_HI : Nat := 0x38110
abbrev HOST_NOTICE : Nat := 0x38114
abbrev HOST_VEC_OWNER (w : Nat) : Nat := 0x38120 + 4 * w
abbrev MSIX_TABLE (v k : Nat) : Nat := 0x38800 + 16 * v + 4 * k
abbrev MSIX_PBA : Nat := 0x38A00
abbrev BNC_T_SUBMIT (t : Nat) : Nat := 0x38400 + 64 * t
abbrev BNC_T_STAT (t : Nat) : Nat := 0x38404 + 64 * t
abbrev BNC_T_SEQ_IN (t : Nat) : Nat := 0x38408 + 64 * t
abbrev BNC_T_SEQ_OUT (t : Nat) : Nat := 0x3840C + 64 * t
abbrev IDE_STREAM (s : Nat) : Nat := 0x39100 + 16 * s
abbrev IDE_FAIL (s : Nat) : Nat := 0x39104 + 16 * s
abbrev IDE_REFRESH (s : Nat) : Nat := 0x39108 + 16 * s
abbrev IDE_TDI : Nat := 0x39180
abbrev RING_CFG (r : Nat) : Nat := 0x3A200 + 32 * r
abbrev RING_BASE_LO (r : Nat) : Nat := 0x3A204 + 32 * r
abbrev RING_BASE_HI (r : Nat) : Nat := 0x3A208 + 32 * r
abbrev RING_MIRROR_LO (r : Nat) : Nat := 0x3A20C + 32 * r
abbrev RING_MIRROR_HI (r : Nat) : Nat := 0x3A210 + 32 * r
abbrev RING_STAT (r : Nat) : Nat := 0x3A214 + 32 * r
abbrev RING_T_DB (t : Nat) : Nat := 0x3A400 + 64 * t
abbrev RING_T_RESYNC (t : Nat) : Nat := 0x3A404 + 64 * t
abbrev RING_T_HEAD (t : Nat) : Nat := 0x3A408 + 64 * t
abbrev RING_T_STAT (t : Nat) : Nat := 0x3A40C + 64 * t
abbrev RING_T_MSEQ (t : Nat) : Nat := 0x3A410 + 64 * t
abbrev RING_T_REJECTS (t : Nat) : Nat := 0x3A414 + 64 * t
abbrev ROWLOG_EPOCH : Nat := 0x3B100
abbrev ROWLOG_PART (r : Nat) : Nat := 0x3B140 + 4 * r
abbrev ROWLOG_T_SEL (t : Nat) : Nat := 0x3B400 + 64 * t
abbrev ROWLOG_T_ENTRY (t k : Nat) : Nat := 0x3B404 + 64 * t + 4 * k
abbrev AUD_CTRL : Nat := 0x40100
abbrev AUD_STATUS : Nat := 0x40104
abbrev AUD_LP_CFG : Nat := 0x40108
abbrev AUD_LP_RING_BASE : Nat := 0x4010C
abbrev AUD_LP_RING_LEN : Nat := 0x40110
abbrev AUD_LP_RING_WPTR : Nat := 0x40114
abbrev AUD_LP_GAPS : Nat := 0x40118
abbrev AUD_HQ_CFG : Nat := 0x40120
abbrev AUD_CAL (c : Nat) : Nat := 0x40140 + 4 * c
abbrev AUD_BEAM_CTRL (b : Nat) : Nat := 0x40160 + 4 * b
abbrev AUD_BEAM_COMMIT : Nat := 0x40170
abbrev AUD_BEAM_DELAY (b c : Nat) : Nat := 0x40180 + 32 * b + 4 * c
abbrev SPK_CTRL : Nat := 0x41100
abbrev SPK_STATUS : Nat := 0x41104
abbrev SPK_GAIN (d : Nat) : Nat := 0x41108 + 4 * d
abbrev SPK_ILIM : Nat := 0x41110
abbrev SPK_PLIM : Nat := 0x41114
abbrev SPK_SENSE_BASE_LO : Nat := 0x41118
abbrev SPK_SENSE_BASE_HI : Nat := 0x4111C
abbrev SPK_SENSE_LEN : Nat := 0x41120
abbrev SPK_SENSE_WPTR : Nat := 0x41124
abbrev SPK_EVT : Nat := 0x41128
abbrev CSI_CFG (p : Nat) : Nat := 0x44100 + 0x1000 * p
abbrev CSI_LANE_RATE (p : Nat) : Nat := 0x44104 + 0x1000 * p
abbrev CSI_SIZE (p : Nat) : Nat := 0x44108 + 0x1000 * p
abbrev CSI_BLACK (p : Nat) : Nat := 0x4410C + 0x1000 * p
abbrev CSI_ISP (p : Nat) : Nat := 0x44110 + 0x1000 * p
abbrev CSI_CROP_ORG (p : Nat) : Nat := 0x44114 + 0x1000 * p
abbrev CSI_CROP_SIZE (p : Nat) : Nat := 0x44118 + 0x1000 * p
abbrev CSI_FRAME_TMO (p : Nat) : Nat := 0x4411C + 0x1000 * p
abbrev CSI_LINE_CNT (p : Nat) : Nat := 0x44120 + 0x1000 * p
abbrev CSI_ERR (p : Nat) : Nat := 0x44124 + 0x1000 * p
abbrev CSI_AO (p : Nat) : Nat := 0x44128 + 0x1000 * p
abbrev DSI_CFG (p : Nat) : Nat := 0x4A100 + 0x1000 * p
abbrev DSI_LANE_RATE (p : Nat) : Nat := 0x4A104 + 0x1000 * p
abbrev DSI_PIXCLK (p : Nat) : Nat := 0x4A108 + 0x1000 * p
abbrev DSI_HACT_HFP (p : Nat) : Nat := 0x4A10C + 0x1000 * p
abbrev DSI_HSYNC_HBP (p : Nat) : Nat := 0x4A110 + 0x1000 * p
abbrev DSI_VACT_VFP (p : Nat) : Nat := 0x4A114 + 0x1000 * p
abbrev DSI_VSYNC_VBP (p : Nat) : Nat := 0x4A118 + 0x1000 * p
abbrev DSI_LATCH_LEAD (p : Nat) : Nat := 0x4A11C + 0x1000 * p
abbrev DSI_PHOTON_OFS (p : Nat) : Nat := 0x4A120 + 0x1000 * p
abbrev DSI_FRAME (p : Nat) : Nat := 0x4A124 + 0x1000 * p
abbrev DSI_UNDERRUN (p : Nat) : Nat := 0x4A128 + 0x1000 * p
abbrev DSI_DCS (p : Nat) : Nat := 0x4A12C + 0x1000 * p
abbrev DSI_POSE_LO (p : Nat) : Nat := 0x4A130 + 0x1000 * p
abbrev DSI_POSE_HI (p : Nat) : Nat := 0x4A134 + 0x1000 * p
abbrev DSI_WARP_GYRO (p : Nat) : Nat := 0x4A138 + 0x1000 * p
abbrev DSI_WARP_GYRO_SCALE (p : Nat) : Nat := 0x4A13C + 0x1000 * p
abbrev DSI_WARP_FOCAL (p : Nat) : Nat := 0x4A140 + 0x1000 * p
abbrev DSI_WARP_CENTER (p : Nat) : Nat := 0x4A144 + 0x1000 * p
abbrev LAYER_CFG (p l : Nat) : Nat := 0x4A200 + 0x1000 * p + 64 * l
abbrev LAYER_POS (p l : Nat) : Nat := 0x4A204 + 0x1000 * p + 64 * l
abbrev LAYER_SIZE (p l : Nat) : Nat := 0x4A208 + 0x1000 * p + 64 * l
abbrev LAYER_STRIDE (p l : Nat) : Nat := 0x4A20C + 0x1000 * p + 64 * l
abbrev LAYER_COLOUR (p l : Nat) : Nat := 0x4A210 + 0x1000 * p + 64 * l
abbrev LAYER_SLOT_LO (p l k : Nat) : Nat := 0x4A220 + 0x1000 * p + 64 * l + 8 * k
abbrev LAYER_SLOT_HI (p l k : Nat) : Nat := 0x4A224 + 0x1000 * p + 64 * l + 8 * k
abbrev LAYER_SUBMIT (p l : Nat) : Nat := 0x4A238 + 0x1000 * p + 64 * l
abbrev LAYER_STAT (p l : Nat) : Nat := 0x4A23C + 0x1000 * p + 64 * l
abbrev STRM_RUNNING : Nat := 0x4C100
abbrev STRM_HV_OWNER : Nat := 0x4C104
abbrev STRM_CMD (s : Nat) : Nat := 0x4C400 + 64 * s
abbrev STRM_STAT (s : Nat) : Nat := 0x4C404 + 64 * s
abbrev STRM_BASE_LO (s : Nat) : Nat := 0x4C408 + 64 * s
abbrev STRM_BASE_HI (s : Nat) : Nat := 0x4C40C + 64 * s
abbrev STRM_BUF_SIZE (s : Nat) : Nat := 0x4C410 + 64 * s
abbrev STRM_BUF_CFG (s : Nat) : Nat := 0x4C414 + 64 * s
abbrev STRM_SW_SEQ (s : Nat) : Nat := 0x4C418 + 64 * s
abbrev STRM_HW_SEQ (s : Nat) : Nat := 0x4C41C + 64 * s
abbrev STRM_LAST_TS_LO (s : Nat) : Nat := 0x4C420 + 64 * s
abbrev STRM_LAST_TS_HI (s : Nat) : Nat := 0x4C424 + 64 * s
abbrev STRM_EVT (s : Nat) : Nat := 0x4C428 + 64 * s
abbrev I3C_CFG (p : Nat) : Nat := 0x4D100 + 0x1000 * p
abbrev I3C_CMD (p : Nat) : Nat := 0x4D104 + 0x1000 * p
abbrev I3C_FIFO (p : Nat) : Nat := 0x4D108 + 0x1000 * p
abbrev I3C_STAT (p : Nat) : Nat := 0x4D10C + 0x1000 * p
abbrev I3C_AUTO (k : Nat) : Nat := 0x4D140 + 16 * k
abbrev I3C_AUTO_RD (k : Nat) : Nat := 0x4D144 + 16 * k
abbrev I3C_AUTO_PER (k : Nat) : Nat := 0x4D148 + 16 * k
abbrev GPIO_OUT : Nat := 0x4F100
abbrev GPIO_OE : Nat := 0x4F104
abbrev GPIO_IN : Nat := 0x4F108
abbrev GPIO_WAKE_EN : Nat := 0x4F110
abbrev GPIO_WAKE_POL : Nat := 0x4F114
abbrev GPIO_FSYNC : Nat := 0x4F118
abbrev GPIO_PIN (p : Nat) : Nat := 0x4F200 + 4 * p
abbrev SPI_CFG : Nat := 0x50100
abbrev SPI_XFER : Nat := 0x50104
abbrev SPI_ADDR_LO : Nat := 0x50108
abbrev SPI_ADDR_HI : Nat := 0x5010C
abbrev SPI_STAT : Nat := 0x50110
abbrev HOOK_QUEUE (p : Nat) : Nat := 0x58100 + 0x1000 * p
abbrev HOOK_STATUS (p : Nat) : Nat := 0x58104 + 0x1000 * p
abbrev HOOK_DONE (p : Nat) : Nat := 0x58108 + 0x1000 * p
abbrev HOOK_LAST (p : Nat) : Nat := 0x5810C + 0x1000 * p
abbrev HOOK_LAST_ADDR (p : Nat) : Nat := 0x58110 + 0x1000 * p
abbrev HOOK_CANCEL (p : Nat) : Nat := 0x58114 + 0x1000 * p
abbrev HOOK_BUSY_CYC (p : Nat) : Nat := 0x58118 + 0x1000 * p
abbrev VOX_QUEUE : Nat := 0x5A100
abbrev VOX_STATUS : Nat := 0x5A104
abbrev VOX_DONE : Nat := 0x5A108
abbrev VOX_LAST : Nat := 0x5A10C
abbrev VOX_LAST_ADDR : Nat := 0x5A110
abbrev VOX_CANCEL : Nat := 0x5A114
abbrev VOX_BUSY_CYC : Nat := 0x5A118
abbrev STATE_STATUS : Nat := 0x5B100
abbrev STATE_LAST : Nat := 0x5B104
abbrev STATE_STEPS : Nat := 0x5B108
abbrev STATE_QUOTA (t : Nat) : Nat := 0x5B140 + 4 * t
abbrev STATE_T_CMD (t : Nat) : Nat := 0x5B400 + 128 * t
abbrev STATE_T_STAT (t : Nat) : Nat := 0x5B404 + 128 * t
abbrev STATE_T_PTR_LO (t : Nat) : Nat := 0x5B408 + 128 * t
abbrev STATE_T_PTR_HI (t : Nat) : Nat := 0x5B40C + 128 * t
abbrev STATE_T_CFG (t : Nat) : Nat := 0x5B410 + 128 * t
abbrev STATE_T_SCALE (t : Nat) : Nat := 0x5B414 + 128 * t
abbrev STATE_T_RESULT (t : Nat) : Nat := 0x5B418 + 128 * t
abbrev STATE_T_SUBMIT (t : Nat) : Nat := 0x5B41C + 128 * t
abbrev STATE_T_ENTRY (t k : Nat) : Nat := 0x5B420 + 128 * t + 4 * k
abbrev STATE_T_LOST (t : Nat) : Nat := 0x5B440 + 128 * t
abbrev MESH_FENCED_LO : Nat := 0x60100
abbrev MESH_FENCED_HI : Nat := 0x60104
abbrev MESH_POISON : Nat := 0x60108
abbrev MESH_PERF_SEL : Nat := 0x60110
abbrev MESH_PERF_FLITS : Nat := 0x60114
abbrev MESH_PERF_STALL : Nat := 0x60118
abbrev TILE_STATUS (p : Nat) : Nat := 0x100100 + 0x1000 * p
abbrev TILE_PC (p : Nat) : Nat := 0x100104 + 0x1000 * p
abbrev TILE_FAULT (p : Nat) : Nat := 0x100108 + 0x1000 * p
abbrev TILE_FAULT_INFO (p : Nat) : Nat := 0x10010C + 0x1000 * p
abbrev TILE_SLEEP (p : Nat) : Nat := 0x100110 + 0x1000 * p
abbrev TILE_CLKDIV (p : Nat) : Nat := 0x100114 + 0x1000 * p
abbrev TILE_EVT (p : Nat) : Nat := 0x100118 + 0x1000 * p
abbrev TILE_CYCLE (p : Nat) : Nat := 0x10011C + 0x1000 * p
abbrev TILE_DMA_STAT (p : Nat) : Nat := 0x100120 + 0x1000 * p
abbrev TILE_ENTRY (p : Nat) : Nat := 0x100124 + 0x1000 * p
abbrev TILE_CTRL (p : Nat) : Nat := 0x100128 + 0x1000 * p
abbrev TILE_IMEM_SEG (p : Nat) : Nat := 0x10012C + 0x1000 * p
abbrev TILE_WGT_CTRL (p : Nat) : Nat := 0x100300 + 0x1000 * p
abbrev TILE_WGT_DECL (p : Nat) : Nat := 0x100304 + 0x1000 * p
abbrev TILE_WGT_MODEL (p : Nat) : Nat := 0x100308 + 0x1000 * p
abbrev TILE_WGT_EXPECT (p : Nat) : Nat := 0x10030C + 0x1000 * p
abbrev TILE_WGT_RESULT (p : Nat) : Nat := 0x100310 + 0x1000 * p
abbrev TILE_WGT_FLIPS (p : Nat) : Nat := 0x100314 + 0x1000 * p
abbrev TILE_WGT_STAT (p b : Nat) : Nat := 0x100320 + 0x1000 * p + 16 * b
abbrev TILE_WGT_ID (p b : Nat) : Nat := 0x100324 + 0x1000 * p + 16 * b
abbrev TILE_WGT_CRC (p b : Nat) : Nat := 0x100328 + 0x1000 * p + 16 * b
abbrev TILE_WGT_REPAIR (p b : Nat) : Nat := 0x10032C + 0x1000 * p + 16 * b
abbrev TILE_WGT_FILL (p b : Nat) : Nat := 0x100340 + 0x1000 * p + 4 * b
abbrev TILE_MESH_INBOX (p : Nat) : Nat := 0x100400 + 0x1000 * p
abbrev TILE_MESH_STAT (p : Nat) : Nat := 0x100404 + 0x1000 * p
abbrev TILE_MESH_ERR (p : Nat) : Nat := 0x100408 + 0x1000 * p
abbrev TILE_MESH_SENT (p : Nat) : Nat := 0x10040C + 0x1000 * p
abbrev SC_SEL (p : Nat) : Nat := 0x200100 + 0x1000 * p
abbrev SC_VALUE (p : Nat) : Nat := 0x200104 + 0x1000 * p
abbrev SC_CONFIG (p : Nat) : Nat := 0x200108 + 0x1000 * p
abbrev SC_OP (p : Nat) : Nat := 0x20010C + 0x1000 * p
abbrev AIE_CTRL : Nat := 0x8100
abbrev AIE_STATUS : Nat := 0x8104
abbrev AIE_OVERRUN : Nat := 0x8108
abbrev AIE_FEAT_CFG : Nat := 0x810C
abbrev AIE_LOAD_ADDR_LO : Nat := 0x8110
abbrev AIE_LOAD_ADDR_HI : Nat := 0x8114
abbrev AIE_LOAD_CMD : Nat := 0x8118
abbrev AIE_SCORE (j : Nat) : Nat := 0x8120 + 4 * j
abbrev CASC_STATUS : Nat := 0x7100
abbrev CASC_NOTIFY : Nat := 0x7104
abbrev CASC_CMD : Nat := 0x7108
abbrev CASC_LOG_WPTR : Nat := 0x710C
abbrev CASC_SCORE_IN (j : Nat) : Nat := 0x7120 + 4 * j
abbrev CASC_LOG (e w : Nat) : Nat := 0x7400 + 16 * e + 4 * w
abbrev DESC_CFG (k : Nat) : Nat := 0x7200 + 32 * k
abbrev DESC_THRESH (k : Nat) : Nat := 0x7204 + 32 * k
abbrev DESC_DOMS (k : Nat) : Nat := 0x7208 + 32 * k
abbrev DESC_TILES_LO (k : Nat) : Nat := 0x720C + 32 * k
abbrev DESC_TILES_HI (k : Nat) : Nat := 0x7210 + 32 * k
abbrev DESC_WAKE (k : Nat) : Nat := 0x7214 + 32 * k
abbrev DESC_SLEEP (k : Nat) : Nat := 0x7218 + 32 * k
abbrev DESC_STAT (k : Nat) : Nat := 0x721C + 32 * k

end Sys2Proof.Machine
end

