-- ==== Sys2Proof/Machine/RegTable.lean ====
section
/-! DEFINITION. The register tables of the block chapters as rows: where a register stands in its page, its reset value and
which of its bits each access code of R8 covers (RW, RWL, W1C, RC). A bit no mask covers is RO, WO or reserved. -/

namespace Sys2Proof.Machine

/-- One row of a register table. -/
structure RegRow where
  /-- offset in the page -/
  off : Nat
  /-- (count, stride) of each index, widest stride first -/
  dims : List (Nat × Nat)
  /-- reset value per index of the first array, the last one repeating -/
  reset : List Nat
  /-- RW bits -/
  rw : Nat
  /-- RWL bits -/
  rwl : Nat
  /-- W1C bits -/
  w1c : Nat
  /-- RC bits -/
  rc : Nat
deriving DecidableEq, Repr

/-- The register rows of page 0x000. -/
def rowsOf000 : List RegRow :=
  [ ⟨0x100, [], [0x5404B001], 0x0, 0x0, 0x0, 0x0⟩ ]

/-- The register rows of page 0x001. -/
def rowsOf001 : List RegRow :=
  [ ⟨0x100, [], [1], 0x0, 0x0, 0x0, 0x0⟩,
    ⟨0x104, [], [0], 0x107, 0x0, 0x200, 0x0⟩,
    ⟨0x110, [(6, 4)], [0xFFFFFFFF], 0x0, 0x0, 0x0, 0x0⟩,
    ⟨0x130, [(3, 4)], [0], 0x0, 0x0, 0xFFFFFFFF, 0x0⟩,
    ⟨0x140, [(2, 4)], [1, 0], 0xFFFFFFFF, 0x0, 0x0, 0x0⟩,
    ⟨0x400, [(96, 4)], [3], 0x3F, 0x0, 0x0, 0x0⟩,
    ⟨0x600, [(96, 4)], [0x3E8, 0xC8003E8, 0xC8003E8, 0xC8003E8, 0x7D0003E8, 0xC8003E8, 0x190003E8, 0x190003E8, 0x190003E8, 0x190003E8, 0x3E8003E8, 0x64003E8, 0x64003E8, 0x64003E8, 0x64003E8, 0x64003E8, 0x64003E8, 0xC8003E8, 0xC8003E8, 0xC8003E8, 0xC8003E8, 0x3E8, 0x3E8, 0x3E8, 0x3E8, 0x3E8, 0x3E8, 0x3E8, 0x3E8, 0x3E8, 0x3E8, 0x3E8, 0xC8003E8, 0xC8003E8, 0xC8003E8, 0xC8003E8, 0xC8003E8, 0xC8003E8, 0xC8003E8, 0xC8003E8, 0xC8003E8, 0xC8003E8, 0xC8003E8, 0xC8003E8, 0xC8003E8, 0xC8003E8, 0xC8003E8, 0xC8003E8, 0xC8003E8, 0xC8003E8, 0xC8003E8, 0xC8003E8, 0xC8003E8, 0xC8003E8, 0xC8003E8, 0xC8003E8, 0xC8003E8, 0xC8003E8, 0xC8003E8, 0xC8003E8, 0xC8003E8, 0xC8003E8, 0xC8003E8, 0xC8003E8, 0xC8003E8, 0xC8003E8, 0xC8003E8, 0xC8003E8, 0xC8003E8, 0xC8003E8, 0xC8003E8, 0xC8003E8, 0xC8003E8, 0xC8003E8, 0xC8003E8, 0xC8003E8, 0xC8003E8, 0xC8003E8, 0xC8003E8, 0xC8003E8, 0xC8003E8, 0xC8003E8, 0xC8003E8, 0xC8003E8, 0xC8003E8, 0xC8003E8, 0xC8003E8, 0xC8003E8, 0xC8003E8, 0xC8003E8, 0xC8003E8, 0xC8003E8, 0xC8003E8, 0xC8003E8, 0xC8003E8, 0xC8003E8], 0xFFF1FFFF, 0x0, 0x0, 0x0⟩,
    ⟨0x800, [(96, 4)], [0xF], 0x0, 0x0, 0x0, 0x0⟩ ]

/-- The register rows of page 0x002. -/
def rowsOf002 : List RegRow :=
  [ ⟨0x100, [], [0], 0x0, 0x0, 0x0, 0x0⟩,
    ⟨0x104, [], [0], 0x1, 0x0, 0x0, 0x0⟩,
    ⟨0x110, [], [0], 0x0, 0x0, 0x0, 0x0⟩,
    ⟨0x114, [], [0], 0x0, 0x0, 0x0, 0x0⟩,
    ⟨0x118, [], [0x493E0000], 0x0, 0x0, 0x0, 0x0⟩,
    ⟨0x11C, [], [0], 0x0, 0x0, 0x0, 0x0⟩ ]

/-- The register rows of page 0x003. -/
def rowsOf003 : List RegRow :=
  [ ⟨0x100, [], [0], 0x0, 0x0, 0x0, 0x0⟩,
    ⟨0x104, [], [0], 0x0, 0x0, 0x0, 0x0⟩,
    ⟨0x108, [], [0xC80], 0x0, 0x1FFF, 0x0, 0x0⟩,
    ⟨0x10C, [], [0], 0x0, 0x0, 0xFFF, 0x0⟩,
    ⟨0x110, [], [0xC], 0xF, 0x0, 0x0, 0x0⟩,
    ⟨0x200, [(12, 4)], [0], 0x0, 0x0, 0x0, 0x0⟩ ]

/-- The register rows of page 0x004. -/
def rowsOf004 : List RegRow :=
  [ ⟨0x100, [], [3], 0x0, 0x3, 0x0, 0x0⟩,
    ⟨0x104, [], [0x578], 0x0, 0xFFFF, 0x0, 0x0⟩,
    ⟨0x108, [], [0], 0x0, 0x0, 0x0, 0x0⟩,
    ⟨0x10C, [], [0], 0x0, 0x0, 0x0, 0x0⟩,
    ⟨0x110, [], [0], 0x0, 0x0, 0x0, 0x0⟩,
    ⟨0x114, [], [0], 0x0, 0x0, 0x0, 0x0⟩,
    ⟨0x120, [], [0x2B3C3C], 0x0, 0xFFFFFF, 0x0, 0x0⟩,
    ⟨0x124, [], [0], 0x0, 0x0, 0x0, 0x0⟩,
    ⟨0x128, [], [0x19], 0xFF, 0x0, 0x0, 0x0⟩,
    ⟨0x140, [(16, 4)], [2], 0x7, 0x0, 0x0, 0x0⟩,
    ⟨0x180, [], [1], 0x0, 0x3, 0x0, 0x0⟩,
    ⟨0x184, [(4, 4)], [0], 0x0, 0x0, 0x0, 0xFFFFFFFF⟩ ]
  ++ [ ⟨0x200, [(9, 16)], [0], 0x0, 0x0, 0x0, 0x0⟩,
    ⟨0x204, [(9, 16)], [0x573695F, 0x573695F, 0x573695F, 0x573695F, 0x573695F, 0x5695F55, 0x573695F, 0x573695F, 0x573695F], 0x0, 0xFFFFFFFF, 0x0, 0x0⟩,
    ⟨0x208, [(9, 16)], [0], 0x0, 0x0, 0x0, 0xFFFFFFFF⟩,
    ⟨0x300, [(12, 8)], [0], 0x0, 0x0, 0x0, 0x0⟩,
    ⟨0x304, [(12, 8)], [0], 0x0, 0x0, 0x0, 0x0⟩,
    ⟨0x400, [(12, 32)], [0x2A3, 0x232, 0x232, 0x232, 0x232, 0x1C2, 0x21C, 0x2D0, 0x21C, 0x2D0, 0x21C, 0x21C], 0x0, 0x3FF, 0x0, 0x0⟩,
    ⟨0x404, [(12, 32)], [0x2EE, 0x271, 0x271, 0x271, 0x271, 0x1F4, 0x258, 0x320, 0x258, 0x320, 0x258, 0x258], 0x0, 0x3FF, 0x0, 0x0⟩,
    ⟨0x408, [(12, 32)], [0], 0x0, 0x0, 0x0, 0x0⟩,
    ⟨0x40C, [(12, 32)], [0], 0x0, 0x0, 0x0, 0x0⟩,
    ⟨0x410, [(12, 32)], [0], 0x0, 0x0, 0x0, 0x0⟩,
    ⟨0x414, [(12, 32)], [0], 0x0, 0x0, 0x0, 0x0⟩,
    ⟨0x418, [(12, 32)], [0], 0x0, 0x0, 0x0, 0x0⟩ ]

/-- The register rows of page 0x005. -/
def rowsOf005 : List RegRow :=
  [ ⟨0x100, [], [0], 0x0, 0x0, 0x0, 0x0⟩,
    ⟨0x104, [], [0], 0x0, 0x0, 0x0, 0x0⟩,
    ⟨0x108, [], [0], 0x0, 0x0, 0x0, 0x0⟩,
    ⟨0x10C, [], [0], 0x0, 0x0, 0x0, 0x0⟩,
    ⟨0x110, [], [0], 0x0, 0x0, 0x0, 0x0⟩,
    ⟨0x114, [], [0x70], 0x0, 0x0, 0x0, 0x0⟩,
    ⟨0x118, [], [0], 0x0, 0x0, 0x0, 0x0⟩,
    ⟨0x120, [], [0x80], 0x0, 0xF1, 0x0, 0x0⟩,
    ⟨0x124, [], [0], 0x0, 0x0, 0x0, 0x0⟩,
    ⟨0x128, [], [0x1400], 0xFF01, 0x0, 0x0, 0x0⟩,
    ⟨0x12C, [], [0], 0x0, 0x0, 0x0, 0x0⟩,
    ⟨0x140, [(16, 4)], [0, 0x508, 0xA08, 0x502, 0xC806, 0x206, 0x30106, 0x206, 0x9606, 0x1406, 0x1406, 0x6406, 0x36406, 0xFA09, 0x506, 0], 0x0, 0xFFFF1F, 0x0, 0x0⟩ ]
  ++ [ ⟨0x180, [(16, 4)], [0], 0x0, 0x0, 0x0, 0x0⟩ ]

/-- The register rows of page 0x006. -/
def rowsOf006 : List RegRow :=
  [ ⟨0x100, [], [0], 0x0, 0x0, 0x0, 0x0⟩,
    ⟨0x104, [], [0], 0x0, 0x0, 0x0, 0x0⟩,
    ⟨0x108, [], [0xFFFFFFFF], 0xFFFFFFFF, 0x0, 0x0, 0x0⟩,
    ⟨0x10C, [], [0xFFFFFFFF], 0xFFFFFFFF, 0x0, 0x0, 0x0⟩,
    ⟨0x110, [], [0x1F], 0x1F, 0x0, 0x0, 0x0⟩,
    ⟨0x114, [], [0], 0x0, 0x0, 0x0, 0xFFFFFFFF⟩,
    ⟨0x180, [], [0], 0x0, 0xFFFF0001, 0x0, 0x0⟩,
    ⟨0x184, [], [0], 0x0, 0x0, 0x0, 0x0⟩,
    ⟨0x188, [], [0], 0x0, 0x0, 0x0, 0x0⟩,
    ⟨0x400, [(96, 4)], [0], 0xFFFFFFFF, 0x0, 0x0, 0x0⟩ ]

/-- The register rows of page 0x007. -/
def rowsOf007 : List RegRow :=
  [ ⟨0x100, [], [0], 0x0, 0x0, 0x0, 0x0⟩,
    ⟨0x104, [], [0], 0xFFF, 0x0, 0x0, 0x0⟩,
    ⟨0x108, [], [0], 0x0, 0x0, 0x0, 0x0⟩,
    ⟨0x10C, [], [0], 0x0, 0x0, 0x0, 0x0⟩,
    ⟨0x120, [(8, 4)], [0], 0xFFFF, 0x0, 0x0, 0x0⟩,
    ⟨0x400, [(16, 16), (4, 4)], [0], 0x0, 0x0, 0x0, 0x0⟩,
    ⟨0x200, [(4, 32)], [0x10290, 0x111A8, 0x111B9, 0x1218A], 0xFFBF, 0x0, 0x0, 0x0⟩,
    ⟨0x204, [(4, 32)], [0x2000C000, 0x10008000, 0x10008000, 0x10008000], 0xFFFFFFFF, 0x0, 0x0, 0x0⟩,
    ⟨0x208, [(4, 32)], [0, 0x22000, 0x2200C, 0x1FE40C], 0x1FFFFE, 0x0, 0x0, 0x0⟩,
    ⟨0x20C, [(4, 32)], [0, 1, 0xF0F0F0F, 0xFFFFFFFF], 0xFFFFFFFF, 0x0, 0x0, 0x0⟩,
    ⟨0x210, [(4, 32)], [0, 0, 0, 0xFFFFFFFF], 0xFFFFFFFF, 0x0, 0x0, 0x0⟩,
    ⟨0x214, [(4, 32)], [0, 0x800, 0x801, 0x802], 0xFFF, 0x0, 0x0, 0x0⟩ ]
  ++ [ ⟨0x218, [(4, 32)], [0, 0x7D0, 0x2710, 0x7530], 0xFFFF, 0x0, 0x0, 0x0⟩,
    ⟨0x21C, [(4, 32)], [0], 0x0, 0x0, 0x0, 0x0⟩ ]

/-- The register rows of page 0x008. -/
def rowsOf008 : List RegRow :=
  [ ⟨0x100, [], [3], 0x3, 0x0, 0x0, 0x0⟩,
    ⟨0x104, [], [0], 0x0, 0x0, 0x0, 0x0⟩,
    ⟨0x108, [], [0], 0x0, 0x0, 0x0, 0xFFFFFFFF⟩,
    ⟨0x10C, [], [0x40], 0xFF, 0x0, 0x0, 0x0⟩,
    ⟨0x110, [], [0], 0xFFFFFFFF, 0x0, 0x0, 0x0⟩,
    ⟨0x114, [], [0], 0xFF, 0x0, 0x0, 0x0⟩,
    ⟨0x118, [], [0], 0x0, 0x0, 0x0, 0x0⟩,
    ⟨0x120, [(8, 4)], [0], 0x0, 0x0, 0x0, 0x0⟩ ]

/-- The register rows of page 0x010. -/
def rowsOf010 : List RegRow :=
  [ ⟨0x100, [], [0], 0x0, 0x0, 0x0, 0x0⟩,
    ⟨0x104, [], [0], 0x0, 0x0, 0x0, 0x0⟩,
    ⟨0x108, [], [0], 0x0, 0x0, 0x0, 0x0⟩,
    ⟨0x10C, [], [0x1E], 0x0, 0x0, 0x0, 0x0⟩,
    ⟨0x110, [], [0x103E8], 0x0, 0x1FFFF, 0x0, 0x0⟩,
    ⟨0x114, [], [0], 0x0, 0x0, 0x0, 0x0⟩,
    ⟨0x140, [(8, 4)], [0], 0x0, 0x0, 0x0, 0x0⟩,
    ⟨0x400, [(8, 64)], [0], 0x0, 0x0, 0x0, 0x0⟩,
    ⟨0x404, [(8, 64)], [0], 0x0, 0x0, 0x0, 0x0⟩,
    ⟨0x408, [(8, 64)], [0], 0xFFFFFFFF, 0x0, 0x0, 0x0⟩,
    ⟨0x40C, [(8, 64)], [0], 0xFF, 0x0, 0x0, 0x0⟩,
    ⟨0x410, [(8, 64)], [0], 0xFFFFFFFF, 0x0, 0x0, 0x0⟩ ]
  ++ [ ⟨0x414, [(8, 64)], [0], 0x0, 0x0, 0x0, 0x0⟩,
    ⟨0x418, [(8, 64)], [0], 0x0, 0x0, 0x0, 0x0⟩,
    ⟨0x41C, [(8, 64)], [0], 0x0, 0x0, 0x0, 0xFFFFFFFF⟩ ]

/-- The register rows of page 0x018. -/
def rowsOf018 : List RegRow :=
  [ ⟨0x100, [], [0], 0x0, 0x0, 0x0, 0x0⟩,
    ⟨0x104, [], [0], 0x0, 0x0, 0x0, 0x0⟩,
    ⟨0x108, [], [0], 0x0, 0x0, 0x0, 0x0⟩,
    ⟨0x10C, [], [0], 0x0, 0x0, 0x0, 0x0⟩,
    ⟨0x110, [], [0], 0x0, 0x0, 0x0, 0x0⟩,
    ⟨0x114, [], [0], 0x0, 0x0, 0x0, 0x0⟩,
    ⟨0x118, [], [0], 0x0, 0x0, 0x0, 0x0⟩,
    ⟨0x11C, [], [0], 0x0, 0x0, 0x0, 0x0⟩,
    ⟨0x120, [], [0], 0x1FFFF, 0x0, 0x0, 0x0⟩,
    ⟨0x124, [], [0], 0x0, 0x0, 0x0, 0x0⟩,
    ⟨0x140, [], [0], 0x3, 0x0, 0x0, 0x0⟩,
    ⟨0x144, [], [0], 0xBFBFBFBF, 0x0, 0x0, 0x0⟩ ]
  ++ [ ⟨0x148, [], [0], 0xFFFFFFFF, 0x0, 0x0, 0x0⟩,
    ⟨0x14C, [], [0], 0xFF, 0x0, 0x0, 0x0⟩,
    ⟨0x150, [], [0], 0xFFFFFFFF, 0x0, 0x0, 0x0⟩,
    ⟨0x154, [], [0], 0x0, 0x0, 0x0, 0x0⟩,
    ⟨0x158, [], [0], 0x0, 0x0, 0x0, 0x0⟩,
    ⟨0x180, [(8, 16)], [0], 0xF7FFF, 0x0, 0x0, 0x0⟩,
    ⟨0x184, [(8, 16)], [0], 0x0, 0x0, 0x0, 0x0⟩,
    ⟨0x188, [(8, 16)], [0], 0x0, 0x0, 0x0, 0x0⟩,
    ⟨0x200, [(8, 8)], [0], 0x0, 0x0, 0x0, 0x0⟩,
    ⟨0x204, [(8, 8)], [0], 0x0, 0x0, 0x0, 0x0⟩ ]

/-- The register rows of page 0x020 and its family. -/
def rowsOf020 : List RegRow :=
  [ ⟨0x100, [(16, 64), (16, 4)], [0], 0x0, 0x0, 0x0, 0x0⟩,
    ⟨0x500, [(16, 64), (16, 4)], [0], 0x0, 0x0, 0x0, 0x0⟩,
    ⟨0x900, [(16, 16)], [0], 0x0, 0x0, 0x0, 0x0⟩,
    ⟨0x904, [(16, 16)], [0], 0x0, 0x0, 0x0, 0x0⟩,
    ⟨0x908, [(16, 16)], [0], 0x0, 0x0, 0x0, 0xFFFFFFFF⟩,
    ⟨0xA00, [(16, 16)], [0], 0x0, 0x0, 0x0, 0x0⟩,
    ⟨0xA04, [(16, 16)], [0xFFFFFFFF], 0xFFFFFFFF, 0x0, 0x0, 0x0⟩,
    ⟨0xA08, [(16, 16)], [0], 0x0, 0x0, 0x0, 0x0⟩,
    ⟨0xA0C, [(16, 16)], [0], 0x0, 0x0, 0x0, 0xFFFFFFFF⟩,
    ⟨0xB00, [(16, 16)], [0], 0x703FF, 0x0, 0x0, 0x0⟩,
    ⟨0xB04, [(16, 16)], [0], 0xFF, 0x0, 0x0, 0x0⟩,
    ⟨0xC00, [], [0x180], 0xFFFF, 0x0, 0x0, 0x0⟩ ]

/-- The register rows of page 0x028. -/
def rowsOf028 : List RegRow :=
  [ ⟨0x100, [], [0], 0x2, 0x0, 0x0, 0x0⟩,
    ⟨0x104, [], [0], 0x0, 0x0, 0x0, 0x0⟩,
    ⟨0x108, [], [0], 0x0, 0x0, 0x0, 0x0⟩,
    ⟨0x10C, [], [0], 0x0, 0x0, 0x0, 0x0⟩,
    ⟨0x110, [], [0], 0x0, 0x0, 0x0, 0x0⟩,
    ⟨0x114, [], [0], 0x0, 0x0, 0x0, 0x0⟩,
    ⟨0x120, [], [0], 0xFFFFFFFF, 0x0, 0x0, 0x0⟩,
    ⟨0x124, [], [0], 0xFFFFFFFF, 0x0, 0x0, 0x0⟩,
    ⟨0x128, [], [0], 0x0, 0x0, 0x0, 0x0⟩,
    ⟨0x12C, [], [0], 0x0, 0x0, 0x0, 0x0⟩,
    ⟨0x130, [], [0], 0x0, 0x0, 0x0, 0x0⟩,
    ⟨0x134, [], [0], 0x0, 0x0, 0x0, 0x0⟩ ]
  ++ [ ⟨0x140, [(8, 4)], [7], 0x7, 0x0, 0x0, 0x0⟩,
    ⟨0x160, [(8, 8)], [0xFFFFFFFF, 0, 0, 0, 0, 0, 0, 0], 0xFFFFFFFF, 0x0, 0x0, 0x0⟩,
    ⟨0x164, [(8, 8)], [0xFFFFFFFF, 0, 0, 0, 0, 0, 0, 0], 0xFFFFFFFF, 0x0, 0x0, 0x0⟩,
    ⟨0x200, [(32, 16)], [0], 0xFFFFFFFF, 0x0, 0x0, 0x0⟩,
    ⟨0x204, [(32, 16)], [0], 0xFFFFFFFF, 0x0, 0x0, 0x0⟩,
    ⟨0x208, [(32, 16)], [0], 0xFF, 0x0, 0x0, 0x0⟩,
    ⟨0x400, [(8, 64)], [0], 0x0, 0x0, 0x0, 0x0⟩,
    ⟨0x404, [(8, 64)], [0], 0x0, 0x0, 0x0, 0x0⟩,
    ⟨0x408, [(8, 64)], [0], 0x0, 0x0, 0x0, 0x0⟩,
    ⟨0x40C, [(8, 64)], [0], 0x0, 0x0, 0x0, 0x0⟩,
    ⟨0x410, [(8, 64)], [0], 0xFFFF, 0x0, 0x0, 0x0⟩,
    ⟨0x414, [(8, 64)], [0], 0x0, 0x0, 0x0, 0x0⟩ ]
  ++ [ ⟨0x418, [(8, 64)], [0], 0x0, 0x0, 0x0, 0x0⟩ ]

/-- The register rows of page 0x029. -/
def rowsOf029 : List RegRow :=
  [ ⟨0x100, [], [0x400], 0xF3F, 0x0, 0x0, 0x0⟩,
    ⟨0x104, [], [0x9600], 0x3FFFFFF, 0x0, 0x0, 0x0⟩,
    ⟨0x108, [], [0x400], 0xFFFFF, 0x0, 0x0, 0x0⟩,
    ⟨0x10C, [], [0], 0x0, 0x0, 0x0, 0x0⟩,
    ⟨0x110, [], [0], 0x0, 0x0, 0x0, 0x0⟩,
    ⟨0x114, [], [0], 0x0, 0x0, 0x0, 0x0⟩,
    ⟨0x118, [], [0], 0x0, 0x0, 0x0, 0x0⟩,
    ⟨0x11C, [], [0], 0x0, 0x0, 0x0, 0x0⟩,
    ⟨0x120, [], [0], 0x0, 0x0, 0x0, 0xFFFFFFFF⟩,
    ⟨0x140, [(8, 4)], [0x10000, 0, 0, 0, 0, 0, 0, 0], 0x1FFFF, 0x0, 0x0, 0x0⟩,
    ⟨0x400, [(8, 64)], [0], 0xFF, 0x0, 0x0, 0x0⟩,
    ⟨0x404, [(8, 64), (4, 4)], [0], 0x0, 0x0, 0x0, 0x0⟩ ]
  ++ [ ⟨0x414, [(8, 64)], [0], 0x0, 0x0, 0x0, 0x0⟩,
    ⟨0x418, [(8, 64)], [0], 0x0, 0x0, 0x0, 0x0⟩,
    ⟨0x41C, [(8, 64)], [0], 0x0, 0x0, 0x0, 0x0⟩ ]

/-- The register rows of page 0x02A. -/
def rowsOf02A : List RegRow :=
  [ ⟨0x100, [], [1], 0x1, 0x0, 0x0, 0x0⟩,
    ⟨0x104, [], [0], 0x0, 0x0, 0x0, 0xFFFFFFFF⟩,
    ⟨0x108, [], [0], 0x0, 0x0, 0x0, 0x0⟩,
    ⟨0x10C, [], [0], 0x0, 0x0, 0x0, 0x0⟩ ]

/-- The register rows of page 0x030. -/
def rowsOf030 : List RegRow :=
  [ ⟨0x100, [], [0], 0x0, 0x0, 0x0, 0x0⟩,
    ⟨0x104, [], [0], 0x0, 0x0, 0x0, 0x0⟩,
    ⟨0x108, [], [0], 0x0, 0x0, 0x0, 0x0⟩,
    ⟨0x10C, [], [0], 0x0, 0x0, 0x0, 0x0⟩,
    ⟨0x110, [], [0], 0x0, 0x0, 0x0, 0x0⟩,
    ⟨0x120, [], [0], 0x3F, 0x0, 0x0, 0x0⟩,
    ⟨0x124, [(4, 4)], [0], 0xFFFFFFFF, 0x0, 0x0, 0x0⟩,
    ⟨0x134, [], [0], 0x0, 0x0, 0x0, 0x0⟩,
    ⟨0x138, [], [0], 0x0, 0x0, 0x0, 0x0⟩,
    ⟨0x140, [], [0], 0xFFFFF, 0x0, 0x0, 0x0⟩,
    ⟨0x144, [], [0], 0x0, 0x0, 0x0, 0x0⟩,
    ⟨0x400, [(8, 64)], [0], 0x0, 0x0, 0x0, 0x0⟩ ]
  ++ [ ⟨0x404, [(8, 64)], [0], 0x0, 0x0, 0x0, 0x0⟩,
    ⟨0x408, [(8, 64)], [0], 0xFFFFFFFF, 0x0, 0x0, 0x0⟩,
    ⟨0x40C, [(8, 64)], [0], 0xFF, 0x0, 0x0, 0x0⟩,
    ⟨0x410, [(8, 64)], [0], 0xFFFFFFFF, 0x0, 0x0, 0x0⟩,
    ⟨0x414, [(8, 64)], [0], 0xFF, 0x0, 0x0, 0x0⟩,
    ⟨0x418, [(8, 64)], [0], 0xFFFFFFFF, 0x0, 0x0, 0x0⟩,
    ⟨0x41C, [(8, 64)], [0], 0x3FFFFFFF, 0x0, 0x0, 0x0⟩,
    ⟨0x420, [(8, 64), (3, 4)], [0], 0x0, 0x0, 0x0, 0x0⟩,
    ⟨0x42C, [(8, 64), (3, 4)], [0], 0x0, 0x0, 0x0, 0x0⟩ ]

/-- The register rows of page 0x031. -/
def rowsOf031 : List RegRow :=
  [ ⟨0x100, [], [0], 0x0, 0x0, 0x0, 0x0⟩,
    ⟨0x140, [(8, 8)], [0], 0x800F0FFF, 0x0, 0x0, 0x0⟩,
    ⟨0x144, [(8, 8)], [0], 0x1FFF1FFF, 0x0, 0x0, 0x0⟩ ]

/-- The register rows of page 0x032. -/
def rowsOf032 : List RegRow :=
  [ ⟨0x100, [], [0], 0x0, 0x0, 0x0, 0x0⟩,
    ⟨0x104, [], [0x25F55], 0x0, 0xFFFFF, 0x0, 0x0⟩,
    ⟨0x108, [], [0], 0x0, 0x0, 0x0, 0xFFFFFFFF⟩,
    ⟨0x10C, [], [0], 0x0, 0x0, 0x0, 0xFFFFFFFF⟩,
    ⟨0x110, [], [0], 0x0, 0x0, 0x0, 0x0⟩,
    ⟨0x114, [], [0], 0x0, 0x0, 0x0, 0x0⟩ ]

/-- The register rows of page 0x033. -/
def rowsOf033 : List RegRow :=
  [ ⟨0x100, [], [0], 0x0, 0x0, 0x0, 0x0⟩,
    ⟨0x104, [], [0], 0x0, 0x0, 0x0, 0x0⟩,
    ⟨0x200, [(16, 64), (16, 4)], [0], 0x0, 0x0, 0x0, 0x0⟩ ]

/-- The register rows of page 0x038. -/
def rowsOf038 : List RegRow :=
  [ ⟨0x100, [], [0], 0x0, 0x0, 0x0, 0x0⟩,
    ⟨0x104, [], [5], 0x0, 0x107, 0x0, 0x0⟩,
    ⟨0x108, [], [0], 0xFFFF, 0x0, 0x0, 0x0⟩,
    ⟨0x10C, [], [0], 0x0, 0x0, 0x0, 0xFFFFFFFF⟩,
    ⟨0x110, [], [0], 0x1FFFFFF, 0x0, 0x0, 0x0⟩,
    ⟨0x114, [], [0], 0x11F, 0x0, 0x0, 0x0⟩,
    ⟨0x120, [(4, 4)], [0], 0x77777777, 0x0, 0x0, 0x0⟩,
    ⟨0x800, [(32, 16), (4, 4)], [0], 0xFFFFFFFF, 0x0, 0x0, 0x0⟩,
    ⟨0xA00, [], [0], 0x0, 0x0, 0x0, 0x0⟩,
    ⟨0x400, [(8, 64)], [0], 0x0, 0x0, 0x0, 0x0⟩,
    ⟨0x404, [(8, 64)], [0], 0x0, 0x0, 0x0, 0x0⟩,
    ⟨0x408, [(8, 64)], [0], 0x0, 0x0, 0x0, 0x0⟩ ]
  ++ [ ⟨0x40C, [(8, 64)], [0], 0x0, 0x0, 0x0, 0x0⟩ ]

/-- The register rows of page 0x039. -/
def rowsOf039 : List RegRow :=
  [ ⟨0x100, [(3, 16)], [0], 0x0, 0x0, 0x0, 0x0⟩,
    ⟨0x104, [(3, 16)], [0], 0x0, 0x0, 0x0, 0xFFFFFFFF⟩,
    ⟨0x108, [(3, 16)], [0], 0x0, 0x0, 0x0, 0xFFFFFFFF⟩,
    ⟨0x180, [], [0], 0x0, 0x0, 0x0, 0x0⟩ ]

/-- The register rows of page 0x03A. -/
def rowsOf03A : List RegRow :=
  [ ⟨0x200, [(8, 32)], [0], 0x10F01, 0x0, 0x0, 0x0⟩,
    ⟨0x204, [(8, 32)], [0], 0xFFFFFFFF, 0x0, 0x0, 0x0⟩,
    ⟨0x208, [(8, 32)], [0], 0xFF, 0x0, 0x0, 0x0⟩,
    ⟨0x20C, [(8, 32)], [0], 0xFFFFFFFF, 0x0, 0x0, 0x0⟩,
    ⟨0x210, [(8, 32)], [0], 0xFF, 0x0, 0x0, 0x0⟩,
    ⟨0x214, [(8, 32)], [0], 0x0, 0x0, 0x0, 0x0⟩,
    ⟨0x400, [(8, 64)], [0], 0x0, 0x0, 0x0, 0x0⟩,
    ⟨0x404, [(8, 64)], [0], 0x0, 0x0, 0x0, 0x0⟩,
    ⟨0x408, [(8, 64)], [0], 0x0, 0x0, 0x0, 0x0⟩,
    ⟨0x40C, [(8, 64)], [0], 0x0, 0x0, 0x0, 0x0⟩,
    ⟨0x410, [(8, 64)], [0], 0x0, 0x0, 0x0, 0x0⟩,
    ⟨0x414, [(8, 64)], [0], 0x0, 0x0, 0x0, 0xFFFFFFFF⟩ ]

/-- The register rows of page 0x03B. -/
def rowsOf03B : List RegRow :=
  [ ⟨0x100, [], [0], 0x0, 0x0, 0x0, 0x0⟩,
    ⟨0x140, [(8, 4)], [0x9000, 0x9200, 0x9400, 0x9600, 0x9800, 0x9A00, 0x9C00, 0x9E00], 0xFFFF, 0x0, 0x0, 0x0⟩,
    ⟨0x400, [(8, 64)], [0], 0xFFFFFFFF, 0x0, 0x0, 0x0⟩,
    ⟨0x404, [(8, 64), (8, 4)], [0], 0x0, 0x0, 0x0, 0x0⟩ ]

/-- The register rows of page 0x040. -/
def rowsOf040 : List RegRow :=
  [ ⟨0x100, [], [0], 0x0, 0x0, 0x0, 0x0⟩,
    ⟨0x104, [], [0], 0x0, 0x0, 0x0, 0x0⟩,
    ⟨0x108, [], [0x120E0], 0x133F7, 0x0, 0x0, 0x0⟩,
    ⟨0x10C, [], [0], 0x3FFFF, 0x0, 0x0, 0x0⟩,
    ⟨0x110, [], [0], 0x3FFFF, 0x0, 0x0, 0x0⟩,
    ⟨0x114, [], [0], 0x0, 0x0, 0x0, 0x0⟩,
    ⟨0x118, [], [0], 0x0, 0x0, 0x0, 0xFFFFFFFF⟩,
    ⟨0x120, [], [0x5110FF], 0x3F31FFF, 0x0, 0x0, 0x0⟩,
    ⟨0x140, [(8, 4)], [0], 0x7FFFFF, 0x0, 0x0, 0x0⟩,
    ⟨0x160, [(4, 4)], [0], 0x3FF, 0x0, 0x0, 0x0⟩,
    ⟨0x170, [], [0], 0x0, 0x0, 0x0, 0x0⟩,
    ⟨0x180, [(4, 32), (8, 4)], [0], 0x1FFF, 0x0, 0x0, 0x0⟩ ]

/-- The register rows of page 0x041. -/
def rowsOf041 : List RegRow :=
  [ ⟨0x100, [], [0], 0x107, 0x0, 0x0, 0x0⟩,
    ⟨0x104, [], [0], 0x0, 0x0, 0x0, 0x0⟩,
    ⟨0x108, [(2, 4)], [0xF830], 0xFFFF, 0x0, 0x0, 0x0⟩,
    ⟨0x110, [], [0xC8], 0x3FF, 0x0, 0x0, 0x0⟩,
    ⟨0x114, [], [0x1F4], 0xFFF, 0x0, 0x0, 0x0⟩,
    ⟨0x118, [], [0], 0xFFFFFFFF, 0x0, 0x0, 0x0⟩,
    ⟨0x11C, [], [0], 0xFF, 0x0, 0x0, 0x0⟩,
    ⟨0x120, [], [0], 0xFFFFFFFF, 0x0, 0x0, 0x0⟩,
    ⟨0x124, [], [0], 0x0, 0x0, 0x0, 0x0⟩,
    ⟨0x128, [], [0], 0x0, 0x0, 0x0, 0xFFFFFFFF⟩ ]

/-- The register rows of page 0x044 and its family. -/
def rowsOf044 : List RegRow :=
  [ ⟨0x100, [], [0x2A00], 0x3F33, 0x0, 0x0, 0x0⟩,
    ⟨0x104, [], [0x320], 0xFFF, 0x0, 0x0, 0x0⟩,
    ⟨0x108, [], [0], 0xFFFFFFFF, 0x0, 0x0, 0x0⟩,
    ⟨0x10C, [], [0], 0xFFF, 0x0, 0x0, 0x0⟩,
    ⟨0x110, [], [1], 0x3FF, 0x0, 0x0, 0x0⟩,
    ⟨0x114, [], [0], 0xFFFFFFFF, 0x0, 0x0, 0x0⟩,
    ⟨0x118, [], [0], 0xFFFFFFFF, 0x0, 0x0, 0x0⟩,
    ⟨0x11C, [], [0], 0xFFFF, 0x0, 0x0, 0x0⟩,
    ⟨0x120, [], [0], 0x0, 0x0, 0x0, 0x0⟩,
    ⟨0x124, [], [0], 0x0, 0x0, 0x0, 0xFFFFFFFF⟩,
    ⟨0x128, [], [0], 0x1, 0x0, 0x0, 0x0⟩ ]

/-- The register rows of page 0x04A and its family. -/
def rowsOf04A : List RegRow :=
  [ ⟨0x100, [], [3], 0x3, 0x0, 0x0, 0x0⟩,
    ⟨0x104, [], [0x5DC], 0xFFF, 0x0, 0x0, 0x0⟩,
    ⟨0x108, [], [0], 0xFFFFF, 0x0, 0x0, 0x0⟩,
    ⟨0x10C, [], [0], 0xFFFFFFFF, 0x0, 0x0, 0x0⟩,
    ⟨0x110, [], [0], 0xFFFFFFFF, 0x0, 0x0, 0x0⟩,
    ⟨0x114, [], [0], 0xFFFFFFFF, 0x0, 0x0, 0x0⟩,
    ⟨0x118, [], [0], 0xFFFFFFFF, 0x0, 0x0, 0x0⟩,
    ⟨0x11C, [], [0x1F4], 0xFFFF, 0x0, 0x0, 0x0⟩,
    ⟨0x120, [], [0xDAC], 0xFFFF, 0x0, 0x0, 0x0⟩,
    ⟨0x124, [], [0], 0x0, 0x0, 0x0, 0x0⟩,
    ⟨0x128, [], [0], 0x0, 0x0, 0x0, 0xFFFFFFFF⟩,
    ⟨0x12C, [], [0], 0x0, 0x0, 0x0, 0x0⟩ ]
  ++ [ ⟨0x130, [], [0], 0xFFFFFFFF, 0x0, 0x0, 0x0⟩,
    ⟨0x134, [], [0], 0xFF, 0x0, 0x0, 0x0⟩,
    ⟨0x138, [], [0], 0x11F, 0x0, 0x0, 0x0⟩,
    ⟨0x13C, [], [0], 0xFFFFFFFF, 0x0, 0x0, 0x0⟩,
    ⟨0x140, [], [0], 0xFFFFFFFF, 0x0, 0x0, 0x0⟩,
    ⟨0x144, [], [0], 0xFFFFFFFF, 0x0, 0x0, 0x0⟩,
    ⟨0x200, [(4, 64)], [0], 0x1F, 0x0, 0x0, 0x0⟩,
    ⟨0x204, [(4, 64)], [0], 0xFFFFFFFF, 0x0, 0x0, 0x0⟩,
    ⟨0x208, [(4, 64)], [0], 0xFFFFFFFF, 0x0, 0x0, 0x0⟩,
    ⟨0x20C, [(4, 64)], [0], 0xFFFFFFFF, 0x0, 0x0, 0x0⟩,
    ⟨0x210, [(4, 64)], [0xFFFFFFFF], 0xFFFFFFFF, 0x0, 0x0, 0x0⟩,
    ⟨0x220, [(4, 64), (3, 8)], [0], 0xFFFFFFFF, 0x0, 0x0, 0x0⟩ ]
  ++ [ ⟨0x224, [(4, 64), (3, 8)], [0], 0xFF, 0x0, 0x0, 0x0⟩,
    ⟨0x238, [(4, 64)], [0], 0x0, 0x0, 0x0, 0x0⟩,
    ⟨0x23C, [(4, 64)], [0], 0x0, 0x0, 0x0, 0x0⟩ ]

/-- The register rows of page 0x04C. -/
def rowsOf04C : List RegRow :=
  [ ⟨0x100, [], [0], 0x0, 0x0, 0x0, 0x0⟩,
    ⟨0x104, [], [0], 0x7777, 0x0, 0x0, 0x0⟩,
    ⟨0x400, [(16, 64)], [0], 0x0, 0x0, 0x0, 0x0⟩,
    ⟨0x404, [(16, 64)], [0], 0x0, 0x0, 0x0, 0x0⟩,
    ⟨0x408, [(16, 64)], [0], 0xFFFFFFFF, 0x0, 0x0, 0x0⟩,
    ⟨0x40C, [(16, 64)], [0], 0xFF, 0x0, 0x0, 0x0⟩,
    ⟨0x410, [(16, 64)], [0], 0xFFFFFF, 0x0, 0x0, 0x0⟩,
    ⟨0x414, [(16, 64)], [0], 0x1FFF001F, 0x0, 0x0, 0x0⟩,
    ⟨0x418, [(16, 64)], [0], 0x0, 0x0, 0x0, 0x0⟩,
    ⟨0x41C, [(16, 64)], [0], 0x0, 0x0, 0x0, 0x0⟩,
    ⟨0x420, [(16, 64)], [0], 0x0, 0x0, 0x0, 0x0⟩,
    ⟨0x424, [(16, 64)], [0], 0x0, 0x0, 0x0, 0x0⟩ ]
  ++ [ ⟨0x428, [(16, 64)], [0], 0x0, 0x0, 0x0, 0xFFFFFFFF⟩ ]

/-- The register rows of page 0x04D and its family. -/
def rowsOf04D : List RegRow :=
  [ ⟨0x100, [], [0x147D], 0xFFFF, 0x0, 0x0, 0x0⟩,
    ⟨0x104, [], [0], 0x0, 0x0, 0x0, 0x0⟩,
    ⟨0x108, [], [0], 0x0, 0x0, 0x0, 0x0⟩,
    ⟨0x10C, [], [0], 0x0, 0x0, 0x0, 0x0⟩,
    ⟨0x140, [(4, 16)], [0], 0x7F1F07, 0x0, 0x0, 0x0⟩,
    ⟨0x144, [(4, 16)], [0], 0x1FFF, 0x0, 0x0, 0x0⟩,
    ⟨0x148, [(4, 16)], [0], 0xFFFF, 0x0, 0x0, 0x0⟩ ]

/-- The register rows of page 0x04F. -/
def rowsOf04F : List RegRow :=
  [ ⟨0x100, [], [0], 0xFFFFFF, 0x0, 0x0, 0x0⟩,
    ⟨0x104, [], [0], 0xFFFFFF, 0x0, 0x0, 0x0⟩,
    ⟨0x108, [], [0], 0x0, 0x0, 0x0, 0x0⟩,
    ⟨0x110, [], [0], 0xFFFFFF, 0x0, 0x0, 0x0⟩,
    ⟨0x114, [], [0], 0xFFFFFF, 0x0, 0x0, 0x0⟩,
    ⟨0x118, [], [0], 0x1FFFFFF, 0x0, 0x0, 0x0⟩,
    ⟨0x200, [(24, 4)], [0x10], 0xF1, 0x0, 0x0, 0x0⟩ ]

/-- The register rows of page 0x050. -/
def rowsOf050 : List RegRow :=
  [ ⟨0x100, [], [0x300], 0xFF0F, 0x0, 0x0, 0x0⟩,
    ⟨0x104, [], [0], 0x0, 0x0, 0x0, 0x0⟩,
    ⟨0x108, [], [0], 0xFFFFFFFF, 0x0, 0x0, 0x0⟩,
    ⟨0x10C, [], [0], 0xFF, 0x0, 0x0, 0x0⟩,
    ⟨0x110, [], [0], 0x0, 0x0, 0x0, 0x0⟩ ]

/-- The register rows of page 0x058 and its family. -/
def rowsOf058 : List RegRow :=
  [ ⟨0x100, [], [0], 0x0, 0x0, 0x0, 0x0⟩,
    ⟨0x104, [], [0], 0x0, 0x0, 0x0, 0x0⟩,
    ⟨0x108, [], [0], 0x0, 0x0, 0x0, 0xFFFFFFFF⟩,
    ⟨0x10C, [], [0], 0x0, 0x0, 0x0, 0x0⟩,
    ⟨0x110, [], [0], 0x0, 0x0, 0x0, 0x0⟩,
    ⟨0x114, [], [0], 0x0, 0x0, 0x0, 0x0⟩,
    ⟨0x118, [], [0], 0x0, 0x0, 0x0, 0xFFFFFFFF⟩ ]

/-- The register rows of page 0x05A. -/
def rowsOf05A : List RegRow :=
  [ ⟨0x100, [], [0], 0x0, 0x0, 0x0, 0x0⟩,
    ⟨0x104, [], [0], 0x0, 0x0, 0x0, 0x0⟩,
    ⟨0x108, [], [0], 0x0, 0x0, 0x0, 0xFFFFFFFF⟩,
    ⟨0x10C, [], [0], 0x0, 0x0, 0x0, 0x0⟩,
    ⟨0x110, [], [0], 0x0, 0x0, 0x0, 0x0⟩,
    ⟨0x114, [], [0], 0x0, 0x0, 0x0, 0x0⟩,
    ⟨0x118, [], [0], 0x0, 0x0, 0x0, 0xFFFFFFFF⟩ ]

/-- The register rows of page 0x05B. -/
def rowsOf05B : List RegRow :=
  [ ⟨0x100, [], [0], 0x0, 0x0, 0x0, 0x0⟩,
    ⟨0x104, [], [0], 0x0, 0x0, 0x0, 0x0⟩,
    ⟨0x108, [], [0], 0x0, 0x0, 0x0, 0xFFFFFFFF⟩,
    ⟨0x140, [(8, 4)], [0x80], 0x7FF, 0x0, 0x0, 0x0⟩,
    ⟨0x400, [(8, 128)], [0], 0x0, 0x0, 0x0, 0x0⟩,
    ⟨0x404, [(8, 128)], [0], 0x0, 0x0, 0x0, 0x0⟩,
    ⟨0x408, [(8, 128)], [0], 0xFFFFFFFF, 0x0, 0x0, 0x0⟩,
    ⟨0x40C, [(8, 128)], [0], 0xFF, 0x0, 0x0, 0x0⟩,
    ⟨0x410, [(8, 128)], [0], 0x1FFF3E4F, 0x0, 0x0, 0x0⟩,
    ⟨0x414, [(8, 128)], [0], 0xFFFFFFFF, 0x0, 0x0, 0x0⟩,
    ⟨0x418, [(8, 128)], [0], 0x0, 0x0, 0x0, 0x0⟩,
    ⟨0x41C, [(8, 128)], [0], 0x0, 0x0, 0x0, 0x0⟩ ]
  ++ [ ⟨0x420, [(8, 128), (8, 4)], [0], 0x0, 0x0, 0x0, 0x0⟩,
    ⟨0x440, [(8, 128)], [0], 0x0, 0x0, 0x0, 0xFFFFFFFF⟩ ]

/-- The register rows of page 0x060. -/
def rowsOf060 : List RegRow :=
  [ ⟨0x100, [], [0], 0x0, 0x0, 0x0, 0x0⟩,
    ⟨0x104, [], [0], 0x0, 0x0, 0x0, 0x0⟩,
    ⟨0x108, [], [0], 0x0, 0x0, 0x0, 0xFFFFFFFF⟩,
    ⟨0x110, [], [0], 0x173F, 0x0, 0x0, 0x0⟩,
    ⟨0x114, [], [0], 0x0, 0x0, 0x0, 0xFFFFFFFF⟩,
    ⟨0x118, [], [0], 0x0, 0x0, 0x0, 0xFFFFFFFF⟩ ]

/-- The register rows of page 0x100 and its family. -/
def rowsOf100 : List RegRow :=
  [ ⟨0x100, [], [0], 0x0, 0x0, 0x0, 0x0⟩,
    ⟨0x104, [], [0], 0x0, 0x0, 0x0, 0x0⟩,
    ⟨0x108, [], [0], 0x0, 0x0, 0x0, 0x0⟩,
    ⟨0x10C, [], [0], 0x0, 0x0, 0x0, 0x0⟩,
    ⟨0x110, [], [0], 0x3, 0x0, 0x0, 0x0⟩,
    ⟨0x114, [], [0], 0x3, 0x0, 0x0, 0x0⟩,
    ⟨0x118, [], [0], 0x0, 0x0, 0x0, 0x0⟩,
    ⟨0x11C, [], [0], 0x0, 0x0, 0x0, 0x0⟩,
    ⟨0x120, [], [0], 0x0, 0x0, 0x0, 0x0⟩,
    ⟨0x124, [], [0], 0xFFFF, 0x0, 0x0, 0x0⟩,
    ⟨0x128, [], [0], 0x0, 0x0, 0x0, 0x0⟩,
    ⟨0x12C, [], [0], 0xFFFFFF, 0x0, 0x0, 0x0⟩ ]
  ++ [ ⟨0x300, [], [0], 0x0, 0x0, 0x0, 0x0⟩,
    ⟨0x304, [], [0], 0x3FF77, 0x0, 0x0, 0x0⟩,
    ⟨0x308, [], [0], 0xFFFF, 0x0, 0x0, 0x0⟩,
    ⟨0x30C, [], [0], 0xFFFFFFFF, 0x0, 0x0, 0x0⟩,
    ⟨0x310, [], [0], 0x0, 0x0, 0x0, 0x0⟩,
    ⟨0x314, [], [0], 0x0, 0x0, 0x0, 0xFFFFFFFF⟩,
    ⟨0x320, [(2, 16)], [0, 8], 0x0, 0x0, 0x0, 0x0⟩,
    ⟨0x324, [(2, 16)], [0], 0x0, 0x0, 0x0, 0x0⟩,
    ⟨0x328, [(2, 16)], [0], 0x0, 0x0, 0x0, 0x0⟩,
    ⟨0x32C, [(2, 16)], [0xFFFFFFFF], 0x0, 0x0, 0x0, 0x0⟩,
    ⟨0x340, [(2, 4)], [0], 0x0, 0x0, 0x0, 0x0⟩,
    ⟨0x400, [], [0], 0x7F107, 0x0, 0x0, 0x0⟩ ]
  ++ [ ⟨0x404, [], [0], 0x0, 0x0, 0x0, 0x0⟩,
    ⟨0x408, [], [0], 0x0, 0x0, 0x0, 0xFFFFFFFF⟩,
    ⟨0x40C, [], [0], 0x0, 0x0, 0x0, 0x0⟩ ]

/-- The register rows of page 0x200 and its family. -/
def rowsOf200 : List RegRow :=
  [ ⟨0x100, [], [0], 0x3FF, 0x0, 0x0, 0x0⟩,
    ⟨0x104, [], [0], 0x0, 0x0, 0x0, 0x0⟩,
    ⟨0x108, [], [0], 0x0, 0x0, 0x0, 0x0⟩,
    ⟨0x10C, [], [0], 0x0, 0x0, 0x0, 0x0⟩ ]

/-- The rows of the page family whose first page is `base` (Table 2.2). -/
def rowsOf (base : Nat) : List RegRow :=
  match base with
  | 0x000 => rowsOf000
  | 0x001 => rowsOf001
  | 0x002 => rowsOf002
  | 0x003 => rowsOf003
  | 0x004 => rowsOf004
  | 0x005 => rowsOf005
  | 0x006 => rowsOf006
  | 0x007 => rowsOf007
  | 0x008 => rowsOf008
  | 0x010 => rowsOf010
  | 0x018 => rowsOf018
  | 0x020 => rowsOf020
  | 0x028 => rowsOf028
  | 0x029 => rowsOf029
  | 0x02A => rowsOf02A
  | 0x030 => rowsOf030
  | 0x031 => rowsOf031
  | 0x032 => rowsOf032
  | 0x033 => rowsOf033
  | 0x038 => rowsOf038
  | 0x039 => rowsOf039
  | 0x03A => rowsOf03A
  | 0x03B => rowsOf03B
  | 0x040 => rowsOf040
  | 0x041 => rowsOf041
  | 0x044 => rowsOf044
  | 0x04A => rowsOf04A
  | 0x04C => rowsOf04C
  | 0x04D => rowsOf04D
  | 0x04F => rowsOf04F
  | 0x050 => rowsOf050
  | 0x058 => rowsOf058
  | 0x05A => rowsOf05A
  | 0x05B => rowsOf05B
  | 0x060 => rowsOf060
  | 0x100 => rowsOf100
  | 0x200 => rowsOf200
  | _ => []

/-- The index of offset `d` past a row's start, through its arrays; none where it falls between registers. -/
def rowIndex : List (Nat × Nat) → Nat → Option (List Nat)
  | [], d => if d = 0 then some [] else none
  | (c, st) :: l, d =>
    if d / st < c then (rowIndex l (d % st)).map fun is => d / st :: is else none

/-- The row and array indices of the register at `off` of a page of the family `base`. -/
def findRow (base off : Nat) : Option (RegRow × List Nat) :=
  (rowsOf base).findSome? fun r =>
    if r.off ≤ off then (rowIndex r.dims (off - r.off)).map fun is => (r, is) else none

/-- A row's reset value at its indices. -/
def RegRow.resetAt (r : RegRow) (is : List Nat) : Nat :=
  match is with
  | [] => r.reset.getD 0 0
  | i :: _ => r.reset.getD i (r.reset.getLast?.getD 0)

end Sys2Proof.Machine
end

