-- ==== Sys2Proof/Machine/Pages.lean ====
section
/-! DEFINITION. The physical map (Table 2.1) and the page index (Table 2.2): where a page stands, which block it
belongs to, which domain powers it, and what its registers hold at reset. -/

namespace Sys2Proof.Machine

/-- A family of register pages: first page, last page, block code. -/
structure PageFam where
  first : Nat
  last : Nat
  code : Nat
deriving DecidableEq, Repr

/-- Table 2.2. -/
def pageFams : List PageFam :=
  [ ⟨0x000, 0x000, 0x0000⟩, ⟨0x001, 0x001, 0x0001⟩, ⟨0x002, 0x002, 0x0002⟩, ⟨0x003, 0x003, 0x0003⟩,
    ⟨0x004, 0x004, 0x0004⟩, ⟨0x005, 0x005, 0x0005⟩, ⟨0x006, 0x006, 0x0006⟩, ⟨0x007, 0x007, 0x0007⟩,
    ⟨0x008, 0x008, 0x0008⟩, ⟨0x010, 0x010, 0x0010⟩, ⟨0x011, 0x013, 0x0011⟩, ⟨0x018, 0x018, 0x0018⟩,
    ⟨0x020, 0x023, 0x0020⟩ ] ++
  [ ⟨0x028, 0x028, 0x0028⟩, ⟨0x029, 0x029, 0x0029⟩, ⟨0x02A, 0x02A, 0x002A⟩, ⟨0x030, 0x030, 0x0030⟩,
    ⟨0x031, 0x031, 0x0031⟩, ⟨0x032, 0x032, 0x0032⟩, ⟨0x033, 0x033, 0x0033⟩, ⟨0x038, 0x038, 0x0038⟩,
    ⟨0x039, 0x039, 0x0039⟩, ⟨0x03A, 0x03A, 0x003A⟩, ⟨0x03B, 0x03B, 0x003B⟩, ⟨0x040, 0x040, 0x0040⟩,
    ⟨0x041, 0x041, 0x0041⟩ ] ++
  [ ⟨0x044, 0x049, 0x0044⟩, ⟨0x04A, 0x04B, 0x004A⟩, ⟨0x04C, 0x04C, 0x004C⟩, ⟨0x04D, 0x04E, 0x004D⟩,
    ⟨0x04F, 0x04F, 0x004F⟩, ⟨0x050, 0x050, 0x0050⟩, ⟨0x058, 0x059, 0x0058⟩, ⟨0x05A, 0x05A, 0x005A⟩,
    ⟨0x05B, 0x05B, 0x005B⟩, ⟨0x060, 0x060, 0x0060⟩, ⟨0x100, 0x13F, 0x0100⟩, ⟨0x200, 0x27F, 0x0200⟩ ]

/-- The family of a page; none where Table 2.2 lists no such page. -/
def pageFam (p : Nat) : Option PageFam := pageFams.find? fun f => f.first ≤ p && p ≤ f.last

/-- Whether Table 2.2 lists the page. -/
def pageListed (p : Nat) : Bool := (pageFam p).isSome

/-- The first page of a listed page's family (0xFFF for an unlisted page). -/
def pageBase (p : Nat) : Nat := ((pageFam p).map (·.first)).getD 0xFFF

/-- PAGE_ID (Table 2.4): block code, instance, layout version 0x01. -/
def pageId (p : Nat) : Word :=
  match pageFam p with
  | some f => word (f.code * 0x10000 + (p - f.first) * 0x100 + 1)
  | none => 0

/-- The domain that powers a page's block registers (Table 2.2, R37), by index of Table 3.1. -/
def pageDom (p : Nat) : Nat :=
  if p < 0x010 then 0
  else if p ≤ 0x013 then 1
  else if 0x020 ≤ p ∧ p ≤ 0x023 then 0
  else if p = 0x032 ∨ p = 0x033 then 10
  else if 0x038 ≤ p ∧ p ≤ 0x03B then 9
  else if p = 0x040 then 4
  else if p = 0x041 then 5
  else if p = 0x048 then 6
  else if 0x044 ≤ p ∧ p ≤ 0x049 then 7
  else if p = 0x04A ∨ p = 0x04B then 8
  else if p = 0x058 ∨ p = 0x059 then 11
  else if p = 0x05A then 12
  else if 0x100 ≤ p ∧ p ≤ 0x13F then 32 + (p - 0x100)
  else if 0x200 ≤ p ∧ p ≤ 0x27F then 32 + (p - 0x200) / 2
  else 2

/-- The page of a register key. -/
abbrev keyPage (k : Nat) : Nat := k / 0x1000

/-- The page offset of a register key. -/
abbrev keyOff (k : Nat) : Nat := k % 0x1000

/-- The key of the register at `off` of page `p`. -/
abbrev regKey (p off : Nat) : Nat := p * 0x1000 + off

/-- The address of register key 0 (R19, R23). -/
def regBase : Nat := 0x80000000

abbrev PAGE_CTRL (p : Nat) : Nat := p * 0x1000 + 0x008
/-- The latches of PAGE_STATUS, WAKE_TIMEOUT in bit 3; its other fields are read from elsewhere. -/
abbrev PAGE_STATUS (p : Nat) : Nat := p * 0x1000 + 0x00C
abbrev IRQ_RAW (p : Nat) : Nat := p * 0x1000 + 0x010
abbrev IRQ_MASK (p : Nat) : Nat := p * 0x1000 + 0x014
abbrev IRQ_PEND (p : Nat) : Nat := p * 0x1000 + 0x018
abbrev IRQ_CLR (p : Nat) : Nat := p * 0x1000 + 0x01C
abbrev ERR_CODE (p : Nat) : Nat := p * 0x1000 + 0x020
abbrev ERR_INFO (p : Nat) : Nat := p * 0x1000 + 0x024
abbrev PAGE_LOCK (p : Nat) : Nat := p * 0x1000 + 0x028
abbrev PAGE_OWNER (p : Nat) : Nat := p * 0x1000 + 0x02C

/-- MBX_CFG at reset (Table 10.3, R222): mailboxes 0 to 2 and 63 have receivers of their own. -/
def mbxCfgReset (m : Nat) : Nat := if m < 3 then 0x4 else if m = 63 then 0xA else 0

/-- MBX_SENDERS at reset. -/
def mbxSendersReset (m : Nat) : Nat := if m = 63 then 0xFF else 1

/-- The value a register key holds at reset (the Reset columns of Table 2.3 and of the block tables). -/
def regReset (k : Nat) : Word :=
  let p := keyPage k
  let off := keyOff k
  if off < 0x100 then
    if off = 0x008 then (if p ≤ 0x010 then 1 else 0)
    else if off = 0x02C then (if 0x011 ≤ p ∧ p ≤ 0x013 then 0x80000000 else 0)
    else 0
  else
    match findRow (pageBase p) off with
    | none => 0
    | some (r, is) =>
      if 0x020 ≤ p ∧ p ≤ 0x023 ∧ 0xB00 ≤ off ∧ off < 0xC00 then
        let m := (p - 0x020) * 16 + is.headD 0
        word (if off % 16 = 0 then mbxCfgReset m else mbxSendersReset m)
      else if p = 0x038 ∧ 0x800 ≤ off ∧ off < 0xA00 ∧ off % 16 = 12 then 1
      else word (r.resetAt is)

/-- Whether domain index `d` is one of Table 3.1. -/
def domListed (d : Nat) : Bool := d ≤ 20 || (32 ≤ d && d < 96)

/-- The domains, rising. -/
def allDoms : List Nat := List.range 21 ++ (List.range 64).map (32 + ·)

/-- The quadrant of tile `t` (R8, naming). -/
def quadOf (t : Nat) : Nat := 2 * (t / 8 / 4) + t % 8 / 4

/-- The tiles of quadrant `q`, rising. -/
def tilesOf (q : Nat) : List Nat := (List.range 64).filter fun t => quadOf t == q

/-- The domains a domain needs ON (Table 3.1). -/
def needsOn (d : Nat) : List Nat :=
  if 32 ≤ d then [17 + quadOf (d - 32), 13 + quadOf (d - 32)]
  else match d with
    | 3 => [2]
    | 5 => [4]
    | 7 => [2]
    | 8 => [2]
    | 9 => [2]
    | 10 => [2]
    | 11 => [2, 3]
    | 12 => [2, 3]
    | _ => []

end Sys2Proof.Machine
end

