-- ==== Sys2Proof/Machine/Tab.lean ====
section
/-! DEFINITION. The one form of sparse data: a list of (key, value) pairs, keys strictly rising, no entry equal to
what its key reads as when it is not listed. Registers, byte memory, counters and records are all held so, and equal
contents are equal lists. -/

namespace Sys2Proof.Machine

/-- Sparse data by key; what an unlisted key reads as is given by a function `d` at each use. -/
abbrev Tab (α : Type) := List (Nat × α)

/-- The value at key `k`. -/
def Tab.get {α : Type} (d : Nat → α) : Tab α → Nat → α
  | [], k => d k
  | (j, v) :: l, k => if j = k then v else Tab.get d l k

/-- Put a listed value at key `k`, keeping the keys rising. -/
def Tab.put {α : Type} : Tab α → Nat → α → Tab α
  | [], k, v => [(k, v)]
  | (j, x) :: l, k, v => if j < k then (j, x) :: Tab.put l k v else if j = k then (k, v) :: l else (k, v) :: (j, x) :: l

/-- Remove key `k` from the list. -/
def Tab.erase {α : Type} : Tab α → Nat → Tab α
  | [], _ => []
  | (j, x) :: l, k => if j = k then Tab.erase l k else (j, x) :: Tab.erase l k

/-- Write `v` at key `k`: listing it, or removing the entry where `v` is what an unlisted key reads as. -/
def Tab.set {α : Type} [DecidableEq α] (d : Nat → α) (l : Tab α) (k : Nat) (v : α) : Tab α :=
  if v = d k then Tab.erase l k else Tab.put l k v

/-- Keys strictly rising, all above `lo`, and no entry equal to its unlisted value. -/
def Tab.wfFrom {α : Type} [DecidableEq α] (d : Nat → α) : Tab α → Nat → Bool
  | [], _ => true
  | (j, v) :: l, lo => decide (lo ≤ j) && decide (v ≠ d j) && Tab.wfFrom d l (j + 1)

/-- The canonical form. -/
def Tab.wf {α : Type} [DecidableEq α] (d : Nat → α) (l : Tab α) : Bool := Tab.wfFrom d l 0

/-- Drop every listed entry whose key `p` names: those keys read as unlisted again. -/
def Tab.clear {α : Type} (p : Nat → Bool) (l : Tab α) : Tab α := l.filter fun e => !p e.1

/-- Write consecutive keys. -/
def Tab.setList {α : Type} [DecidableEq α] (d : Nat → α) (l : Tab α) (k : Nat) : List α → Tab α
  | [] => l
  | v :: vs => Tab.setList d (Tab.set d l k v) (k + 1) vs

/-- Read `n` consecutive keys. -/
def Tab.getList {α : Type} (d : Nat → α) (l : Tab α) (k : Nat) : Nat → List α
  | 0 => []
  | n + 1 => Tab.get d l k :: Tab.getList d l (k + 1) n

end Sys2Proof.Machine
end

