-- ==== Sys2Proof/Machine/State.lean ====
section
/-! DEFINITION. The machine as plain data: every register of the spec's register tables (`regs`), and beside them the
state that the chapters give the blocks behind those registers. A field's comment names its rule. -/

namespace Sys2Proof.Machine

/-- Why a command stops the model. -/
inductive Fault where
  /-- raised by every meaning whose operands name no unit of the device (tile 70, domain 25): no such command can
  reach the hardware. Safe: the model stops where nothing can happen. -/
  | illFormed
deriving DecidableEq, Repr

/-- Why a command has no meaning. -/
inductive Refusal where
  /-- raised by an arm of exec whose command has no meaning yet. Safe. -/
  | notModelled (mnemonic : String)
deriving DecidableEq, Repr

/-- The four states of a power domain (R38). -/
inductive Pow where
  | on
  | clockstop
  | retain
  | off
deriving DecidableEq, Repr

/-- The encoding of Table 2.4, DOMAIN_STATE. -/
def Pow.code : Pow → Nat
  | .on => 0
  | .clockstop => 1
  | .retain => 2
  | .off => 3

/-- A power domain beside its registers (R43 to R56). -/
structure Dom where
  st : Pow := .off  -- R38 the state, 2 bits
  rest : Pow := .off  -- R43 the target while no request is held, 2 bits
  step : Nat := 0  -- R46 PWR_DOM_STAT.STEP: 0 none, 1 REG, 2 OSC, 3 MEM, 4 LOGIC, 5 entry
  phase : Nat := 0  -- R53 entry steps finished: 1 LOGIC, 2 MEM, 3 OSC, 4 REG
  goal : Pow := .off  -- R53 the state the entry in progress ends in
  table : Bool := false  -- R48 the rest of this wake runs in table mode
  early : Bool := false  -- R48 PWR_DOM_STAT.EARLY_LAST
  fromOff : Bool := false  -- R46 the domain's reset is asserted until LOGIC
  waiting : Bool := false  -- R36 a wake is requested and waits for needed domains or a tile slot
  stepAt : Nat := 0  -- R48 timestamp at which the current wake step started
  timing : Bool := false  -- R51 the wake timeout of the current wake counts
  t0 : Nat := 0  -- R51 timestamp of the first request of the wake
  last : Nat := 0  -- R66 LAST_WAKE, 16 bits
  held : Bool := false  -- R55 a wake waits for the entry step in progress
  tcc : Bool := false  -- R44 the event that releases the TCC's WAIT asks for ON
  isolated : Bool := false  -- R34 the domain is isolated
deriving DecidableEq, Repr

/-- A request on a domain (R43): its REQ_SRC bit (8 to 15) and who holds it. -/
structure Hold where
  src : Nat
  who : Nat
  dom : Nat
deriving DecidableEq, Repr

/-- An access that waits (R32, R33): for the wake of domain `dom`, behind those that wait for it, or, not yet checked, behind
an earlier access of its requester. -/
structure Stall where
  q : Req
  addr : Nat
  size : Nat
  wr : Bool
  data : Nat
  dom : Nat
  wake : Bool := true  -- R32 it holds an access request; one of a page without WAKE_ON_ACCESS holds none
  tlp : Option HostTlp := none  -- R391 the host write it is, with its byte enables
  behind : Bool := false  -- R33 it has not been checked: it waits for an earlier access of its requester
deriving DecidableEq, Repr

/-- How the last access or command was answered (R28): its code and read data. `code` 0x100 says that it stalls. -/
structure Resp where
  code : Nat := 0
  data : List Word := []
deriving DecidableEq, Repr

/-- What the device has put on its outputs, newest first. -/
inductive Out where
  | msix (vector : Nat) (addr : Nat) (data : Word) (stream : Option Nat)
  | pin (name : Nat) (level : Bool)
  | release (name : Nat)
  | bus (kind : Nat) (bytes : List Byte)
  | spi (cs mode div : Nat) (read : Bool) (bytes : List Byte)
  | host (addr : Nat) (wr : Bool) (tag : Nat) (bytes : List Byte) (stream : Option Nat)
  | spdm (code : Nat) (bytes : List Byte)
  | pixels (unit : Nat) (line : Nat) (data : List Word) (blank : List Nat)
  | sound (left right : Int) (cut : List Bool)
deriving DecidableEq, Repr

/-- The refusal log's entry (R134). -/
structure RefusalRec where
  ts : Nat
  addr : Nat
  cls : Nat
  index : Nat
  tenant : Nat
  write : Bool
  reason : Nat
deriving DecidableEq, Repr

/-- The AON controller (R36 to R63). -/
structure Pwr where
  doms : Tab Dom := []  -- R36 the domains by index
  slotBusy : List Nat := []  -- R50 quadrants whose 4 us tile slot is taken
  sleeping : Nat := 0  -- R54 chip-state entry: 0 none, 1 armed, 2 lowering domains
  ts : Nat := 0  -- R60 the timestamp, 64.20 fixed point
  rtcDiv : Nat := 0  -- R62 REFOSC cycles since the last AONCLK tick, 20 fraction bits (model's own divider)
  lowering : List (Nat × Pow) := []  -- R54 the domains that the chip-state entry lowers, with the state each goes to
  socWait : Bool := false  -- R362 SOC's entry to OFF waits for the DRAM's
  rails : Nat := 0  -- R53 rails that are up, one bit per output of Table 4.1
  pllRun : Nat := 0  -- R58 PLLs that run, as CLK_STATUS bits 1 to 8
  pllHeld : Nat := 0  -- R59 running PLLs that have lost lock, as CLK_STATUS bits 1 to 8
  refBad : Bool := false  -- R59 REFOSC has failed while it ran
  chipOff : Bool := false  -- R92 VBAT is below brown-out
  asleep : Bool := false  -- R57 a chip-state entry has finished and no wake source has fired since
deriving DecidableEq, Repr

/-- A skein record (Table 17.2). -/
structure Skein where
  valid : Bool := false  -- R347 record in use
  tenant : Nat := 0  -- R347 owner, 3 bits
  tier : Nat := 0  -- R347 0 T0, 1 T1, 2 T2
  shared : Bool := false  -- R347 KIND
  job : Bool := false  -- R347 SCOPE JOB
  held : Nat := 0  -- R347 HELD, 18 bits
  base : Nat := 0  -- R347 first granule, 18 bits
  limit : Nat := 0  -- R347 last granule, 18 bits
  quota : Nat := 0  -- R347 maximum HELD, 18 bits
  deleting : Bool := false  -- R351 deleted, waits until its last granule is FREE
deriving DecidableEq, Repr

/-- A line a tenant's pool cache holds (R353): its way, its T2 line number, whether it is dirty. -/
structure CLine where
  way : Nat
  line : Nat
  dirty : Bool
deriving DecidableEq, Repr

/-- A MOVE in the shared queue (R357, R358). -/
structure Move where
  tenant : Nat
  src : Nat
  dst : Nat
  len : Nat
  rel : Bool
  note : Word
  origin : Nat  -- R358 0 to 7 window, 8 scheduler (spill), 16 + r ring r
  job : Nat  -- R358 the job or ring command that submitted it
  tile : Option Nat := none  -- R358 the tile that submitted it
deriving DecidableEq, Repr

/-- A cache maintenance operation of a tenant (R355): 2 CLEAN, 3 FLUSH, 4 INVALIDATE; `origin` and `note` as for a MOVE. -/
structure CacheOp where
  kind : Nat
  start : Nat
  len : Nat
  origin : Nat
  rseq : Nat
  note : Word := 0
deriving DecidableEq, Repr

/-- Memory tiers (R343 to R362). -/
structure Mem where
  bytes : List Host.Cell := []  -- R19 boot ROM, AON SRAM, pool, T0 and T2 by physical address, 8 bits each
  poison : Tab Bool := []  -- R264, R356 poison tags by physical address / 32
  own : Tab Nat := []  -- R345 ownership entries by tier * 0x40000 + granule, 16 bits
  t2Next : Nat := 131072  -- R362 T2 granules from here up are WIPING since the DRAM left OFF
  skeins : Tab Skein := []  -- R347 the 64 records
  wipe01 : List Nat := []  -- R352 WIPING granules of T0 and T1 in order
  wipe2 : List Nat := []  -- R352 WIPING granules of T2 in order
  moves : List Move := []  -- R358 the shared queue of 8
  moving : Bool := false  -- R358 the head MOVE has started
  cache : Tab (List CLine) := []  -- R353 lines by tenant * 1024 + set, most recently used first
  flushing : List (Nat × Bool × Word × Req) := []  -- R355 tenants whose configuration flush runs, with the write that waits (WIN or SETS)
  done : List (Nat × Nat × Nat) := []  -- R358 endings that wait for the scheduler or a ring: origin, job or sequence number, code
  ops : List (Nat × CacheOp) := []  -- R355 cache maintenance in progress, by tenant
deriving DecidableEq, Repr

/-- The mailbox unit beside its registers (R205 to R213). -/
structure Mbx where
  staging : Tab Word := []  -- R207 staging word w of mailbox m at m * 16 + w, 32 bits
  claims : List (Nat × Req × Nat) := []  -- R207 who claims a staging buffer and the time of its last write, by mailbox
  held : List Nat := []  -- R212 host mailboxes whose message waits until HOST is ON
deriving DecidableEq, Repr

/-- The MSI-X and power-management part of the function's configuration space (R390, R395). -/
structure PciCfg where
  msixEnable : Bool := false  -- R395 MSI-X Enable
  fnMask : Bool := false  -- R395 function mask
  aspmL1 : Bool := false  -- R396 ASPM L1 enabled
  aspmL12 : Bool := false  -- R396 L1.2 enabled
  ideEnable : List Nat := []  -- R401 streams whose IDE capability is enabled
  ideAssoc : List (Nat × Nat × Nat) := []  -- R393 address associations of selective streams: stream, first, last host address
deriving DecidableEq, Repr

/-- The stitch counters (R266 to R272). -/
structure Stitch where
  value : Tab Word := []  -- R266 VALUE word by global index, 131,072 of 32 bits
  config : Tab Word := []  -- R266 CONFIG word by global index, 131,072 of 32 bits
  sb : List (Nat × Nat × Bool) := []  -- R270 scoreboard notifications on their way to the scheduler: index, OWNER, marked STALE
deriving DecidableEq, Repr

/-- The measurement and caps of one rail beside its registers (R72 to R75). -/
structure Rail where
  hist : List Nat := []  -- R73 the last fifty current codes, newest first, 10 bits each
  acc : Nat := 0  -- R73 power summed over the current millisecond, nW
  n : Nat := 0  -- R73 samples in the current millisecond
  energy : Nat := 0  -- R73 energy, fJ (CAP_ENERGY counts whole uJ, 64 bits)
  warnLevel : Nat := 0  -- R74 the stretch level before any HARD action, 3 bits
  floor : Nat := 8  -- R75 the rail's HARD floor as an OPP; 8 limits nothing
deriving DecidableEq, Repr

/-- A quadrant's operating-point change (R81): where VR_TQq and PLL_TQq stood as it started, and the OPP they go to. -/
structure Slew where
  tq : Nat := 0  -- R81 millivolts at the start
  mhz : Nat := 0  -- R81 megahertz at the start
  at_ : Nat := 0  -- R81 timestamp of the start
  opp : Nat := 0  -- R81 the OPP it goes to, 3 bits
deriving DecidableEq, Repr

/-- CAP beside its registers (R72 to R86). -/
structure Cap where
  rails : Tab Rail := []  -- R72 by rail index, 12
  total : Nat := 0  -- R73 1 ms totals summed over the current second, mW
  totalN : Nat := 0  -- R73 milliseconds in the current second
  env : Nat := 7  -- R82 envelope allowance, 3 bits
  skin : Nat := 7  -- R83 skin allowance, 3 bits
  pf : Nat := 0  -- R83 filtered power, mW
  vbat : Nat := 7  -- R84 VBAT allowance, 3 bits
  therm : List Nat := [7, 7, 7, 7]  -- R86 thermal allowance of each quadrant, 3 bits
  critical : Bool := false  -- R86 a sensor has been above CRITICAL and not every sensor is cool yet
  ovr : List Nat := [0, 0, 0, 0, 0, 0, 0, 0, 0]  -- R86 consecutive samples above SHUTDOWN per sensor
  hot : Bool := false  -- R86 held in DORMANT by a thermal shutdown
  droop : List Nat := []  -- R77 quadrants in droop
  slew : Tab Slew := []  -- R81 the last change of each quadrant's operating point
  wgtFrom : Nat := 700  -- R70, R81 millivolts of VR_WGT as its last change started
  wgtTo : Nat := 700  -- R70, R81 millivolts it goes to
  wgtAt : Nat := 0  -- R81 timestamp at which that change starts
  seen : List Nat := []  -- R91 sensors with a reading since CAP_TS_MAX was last read
  brown : Nat := 0  -- R84 consecutive VBAT samples below 2.7 V
deriving DecidableEq, Repr

/-- The fuses: the field map of Table 6.1, the grade (Table 0.2) and the AONCLK trim. -/
structure Fuses where
  map : Nat := 0x33 * 2 ^ 384  -- R111 UDS, LC, keys, ROLLBACK, DEVID_DIGEST, SERIAL, 3532 bits
  grade : Nat := 1  -- R3 GLB_CHIP_ID.GRADE, 8 bits
  aonTrim : Nat := 0  -- R67 AONCLK trim code, 8 bits
deriving DecidableEq, Repr

/-- Cast-on, bind-off and the lifeline beside their registers (R92 to R108). -/
structure Life where
  booting : Bool := false  -- R93 an attempt runs, its step is STEP_ENTERED
  tries : Nat := 0  -- R106 attempts since the last ready or cold reset, without the saturation of ATTEMPT
  start : Nat := 0  -- R109 timestamp of the attempt's start
  stepAt : Nat := 0  -- R101 timestamp at which the entered step started
  alt : List Nat := []  -- R103 steps that run on their ALTERNATE path in this attempt
  detail : Tab Nat := []  -- R103 DETAIL of the last failure of a step, 16 bits
  ready : Bool := false  -- R102 step 15 is done
  ended : Bool := false  -- R114 cast-on ended after step 2
  bindStage : Nat := 0  -- R108 bind-off stage in progress, 0 none
  stageAt : Nat := 0  -- R108 timestamp at which it started
  parked : Bool := false  -- R106, R108 halted or parked: only HOST_WAKE_IN and SYS_RST_N act
  bound : Bool := false  -- R108 bind-off is done: the next wake is a warm cast-on with CAUSE 7
  fresh : Bool := true  -- R102 the next cast-on restarts ATTEMPT at 1
  rptCfg : Option (Word × Word × List (List Word)) := none  -- R386 RPT_CFG, RPT_PERIOD and rows of the section taken at step 11
  fuseQ : List (Nat × Nat) := []  -- R111 fuse bits to blow, in order: bit of Table 6.1, 1 COMMIT_ROLLBACK or 2 Adsel command
deriving DecidableEq, Repr

/-- A tenant as Adsel holds it (R115 to R118). -/
structure Tenant where
  consent : Bool := false  -- R116 DEBUG_CONSENT
  hostBound : Bool := false  -- R116 HOST_BOUND
  measurement : List Byte := []  -- R117 SHA-384 of the descriptor
  pages : List Nat := []  -- R117 pages assigned
  codeDigest : List Byte := []  -- R116 CODE_DIGEST
deriving DecidableEq, Repr

/-- What a key slot holds (Table 6.4): 1 DeviceID, 2 alias, 3 XTS pair, 4 IDE key set, 5 bounce keys; `id` names the key
material, which is no part of the model. -/
structure KeySlot where
  kind : Nat := 0  -- R120
  tenant : Nat := 0  -- R120
  id : Nat := 0  -- R120 name of the secret
deriving DecidableEq, Repr

/-- A T2 encryption region (R122). -/
structure Region where
  base : Nat := 0  -- R122 first MiB, 20 bits
  limit : Nat := 0  -- R122 last MiB, 20 bits
  slot : Nat := 0  -- R122 KEYSLOT, 5 bits
  tenant : Nat := 0  -- R122 TENANT, 3 bits
  valid : Bool := false  -- R122 VALID
  gen : Nat := 0  -- R122 GENERATION, 16 bits
deriving DecidableEq, Repr

/-- A window command Adsel holds (R135, R139), as it was accepted. -/
structure AdselCmd where
  q : Req  -- who wrote it
  cmd : Word  -- ADSEL_T_CMD
  kind : Nat  -- 0 waits for the firmware, 1 accepted, 2 refused, 3 bad opcode, 4 stale, 5 its fuses blow
  addr : Nat  -- buffer address, 40 bits
  len : Nat  -- buffer length, 32 bits
  range : List Byte := []  -- R123 the base and end of a REGION_ADD, as they were judged
deriving DecidableEq, Repr

/-- Adsel beside its page (R110 to R139). -/
structure Adsel where
  tenants : Tab Tenant := []  -- R115 tenants 1 to 7
  keys : Tab KeySlot := []  -- R120 the 32 key slots
  regions : Tab Region := []  -- R122 the 16 regions
  cmds : Tab (Option AdselCmd) := []  -- R139 the command each window holds
  image : List Byte := []  -- R128 the response image collected from mailbox 63
  next : Nat := 0  -- R128 the message index expected next
  serving : Option Nat := none  -- R139 the window whose command runs
  challengeAt : Nat := 0  -- R127 timestamp at which the live nonce was drawn
  mbxResp : Option (List Byte) := none  -- R129 a response completed through mailbox 63, not yet sampled
  tapResp : Option (List Byte) := none  -- R129 a response completed through the TAP, not yet sampled
  posts : List (Nat × Option Nat) := []  -- R129 outcomes to post: end of the tick; none refused, else the level
  tapChallenge : Bool := false  -- R433 the TAP has asked for a challenge while SEC was not ON
  teardown : List Nat := []  -- R118 tenants in teardown
  wiping : List Nat := []  -- R118 those of them whose steps 2 to 4 have run and whose wipe may still run
  castOn : List Nat := []  -- R125 CAUSE, ATTEMPT, DEGRADE and ACTIVE_SLOT at the Adsel start
  starting : Bool := false  -- R137 the ROM runs outside cast-on
  chain : List Byte := []  -- R124 the chain that ends in the alias certificate
  rptCopy : List (Nat × List Word) := []  -- R136 the Repeat Table rows as last committed
deriving DecidableEq, Repr

/-- A stream beside its window registers (R178 to R183). -/
structure Strm where
  next : Nat := 0  -- R180 the command that waits for the endpoint boundary: 1 START, 2 PAUSE, 3 RESUME; 0 none
  cap : Bool := false  -- R179 a buffer is open: a frame or records go into it, or samples come from it
  ended : Bool := false  -- R179 the open buffer's frame has ended, or its samples are used up
  len : Nat := 0  -- R179 data bytes written, or read, so far
  size : Nat := 0  -- R179 LENGTH of the open output buffer
  ts0 : Nat := 0  -- R179 stamp of the frame start or first record, 64 bits
  ts1 : Nat := 0  -- R179 stamp of the frame end or last record, 64 bits
  flags : Nat := 0  -- R179 FLAGS of Table 8.2, 3 bits
deriving DecidableEq, Repr

/-- A CSI-2 receiver and its light ISP beside their registers (R164 to R168). -/
structure Cam where
  frame : Bool := false  -- R165 between FS and FE
  done : Bool := false  -- R167 FE has come, output lines may be left
  lines : List (List Nat) := []  -- R166 the frame's lines so far, oldest first, unpacked sensor values
  bad : Bool := false  -- R165 a line length has differed from CSI_SIZE
  frames : Nat := 0  -- R310 frames started (model's own count, names the frame a Hook descriptor waits for)
  ring : List (Nat × List (List Nat)) := []  -- R167 the 16-line output ring: line number, its values by channel
  fsAt : Nat := 0  -- R168 when the last FS, START or timeout was, 64 bits
deriving DecidableEq, Repr

/-- A layer of a display beside its registers (R175). -/
structure DLayer where
  tags : List Nat := [0, 0, 0]  -- R175 TAG of each slot, 16 bits
  poses : List (List Byte) := [[], [], []]  -- R175 render pose of each slot, 64 bytes
  shown : Bool := false  -- R175 a slot has been shown since EN was set or the stream was started
  hidden : Bool := true  -- R175 the layer is hidden in the latched frame
deriving DecidableEq, Repr

/-- A DSI-2 transmitter beside its registers (R172 to R177). -/
structure Dsi where
  layers : List DLayer := [{}, {}, {}, {}]  -- R174 the four layers
  pose : List Byte := []  -- R176 the last pose record read whole
  display : List Byte := []  -- R176 the display pose of the latched frame
  late : Bool := false  -- R177 this frame has had an underrun
  dcs : List Word := []  -- R172 DCS short writes that wait for vertical blanking
  line : Option Nat := none  -- R173 the next line of the frame being sent
deriving DecidableEq, Repr

/-- An auto-read entry of I3C0 (R171). -/
structure AutoRead where
  wait : Bool := false  -- R171 triggered, its read is pending
  stamp : Nat := 0  -- R171 64 bits
  merged : Bool := false  -- R171 a further trigger was merged
deriving DecidableEq, Repr

/-- An I3C controller's FIFO and the command in progress (R170). -/
structure I3c where
  fifo : List Word := []  -- R170 the 16-word FIFO, oldest first
  cmd : Word := 0  -- R170 the command in progress
  held : List Byte := []  -- R171 its bytes, while an auto-read is on the bus
deriving DecidableEq, Repr

/-- A cascaded integrator-comb filter (R142, R145): its integrators and combs, and the inputs since its last output. -/
structure Cic where
  ints : List Word  -- R142 one per order
  combs : List Word  -- R142 one per order
  n : Nat := 0  -- R142
deriving DecidableEq, Repr

/-- A speaker driver beside its registers (R157, R158). -/
structure Spk where
  ovr : Nat := 0  -- R157 consecutive samples above ILIM
  muted : Bool := false  -- R157 muted by the current limit
  mutedAt : Nat := 0  -- R157 since when, 64 bits
  ramp : Nat := 480  -- R157 samples since the gain started to ramp back
  last : Int := 0  -- R158 the last sample played
  atten : Nat := 0  -- R157 dB taken off by the power limit
deriving DecidableEq, Repr

/-- The audio block beside its registers (R140 to R159). -/
structure Audio where
  lpBlk : Nat := 0  -- R143 samples of the current stream 6 block
  hqBlk : Nat := 0  -- R149 frames of the current stream 7 block
  hist : List (List Int) := []  -- R146 the delay lines: frames of calibrated samples, newest first
  beams : List (List Word) := [[], [], [], []]  -- R148 AUD_BEAM_CTRL and the eight delays in use, per beam
  spk : List Spk := [{}, {}]  -- R157 the two drivers
  silent : Bool := false  -- R158 stream 9 is in underrun
  fade : Nat := 32  -- R158 samples since that underrun began, or since it ended
  clk : List Nat := [1, 1]  -- R141 the rate PDM_CLK0 and PDM_CLK1 run at while they run: 1 768 kHz, 2 3.072 MHz
  lpTill : Nat := 0  -- R141 when the low-power path has settled, 64 bits
  hqTill : Nat := 0  -- R141 when the high-quality path has settled, 64 bits
  lpCic : Cic := ⟨[0, 0, 0, 0], [0, 0, 0, 0], 0⟩  -- R142
  lpFir : Nat := 0  -- R142 state of the filters behind it (the model's name for it)
  hqCic : List Cic := List.replicate 8 ⟨[0, 0, 0, 0, 0], [0, 0, 0, 0, 0], 0⟩  -- R145 by microphone
  hqFir : List Nat := [0, 0, 0, 0, 0, 0, 0, 0]  -- R145 state of the FIR filter behind it, by microphone (the model's name for it)
deriving DecidableEq, Repr

/-- A Hook engine beside its registers (R302 to R312). -/
structure Hook where
  queue : List (Nat × Req) := []  -- R307 descriptor addresses / 64 with who enqueued them, the active one first
  active : Bool := false  -- R307 the head is active
  desc : List Byte := []  -- R303 the active descriptor, 64 bytes
  row : Nat := 0  -- R308 the next output row, 16 bits
  frame : Nat := 0  -- R310 frames the receiver had started at activation
  wbuf : Option (List Byte) := none  -- R307 the weight buffer, none while it is empty
deriving DecidableEq, Repr

/-- A LIVE entry of the state table (Table 15.1). -/
structure SEntry where
  ptr : Nat := 0  -- R314 STATE_PTR, 40 bits
  op : Nat := 0  -- R314 OP, 3 bits
  fmt : Bool := false  -- R314 FMT
  reset : Bool := false  -- R314 RESET
  pause : Bool := false  -- R314 PAUSE
  asig : Bool := false  -- R314 A_SIG
  cur : Nat := 0  -- R314 CUR, 1 bit
  sat : Bool := false  -- R314 SAT
  km1 : Nat := 0  -- R314 KM1, 5 bits
  pos : Nat := 0  -- R314 RING_POS, 5 bits
  owner : Nat := 0  -- R314 OWNER, 3 bits
  n : Nat := 0  -- R314 N, 13 bits
  scale : Word := 0  -- R314 STATE_SCALE
  step : Word := 0  -- R314 STEP
  gen : Nat := 0  -- R314 GENERATION, 16 bits
deriving DecidableEq, Repr

/-- The recurrent state unit (R314 to R326). -/
structure StateUnit where
  table : Tab (Option SEntry) := []  -- R314 the 1,024 entries, none = FREE
  queue : List (Nat × Nat × Req) := []  -- R319 descriptor addresses / 64, the submitting tenant, who submitted; active first
  active : Option (List Byte × Bool) := none  -- R320 the active step's descriptor and whether it is a reset step
  again : Bool := false  -- R318 RESET has been set on the active step's entry during the step
  ends : List (Nat × Nat) := []  -- R322 END commands that wait: window, entry
  lost : List Nat := []  -- R324 tenants that held entries when SOC went OFF
deriving DecidableEq, Repr

/-- The voxel engine beside its registers (R328 to R341). -/
structure Vox where
  queue : List (Nat × Req) := []  -- R328 descriptor addresses / 64 with who enqueued them, the active one first
  active : Bool := false  -- R328 the head is active
  desc : List Byte := []  -- R331 the active descriptor, 128 bytes
  wait : Option Nat := none  -- R340 the HW_SEQ and index stream 5 had when the step began to wait
  fin : Option Nat := none  -- R309 the code the step's work ended with
  ovr : Bool := false  -- R334 OVERFLOW
  dropped : Nat := 0  -- R334 DROPPED, 24 bits
  aux : Nat := 0  -- R331 AUX
  wbuf : Option (List Byte) := none  -- R336 the weight buffer
deriving DecidableEq, Repr

/-- The always-on engine beside its registers (R188 to R191). -/
structure Aie where
  model : List Byte := []  -- R188 model memory, 32 KiB
  act : Tab Byte := []  -- R188 activation memory, 8 KiB
  samples : List Int := []  -- R189 the newest 400 stream 6 samples, newest first
  hop : Nat := 0  -- R189 samples since the last hop
  frames : List (List Int) := []  -- R189 feature frames, newest first, 98 at most
  audioReady : Bool := false  -- R189 a hop is ready to start AUDIO
  vision : Option (List Int) := none  -- R189 a frame is ready to start VISION, 64 x 48 values
  audioIn : List Int := []  -- R189 input of the AUDIO run in progress
  visionIn : List Int := []  -- R189 input of the VISION run in progress
  held : List (Nat × Int) := []  -- R95 results held until step 15, oldest first: score number and value
deriving DecidableEq, Repr

/-- A ply beside its descriptor (R192 to R198). -/
structure Ply where
  t0 : Nat := 0  -- R194 timestamp of the trigger
  src : Nat := 0  -- R204 the source that triggered the climb, 4 bits
  score : Nat := 0  -- R204 the score of that update, 16 bits
  due : Bool := false  -- R196 the sleep timer has expired and the descent waits
  timer : Nat := 0  -- R196 timestamp at which the sleep timer last started
deriving DecidableEq, Repr

/-- The weight banks beside their registers (R277 to R292). -/
structure Wgt where
  bytes : Tab Byte := []  -- R277 contents by load-window address, 2 banks of 512 KiB per tile
  map : Tab Bool := []  -- R284 granule maps by load-window address / 32
  seals : List (Nat × Nat × Bool) := []  -- R287 seals in progress: tile, bank, VERIFY
  flips : List (Nat × Bool) := []  -- R289 flips in progress: tile, by a page command
  zeroing : List (Nat × Nat × Option (Word × Word)) := []  -- R288 banks being cleared: tile, bank, the record a declare leaves (STAT, MODEL_ID)
  lost : List Nat := []  -- R292 tiles whose contents are lost, recorded at the next wake
deriving DecidableEq, Repr

/-- A queued CIM.MAC (R279, R280). -/
structure CimOp where
  bank : Nat
  entry : Nat
  row : Nat
  clear : Bool
  acts : List Byte
deriving DecidableEq, Repr

/-- What the X slot of the bundle at PC has computed, kept until the S slot issues and both results are written (R227). -/
structure XRes where
  fault : Option (Nat × Nat) := none  -- R246 code and info
  v : Option (Nat × List Byte) := none  -- R236 vector register written
  g : Option (Nat × Word) := none  -- R229 general register written
  acc : Option (Nat × List Word) := none  -- R237 accumulator written
  tag : Option Bool := none  -- R229 its type tag, true = FP32
  flags : Nat := 0  -- R234 INV, OVF, SAT as bits 0 to 2
  store : Option (Nat × List Byte) := none  -- R230 scratchpad offset and bytes stored
  mac : Option CimOp := none  -- R238 CIM.MAC queued
  clr : Option Nat := none  -- R238 output entry zeroed
  ev : Nat := 0  -- R442 the event of Table 21.2 it counts as, 0 none
  sw : Word := 0  -- R232 the S word of the same bundle, fetched with the X word
deriving DecidableEq, Repr

/-- Why the S slot stalls with its bundle issued: the register it writes and F; `kind` 0 a global load, 1 a MSG with
d, 2 a remote STITCH with d. -/
structure Await where
  kind : Nat
  d : Nat
  f : Bool
deriving DecidableEq, Repr

/-- An outstanding request of a mesh port (R257): its tag, whether it is a STITCH, whether the S slot waits for it, F,
where a GET's data goes, the PC of the bundle that sent it, and whether the DMA engine moves data with it. -/
structure Outst where
  tag : Nat
  stitch : Bool
  wait : Bool
  f : Bool
  get : Bool
  loc : Nat
  pc : Nat
  dma : Bool := false
deriving DecidableEq, Repr

/-- A tile beside its page's registers (R225 to R249, R263). -/
structure Tile where
  g : Tab Word := []  -- R225 g1 to g31, 32 bits
  v : Tab (List Byte) := []  -- R225 v0 to v31, 64 bytes each
  acc : Tab Word := []  -- R225 accumulator element at 256 * m + 16 * row + lane, 32 bits
  fp32 : List Nat := []  -- R225 accumulators tagged FP32
  cim : Tab Word := []  -- R225 CIM output at 128 * entry + column, 32 bits
  ccr : Tab Word := []  -- R248 the CCRs that are no TILE page register, by number
  x : Option XRes := none  -- R227 the X slot's results, waiting for the S slot
  prev : Option Nat := none  -- R244 tenant of the previous program
  await : Option Await := none  -- R231, R262, R269 the S slot stalls for a response
  wait : Option (Nat × Nat × Bool) := none  -- R240 WAIT in progress: d, mask or mailbox, WAIT.M
  sleep : Nat := 0  -- R241 a request for the SLEEP state is due: 1 after a WAIT, 2 after an END
  dma : List (Nat × List Byte) := []  -- R233 the queue of 8: the job's tenant and a descriptor of 32 bytes, the active one first
  dmaOn : Bool := false  -- R233 the head's transfer has started
  dmaPos : Nat := 0  -- R233 bytes of it moved
  dmaCode : Option Nat := none  -- R233 the code at which it stopped
  stage : List Byte := []  -- R261 the staging buffer, 16 KiB
  stageBad : List Nat := []  -- R261 its 32-byte granules marked poisoned
  stg : List (Bool × Nat) := []  -- R231 posted global stores in flight, oldest first: their F and their bundle's PC
  cimQ : List CimOp := []  -- R280 the queue of two
  out : List Outst := []  -- R257 outstanding requests, 32 at most
  inbox : List (Nat × Nat × Nat) := []  -- R263 occupied slots, oldest first: slot, LENGTH, SRC
  preempt : Bool := false  -- R375 PREEMPT is raised
  yielded : Bool := false  -- R375 stopped at a YIELD
  parked : Bool := false  -- R373 the core is stopped for a reserved switch
  frogDue : Bool := false  -- R246, R247 a frog of the tile has been asked for
  code : Nat := 0  -- R379 the fault code or common code that asked for it
  chk : Option (Nat × Nat) := none  -- R376 the last CHKPT value and when it was reported
  haltReq : Bool := false  -- R435 a halt is due at the next bundle boundary
  steps : Nat := 0  -- R436 bundles that a step still issues
deriving DecidableEq, Repr

/-- A message in the mesh or on the AON side path (Table 12.2, R254, R260). -/
structure Msg where
  kind : Nat  -- R254 TYPE
  port : Nat  -- R254 SRC_PORT
  src : Nat  -- R254 SRC, the sender's router
  dst : Nat  -- R254 DST, the receiver's router
  cls : Nat  -- R254 CLASS of the requester
  ten : Nat  -- R254 TENANT
  tag : Nat  -- R254 TAG
  len : Nat  -- R254 LENGTH
  addr : Nat  -- R254 ADDR
  oper : Word  -- R254 OPERAND
  aux : Word  -- R254 AUX
  resp : Bool := false  -- R254 RESP
  code : Nat := 0  -- R254 CODE
  data : List Byte := []  -- R255 payload
  bad : List Nat := []  -- R264 32-byte granules of the payload marked poisoned
  fenced : Bool := false  -- R265 POISON set by a fence
  atPort : Bool := false  -- R259 an ending that the requester's own port gives
deriving DecidableEq, Repr

/-- A job (R366 to R379). -/
structure Job where
  id : Nat  -- R369 identifier, 16 bits
  ten : Nat  -- R367 tenant
  addr : Nat  -- R366 descriptor address
  d : List Byte  -- R366 the descriptor, 64 bytes
  sw : Option (Nat × List Byte) := none  -- R366 swatch descriptor: address, 64 bytes
  st : Nat := 2  -- R369 1 PENDING, 2 READY, 3 RUNNING, 4 SWITCHED, 5 SPILLED, 6 ENDED
  rel : Nat := 0  -- R376 release, timestamp
  period : Nat := 0  -- R385 period count of an instance
  placed : Bool := false  -- R371 its tiles are held for it
  switching : Bool := false  -- R373 a reserved switch for it is in progress
  ovr : List Nat := []  -- R375, R379 the tiles that had executed END when it was switched out or spilled
  start : Nat := 0  -- R376 dispatch time
  swatch : Bool := false  -- R377 this is the swatch of the job it replaced
  code : Nat := 0  -- R379 last code
  ending : Option (Nat × Nat × Nat) := none  -- R379 code, INFO and tile of an ending whose frogs run
  spill : Nat := 0  -- R375 1 waits for YIELDs, 2 for its tiles' work, 3 moves, 4 spilled, 5 moves back, 6 moves back after a failure
  spillFor : Nat := 0  -- R375 slot of the job it is spilled for
  noSpill : Bool := false  -- R375 a spill for it has failed
  moves : List (Nat × Nat × Nat) := []  -- R375 its spill MOVEs: source, destination, length
  todo : List (Nat × Nat × Nat) := []  -- R375 those not yet submitted
  bad : Bool := false  -- R375 one of them has failed
  skip : List Nat := []  -- R373 switched-out tiles that stood in a WAIT
  chk : List (Nat × Nat × Nat) := []  -- R376 last CHKPT of switched-out tiles: tile, value, time
  dep : Bool := true  -- R370 DEP is met
  ring : Option (Nat × Nat) := none  -- R417 ring and sequence number that submitted it
deriving DecidableEq, Repr

/-- The scheduler beside its registers (R366 to R379). -/
structure Sched where
  jobs : Tab (Option Job) := []  -- R369 by slot: 0 to 255 submitted, 256 + row instances
  seqs : Tab Nat := []  -- R369 last sequence number of a slot, 1 to 127
  sb : List (Nat × Nat × Bool) := []  -- R370 scoreboard, oldest first: index, OWNER, STALE; 256
  submits : Tab (Option Nat) := []  -- R368 address submitted in a window, awaiting its post
  cancels : Tab (Option Nat) := []  -- R379 job to cancel in a window, awaiting its post
  beatAt : Nat := 0  -- R136 timestamp of the last heartbeat, or of the admission that ended a time without work
  flipMask : Option Nat := none  -- R389 SCH_FLIP_CMD accepted: the mask
  flipOn : Bool := false  -- R290 its flips run
deriving DecidableEq, Repr

/-- The Repeat Table beside its registers (R380 to R386). -/
structure Rpt where
  shadow : Tab Word := []  -- R381 shadow word w of row r at 4 * r + w, 32 bits
  live : Tab Word := []  -- R381 live word w of row r at 4 * r + w, 32 bits
  commits : Tab (Option (List (Nat × List Word))) := []  -- R381 rows a window has committed, awaiting their post
  goLive : List (Nat × List Word) := []  -- R381 committed rows that become live at the next period start
  stat : Tab Word := []  -- R389 RPT_T_ROWSTAT by row
  a16 : Nat := 0  -- R382 A_n in 1/16 tick
  next16 : Nat := 0  -- R382 A_(n+1) in 1/16 tick
  wait0 : Bool := false  -- R382 waits for the lock event that is A_0
  from0 : Nat := 0  -- R383 the earliest time of that event
  got : Bool := false  -- R382 this period's lock event has come
  missed : Bool := false  -- R382 this period free-runs
  events : List Nat := []  -- R382 stamped events of the table's stream that it has not taken yet, oldest first
  early : Option Nat := none  -- R382 the next period's lock event, come before its start
  streak : Nat := 0  -- R382 successive periods within CAPTURE
  cfg : Word := 0  -- R383 RPT_CFG in force
  capture : Nat := 0  -- R383 RPT_CAPTURE in force
  restart : Bool := false  -- R383 the lock restarts at the next period start
  due : List (Nat × Nat × Nat) := []  -- R385 rows to schedule: row, period count, scheduled time in 1/16 tick
  first : Bool := false  -- R382 the next period is period 0
  leads : List (Nat × Nat) := []  -- R384 rows requested: row, period count
  skips : List (Nat × Nat) := []  -- R385 rows skipped: row, period count
deriving DecidableEq, Repr

/-- An outbound read that awaits its completion (R394): its tag, 0 for an LDG, 1 for a DMA block or 2 for
a DBG_ACCESS, the tile. -/
structure OutRead where
  tag : Nat
  kind : Nat
  tile : Nat
  addr : Nat
  len : Nat
  since : Nat  -- R394 when it was issued
deriving DecidableEq, Repr

/-- An SPDM request to Adsel (R399 to R404), with what the rule gives it. -/
inductive SpdmReq where
  | version
  | capabilities
  | algorithms (ok : Bool)
  | digests
  | certificate (slot offset len : Nat)
  | challenge (slot nonce : Nat)
  | keyExchange (slot session pub : Nat)
  | finish (session : Nat) (ok : Bool)
  | keyUpdate (session : Nat)
  | heartbeat (session : Nat)
  | endSession (session : Nat)
  | bounceBind (session : Nat)
  | bounceUnbind (session : Nat)
  | keyProg (session stream : Nat) (rx : Bool)
  | kSetGo (session stream : Nat) (rx : Bool)
  | lock (session stream : Nat)
  | start (session : Nat)
  | stop (session : Nat)
  | report (session : Nat)
deriving DecidableEq, Repr

/-- An SPDM session (R400). -/
structure Session where
  id : Nat  -- R405 the SPDM session ID, 32 bits
  slot : Nat  -- R400 certificate slot, and tenant
  secret : Nat := 0  -- R404 names its export master secret
  est : Bool := false  -- R400 FINISH has been accepted
  missed : Nat := 0  -- R400 heartbeats missed in a row
deriving DecidableEq, Repr

/-- The keys of an IDE stream (R401, R402) beside IDE_STREAM. -/
structure Ide where
  session : Nat := 0  -- R400 the session it was programmed through
  slots : List (Nat × Nat) := []  -- R401 key set (0 or 1) and the key slot it occupies
  rx : List Nat := []  -- R402 key sets that hold receive keys
  tx : List Nat := []  -- R402 key sets that hold transmit keys
  rxOn : Bool := false  -- R402 K_SET_GO for receive has run
  txOn : Bool := false  -- R402 K_SET_GO for transmit has run
deriving DecidableEq, Repr

/-- A tenant's bounce binding (R404). -/
structure Binding where
  session : Nat  -- R404 the session that made it
  key : Nat  -- R404 its key slot
  secret : Nat := 0  -- R404 names the session's export master secret
  seqIn : Nat := 0  -- R404 SEQ_IN, 64 bits
  seqOut : Nat := 0  -- R404 SEQ_OUT, 64 bits
  rseq0 : Nat := 0  -- R423 RSEQ_NEXT of its ring when it began
  mseq0 : Nat := 0  -- R423 MSEQ of its ring when it began
deriving DecidableEq, Repr

/-- A queued bounce descriptor (R406): its tenant, its address, who submitted it, the ring command that did. -/
structure BncJob where
  ten : Nat
  addr : Nat
  q : Req
  ring : Option (Nat × Nat)
deriving DecidableEq, Repr

/-- The active bounce descriptor (R406): its bytes, the opened plaintext, the code its checks ended with. -/
structure BncAct where
  d : List Byte
  plain : List Byte
  code : Nat
deriving DecidableEq, Repr

/-- The host link beside its registers (R390 to R409). -/
structure Link where
  reads : List OutRead := []  -- R394 outstanding non-posted requests, 64
  doe : List SpdmReq := []  -- R399 requests that wait for Adsel
  conn : Nat := 0  -- R399 SPDM negotiation: 0 none, 1 version, 2 capabilities, 3 algorithms
  sessions : List Session := []  -- R400 at most one per slot
  ide : Tab Ide := []  -- R401 streams 0 to 2
  tdi : List (Nat × Nat) := []  -- R403 tenant and the selective stream its TDI names
  bind : Tab (Option Binding) := []  -- R404 by tenant
  bq : List BncJob := []  -- R406 the queue of 16, the active descriptor first
  bact : Option BncAct := none  -- R406 the head is active
  wakeN : Option Nat := none  -- R397 PCIE_WAKE_N asserted since this timestamp
deriving DecidableEq, Repr

/-- A Row Log entry (Table 20.3). -/
structure RowEntry where
  rseq : Nat := 0  -- R419 RSEQ, 32 bits
  op : Nat := 0  -- R419 OPCODE, 8 bits
  st : Nat := 0  -- R419 0 FREE, 1 ACCEPTED, 2 STARTED, 3 FINISHED, 4 CANCELLED, 5 REJECTED
  once : Bool := false  -- R419 ONCE
  ring : Nat := 0  -- R419 RING, 3 bits
  code : Nat := 0  -- R419 CODE, 8 bits
  epoch : Nat := 0  -- R419 EPOCH, 8 bits
  tag : Nat := 0  -- R419 TAG, 64 bits
  job : Nat := 0  -- R419 JOB, 16 bits
  info : Nat := 0  -- R419 INFO, 8 bits
  space : Nat := 0  -- R419 SPACE, 4 bits
  mseq : Nat := 0  -- R419 MSEQ, 32 bits
  ts : Nat := 0  -- R419 TS, 64 bits
deriving DecidableEq, Repr

/-- An accepted ring command that is not terminal (R417). -/
structure RCmd where
  rseq : Nat
  d : List Byte  -- R413 its descriptor, 64 bytes
  issued : Bool := false  -- R417 its engine has taken it
  cancel : Bool := false  -- R418 a CANCEL names it
  stale : Bool := false  -- R425 its tenant's teardown has begun
  banks : List (Nat × Nat) := []  -- R416 banks it has declared, or discards: tile, bank
  code : Nat := 0  -- R416 the code its work ended with so far
deriving DecidableEq, Repr

/-- A ring beside its registers (R410 to R422). -/
structure Ring where
  tail : Nat := 0  -- R411 TAIL, 32 bits
  fetched : Option (List Byte) := none  -- R414 a fetched descriptor whose checks run
  stopped : Bool := false  -- R412 STOPPED
  stopCode : Nat := 0  -- R412 STOP_CODE, 8 bits
  stall : Bool := false  -- R420 LOG_STALL
  resync : Bool := false  -- R422 RESYNCING
  mq : List Nat := []  -- R421 mirror writes due: entry indices, 4096 for the head record
  cmds : List RCmd := []  -- R417 open commands in RSEQ order
deriving DecidableEq, Repr

/-- The rings and the journal memory (R410 to R428). -/
structure Rings where
  rings : Tab Ring := []  -- R410 rings 0 to 7
  log : Tab RowEntry := []  -- R419 the 4,096 entries
  rseq : List Nat := [0, 0, 0, 0, 0, 0, 0, 0]  -- R411 RSEQ_NEXT of each ring, 32 bits
  mseq : List Nat := [0, 0, 0, 0, 0, 0, 0, 0]  -- R421 MSEQ of each ring, 32 bits
  epoch : Nat := 0  -- R424 ROWLOG_EPOCH, 8 bits
deriving DecidableEq, Repr

/-- A trace record (R439) as a tile buffers it. -/
structure TraceRec where
  ts : Nat
  pc : Nat
  target : Nat
  kind : Nat
  job : Nat
deriving DecidableEq, Repr

/-- Debug beside the DBG page (R429 to R445). -/
structure Dbg where
  bufs : Tab (List TraceRec) := []  -- R440 each tile's buffer of 64 records, oldest first
  lost : Tab Nat := []  -- R440 records a tile has dropped since its buffer was full
  energy : List Nat := [0, 0, 0, 0, 0, 0, 0, 0]  -- R443 tile-rail energy by tenant, in fJ / 720720 (DBG_ENERGY counts whole uJ, 64 bits)
  ir : Nat := 0x02  -- R429 the TAP's current instruction, 8 bits
  shift : Nat := 0  -- R430 what Capture-DR has put into the selected data register, 256 bits at most
  chain : List Bool := []  -- R432 the boundary chain's update stage, in ball order
  scan : Bool := false  -- R432 the chain controls the pads
  highz : Bool := false  -- R430 the chained pads are in high impedance
  accData : Word := 0  -- R434 last read data of DBG_ACCESS
  accCode : Nat := 0  -- R434 its code, 8 bits; 0xFF while the access is in progress
deriving DecidableEq, Repr

/-- The TH4. -/
structure State where
  pending : List Instr := []  -- the commands that wait, first in first out (the model's own)
  regs : Tab Word := []  -- R25 and the register tables: every register by key, unlisted = its reset value
  rwl : Tab Word := []  -- R27 the fabric's copy of a locked page's RWL fields, by key
  resp : Resp := {}  -- R28 how the last access or command was answered
  out : List Out := []  -- R57, R395 what the outputs have carried, newest first (the model's own record)
  unitWait : Option Nat := none  -- R32 the domain that an access of the unit at work waits for, within one command (the model's own)
  free : Nat := 0  -- counter that names fresh open values (the model's own, DESIGN CHOICE, log entry 5)
  holds : List Hold := []  -- R43 requests on domains
  stalls : List Stall := []  -- R33 stalled accesses, in acceptance order
  ptrs : Tab Nat := []  -- R35 rotating pointers by arbitration point
  refusals : List RefusalRec := []  -- R134 the refusal log, oldest first, 1,024 entries
  refusalsLost : Nat := 0  -- R134 count of overwritten entries
  pwr : Pwr := {}  -- R36 power, clocks, timestamp
  mem : Mem := {}  -- R343 memory tiers, skeins, pool caches
  mbx : Mbx := {}  -- R205 mailboxes
  pci : PciCfg := {}  -- R390 configuration space
  sc : Stitch := {}  -- R266 stitch counters
  cap : Cap := {}  -- R72 current caps, operating points, thermal
  fuses : Fuses := {}  -- R111 the fuses
  nor : Tab Byte := []  -- R96 the in-package NOR, 64 MiB by offset, unlisted = erased contents
  life : Life := {}  -- R92 cast-on, bind-off, lifeline
  adsel : Adsel := {}  -- R110 the security core
  strm : Tab Strm := []  -- R178 streams 0 to 15
  cam : Tab Cam := []  -- R164 receivers CSI0 to CSI5
  dsi : Tab Dsi := []  -- R172 DSI0 and DSI1
  i3c : Tab I3c := []  -- R170 I3C0 and I3C1
  auto : Tab AutoRead := []  -- R171 the four auto-read entries
  autoCur : Option Nat := none  -- R171 the entry whose read is on the bus
  pads : Tab Nat := []  -- R454 what each GPIO ball is driven to: 0 not driven, 1 low, 2 high
  imu : List (Nat × List Byte) := []  -- R176 the stream 8 records: stamp, payload; newest first
  fsync : Bool := false  -- R187 a vsync of the FSYNC source has come and its pulse is due
  spi : Word := 0  -- R187 the SPI transfer in progress
  aud : Audio := {}  -- R140 audio
  hook : Tab Hook := []  -- R302 HOOK0 and HOOK1
  su : StateUnit := {}  -- R314 recurrent state unit
  vox : Vox := {}  -- R328 voxel engine
  aie : Aie := {}  -- R188 always-on engine
  ply : Tab Ply := []  -- R192 plies 0 to 3
  wgt : Wgt := {}  -- R277 compute-in-memory weight banks
  tiles : Tab Tile := []  -- R225 tiles 0 to 63
  imem : Tab Word := []  -- R225 instruction memory word w of tile t at 16384 * t + w, 32 bits
  net : List Msg := []  -- R254 messages on their way, in order of injection
  sch : Sched := {}  -- R366 the scheduler
  rpt : Rpt := {}  -- R380 the Repeat Table
  link : Link := {}  -- R390 the host link
  rlog : Rings := {}  -- R410 command rings and the Row Log
  dbg : Dbg := {}  -- R429 debug, trace and test
deriving DecidableEq, Repr

/-- The values the spec gives right after a cold reset (R92): the AON domain ON and nothing else, memory with nothing
listed, the queue empty. Values the spec does not give are named in the log entries on the reset state. -/
def State.reset : State :=
  { pwr := { doms := [(0, { st := .on, rest := .on })] } }

end Sys2Proof.Machine
end

