-- ==== Sys2Proof/Machine/Ops.lean ====
section
/-! DEFINITION. The shared operations: registers, interrupts and errors of a page, domains and the requests on them,
the order of checks of an access (R29), arbitration (R35). -/

namespace Sys2Proof.Machine

/-! ### Registers -/

/-- The value register key `k` holds. -/
def State.reg (s : State) (k : Nat) : Word := s.regs.get regReset k

/-- `s` with register key `k` holding `v`. -/
def State.setReg (s : State) (k : Nat) (v : Word) : State := { s with regs := s.regs.set regReset k v }

/-- Bits [hi:lo] of a register. -/
def State.fld (s : State) (k hi lo : Nat) : Nat := bits (s.reg k) hi lo

/-- Bit `i` of a register. -/
def State.flag (s : State) (k i : Nat) : Bool := bit (s.reg k) i

/-- `s` with bits [hi:lo] of a register replaced. -/
def State.setFld (s : State) (k hi lo v : Nat) : State := s.setReg k (setBits (s.reg k) hi lo v)

/-- `s` with one bit of a register replaced. -/
def State.setFlag (s : State) (k i : Nat) (b : Bool) : State := s.setReg k (setBit (s.reg k) i b)

/-- `s` with a counting register one up, wrapping at 32 bits. -/
def State.bump (s : State) (k : Nat) : State := s.setReg k (s.reg k + 1)

/-- `s` with the counter in bits [hi:lo] one up, staying at its largest value. -/
def State.bumpSat (s : State) (k hi lo : Nat) : State :=
  if s.fld k hi lo + 1 < 2 ^ (hi + 1 - lo) then s.setFld k hi lo (s.fld k hi lo + 1) else s

/-- `s` with every register of page `p` from offset 0x100 up at its reset value. -/
def State.resetBlock (s : State) (p : Nat) : State :=
  { s with regs := s.regs.clear fun k => keyPage k == p && 0x100 ≤ keyOff k }

/-- A 64-bit value held in two registers. -/
def State.reg64 (s : State) (lo hi : Nat) : Nat := (s.reg lo).toNat + 0x100000000 * (s.reg hi).toNat

/-- A 64-byte aligned base in two registers: the unit does not use the low six bits of its LO register, which keep what was written
(DESIGN CHOICE, log entry 79). -/
def State.base64 (s : State) (lo hi : Nat) : Nat := s.reg64 lo hi / 64 * 64

/-- A field that holds a multiple of 64, without its low six bits (DESIGN CHOICE, log entry 79). -/
def State.fld64 (s : State) (k hi : Nat) : Nat := s.fld k hi 0 / 64 * 64

/-- `s` with a 64-bit value written to two registers. -/
def State.setReg64 (s : State) (lo hi v : Nat) : State := (s.setReg lo (word v)).setReg hi (word (v / 0x100000000))

/-! ### Interrupts, errors, answers -/

/-- Set bit `b` of a page's IRQ_RAW (R25). -/
def State.irq (s : State) (p b : Nat) : State := s.setReg (IRQ_RAW p) (setBit (s.reg (IRQ_RAW p)) b true)

/-- Who owns the window that contains an offset of a page: a set of tenants, or Adsel alone. -/
inductive Owner where
  | tenants (mask : Nat)
  | adselOnly
deriving DecidableEq, Repr

/-- Whether tenant 0 is among the owners. -/
def Owner.zero : Owner → Bool
  | .tenants m => m.testBit 0
  | .adselOnly => false

/-- The owner of a page (PAGE_OWNER.TENANT). -/
def State.pageOwner (s : State) (p : Nat) : Nat := s.fld (PAGE_OWNER p) 2 0

/-- The page whose owner owns stream `st`'s window (R178); streams 12 to 15 have none. -/
def streamPage (st : Nat) : Nat :=
  if st ≤ 5 then 0x044 + st else if st ≤ 7 then 0x040 else if st = 8 then 0x04D else if st = 9 then 0x041
  else 0x04A + (st - 10)

/-- The tenant that owns stream `st`'s window (R178). -/
def State.streamOwner (s : State) (st : Nat) : Nat :=
  if st < 12 then s.pageOwner (streamPage st) else s.fld STRM_HV_OWNER (4 * (st - 12) + 2) (4 * (st - 12))

/-- The owner of the window of page `p` that contains offset `off`. -/
def State.windowOwner (s : State) (p off : Nat) : Owner :=
  if s.flag (PAGE_OWNER p) 31 then .adselOnly
  else if p = 0x006 ∧ 0x180 ≤ off ∧ off < 0x190 then .adselOnly
  else if (p = 0x010 ∨ p = 0x028 ∨ p = 0x029 ∨ p = 0x030 ∨ p = 0x038 ∨ p = 0x03A ∨ p = 0x03B) ∧ 0x400 ≤ off ∧ off < 0x600 then
    .tenants (2 ^ ((off - 0x400) / 0x40))
  else if p = 0x05B ∧ 0x400 ≤ off ∧ off < 0x800 then .tenants (2 ^ ((off - 0x400) / 0x80))
  else if p = 0x04C ∧ 0x400 ≤ off ∧ off < 0x800 then .tenants (2 ^ s.streamOwner ((off - 0x400) / 0x40))
  else if p = 0x023 ∧ ((0x8C0 ≤ off ∧ off < 0x900) ∨ (0xAF0 ≤ off ∧ off < 0xB00)) then .adselOnly
  else if 0x020 ≤ p ∧ p ≤ 0x023 then
    if 0x100 ≤ off ∧ off < 0x500 then .tenants (s.fld (MBX_SENDERS ((p - 0x020) * 16 + (off - 0x100) / 0x40)) 7 0)
    else if 0x500 ≤ off ∧ off < 0x900 then .tenants (2 ^ s.fld (MBX_CFG ((p - 0x020) * 16 + (off - 0x500) / 0x40)) 18 16)
    else if 0x900 ≤ off ∧ off < 0xA00 then .tenants (s.fld (MBX_SENDERS ((p - 0x020) * 16 + (off - 0x900) / 0x10)) 7 0)
    else if 0xA00 ≤ off ∧ off < 0xB00 then .tenants (2 ^ s.fld (MBX_CFG ((p - 0x020) * 16 + (off - 0xA00) / 0x10)) 18 16)
    else .tenants (2 ^ s.pageOwner p)
  else .tenants (2 ^ s.pageOwner p)

/-- Capture an error of a permitted access (R25, R26): the first since the last read with its detail, OVERFLOW for a
further one, and IRQ_RAW bit 30. Nothing is captured in a mailbox window that tenant 0 does not own (R217). -/
def State.err (s : State) (p off code : Nat) (wr : Bool) (q : Req) : State :=
  if 0x020 ≤ p ∧ p ≤ 0x023 ∧ !(s.windowOwner p off).zero then s
  else if s.fld (ERR_CODE p) 7 0 = 0 then
    ((s.setReg (ERR_CODE p) (word code)).setReg (ERR_INFO p)
      (word (off + wr.toNat * 0x1000 + q.cls % 8 * 0x2000 + q.index % 64 * 0x10000))).irq p 30
  else s.setFlag (ERR_CODE p) 8 true

/-- Answer the requester (R28). -/
def State.answer (s : State) (code : Nat) (data : List Word := []) : State := { s with resp := ⟨code, data⟩ }

/-- The timestamp (R60). -/
def State.now (s : State) : Nat := s.pwr.ts / 0x100000 % 2 ^ 64

/-- Add an output to the record of outputs. -/
def State.emit (s : State) (o : Out) : State := { s with out := o :: s.out }

/-- Put an entry into the refusal log (R134): 1,024 entries, the oldest overwritten and counted. The
refusals of a tenant's requesters, which the debug port is not, count in its ADSEL_T_REFUSED. -/
def State.logRefusal (s : State) (q : Req) (addr : Nat) (wr : Bool) (reason : Nat) : State :=
  let e : RefusalRec := ⟨s.now, addr, q.cls, q.index, q.tenant, wr, reason⟩
  let s := if s.refusals.length < 1024 then { s with refusals := s.refusals ++ [e] }
    else { s with refusals := s.refusals.drop 1 ++ [e], refusalsLost := s.refusalsLost + 1 }
  if q.cls = 6 ∧ q.index = 0x3F then s else s.bumpSat (ADSEL_T_REFUSED (q.tenant % 8)) 31 0

/-- A refusal (R31): REFUSED, zero data, nothing else but the log. -/
def State.refuse (s : State) (q : Req) (addr : Nat) (wr : Bool) (reason : Nat) : State :=
  (s.logRefusal q addr wr reason).answer 0x01 [0]

/-- A fresh name for an open value. -/
def State.fresh (s : State) : Nat × State := (s.free, { s with free := s.free + 1 })

/-! ### Domains and the requests on them (R36 to R44) -/

/-- The quadrant a domain belongs to; none for the others. -/
def domQuad (d : Nat) : Option Nat :=
  if 32 ≤ d then some (quadOf (d - 32)) else if 17 ≤ d ∧ d ≤ 20 then some (d - 17)
  else if 13 ≤ d ∧ d ≤ 16 then some (d - 13) else none

/-- Whether domain `d` is of an absent quadrant (R105): it stays OFF and ignores every request. -/
def State.absent (s : State) (d : Nat) : Bool := (domQuad d).any fun q => s.flag LIFE_DEGRADE q

/-- What an unlisted domain holds: OFF, nothing requested. -/
def domReset : Nat → Dom := fun _ => {}

/-- The record of domain `d`. -/
def State.dom (s : State) (d : Nat) : Dom := s.pwr.doms.get domReset d

/-- `s` with the record of domain `d` replaced. -/
def State.setDom (s : State) (d : Nat) (x : Dom) : State := { s with pwr.doms := s.pwr.doms.set domReset d x }

/-- The PLLs a domain uses, as CLK_STATUS bits (R36, R58). -/
def domPlls (d : Nat) : List Nat :=
  if 32 ≤ d then [1 + quadOf (d - 32)]
  else match d with
    | 1 => [6]
    | 2 => [6]
    | 3 => [5]
    | 5 => [8]
    | 7 => [6]
    | 8 => [6]
    | 10 => [7]
    | 11 => [6]
    | 12 => [6]
    | 17 => [1]
    | 18 => [2]
    | 19 => [3]
    | 20 => [4]
    | _ => []

/-- Whether a domain needs REFOSC (Table 3.1): every one but AON and the weight domains. -/
def needsRefosc (d : Nat) : Bool := d != 0 && !(13 ≤ d && d ≤ 16)

/-- Whether the clock of domain `d` is held gated (R59): a PLL of it has lost lock, or REFOSC has failed. -/
def State.gated (s : State) (d : Nat) : Bool :=
  (domPlls d).any (fun b => s.pwr.pllHeld.testBit b) || (s.pwr.refBad && needsRefosc d)

/-- Whether domain `d` takes accesses: ON, not isolated by an entry (R34), its clock not held (R59). -/
def State.domOn (s : State) (d : Nat) : Bool := (s.dom d).st == .on && !(s.dom d).isolated && !s.gated d

/-- The more awake of two states. -/
def Pow.awake (a b : Pow) : Pow := if a.code ≤ b.code then a else b

/-- The state a code of Table 2.4 names. -/
def Pow.ofCode (n : Nat) : Pow := match n % 4 with
  | 0 => .on
  | 1 => .clockstop
  | 2 => .retain
  | _ => .off

/-- The states Table 3.1 gives domain `d`. -/
def domStates (d : Nat) : List Pow :=
  if d = 0 then [.on]
  else if d = 1 ∨ d = 2 ∨ d = 9 ∨ 32 ≤ d then [.on, .clockstop, .retain, .off]
  else if d = 10 ∨ (13 ≤ d ∧ d ≤ 16) then [.on, .retain, .off]
  else if 17 ≤ d ∧ d ≤ 20 then [.on, .off]
  else [.on, .clockstop, .off]

/-- R39: the nearest more-awake state the domain supports. -/
def supported (d : Nat) (p : Pow) : Pow :=
  ((domStates d).filter fun x => x.code ≤ p.code).getLast?.getD .on

/-- Whether a request of source `src` (a REQ_SRC bit) is held on domain `d`. -/
def State.heldBy (s : State) (d src : Nat) : Bool := s.holds.any fun h => h.dom == d && h.src == src

/-- Hold a request (R43); holding it twice is holding it once. -/
def State.hold (s : State) (src who d : Nat) : State :=
  if s.holds.contains ⟨src, who, d⟩ then s else { s with holds := s.holds ++ [⟨src, who, d⟩] }

/-- Release a request. -/
def State.unhold (s : State) (src who d : Nat) : State := { s with holds := s.holds.filter fun h => h != ⟨src, who, d⟩ }

/-- Release every request of one holder. -/
def State.unholdAll (s : State) (src who : Nat) : State :=
  { s with holds := s.holds.filter fun h => !(h.src == src && h.who == who) }

/-- Whether domain `e` holds the domains that it needs at ON because it is ON or wakes. -/
def State.needsAwake (s : State) (e : Nat) : Bool :=
  (s.dom e).waiting || (s.dom e).step != 0 && (s.dom e).step != 5 || (s.dom e).st == .on

/-- What the domains that need `d` hold it at (R43): ON while one of them is not OFF or RETAIN, or wakes. -/
def State.depFloor (s : State) (d : Nat) : Pow :=
  if allDoms.any fun e => (needsOn e).contains d && (s.needsAwake e || (s.dom e).st == .clockstop) then .on else .off

/-- What of it wakes `d`: a domain that a chip-state entry has left in CLOCKSTOP, with `d` lowered beside it, makes no new
request (R54's entry has ignored it; DEDUCED, log entry 35). -/
def State.depWake (s : State) (d : Nat) : Pow :=
  if allDoms.any fun e => (needsOn e).contains d && s.needsAwake e then .on else .off

/-- Whether another domain makes `d` needed (R43). -/
def State.dependency (s : State) (d : Nat) : Bool := s.depFloor d != .off

/-- REQ_SRC (Table 3.6), as the number whose bit 0 is register bit 8. -/
def State.reqSrc (s : State) (d : Nat) : Nat :=
  (if s.fld (PWR_DOM_CFG d) 1 0 = 3 then 0 else 1) +
  ((List.range 6).foldl (fun a i => a + if s.heldBy d (9 + i) then 2 ^ (i + 1) else 0) 0) +
  (if s.dependency d then 0x80 else 0)

/-- The requests held on `d` by others than software and its dependents (R43): ON, CLOCKSTOP from the scheduler, on HOOK and VOX too
(DESIGN CHOICE, log entry 81). -/
def State.heldFloor (s : State) (d : Nat) : Pow :=
  if (List.range 5).any (fun i => s.heldBy d (10 + i)) then .on else if s.heldBy d 9 then .clockstop else .off

/-- The target of domain `d` where its dependents hold it at `dep`. -/
def State.targetWith (s : State) (d : Nat) (dep : Pow) : Pow :=
  let sw := s.fld (PWR_DOM_CFG d) 1 0
  let t := Pow.awake (s.heldFloor d) dep
  supported d (if sw = 3 then (if t = .off then (s.dom d).rest else t) else Pow.awake t (Pow.ofCode sw))

/-- The effective target (R43): the most awake of the requests held; with none held, the domain's resting target. -/
def State.target (s : State) (d : Nat) : Pow := s.targetWith d (s.depFloor d)

/-- PWR_DOM_STAT (Table 3.6). -/
def State.domStat (s : State) (d : Nat) : Word :=
  let x := s.dom d
  word (x.st.code + (s.target d).code * 4 + x.step * 0x10 + x.early.toNat * 0x80 + s.reqSrc d * 0x100 +
    min x.last 0xFFFF * 0x10000)

/-- The encoding of domain `d`'s state. -/
def State.domCode (s : State) (d : Nat) : Nat := (s.dom d).st.code

/-! ### Who may access what (R30, R31) -/

/-- The debug level (ADSEL_STATUS.DEBUG): 0 CLOSED, 1 OBSERVE, 2 OPEN. -/
def State.debugLevel (s : State) : Nat := s.fld ADSEL_STATUS 5 4

/-- Capability H (Table 6.6): level OPEN in BLANK, PROVISIONED, FIELD or RETURNED. -/
def State.capH (s : State) : Bool := s.debugLevel == 2 && s.fld ADSEL_STATUS 2 0 != 4

/-- Capability C (Table 6.6): level OBSERVE, or H. -/
def State.capC (s : State) : Bool := s.capH || s.debugLevel == 1

/-- R444: whether offset `off` of the DBG page is open at the debug level. -/
def State.dbgPageOpen (s : State) (off : Nat) : Bool := s.capH || (s.capC && 0x140 ≤ off)

/-- A requester that carries the debug port's rights (R132, R434): class 6, index 0x3F. -/
def isDebug (q : Req) : Bool := q.cls == 6 && q.index == 0x3F

/-- The outcome of the permission check of a register access (R30): `none` is permitted with true values, `some 0x100`
reads zero with OK, and `some r` is refused for reason `r` of R134. Tenant 0 is a non-owner like any other (DESIGN CHOICE, log
entry 82). -/
def State.permission (s : State) (q : Req) (p off : Nat) (wr : Bool) : Option Nat :=
  if isDebug q then (if s.flag (PAGE_OWNER p) 31 then some 2 else none)
  else if q.cls = 6 then none
  else if p = 0 ∧ off = 0x100 ∧ wr = false then none
  else match s.windowOwner p off with
    | .adselOnly => some 2
    | .tenants m =>
      if m.testBit q.tenant then
        (if p = 0x018 ∧ 0x100 ≤ off ∧ !s.dbgPageOpen off then some 6 else none)
      else if wr then some 1
      else if off = 0x000 ∨ off = 0x004 ∨ off = 0x02C then none
      else if 0x00C ≤ off ∧ off ≤ 0x028 then some 0x100
      else some 1

/-- The register key an address names; none where no listed page stands there (R19, R20). -/
def regAddr (a : Nat) : Option Nat :=
  if 0x80000000 ≤ a ∧ a < 0x81000000 ∧ pageListed ((a - 0x80000000) / 0x1000) then some (a - 0x80000000) else none

/-- Whether the domain check of R29 applies at a page offset: block registers and the IRQ registers. -/
def domChecked (off : Nat) : Bool := 0x100 ≤ off || (0x010 ≤ off && off ≤ 0x01C)

/-- Whether an access waits for SOC because the page's fabric is in it (R24). -/
def needsFabric (p off : Nat) : Bool :=
  pageDom p != 0 && (off == 0x008 || off == 0x020 || off == 0x024 || off == 0x028)

/-- Put an access into the queue of its domain (R33) and, where its page wakes on access, hold an access request (R32). -/
def State.stallAt (s : State) (q : Req) (addr size : Nat) (wr : Bool) (data d : Nat) (wake : Bool := true) : State :=
  let s : State := { s with stalls := s.stalls ++ [{ q := q, addr := addr, size := size, wr := wr, data := data, dom := d, wake := wake }] }
  (if wake then s.hold 12 (0x200 + 0x40 * q.cls + q.index) d else s).answer 0x100

/-- Put an access behind an earlier one of its requester (R33): it is not accepted yet, so nothing of it has been checked and
it requests nothing. -/
def State.standBehind (s : State) (q : Req) (addr size : Nat) (wr : Bool) (data : Nat) (e : Stall) : State :=
  ({ s with stalls := s.stalls ++
      [{ q := q, addr := addr, size := size, wr := wr, data := data, dom := e.dom, wake := false, behind := true }] } : State).answer 0x100

/-- Whether an access waits for domain `d`, so that a later one to it, of any requester, waits behind it (R33); an access
that has waited for `d` itself (`own`) is at the head of that queue. -/
def State.queued (s : State) (own : Option Nat) (d : Nat) : Bool := own != some d && s.stalls.any fun e => !e.behind && e.dom == d

/-- Whether the wake of domain `d` has exceeded its timeout and goes on (R51): an access to it ends with WAKE_TIMEOUT (R32) until the
domain is ON (DEDUCED, log entry 80). -/
def State.lapsed (s : State) (d : Nat) : Bool :=
  let x := s.dom d
  !x.timing && (x.waiting || x.held || (decide (1 ≤ x.step) && decide (x.step ≤ 4)))

/-- Whether domain `d` takes a new access at once: it is ON and none waits for it. -/
def State.receives (s : State) (own : Option Nat) (d : Nat) : Bool := s.domOn d && !s.queued own d

/-- An access that domain `d` does not receive (R32, R33): it waits where the page's WAKE_ON_ACCESS is set, or behind those that
wait; else `ends`, the state after DOMAIN_OFF or WAKE_TIMEOUT. -/
def State.turnedAway (s : State) (own : Option Nat) (q : Req) (addr size : Nat) (wr : Bool) (data p d : Nat) (ends : Nat → State) : State :=
  if s.flag (PAGE_CTRL p) 2 && !s.absent d then (if s.lapsed d then ends 4 else s.stallAt q addr size wr data d)
  else if s.queued own d then s.stallAt q addr size wr data d false
  else ends 2

/-- An access to a register ends as its domain is not ON (R32): DOMAIN_OFF (2), or WAKE_TIMEOUT (4), which is latched. -/
def State.powerEnd (s : State) (p off : Nat) (wr : Bool) (q : Req) (code : Nat) : State :=
  let s := s.err p off code wr q
  (if code = 4 then (s.setFlag (PAGE_STATUS p) 3 true).irq p 31 else s).answer code [0]

/-- Hold an access request that ends when the domain is ON (R259). -/
def State.waitFor (s : State) (d : Nat) : State := s.hold 12 0x7D d

/-- Whether PAGE_LOCK of a page holds (R27). -/
def State.locked (s : State) (p : Nat) : Bool := s.flag (PAGE_LOCK p) 0

/-- Whether register key `k` is one of the RWL registers of a locked page, whose writes are ignored and complete OK before the
domain's state is looked at (R29). Every register of the tables with an RWL field has no other writable field. -/
def State.lockHolds (s : State) (k : Nat) : Bool :=
  s.locked (keyPage k) && (findRow (pageBase (keyPage k)) (keyOff k)).any fun r => r.1.rwl != 0

/-- The permission of a register access of `size` bytes at key `k` (R22): the first refusal among the words it touches, a word
of an unlisted page being refused as unmapped, else what its first word has. -/
def State.accessPerm (s : State) (q : Req) (k size : Nat) (wr : Bool) : Option Nat :=
  let first := s.permission q (keyPage k) (keyOff k / 4 * 4) wr
  let rest := (List.range ((k % 4 + size + 3) / 4 - 1)).map fun i =>
    let j := (k / 4 + 1 + i) * 4
    if pageListed (keyPage j) then s.permission q (keyPage j) (keyOff j) wr else some 0
  ((first :: rest).find? fun r => r.any (· != 0x100)).getD first

/-- R29 for a register access of `size` bytes at key `k`, whose decode found a listed page: permission, alignment,
lock, fabric and domain state; then `act` is the block's own part. A non-owner's read of 0x00C to 0x028 is served by the
fabric with zero, whatever the block's domain is (DEDUCED, log entry 27). -/
def State.regAccessNow (s : State) (own : Option Nat) (q : Req) (k size : Nat) (wr : Bool) (data : Nat) (act : State → State) : State :=
  let p := keyPage k
  let off := keyOff k
  let perm := s.accessPerm q k size wr
  if perm.any (· != 0x100) then s.refuse q (regBase + k) wr (perm.getD 0)
  else if size ≠ 4 ∨ k % 4 ≠ 0 then (s.err p off 0x03 wr q).answer 0x03 [0]
  else if wr && s.lockHolds k then s.answer 0
  else if needsFabric p off && !s.receives own 2 then
    (if s.lapsed 2 then s.powerEnd p off wr q 4 else s.stallAt q (regBase + k) 4 wr data 2)
  else if perm.isSome then s.answer 0 [0]
  else if domChecked off && !s.receives own (pageDom p) then
    s.turnedAway own q (regBase + k) 4 wr data p (pageDom p) (s.powerEnd p off wr q)
  else act s

/-- Whether two accesses come from one requester. -/
def sameReq (a b : Req) : Bool := a.cls == b.cls && a.index == b.index

/-- The access that holds back a later one of the same requester (R33): its newest that is stalled. -/
def State.heldBack (s : State) (q : Req) : Option Stall := (s.stalls.filter fun e => sameReq e.q q).getLast?

/-- A register access: behind an earlier one of its requester that is stalled, else R29. -/
def State.regAccess (s : State) (q : Req) (k size : Nat) (wr : Bool) (data : Nat) (act : State → State) : State :=
  match s.heldBack q with
  | some e => s.standBehind q (regBase + k) size wr data e
  | none => s.regAccessNow none q k size wr data act

/-- A write of a register that has a row of its own: R29, then its effect `eff`, answered OK before the effect runs so
that the effect may answer otherwise. -/
def State.writeVia (s : State) (q : Req) (k : Nat) (v : Word) (eff : State → State) : State :=
  s.regAccess q k 4 true v.toNat fun s => eff (s.answer 0)

/-- A read that has a row of its own. -/
def State.readVia (s : State) (q : Req) (k : Nat) (eff : State → State) : State :=
  s.regAccess q k 4 false 0 eff

/-- End an access with an error code of the block: captured in ERR_CODE and answered (R25, R28). -/
def State.fail (s : State) (q : Req) (k code : Nat) (wr : Bool := true) : State :=
  (s.err (keyPage k) (keyOff k) code wr q).answer code [0]

/-- The value register key `k` holds after a write of `v`, by the access codes of its bits (R8): RW bits take the
value, RWL bits take it unless the page is locked, a 1 clears a W1C bit, every other bit stays. -/
def State.written (s : State) (k : Nat) (v : Word) : Word :=
  match findRow (pageBase (keyPage k)) (keyOff k) with
  | none => s.reg k
  | some (r, _) =>
    let take := r.rw ||| (if s.locked (keyPage k) then 0 else r.rwl)
    let old := (s.reg k).toNat
    let keep := old - (old &&& take)
    let set := v.toNat &&& take
    let clr := v.toNat &&& r.w1c
    word ((keep + set) - ((keep + set) &&& clr))

/-- A plain write of a register by its access codes. -/
def State.plainWrite (s : State) (k : Nat) (v : Word) : State := s.setReg k (s.written k v)

/-- The bits a read of register key `k` clears (RC). -/
def rcMask (k : Nat) : Nat :=
  match findRow (pageBase (keyPage k)) (keyOff k) with
  | none => 0
  | some (r, _) => r.rc

/-- The RC side of a read (R8). -/
def State.readClear (s : State) (k : Nat) : State :=
  if rcMask k = 0 then s
  else s.setReg k (word ((s.reg k).toNat - ((s.reg k).toNat &&& rcMask k)))

/-! ### Arbitration (R35) -/

/-- The winner among `n` requester indices with the pointer at `ptr`: the requesting index equal to or next above it,
wrapping. -/
def rotatePick (n ptr : Nat) (reqs : List Nat) : Option Nat :=
  ((List.range n).map fun i => (ptr + i) % n).find? fun i => reqs.contains i

/-- One cycle of arbitration at point `a` over `n` requesters; `adsel` says that Adsel is among them. The pointer
moves to one past the winner, stays without a request, and stays when Adsel wins. -/
def State.arbitrate (s : State) (a n : Nat) (reqs : List Nat) (adsel : Bool) : Option Nat × State :=
  if adsel then (none, s)
  else match rotatePick n (s.ptrs.get (fun _ => 0) a) reqs with
    | none => (none, s)
    | some w => (some w, { s with ptrs := s.ptrs.set (fun _ => 0) a ((w + 1) % n) })

/-! ### Rails, PLLs, chip state, entry to low states (R36 to R41, R53, R58, R69) -/

/-- The regulated outputs of Table 4.1 that domain `d` runs on, VR_IO18 (9) aside. -/
def domRails (d : Nat) : List Nat :=
  if 32 ≤ d then [1 + quadOf (d - 32)]
  else match d with
    | 1 => [0]
    | 2 => [0]
    | 3 => [0]
    | 5 => [0]
    | 6 => [8]
    | 7 => [8, 0]
    | 8 => [8, 0]
    | 9 => [8, 0]
    | 10 => [6, 7]
    | 11 => [0]
    | 12 => [0]
    | 13 => [5]
    | 14 => [5]
    | 15 => [5]
    | 16 => [5]
    | 17 => [1]
    | 18 => [2]
    | 19 => [3]
    | 20 => [4]
    | _ => []

/-- The five domains that share VR_IO18 (R37). -/
def io18Doms : List Nat := [2, 4, 6, 7, 8]

/-- The domains that run on output `i`. -/
def railDoms (i : Nat) : List Nat := if i = 9 then io18Doms else allDoms.filter fun d => (domRails d).contains i

/-- CLK_STATUS.REFOSC_OK. -/
def State.refoscOk (s : State) : Bool := s.flag CLK_STATUS 0

/-- `s` with output `i`'s power-good at `b`, in VR_STATUS and VR_OUT. -/
def State.setPgood (s : State) (i : Nat) (b : Bool) : State :=
  (s.setFlag VR_STATUS i b).setFlag (VR_OUT i) 31 b

/-- Whether the camera LDO `c` (0 CAMA, 1 CAMD) is on (R71). -/
def State.ldoOn (s : State) (c : Nat) : Bool :=
  !s.flag VR_FAULT (10 + c) && (if s.flag VR_LDO_CTRL (2 + c) then (s.dom 6).st == .on || (s.dom 7).st == .on else s.flag VR_LDO_CTRL c)

/-- The camera LDOs follow their controls and the camera domains. -/
def State.ldoUpdate (s : State) : State := (s.setPgood 10 (s.ldoOn 0)).setPgood 11 (s.ldoOn 1)

/-- Whether domain `d` is clocked or could be at once: ON or CLOCKSTOP (R38, R58). -/
def State.domClocked (s : State) (d : Nat) : Bool := (s.dom d).st == .on || (s.dom d).st == .clockstop

/-- DOMAIN_STATE of PAGE_STATUS (R59): the state's code, 0b01 while the clock of an ON domain is held. -/
def State.pageDomCode (s : State) (d : Nat) : Nat := if (s.dom d).st = .on ∧ s.gated d then 1 else s.domCode d

/-- The most-awake state chip state `code` allows domain `d` (Table 3.2). -/
def allowance (code d : Nat) : Pow :=
  let by5 (dormant listen watch nap trim : Pow) : Pow := match code with
    | 5 => dormant
    | 4 => listen
    | 3 => watch
    | 2 => nap
    | 1 => trim
    | _ => .on
  if d = 0 then .on
  else if d = 4 then by5 .off .on .on .on .on
  else if d = 6 then by5 .off .off .on .on .on
  else if d = 5 then by5 .off .off .off .on .on
  else if d = 1 ∨ d = 2 ∨ d = 9 then by5 .off .retain .retain .clockstop .on
  else if d = 10 then by5 .off .retain .retain .retain .retain
  else if 17 ≤ d ∧ d ≤ 20 then by5 .off .off .off .off .on
  else if 13 ≤ d then by5 .off .retain .retain .retain .on
  else by5 .off .off .off .clockstop .on

/-- Whether domain `d` is more awake than a chip state allows. -/
def State.overAllowance (s : State) (code d : Nat) : Bool := decide ((s.dom d).st.code < (allowance code d).code)

/-- The smallest chip state whose allowances all domain states satisfy (R41). -/
def State.chipCode (s : State) : Nat :=
  ([5, 4, 3, 2, 1].find? fun c => allDoms.all fun d => !s.overAllowance c d).getD 0

/-- PWR_CHIP_STATE follows the domains; a change sets PWR IRQ_RAW bit 0. -/
def State.chipUpdate (s : State) : State :=
  if s.chipCode = s.fld PWR_CHIP_STATE 2 0 then s else (s.setReg PWR_CHIP_STATE (word s.chipCode)).irq 0x001 0

/-- Domain `d` starts entry to `goal` (R53): it is isolated and the LOGIC step runs. Nothing where it is that deep. -/
def State.startEntry (s : State) (d : Nat) (goal : Pow) : State :=
  let x := s.dom d
  let g := supported d goal
  if g.code ≤ x.st.code ∨ x.step ≠ 0 then s
  else s.setDom d { x with step := 5, phase := 0, goal := g, rest := g, isolated := true, held := false }

/-- PAGE_CTRL.ENABLE of page `p` (R25): while it is 0 the block is held idle and what would act in it does not. -/
def State.heldIdle (s : State) (p : Nat) (t : State) : State := if s.flag (PAGE_CTRL p) 0 then t else s

/-! ### Meanings -/

/-- A meaning's outcome: a fault where the operands name no unit of the device; else the next state, which is the state
itself while the device is OFF, VBAT being below brown-out (R41, R84). -/
def only (ok : Bool) (s t : State) : Host.Outcome State Fault Refusal :=
  if ok then .next (if s.pwr.chipOff then s else t) else .fault .illFormed

end Sys2Proof.Machine
end

