-- ==== Sys2Proof/Machine/Mem.lean ====
section
/-! DEFINITION. Byte memory: the tiers and their granules (R343), the ownership check (R346), assignment from SHARED
skeins (R349), release (R350), poison tags (R264), the pool caches (R353 to R355). -/

namespace Sys2Proof.Machine

/-! ### Bytes and poison -/

/-- What an unlisted byte of memory reads as (log entry 6): zero. -/
def memReset : Nat → Byte := fun _ => 0

/-- Whether byte memory is in its canonical form. -/
abbrev Memory.wf (l : List Host.Cell) : Prop := Tab.wf memReset l = true

/-- The byte at a physical address. -/
def State.byteAt (s : State) (a : Nat) : Byte := Tab.get memReset s.mem.bytes a

/-- `n` bytes from a physical address. -/
def State.bytesAt (s : State) (a n : Nat) : List Byte := Tab.getList memReset s.mem.bytes a n

/-- Little-endian word at a physical address (R5). -/
def State.wordAt (s : State) (a : Nat) : Word := word (leNat (s.bytesAt a 4))

/-- Whether the 32-byte granule that holds address `a` carries a poison tag. -/
def State.poisoned (s : State) (a : Nat) : Bool := s.mem.poison.get (fun _ => false) (a / 32)

/-- Whether any granule of a range carries a poison tag. -/
def State.poisonIn (s : State) (a n : Nat) : Bool :=
  (List.range ((a + n + 31) / 32 - a / 32)).any fun i => s.poisoned ((a / 32 + i) * 32)

/-- Set or clear the poison tags of a range. -/
def State.tag (s : State) (a n : Nat) (b : Bool) : State :=
  let l := (List.range ((a + n + 31) / 32 - a / 32)).foldl (fun t i => Tab.set (fun _ => false) t (a / 32 + i) b) s.mem.poison
  { s with mem.poison := l }

/-- Write bytes at a physical address and leave the tags alone. -/
def State.pokeBytes (s : State) (a : Nat) (bs : List Byte) : State :=
  { s with mem.bytes := Tab.setList memReset s.mem.bytes a bs }

/-- Write bytes: poisoned data tags its granules, clean data clears the tags (R264). -/
def State.putBytes (s : State) (a : Nat) (bs : List Byte) (poison : Bool := false) : State :=
  (s.pokeBytes a bs).tag a bs.length poison

/-! ### Tiers and granules (Table 17.1) -/

/-- A granule, as tier * 0x40000 + index. -/
abbrev gran (tier i : Nat) : Nat := tier * 0x40000 + i

/-- The granule that holds a physical address; none outside the three tiers. -/
def granAt (a : Nat) : Option Nat :=
  if 0x10000000 ≤ a ∧ a < 0x10040000 then some (gran 1 (4096 + (a - 0x10000000) / 0x1000))
  else if 0x20000000 ≤ a ∧ a < 0x21000000 then some (gran 1 ((a - 0x20000000) / 0x1000))
  else if 0x40000000 ≤ a ∧ a < 0x44000000 ∧ a % 0x100000 < 0x80000 then
    some (gran 0 ((a - 0x40000000) / 0x100000 * 128 + a % 0x100000 / 0x1000))
  else if 0x100000000 ≤ a ∧ a < 0x300000000 then some (gran 2 ((a - 0x100000000) / 0x10000))
  else none

/-- The first address of a granule. -/
def granBase (g : Nat) : Nat :=
  let i := g % 0x40000
  match g / 0x40000 with
  | 0 => 0x40000000 + i / 128 * 0x100000 + i % 128 * 0x1000
  | 1 => if i < 4096 then 0x20000000 + i * 0x1000 else 0x10000000 + (i - 4096) * 0x1000
  | _ => 0x100000000 + i * 0x10000

/-- The bytes of a granule. -/
def granBytes (g : Nat) : Nat := if g / 0x40000 = 2 then 0x10000 else 0x1000

/-- The granule count of a tier. -/
def tierSize (t : Nat) : Nat := match t with
  | 0 => 8192
  | 1 => 4160
  | _ => 131072

/-- Neighbouring repeats dropped (a T2 granule spans 16 pages). -/
def dropRepeats (l : List Nat) : List Nat :=
  l.foldr (fun x acc => if acc.head? = some x then acc else x :: acc) []

/-- The granules a range touches, rising; none where a byte of it is in no tier. -/
def granulesOf (a n : Nat) : Option (List Nat) :=
  ((List.range ((a + n + 0xFFF) / 0x1000 - a / 0x1000)).mapM fun i => granAt (max a ((a / 0x1000 + i) * 0x1000))).map
    dropRepeats

/-- The ownership entry of a granule (R345), counting the T2 granules not yet wiped since the DRAM left OFF (R362). -/
def State.ownOf (s : State) (g : Nat) : Nat :=
  if g / 0x40000 = 2 ∧ s.mem.t2Next ≤ g % 0x40000 then 2 else s.mem.own.get (fun _ => 0) g

/-- `s` with a granule's entry replaced. -/
def State.setOwn (s : State) (g e : Nat) : State := { s with mem.own := s.mem.own.set (fun _ => 0) g e }

/-- Whether the entry says OWNED by tenant `t` (R345). -/
def ownedBy (e t : Nat) : Bool := e % 4 == 1 && nbits e 4 2 == t

/-- What an unlisted skein record holds. -/
def skeinReset : Nat → Skein := fun _ => {}

/-- Skein record `k`. -/
def State.skein (s : State) (k : Nat) : Skein := s.mem.skeins.get skeinReset k

/-- `s` with skein record `k` replaced. -/
def State.setSkein (s : State) (k : Nat) (x : Skein) : State := { s with mem.skeins := s.mem.skeins.set skeinReset k x }

/-- Give a granule to skein `k` (R349): OWNED by its tenant, HELD one up. -/
def State.assign (s : State) (g k : Nat) : State :=
  let x := s.skein k
  (s.setOwn g (1 + x.tenant * 4 + k * 0x20)).setSkein k { x with held := x.held + 1 }

/-- The SHARED skeins of tenant `t` whose range holds the granule, rising (R349). -/
def State.sharedAt (s : State) (t g : Nat) : List Nat :=
  (List.range 64).filter fun k =>
    let x := s.skein k
    x.valid && !x.deleting && x.shared && x.tenant == t && x.tier == g / 0x40000 && x.base ≤ g % 0x40000 &&
      g % 0x40000 ≤ x.limit

/-- R346 for one granule: Adsel, the owner of a granule not marked STALE, and the write of a FREE granule in a SHARED skein of the
requester's tenant are permitted. -/
def State.granOk (s : State) (q : Req) (wr : Bool) (g : Nat) : Bool :=
  let e := s.ownOf g
  q.cls == 6 || (ownedBy e q.tenant && !e.testBit 11) || (wr && e % 4 == 0 && !(s.sharedAt q.tenant g).isEmpty)

/-- R349 for one permitted granule: the state after any assignment, or QUOTA. -/
def State.takeGran (s : State) (q : Req) (wr : Bool) (g : Nat) : Except Nat State :=
  let e := s.ownOf g
  if wr && q.cls != 6 && e % 4 == 0 then
    match (s.sharedAt q.tenant g).find? fun k => (s.skein k).held < (s.skein k).quota with
    | some k => .ok (s.assign g k)
    | none => .error 6
  else .ok s

/-- R349 for every granule of a permitted range. -/
def State.takeGrans (s : State) (q : Req) (wr : Bool) : List Nat → Except Nat State
  | [] => .ok s
  | g :: gs => match s.takeGran q wr g with
    | .ok s' => s'.takeGrans q wr gs
    | .error c => .error c

/-- Whether the owner of every byte of a range permits the access (R22, R346); none where a byte is in no tier. -/
def State.rangeOk (s : State) (q : Req) (wr : Bool) (a n : Nat) : Option Bool :=
  (granulesOf a n).map fun gs => gs.all fun g => s.granOk q wr g

/-- Permission for a range, then its quota: the state with its FREE granules assigned (writes), or the code. No granule is
assigned where the access ends with a code. -/
def State.checkRange (s : State) (q : Req) (wr : Bool) (a n : Nat) : Except Nat State :=
  if s.rangeOk q wr a n = some true then s.takeGrans q wr ((granulesOf a n).getD []) else .error 1

/-! ### Leaving a skein, wiping (R350 to R352) -/

/-- A granule leaves its skein: WIPING, HELD one down, last in its wipe queue. A granule of T0 holds its tile's domain
(R352), but not while a chip-state entry lowers the domains: then the next start of Adsel takes the request (R118). -/
def State.releaseGran (s : State) (g : Nat) : State :=
  let e := s.ownOf g
  if e % 4 ≠ 1 then s
  else
    let k := nbits e 10 5
    let x := s.skein k
    let s := (s.setOwn g 2).setSkein k { x with held := x.held - 1 }
    if g / 0x40000 = 2 then { s with mem.wipe2 := s.mem.wipe2 ++ [g] }
    else
      let s : State := { s with mem.wipe01 := s.mem.wipe01 ++ [g] }
      if g / 0x40000 = 0 ∧ s.pwr.sleeping ≠ 2 then s.hold 12 0x80 (32 + g / 128) else s

/-- Release a list of granules in order. -/
def State.releaseGrans (s : State) (gs : List Nat) : State := gs.foldl State.releaseGran s

/-- The granules skein `k` holds, rising. -/
def State.heldGrans (s : State) (k : Nat) : List Nat :=
  (s.mem.own.filter fun e => e.2 % 4 == 1 && nbits e.2 10 5 == k).map (·.1)

/-- Whether a granule of skein `k` still waits for the wipe engine after the skein's deletion: a record being deleted
is free when its last granule is FREE. -/
def State.skeinPending (s : State) (k : Nat) : Bool :=
  let x := s.skein k
  (s.mem.wipe01 ++ s.mem.wipe2).any fun g => g / 0x40000 == x.tier && x.base ≤ g % 0x40000 && g % 0x40000 ≤ x.limit

/-- Free the records whose deletion is complete (R351). -/
def State.reapSkeins (s : State) : State :=
  (List.range 64).foldl (fun s k => if (s.skein k).deleting && !s.skeinPending k then s.setSkein k {} else s) s

/-- Delete skein `k` (R351): every granule is released, the record waits for the last to be FREE. -/
def State.deleteSkein (s : State) (k : Nat) : State :=
  if (s.skein k).valid then
    let s := s.releaseGrans (s.heldGrans k)
    (s.setSkein k { s.skein k with deleting := true }).reapSkeins
  else s

/-- Release every granule of skein `k`, as the end of a job does for a SCOPE JOB skein (R347). -/
def State.emptySkein (s : State) (k : Nat) : State := s.releaseGrans (s.heldGrans k)

/-! ### The pool caches (R353 to R355) -/

/-- Whether tenant `t`'s cache is enabled. -/
def State.cacheOn (s : State) (t : Nat) : Bool := s.flag (POOL_WB_SETS t) 31

/-- Whether tenant `t`'s cache covers a T2 address (R353): FIRST to LAST MiB. -/
def State.cacheCovers (s : State) (t a : Nat) : Bool :=
  s.cacheOn t && 0x100000000 ≤ a &&
    s.fld (POOL_WB_WIN t) 12 0 ≤ (a - 0x100000000) / 0x100000 && (a - 0x100000000) / 0x100000 ≤ s.fld (POOL_WB_WIN t) 28 16

/-- The set of a T2 line in tenant `t`'s cache. -/
def State.cacheSet (s : State) (t line : Nat) : Nat := line % 2 ^ s.fld (POOL_WB_SETS t) 19 16

/-- The lines a set of tenant `t`'s cache holds, most recently used first. -/
def State.cacheLines (s : State) (t set : Nat) : List CLine := s.mem.cache.get (fun _ => []) (t * 1024 + set)

/-- `s` with a set's lines replaced. -/
def State.setCacheLines (s : State) (t set : Nat) (l : List CLine) : State :=
  { s with mem.cache := s.mem.cache.set (fun _ => []) (t * 1024 + set) l }

/-- Where a way's 256 bytes stand in the pool. -/
def State.wayAddr (s : State) (t set way : Nat) : Nat :=
  0x20000000 + (s.fld (POOL_WB_SETS t) 11 0 + set) * 0x1000 + 256 * way

/-- Copy 256 bytes with their poison tags (R354: tags travel with the lines). -/
def State.copyLine (s : State) (src dst : Nat) : State :=
  (List.range 8).foldl (fun s' i => s'.tag (dst + 32 * i) 32 (s.poisoned (src + 32 * i))) (s.pokeBytes dst (s.bytesAt src 256))

/-- Write a dirty line back to the DRAM. -/
def State.writeBack (s : State) (t set : Nat) (c : CLine) : State :=
  if c.dirty then s.copyLine (s.wayAddr t set c.way) (0x100000000 + 256 * c.line) else s

/-- Whether tenant `t`'s cache holds a line. -/
def State.cacheHit (s : State) (t line : Nat) : Bool :=
  (s.cacheLines t (s.cacheSet t line)).any fun c => c.line == line

/-- Bring a line into tenant `t`'s cache as its set's most recently used (R353, R354): a miss takes a free way, else
the least recently used one, whose dirty line is written back first; the line is read from the DRAM unless `whole`
says that all of it is written. Answers the line's pool address. -/
def State.cacheTake (s : State) (t line : Nat) (whole dirty : Bool) : Nat × State :=
  let set := s.cacheSet t line
  let ls := s.cacheLines t set
  match ls.find? fun c => c.line == line with
  | some c =>
    (s.wayAddr t set c.way, s.setCacheLines t set ({ c with dirty := c.dirty || dirty } :: ls.filter fun x => x.line != line))
  | none =>
    let free := (List.range 16).find? fun w => !ls.any fun c => c.way == w
    let (w, keep, s) := match free, ls.getLast? with
      | some w, _ => (w, ls, s)
      | none, some v => (v.way, ls.dropLast, s.writeBack t set v)
      | none, none => (0, ls, s)
    let a := s.wayAddr t set w
    let s := if whole then s else s.copyLine (0x100000000 + 256 * line) a
    (a, s.setCacheLines t set (⟨w, line, dirty⟩ :: keep))

/-- Take one line out of a cache: written back where `back` and dirty, kept where `keep`. -/
def State.cacheDrop (s : State) (t set : Nat) (c : CLine) (back keep : Bool) : State :=
  let s := if back then s.writeBack t set c else s
  let ls := s.cacheLines t set
  s.setCacheLines t set
    (if keep then ls.map fun x => if x.line = c.line then { x with dirty := false } else x
     else ls.filter fun x => x.line != c.line)

/-- A maintenance operation over every line of tenant `t`'s cache in lines `first` to `last` (R355): 2 CLEAN, 3 FLUSH,
4 INVALIDATE. -/
def State.cacheMaintain (s : State) (t kind first last : Nat) : State :=
  (List.range (2 ^ s.fld (POOL_WB_SETS t) 19 16)).foldl (fun s set =>
    ((s.cacheLines t set).filter fun c => first ≤ c.line && c.line ≤ last).foldl
      (fun s c => s.cacheDrop t set c (kind != 4) (kind == 2)) s) s

/-! ### Permitted accesses -/

/-- The domain that must be ON for a memory address, and the page whose WAKE_ON_ACCESS governs it (R259, R359). -/
def memDomain (a : Nat) : Nat × Nat :=
  if 0x20000000 ≤ a ∧ a < 0x21000000 then (2, 0x031)
  else if 0x40000000 ≤ a ∧ a < 0x44000000 then (32 + (a - 0x40000000) / 0x100000, 0x100 + (a - 0x40000000) / 0x100000)
  else if 0x60000000 ≤ a ∧ a < 0x64000000 then (32 + (a - 0x60000000) / 0x100000, 0x100 + (a - 0x60000000) / 0x100000)
  else if 0x100000000 ≤ a ∧ a < 0x300000000 then (10, 0x032)
  else if 0x8000000000 ≤ a then (9, 0x038)
  else (0, 0x000)

/-- The page that holds the errors of accesses to an address: the register page, or the page that governs the memory (R32). -/
def errPage (a : Nat) : Nat :=
  match regAddr a with
  | some k => keyPage k
  | none => (memDomain a).2

/-- Capture an error of a permitted access to an address (R26, R32); a memory access has no page offset, so ERR_INFO.OFFSET is
then open. -/
def State.capture (s : State) (a code : Nat) (wr : Bool) (q : Req) : State :=
  match regAddr a with
  | some k => s.err (keyPage k) (keyOff k) code wr q
  | none => s.err (memDomain a).2 (Config.memOffset a).toNat code wr q

/-- Whether a requester's T2 accesses go through its tenant's pool cache (R354). -/
def State.cached (s : State) (q : Req) (a : Nat) : Bool := q.cls ≤ 1 && s.cacheCovers q.tenant a

/-- The domain a memory range needs and the page whose WAKE_ON_ACCESS governs it: cache hits need only the pool. -/
def State.memNeeds (s : State) (q : Req) (a n : Nat) : Nat × Nat :=
  if s.cached q a && (List.range ((a + n + 255) / 256 - a / 256)).all
      (fun i => s.cacheHit q.tenant (a / 256 + i - 0x1000000)) then (2, 0x031) else memDomain a

/-- Whether the memory of domain `d` is served: the domain takes accesses (R34, R59); a tile's scratchpad in CLOCKSTOP too (R38,
R259). -/
def State.memServed (s : State) (d : Nat) : Bool :=
  s.domOn d || (decide (32 ≤ d) && (s.dom d).st == .clockstop && !(s.dom d).isolated && !s.gated d)

/-- The wake for an access has taken longer than its domain's timeout (R32): WAKE_TIMEOUT is captured, and latched in PAGE_STATUS
and IRQ_RAW bit 31. -/
def State.timedOut (s : State) (a : Nat) (wr : Bool) (q : Req) : State :=
  ((s.capture a 4 wr q).setFlag (PAGE_STATUS (errPage a)) 3 true).irq (errPage a) 31

/-- What an access that ends as its domain is not ON leaves (R32): DOMAIN_OFF or WAKE_TIMEOUT captured. -/
def State.powerFail (s : State) (a code : Nat) (wr : Bool) (q : Req) : State :=
  if code = 2 then s.capture a 2 wr q else if code = 4 then s.timedOut a wr q else s

/-- The code of the domain check for a memory range (R29, R32): 0 to go on, 2 DOMAIN_OFF, 4 WAKE_TIMEOUT, 0x100 to wait for a wake. -/
def State.memPower (s : State) (q : Req) (a n : Nat) : Nat :=
  let (d, p) := s.memNeeds q a n
  if s.memServed d then 0 else if s.flag (PAGE_CTRL p) 2 ∧ !s.absent d then (if s.lapsed d then 4 else 0x100) else 2

/-- The lines of a cached range, each as (line, offset in the range, first byte in the line, bytes). -/
def lineParts (a n : Nat) : List (Nat × Nat × Nat × Nat) :=
  (List.range ((a + n + 255) / 256 - a / 256)).map fun i =>
    let lo := max a ((a / 256 + i) * 256)
    let hi := min (a + n) ((a / 256 + i + 1) * 256)
    (a / 256 + i - 0x1000000, lo - a, lo % 256, hi - lo)

/-- The data of a permitted read, its poison, and the state after any cache fill. -/
def State.fetch (s : State) (q : Req) (a n : Nat) : List Byte × Bool × State :=
  if s.cached q a then
    (lineParts a n).foldl (fun (acc, p, s) (line, _, o, m) =>
      let (b, s) := s.cacheTake q.tenant line false false
      (acc ++ s.bytesAt (b + o) m, p || s.poisonIn (b + o) m, s)) ([], false, s)
  else (s.bytesAt a n, s.poisonIn a n, s)

/-- The state after a permitted write. -/
def State.deposit (s : State) (q : Req) (a : Nat) (bs : List Byte) (poison : Bool := false) : State :=
  if s.cached q a then
    (lineParts a bs.length).foldl (fun s (line, i, o, m) =>
      let (b, s) := s.cacheTake q.tenant line (m == 256) true
      s.putBytes (b + o) (slice bs i m) poison) s
  else s.putBytes a bs poison

/-- A permitted write to memory that is served: QUOTA, or its granules are assigned and its bytes written. -/
def State.land (s : State) (q : Req) (a : Nat) (bs : List Byte) (poison : Bool := false) : Nat × State :=
  match s.takeGrans q true ((granulesOf a bs.length).getD []) with
  | .error c => (c, s)
  | .ok s => (0, s.deposit q a bs poison)

/-- A permitted read of memory that is served: POISON where a granule of it carries a tag. -/
def State.load (s : State) (q : Req) (a n : Nat) : Nat × List Byte × State :=
  let (d, p, s) := s.fetch q a n
  (if p then 8 else 0, d, s)

/-- Whether an address range lies in the CIM load windows (R19). -/
def isCimWin (a : Nat) : Bool := 0x60000000 ≤ a && a < 0x64000000

/-- Whether an address lies in the boot ROM (R19). -/
def isRom (a : Nat) : Bool := a < 0x10000

/-- Whether a range touches granule 4,159 of T1, with the training copy and the audio restore block (R151, R343). -/
def inRestore (a n : Nat) : Bool := decide (a < 0x10040000) && decide (0x1003F000 < a + n)

/-- Whether a requester is kept out of a range because of that granule, which only the audio block and Adsel reach. -/
def barred (q : Req) (a n : Nat) : Bool := inRestore a n && (q.cls != 6 || isDebug q)

/-- A read of `n` bytes at `a` by `q` (R22, R29, R346): code, data, state. Code 8 is POISON with zero data kept
apart: `data` is then what the granules hold. Reads of CIM windows return zero, the boot ROM is tenant 0's and
Adsel's. -/
def State.memRead (s : State) (q : Req) (a n : Nat) : Nat × List Byte × State :=
  let zero := List.replicate n (0 : Byte)
  if isRom a ∧ isRom (a + n - 1) then
    if q.cls = 6 ∨ q.tenant = 0 then (0, s.bytesAt a n, s) else (1, zero, s.logRefusal q a false 1)
  else if isCimWin a then (0, zero, s)
  else if barred q a n then (1, zero, s.logRefusal q a false 1)
  else match s.rangeOk q false a n with
    | some true =>
      match s.memPower q a n with
      | 0 => s.load q a n
      | c => (c, zero, s.powerFail a c false q)
    | r => (1, zero, s.logRefusal q a false (if r.isSome then 4 else 0))

/-- A write of bytes at `a` by `q` into T0, T1, T2 or AON SRAM: code and state. -/
def State.memWrite (s : State) (q : Req) (a : Nat) (bs : List Byte) (poison : Bool := false) : Nat × State :=
  if barred q a bs.length then (1, s.logRefusal q a true 1)
  else match s.rangeOk q true a bs.length with
  | some true =>
    match s.memPower q a bs.length with
    | 0 => s.land q a bs poison
    | c => (c, s.powerFail a c true q)
  | r => (1, s.logRefusal q a true (if r.isSome then 4 else 0))

/-- The natural alignment and size rule of a single memory access (R21). -/
def naturallyAligned (a n : Nat) : Bool :=
  (n == 1 || n == 2 || n == 4 || n == 8 || n == 16 || n == 32 || n == 64) && a % n == 0

/-- A requester for the writes of an endpoint of tenant `ten` (R178): class 7. -/
abbrev unitReq (ten : Nat) : Req := ⟨7, 0, ten⟩

/-- A write by a unit of the device: as `memWrite`; where it must wait for a wake it holds the wake and its bytes land
with it. -/
def State.unitWrite (s : State) (q : Req) (a : Nat) (bs : List Byte) (poison : Bool := false) : Nat × State :=
  match s.memWrite q a bs poison with
  | (0x100, s) =>
    let d := (s.memNeeds q a bs.length).1
    let (c, s) := s.land q a bs poison
    (c, s.hold 12 0x7E d)
  | r => r

/-- A read by a unit of the device: as `memRead`; where it must wait for a wake it holds the wake. -/
def State.unitRead (s : State) (q : Req) (a n : Nat) : Nat × List Byte × State :=
  match s.memRead q a n with
  | (0x100, _, s) =>
    let d := (s.memNeeds q a n).1
    let (c, bs, s) := s.load q a n
    (c, bs, s.hold 12 0x7E d)
  | r => r

/-! ### Engines that wait for their memory -/

/-- A read by an engine: as `memRead`; where it must wait for a wake, it says for which domain. -/
def State.engineRead (s : State) (q : Req) (a n : Nat) : Nat × List Byte × State :=
  match s.memRead q a n with
  | (0x100, bs, s) => (0x100, bs, { s with unitWait := some (s.memNeeds q a n).1 })
  | r => r

/-- A write by an engine. -/
def State.engineWrite (s : State) (q : Req) (a : Nat) (bs : List Byte) : Nat × State :=
  match s.memWrite q a bs with
  | (0x100, s) => (0x100, { s with unitWait := some (s.memNeeds q a bs.length).1 })
  | r => r

/-- A piece of an engine's work (R32): where an access of it must wait for a wake, it holds the wake and the work is yet to be done. -/
def State.engine (s : State) (f : State → State) : State :=
  let t := f s
  match t.unitWait with
  | none => t
  | some d => s.waitFor d

end Sys2Proof.Machine
end

