-- ==== Sys2Proof/WellFormed.lean ====
section
/-! DEFINITION. Well-formed commands: the operands name units the device has (R10, Table 1.1): 64 tiles, 8 tenants,
4 quadrants, the domains of Table 3.1, the pages of Table 2.2, 12 regulator outputs, 64 mailboxes, and so on. -/

namespace Sys2Proof

open Machine (domListed pageListed)

/-- A requester of Table 2.4: a class of 3 bits, an index of 6 bits, a tenant of 3 bits. -/
def Req.wf (q : Req) : Bool := decide (q.cls < 8) && decide (q.index < 64) && decide (q.tenant < 8)

/-- Whether a command's operands name units of the device. -/
def Instr.wf : Instr → Bool
  | .registerWrite q _ _ _ => q.wf
  | .errCodeRead q page => q.wf && pageListed page
  | .irqClr q page _ => q.wf && pageListed page
  | .softReset q page _ => q.wf && pageListed page
  | .pageLock q page _ => q.wf && pageListed page
  | .refusedCompletion q _ _ => q.wf
  | .stalledAccessComplete dom => domListed dom
  | .domCfgWrite q dom _ => q.wf && domListed dom
  | .wakeStart dom => domListed dom
  | .tileWakeSlot quad => decide (quad < 4)
  | .wakeStepReady dom => domListed dom
  | .wakeStepDelayExpiry dom _ => domListed dom
  | .wakeTmoExpiry dom => domListed dom
  | .idleTimerExpiry dom => domListed dom
  | .entryStepDone dom => domListed dom
  | .chipSleepArm q _ => q.wf
  | .chipSleepCancel q _ => q.wf
  | .chipSleepEntryStart => true
  | .pllUnlock pll => decide (pll < 8)
  | .pllRelock pll => decide (pll < 8)
  | .refoscFail => true
  | .refoscResume => true
  | .tsRatioUpdate _ => true
  | .rtcAlarm => true
  | .wdtKick q _ => q.wf
  | .wdtHalf => true
  | .wdtExpiry => true
  | .gpioWake edge => decide (edge.pin < 24)
  | .hostWakeIn => true
  | .meterSample rail _ _ => decide (rail < 12)
  | .hardFloorLift rail => decide (rail < 12)
  | .droopDetect quad _ => decide (quad < 4)
  | .droopRelease quad => decide (quad < 4)
  | .oppResolve => true
  | .oppSlewDone quad => decide (quad < 4)
  | .envelopeAllowanceStep => true
  | .skinAllowanceStep => true
  | .vbatSample _ => true
  | .pgoodLoss rail => decide (rail < 12)
  | .thermalSample sensor _ => decide (sensor < 9)
  | .thermalAllowanceStep quad => decide (quad < 4)
  | .thermalRestart => true
  | .vrFaultClear q _ => q.wf
  | .ldoCtrlWrite q _ => q.wf
  | .capLimitWrite q rail _ _ => q.wf && decide (rail < 12)
  | .powerOn => true
  | .sysRstNPulse _ _ => true
  | .castOnStepDone _ => true
  | .stepTimeout => true
  | .restartWarm q _ => q.wf
  | .bindOff q _ => q.wf
  | .bindOffStageDone => true
  | .bindoffGraceExpiry => true
  | .commitRollback q _ => q.wf
  | .fuseBlowDone => true
  | .clearDegrade q _ => q.wf
  | .provision _ => true
  | .getCert q _ => q.wf
  | .regionAdd q _ => q.wf
  | .regionDel q _ => q.wf
  | .instantiate q _ => q.wf
  | .teardown q _ => q.wf
  | .teardownComplete ten => decide (ten < 8)
  | .dbgChallenge q _ => q.wf
  | .dbgRelock q _ => q.wf
  | .lcAdvance q _ => q.wf
  | .adselBadOpcode q _ => q.wf
  | .adselRefusalPost ten => decide (ten < 8)
  | .adselCommandDone ten => decide (ten < 8)
  | .trngHealthFail => true
  | .challengeExpiry => true
  | .unlockMessage => true
  | .unlockSampleTick => true
  | .unlockResultPost => true
  | .schHeartbeatTimeout => true
  | .schInternalFault => true
  | .adselStart => true
  | .adselStartDone _ => true
  | .lpSample _ => true
  | .hqFrame _ => true
  | .pdmRateChange => true
  | .settleEnd => true
  | .audBeamCommit q _ => q.wf
  | .save q _ => q.wf
  | .calReload q _ => q.wf
  | .spkSample _ _ _ _ => true
  | .spkMuteExpiry drv => decide (drv < 2)
  | .spkPlimStep drv _ => decide (drv < 2)
  | .spkThermal _ => true
  | .csiLongPacket n _ _ _ _ _ => decide (n < 6)
  | .csiFrameStart p => decide (p.n < 6)
  | .csiFrameEnd p => decide (p.n < 6)
  | .ispLineDone n => decide (n < 6)
  | .csiFrameTmo n => decide (n < 6)
  | .entdaa q n _ => q.wf && decide (n < 2)
  | .i3cWrite q n _ => q.wf && decide (n < 2)
  | .i3cRead q n _ => q.wf && decide (n < 2)
  | .i3cCcc q n _ => q.wf && decide (n < 2)
  | .i3cTransferDone n _ _ => decide (n < 2)
  | .i3cIbi ibi => decide (ibi.n < 2 ∧ ibi.payload.length ≤ 8)
  | .i3cAutoPeriod k => decide (k < 4)
  | .i3cAutoReadDone k _ => decide (k < 4)
  | .gpioEdge pin _ => decide (pin < 24)
  | .gpioFsyncPulse => true
  | .spiXfer q _ => q.wf
  | .spiDone _ => true
  | .dsiVsync n => decide (n < 2)
  | .dsiLine n _ _ => decide (n < 2)
  | .dsiLatch n => decide (n < 2)
  | .layerSubmit q n l _ => q.wf && decide (n < 2) && decide (l < 4)
  | .dsiDcs q n _ => q.wf && decide (n < 2)
  | .strmStart q st => q.wf && decide (st < 16)
  | .strmPause q st => q.wf && decide (st < 16)
  | .strmResume q st => q.wf && decide (st < 16)
  | .strmStop q st => q.wf && decide (st < 16)
  | .strmStopComplete st => decide (st < 16)
  | .strmSwSeqWrite q st _ => q.wf && decide (st < 16)
  | .streamBufferComplete st => decide (st < 16)
  | .streamBufferConsumed st => decide (st < 16)
  | .aieProgramStart _ => true
  | .aieProgramDone _ => true
  | .aieLoadCmd q _ => q.wf
  | .aieLoadDone => true
  | .cascScoreIn q j _ => q.wf && decide (j < 8)
  | .plyActive ply => decide (ply < 4)
  | .plySleepTimerExpiry ply => decide (ply < 4)
  | .descendAll q _ => q.wf
  | .keep q _ => q.wf
  | .descCfgWrite q ply word _ => q.wf && decide (ply < 4) && decide (word < 8)
  | .mbxSend q m w _ => q.wf && decide (m < 64) && decide (w < 16)
  | .mbxPublish q m _ => q.wf && decide (m < 64)
  | .mbxSlotRead q m => q.wf && decide (m < 64)
  | .mbxRing q m _ => q.wf && decide (m < 64)
  | .mbxPendClear q m _ => q.wf && decide (m < 64)
  | .mbxClaimTmo m => decide (m < 64)
  | .mbxCfgWrite q m _ => q.wf && decide (m < 64)
  | .alu t _ => decide (t < 64)
  | .addi t _ => decide (t < 64)
  | .lui t _ => decide (t < 64)
  | .ori t _ => decide (t < 64)
  | .ldl t _ => decide (t < 64)
  | .stl t _ => decide (t < 64)
  | .ldg t _ => decide (t < 64)
  | .stg t _ => decide (t < 64)
  | .branch t _ => decide (t < 64)
  | .jal t _ => decide (t < 64)
  | .jr t _ => decide (t < 64)
  | .wait t _ => decide (t < 64)
  | .waitM t _ => decide (t < 64)
  | .waitRelease t => decide (t < 64)
  | .csrr t _ => decide (t < 64)
  | .csrw t _ => decide (t < 64)
  | .endBundle t _ => decide (t < 64)
  | .yieldBundle t _ => decide (t < 64)
  | .fence t _ => decide (t < 64)
  | .chkpt t _ => decide (t < 64)
  | .fault t _ => decide (t < 64)
  | .msg t _ => decide (t < 64)
  | .stitchRead t _ => decide (t < 64)
  | .stitchSet t _ => decide (t < 64)
  | .stitchAdd t _ => decide (t < 64)
  | .stitchArm t _ => decide (t < 64)
  | .stitchInit t _ => decide (t < 64)
  | .stitchFree t _ => decide (t < 64)
  | .nextn t _ => decide (t < 64)
  | .stitchMessageArrive _ => true
  | .recv t _ => decide (t < 64)
  | .dma t _ => decide (t < 64)
  | .dmaTransferStart t => decide (t < 64)
  | .dmaTransferDone t => decide (t < 64)
  | .vop t _ => decide (t < 64)
  | .vld t _ => decide (t < 64)
  | .vst t _ => decide (t < 64)
  | .vbc t _ => decide (t < 64)
  | .vext t _ => decide (t < 64)
  | .mma t _ => decide (t < 64)
  | .mmr t _ => decide (t < 64)
  | .mmz t _ => decide (t < 64)
  | .cimMac t _ => decide (t < 64)
  | .cimMacDone t => decide (t < 64)
  | .cimRd t _ => decide (t < 64)
  | .cimClr t _ => decide (t < 64)
  | .nop t _ _ => decide (t < 64)
  | .tileStart q t _ => q.wf && decide (t < 64)
  | .tileFrogRequest q t _ => q.wf && decide (t < 64)
  | .tileFrog t => decide (t < 64)
  | .meshFenceLift t => decide (t < 64)
  | .putArrive _ => true
  | .getArrive _ => true
  | .sendArrive _ => true
  | .doorbellMessage _ => true
  | .meshResponse _ => true
  | .scSet q page _ => q.wf && decide (page < 128)
  | .scAdd q page _ => q.wf && decide (page < 128)
  | .scArm q page _ => q.wf && decide (page < 128)
  | .scInit q page _ => q.wf && decide (page < 128)
  | .scFree q page _ => q.wf && decide (page < 128)
  | .declare q t _ => q.wf && decide (t < 64)
  | .seal q t _ => q.wf && decide (t < 64)
  | .sealDone t => decide (t < 64)
  | .flip q t _ => q.wf && decide (t < 64)
  | .flipDone t => decide (t < 64)
  | .discard q t _ => q.wf && decide (t < 64)
  | .discardDone t => decide (t < 64)
  | .broadcastFlip _ => true
  | .hookQueue q e _ => q.wf && decide (e < 2)
  | .hookDescActivate e => decide (e < 2)
  | .hookRowStart e => decide (e < 2)
  | .hookDescEnd e => decide (e < 2)
  | .hookCancel q e _ => q.wf && decide (e < 2)
  | .stateStart q ten _ => q.wf && decide (ten < 8)
  | .statePause q ten _ => q.wf && decide (ten < 8)
  | .stateResume q ten _ => q.wf && decide (ten < 8)
  | .stateReset q ten _ => q.wf && decide (ten < 8)
  | .stateEnd q ten _ => q.wf && decide (ten < 8)
  | .stateRead q ten _ => q.wf && decide (ten < 8)
  | .stateTSubmit q ten _ => q.wf && decide (ten < 8)
  | .stateStepActivate => true
  | .stateStepCommit => true
  | .voxQueue q _ => q.wf
  | .voxelise => true
  | .voxeliseStreamRead => true
  | .spconv => true
  | .bev => true
  | .voxStepEnd => true
  | .voxCancel q _ => q.wf
  | .skeinAdd q _ => q.wf
  | .skeinDel q _ => q.wf
  | .wipeGranuleDone _ => true
  | .move q ten _ => q.wf && decide (ten < 8)
  | .moveStart => true
  | .moveDone => true
  | .clean q ten _ => q.wf && decide (ten < 8)
  | .flush q ten _ => q.wf && decide (ten < 8)
  | .invalidate q ten _ => q.wf && decide (ten < 8)
  | .cacheOpDone ten => decide (ten < 8)
  | .release q ten _ => q.wf && decide (ten < 8)
  | .poolWbConfig q ten _ _ => q.wf && decide (ten < 8)
  | .poolFlushDone ten => decide (ten < 8)
  | .schJobSubmit q ten _ => q.wf && decide (ten < 8)
  | .admissionPost ten => decide (ten < 8)
  | .schedulerEvaluate => true
  | .switchDone _ => true
  | .spillYielded _ => true
  | .spillDrained _ => true
  | .spillMoved _ => true
  | .spillRestoreDone _ => true
  | .dlmEvaluate => true
  | .swatchDispatch _ => true
  | .jobEnd _ => true
  | .schTCancel q ten _ => q.wf && decide (ten < 8)
  | .schCancelPost ten => decide (ten < 8)
  | .schFlipCmd q _ => q.wf
  | .rptTCommit q ten _ => q.wf && decide (ten < 8)
  | .rptCommitPost ten => decide (ten < 8)
  | .rptCfgWrite q _ => q.wf
  | .rptPeriodWrite q _ => q.wf
  | .rptRangeWrite q ten _ => q.wf && decide (ten < 8)
  | .rptLockEvent _ => true
  | .rptCaptureMiss => true
  | .rptPeriodStart => true
  | .rowLead row => decide (row < 256)
  | .rowRelease row => decide (row < 256)
  | .hostBar0Request _ => true
  | .hostBar2Request _ => true
  | .outboundCompletion _ _ _ => true
  | .cplTimeout _ => true
  | .linkUp _ _ => true
  | .dlDown => true
  | .linkReset => true
  | .flr => true
  | .linkL12Entry => true
  | .linkL1Exit => true
  | .pcieWakeTimeout => true
  | .hostHandshake q _ => q.wf
  | .getVersion => true
  | .getCapabilities => true
  | .negotiateAlgorithms _ => true
  | .getDigests => true
  | .getCertificate _ _ _ => true
  | .challenge _ _ => true
  | .keyExchange _ _ _ => true
  | .finish _ _ => true
  | .keyUpdate _ => true
  | .heartbeat _ => true
  | .heartbeatMissed _ => true
  | .endSession _ => true
  | .bounceBind _ => true
  | .bounceUnbind _ => true
  | .keyProg _ _ _ => true
  | .kSetGo _ _ _ => true
  | .idePacketRx _ _ _ => true
  | .lockInterface _ _ => true
  | .startInterface _ => true
  | .stopInterface _ => true
  | .getDeviceInterfaceReport _ => true
  | .bncTSubmit q ten _ => q.wf && decide (ten < 8)
  | .bounceDescActivate _ _ => true
  | .bounceDescEnd => true
  | .ringTDb q ten _ => q.wf && decide (ten < 8)
  | .ringFetch r _ _ => decide (r < 8)
  | .ringCheckEnd r => decide (r < 8)
  | .commandIssue r => decide (r < 8)
  | .ringNop r => decide (r < 8)
  | .ringSubmit r => decide (r < 8)
  | .ringCancel r => decide (r < 8)
  | .modelLoad r => decide (r < 8)
  | .modelDrop r => decide (r < 8)
  | .ringMove r => decide (r < 8)
  | .ringCache r => decide (r < 8)
  | .ringBounce r => decide (r < 8)
  | .rowLogUpdate r _ => decide (r < 8)
  | .ringTResync q ten _ => q.wf && decide (ten < 8)
  | .ringEnable q r _ => q.wf && decide (r < 8)
  | .rowlogPartWrite q r _ => q.wf && decide (r < 8)
  | .tapReset => true
  | .extest => true
  | .samplePreload _ _ => true
  | .idcode => true
  | .clamp => true
  | .highz => true
  | .tapDbgChallenge => true
  | .dbgResponse _ => true
  | .dbgStatus => true
  | .dbgAccess _ => true
  | .bypass _ => true
  | .dbgHaltReq q _ _ => q.wf
  | .dbgResume q _ _ => q.wf
  | .dbgStep q _ => q.wf
  | .dbgRegData q _ _ => q.wf
  | .traceRecord t => decide (t < 64)
  | .pmcSelWrite q k _ => q.wf && decide (k < 8)
  | .io18PowerGood => true
  | .pcieConfigRequest _ => true

end Sys2Proof
end

