-- ==== Sys2Proof/Machine/Mailbox.lean ====
section
/-! DEFINITION. Mailboxes and doorbells (R205 to R224), with the MSI-X message a host mailbox sends (R395). -/

namespace Sys2Proof.Machine

/-! ### Streams (R393, R395) -/

/-- The TDI state of tenant `t` (Table 19.8): 0 CONFIG_UNLOCKED, 1 LOCKED, 2 RUN, 3 ERROR. -/
def State.tdi (s : State) (t : Nat) : Nat := s.fld IDE_TDI (4 * t + 1) (4 * t)

/-- The selective stream the TDI of tenant `t` names. -/
def State.tdiStream (s : State) (t : Nat) : Option Nat := (s.link.tdi.find? fun e => e.1 == t).map (·.2)

/-- The IDE stream in which a packet of tenant `t` leaves: that of its TDI in RUN; else the link stream where it is Secure; else none. -/
def State.outStream (s : State) (t : Nat) : Option Nat :=
  if s.tdi t = 2 then s.tdiStream t else if s.flag (IDE_STREAM 0) 8 then some 0 else none

/-! ### MSI-X (R395) -/

/-- The tenant that owns vector `v` (HOST_VEC_OWNER). -/
def State.vecOwner (s : State) (v : Nat) : Nat := s.fld (HOST_VEC_OWNER (v / 8)) (4 * (v % 8) + 2) (4 * (v % 8))

/-- Whether vector `v` may go out now: unmasked, MSI-X enabled, not in D3hot, the link in L0. -/
def State.vecOpen (s : State) (v : Nat) : Bool :=
  s.pci.msixEnable && !s.pci.fnMask && !s.flag (MSIX_TABLE v 3) 0 && !s.flag HOST_LINK_STATUS 15 &&
    s.fld HOST_LINK_STATUS 14 12 == 2

/-- Send the message of vector `v`: the table's data to its address, in its owner's stream. -/
def State.msixOut (s : State) (v : Nat) : State :=
  s.emit (.msix v ((s.reg (MSIX_TABLE v 0)).toNat + 0x100000000 * (s.reg (MSIX_TABLE v 1)).toNat) (s.reg (MSIX_TABLE v 2))
    (s.outStream (s.vecOwner v)))

/-- Vector `v` becomes due: sent, or pending in the PBA until the condition that holds it ends; in D3hot a pending
vector also sends PM_PME. -/
def State.msixRaise (s : State) (v : Nat) : State :=
  if s.vecOpen v then s.msixOut v
  else
    let s := s.setFlag MSIX_PBA v true
    if s.flag HOST_LINK_STATUS 15 then s.emit (.host 0 true 0x18 [] (s.outStream 0)) else s

/-- Send every pending vector whose condition has ended. -/
def State.msixFlush (s : State) : State :=
  (setPositions 32 (s.reg MSIX_PBA).toNat).foldl
    (fun s v => if s.vecOpen v then (s.setFlag MSIX_PBA v false).msixOut v else s) s

/-- Vector `v` raised for tenant `ten`: dropped and counted unless the tenant owns the vector. -/
def State.msixFor (s : State) (v ten : Nat) : State :=
  if s.vecOwner v = ten then s.msixRaise v else s.bumpSat HOST_EVT 31 24

/-! ### The event condition and its delivery (R211 to R213) -/

/-- Mailbox `m`'s event condition. -/
def State.mbxCond (s : State) (m : Nat) : Bool :=
  (s.reg (MBX_PEND m)).toNat &&& (s.reg (MBX_MASK m)).toNat != 0 || (s.flag (MBX_RX_STAT m) 0 && s.flag (MBX_CFG m) 3)

/-- The domain of mailbox `m`'s receiver (Table 10.1); none for the reserved kind. -/
def State.mbxDomain (s : State) (m : Nat) : Option Nat :=
  match s.fld (MBX_CFG m) 1 0 with
  | 0 => some (32 + s.fld (MBX_CFG m) 9 4)
  | 1 => some 9
  | 2 => some 1
  | _ => none

/-- Latch the source that ends the last chip-state entry, finished or still under way (R57; R55's sequence reads it after an abort):
AON_WAKE_STATUS bit `b`. -/
def State.wakeSource (s : State) (b : Nat) : State :=
  if s.pwr.asleep ∨ s.pwr.sleeping = 2 then ({ s with pwr.asleep := false } : State).setReg AON_WAKE_STATUS (word (2 ^ b)) else s

/-- Whether mailbox `m`'s page is enabled: while it is not, the unit delivers nothing and holds no request (R25). -/
def State.mbxOn (s : State) (m : Nat) : Bool := s.flag (PAGE_CTRL (0x020 + m / 16)) 0

/-- Hold or release mailbox `m`'s WAKE request by its condition (R213). -/
def State.mbxWake (s : State) (m : Nat) : State :=
  let s' : State := { s with holds := s.holds.filter fun h => !(h.src == 10 && h.who == m) }
  match s.mbxDomain m with
  | none => s'
  | some d =>
    if s.mbxOn m ∧ s.mbxCond m ∧ s.flag (MBX_CFG m) 2 ∧ s.flag AON_WAKE_EN 3 ∧ s.life.ready ∧ s.life.bindStage = 0 then
      (if s.heldBy d 10 then s'.hold 10 m d else (s'.hold 10 m d).wakeSource 3)
    else s'

/-- Whether the receiver's domain takes the event now (R212). -/
def State.mbxDeliverable (s : State) (m : Nat) : Bool :=
  match s.mbxDomain m with
  | none => false
  | some d => s.mbxOn m && ((s.dom d).st == .on || (s.dom d).st == .clockstop)

/-- The message of host mailbox `m` is due (R211): it goes out where HOST can take it, else it is held (R212). -/
def State.mbxDue (s : State) (m : Nat) : State :=
  let rest := s.mbx.held.filter (· != m)
  if s.mbxDeliverable m then
    ({ s with mbx.held := rest } : State).msixFor (s.fld (MBX_CFG m) 9 4 % 32) (s.fld (MBX_CFG m) 18 16)
  else { s with mbx.held := rest ++ [m] }

/-- Evaluate mailbox `m` after an operation that started from `before` (R211): the WAKE request, and for a host
receiver an MSI-X message when the condition rises or, after a write to MBX_PEND, stays true. -/
def State.mbxEval (s : State) (before : State) (m : Nat) (pendWrite : Bool) : State :=
  let s := s.mbxWake m
  if s.fld (MBX_CFG m) 1 0 = 1 ∧ s.mbxCond m ∧ (pendWrite ∨ !before.mbxCond m) then s.mbxDue m else s

/-- Deliver the messages that were held, of those whose condition still holds (R212). -/
def State.mbxFlush (s : State) : State :=
  let due := s.mbx.held.filter s.mbxDeliverable
  due.foldl (fun s m => if s.fld (MBX_CFG m) 1 0 = 1 ∧ s.mbxCond m then s.mbxDue m else s)
    { s with mbx.held := s.mbx.held.filter fun m => !due.contains m }

/-- PAGE_CTRL of page `p` has been written: the mailboxes of an MBX page are evaluated again (R25, R212, R213). -/
def State.mbxEnabled (s : State) (p : Nat) : State :=
  if 0x020 ≤ p ∧ p ≤ 0x023 then ((List.range 16).foldl (fun s i => s.mbxWake (16 * (p - 0x020) + i)) s).mbxFlush else s

/-! ### Messages (R207 to R209) -/

/-- The requester that claims mailbox `m`'s staging buffer. -/
def State.mbxClaim (s : State) (m : Nat) : Option Req := (s.mbx.claims.find? fun c => c.1 == m).map (·.2.1)

/-- Whether MBX_CLAIM_TMO has elapsed since the last write of mailbox `m`'s claimant (R207). -/
def State.mbxClaimLate (s : State) (m : Nat) : Bool :=
  let tmo := s.fld (MBX_CLAIM_TMO (m / 16)) 15 0
  s.mbx.claims.any fun c => c.1 == m && decide ((if tmo = 0 then 65536 else tmo) ≤ s.now - c.2.2)

/-- `s` with the claim on mailbox `m` set, at this time, or released. -/
def State.setClaim (s : State) (m : Nat) (q : Option Req) : State :=
  let rest := s.mbx.claims.filter fun c => c.1 != m
  { s with mbx.claims := match q with
      | some q => (m, q, s.now) :: rest
      | none => rest }

/-- Clear mailbox `m`'s staging buffer. -/
def State.clearStaging (s : State) (m : Nat) : State :=
  { s with mbx.staging := s.mbx.staging.clear fun k => k / 16 == m }

/-- Staging word `w` of mailbox `m`. -/
def State.stagingWord (s : State) (m w : Nat) : Word := s.mbx.staging.get (fun _ => 0) (m * 16 + w)

/-- Write a staging word, claiming the buffer (R207). -/
def State.stage (s : State) (q : Req) (m w : Nat) (v : Word) : State :=
  ({ s with mbx.staging := s.mbx.staging.set (fun _ => 0) (m * 16 + w) v } : State).setClaim m (some q)

/-- Copy the staging words into the message slot. -/
def State.copyToSlot (s : State) (m : Nat) : State :=
  (List.range 16).foldl (fun s w => s.setReg (MBX_SLOT m w) (s.stagingWord m w)) s

/-- Request SEC for a use of capability K while SEC is not ON (R133): held until SEC is ON. -/
def State.requestSec (s : State) : State := if s.domOn 1 then s else s.hold 12 0x7F 1

/-- A write of word 15 (R208): with FULL clear it copies the 16 words, sets FULL with the publisher, counts the message
and releases the claim; with FULL set it ends with MBX_FULL and counts that. -/
def mbxPublish (q : Req) (m : Nat) (v : Word) (s : State) : State :=
  if (s.mbxClaim m).any (· != q) then s.fail q (MBX_SEND m 15) 0x11
  else if s.flag (MBX_RX_STAT m) 0 then (s.bumpSat (MBX_TX_FULLCNT m) 15 0).fail q (MBX_SEND m 15) 0x10
  else
    let t := ((s.stage q m 15 v).copyToSlot m).setClaim m none
    let t := t.setReg (MBX_RX_STAT m) (word (1 + q.tenant % 8 * 0x100 + q.cls % 8 * 0x800 + q.index % 64 * 0x4000))
    let t := (t.bumpSat (MBX_RX_CNT m) 15 0).mbxEval s m false
    if m = 63 then t.requestSec else t

/-- A write of a staging word (R207): words 0 to 14 stage, word 15 publishes. -/
def mbxSend (q : Req) (m w : Nat) (v : Word) (s : State) : State :=
  if w = 15 then mbxPublish q m v s
  else if (s.mbxClaim m).any (· != q) then s.fail q (MBX_SEND m w) 0x11
  else s.stage q m w v

/-- A read of slot word 15 (R209): its value, then FULL clears and the condition is evaluated again. -/
def mbxSlotRead (m : Nat) (s : State) : State :=
  ((s.answer 0 [s.reg (MBX_SLOT m 15)]).setFlag (MBX_RX_STAT m) 0 false).mbxEval s m false

/-! ### Doorbells (R210) -/

/-- A ring: the bells are ORed into MBX_PEND and the ring is counted; a ring while the condition holds sends no further message. -/
def mbxRing (m : Nat) (v : Word) (s : State) : State :=
  ((s.setReg (MBX_PEND m) (s.reg (MBX_PEND m) ||| v)).bumpSat (MBX_RX_CNT m) 31 16).mbxEval s m false

/-- The receiver clears bells. -/
def mbxPendClear (m : Nat) (v : Word) (s : State) : State :=
  (s.setReg (MBX_PEND m) (s.reg (MBX_PEND m) &&& ~~~v)).mbxEval s m true

/-- A write of MBX_MASK; the condition is evaluated again. -/
def mbxMask (m : Nat) (v : Word) (s : State) : State := (s.setReg (MBX_MASK m) v).mbxEval s m false

/-- A ring that carries a tenant's rights: checked against MBX_SENDERS, refused and logged otherwise (R216, R218). -/
def State.ringAs (s : State) (q : Req) (m : Nat) (bells : Word) : Nat × State :=
  if s.flag (MBX_SENDERS m) (q.tenant % 8) then (0, mbxRing m bells s)
  else (1, s.logRefusal q (regBase + MBX_RING m) true 1)

/-- A ring of one bell by a unit of the device on behalf of a tenant (R218). -/
def State.bell (s : State) (ten m b : Nat) : State := (s.ringAs ⟨7, 0, ten⟩ (m % 64) (word (2 ^ (b % 32)))).2

/-- The claim timeout (R207): once it has elapsed with no write by the claimant, the claim ends and the staging buffer clears. -/
def mbxClaimTmo (m : Nat) (s : State) : State :=
  if s.mbxClaimLate m then (s.setClaim m none).clearStaging m else s

/-! ### Configuration, frog, teardown (R219 to R224) -/

/-- Clear mailbox `m`'s FULL, bells, staging buffer and claim and release its WAKE request. -/
def State.mbxEmpty (s : State) (m : Nat) : State :=
  ((((s.setFlag (MBX_RX_STAT m) 0 false).setReg (MBX_PEND m) 0).clearStaging m).setClaim m none).unholdAll 10 m

/-- A write of MBX_CFG (R221): one that changes KIND, TARGET or RX_TENANT first empties the mailbox; mailbox 63 is
read-only (R222). -/
def mbxCfgWrite (m : Nat) (v : Word) (s : State) : State :=
  if m = 63 then s
  else
    let old := s.reg (MBX_CFG m)
    let new := v &&& 0x703FF
    let change := bits old 1 0 ≠ bits new 1 0 ∨ bits old 9 4 ≠ bits new 9 4 ∨ bits old 18 16 ≠ bits new 18 16
    let t := if change then s.mbxEmpty m else s
    (t.setReg (MBX_CFG m) new).mbxEval s m false

/-- A write of MBX_SENDERS; mailbox 63 is read-only. -/
def mbxSendersWrite (m : Nat) (v : Word) (s : State) : State :=
  if m = 63 then s else s.setReg (MBX_SENDERS m) (v &&& 0xFF)

/-- Mailbox `m` back at its reset values. -/
def State.mbxReset (s : State) (m : Nat) : State :=
  let s := s.mbxEmpty m
  let s := (s.setReg (MBX_CFG m) (word (mbxCfgReset m))).setReg (MBX_SENDERS m) (word (mbxSendersReset m))
  let s := (s.setReg (MBX_MASK m) 0xFFFFFFFF).setReg (MBX_RX_STAT m) 0
  let s := (s.setReg (MBX_RX_CNT m) 0).setReg (MBX_TX_FULLCNT m) 0
  (List.range 16).foldl (fun s w => s.setReg (MBX_SLOT m w) 0) s

/-- A frog of tile `t` (R219): its requesters' claims end with their staging buffers, and the mailboxes it receives
are emptied of message and bells. -/
def State.mbxFrogTile (s : State) (t : Nat) : State :=
  let s := (List.range 64).foldl (fun s m =>
    if (s.mbxClaim m).any (fun q => q.cls ≤ 1 && q.index == t) then (s.setClaim m none).clearStaging m else s) s
  (List.range 64).foldl (fun s m =>
    if s.fld (MBX_CFG m) 1 0 = 0 ∧ s.fld (MBX_CFG m) 9 4 = t then
      ((s.setFlag (MBX_RX_STAT m) 0 false).setReg (MBX_PEND m) 0).unholdAll 10 m else s) s

/-- Teardown of tenant `ten` (R220). -/
def State.mbxTeardown (s : State) (ten : Nat) : State :=
  (List.range 64).foldl (fun s m =>
    let s := if m ≠ 63 ∧ s.fld (MBX_CFG m) 18 16 = ten then
        (s.mbxEmpty m).setReg (MBX_CFG m) (word (mbxCfgReset m)) |>.setReg (MBX_SENDERS m) (word (mbxSendersReset m))
      else s
    if m = 63 then s else s.setFlag (MBX_SENDERS m) ten false) s

/-- A soft reset of an MBX page returns its mailboxes to reset, except mailbox 63 (R224). -/
def State.mbxPageReset (s : State) (p : Nat) : State :=
  ((List.range 16).foldl (fun s i => if (p - 0x020) * 16 + i = 63 then s else s.mbxReset ((p - 0x020) * 16 + i)) s).setReg
    (MBX_CLAIM_TMO (p - 0x020)) 0x180

/-- MBX_TX_STAT as requester `q` reads it. -/
def State.mbxTxStat (s : State) (q : Req) (m : Nat) : Word :=
  word ((s.flag (MBX_RX_STAT m) 0).toNat + (s.mbxClaim m).isSome.toNat * 2 + (s.mbxClaim m == some q).toNat * 4)

/-- MBX_RX_STAT. -/
def State.mbxRxStat (s : State) (m : Nat) : Word :=
  let w := s.reg (MBX_RX_STAT m)
  setBit (setBit w 1 (s.mbxCond m)) 2 (s.holds.any fun h => h.src == 10 && h.who == m)

/-! ### Meanings -/

def execMbxSend (q : Req) (m w : Nat) (v : Word) (s : State) : Host.Outcome State Fault Refusal :=
  only (Instr.mbxSend q m w v).wf s (s.writeVia q (MBX_SEND m w) v (mbxSend q m w v))

def execMbxPublish (q : Req) (m : Nat) (v : Word) (s : State) : Host.Outcome State Fault Refusal :=
  only (Instr.mbxPublish q m v).wf s (s.writeVia q (MBX_SEND m 15) v (mbxPublish q m v))

def execMbxSlotRead (q : Req) (m : Nat) (s : State) : Host.Outcome State Fault Refusal :=
  only (Instr.mbxSlotRead q m).wf s (s.readVia q (MBX_SLOT m 15) (mbxSlotRead m))

def execMbxRing (q : Req) (m : Nat) (v : Word) (s : State) : Host.Outcome State Fault Refusal :=
  only (Instr.mbxRing q m v).wf s (s.writeVia q (MBX_RING m) v (mbxRing m v))

def execMbxPendClear (q : Req) (m : Nat) (v : Word) (s : State) : Host.Outcome State Fault Refusal :=
  only (Instr.mbxPendClear q m v).wf s (s.writeVia q (MBX_PEND m) v (mbxPendClear m v))

def execMbxClaimTmo (m : Nat) (s : State) : Host.Outcome State Fault Refusal :=
  only (Instr.mbxClaimTmo m).wf s (s.heldIdle (0x020 + m / 16) (mbxClaimTmo m s))

def execMbxCfgWrite (q : Req) (m : Nat) (v : Word) (s : State) : Host.Outcome State Fault Refusal :=
  only (Instr.mbxCfgWrite q m v).wf s (s.writeVia q (MBX_CFG m) v (mbxCfgWrite m v))

end Sys2Proof.Machine
end

