-- ==== Sys2Proof/Machine/Stitch.lean ====
section
/-! DEFINITION. Stitch counters (R266 to R272): the operations of Table 12.5, who may make them, evaluation of the
armed condition, frog, and the notifications of a descriptor's NOTE word (Table 14.4). -/

namespace Sys2Proof.Machine

/-- VALUE of counter `i` (global index). -/
def State.scValue (s : State) (i : Nat) : Word := s.sc.value.get (fun _ => 0) i

/-- CONFIG of counter `i`. -/
def State.scConfig (s : State) (i : Nat) : Word := s.sc.config.get (fun _ => 0) i

def State.setScValue (s : State) (i : Nat) (v : Word) : State := { s with sc.value := s.sc.value.set (fun _ => 0) i v }

def State.setScConfig (s : State) (i : Nat) (v : Word) : State := { s with sc.config := s.sc.config.set (fun _ => 0) i v }

/-- STATE of Table 12.4: 0 FREE, 1 LIVE, 2 STALE. -/
def scState (v : Word) : Nat := bits v 29 28

/-- OWNER of Table 12.4. -/
def scOwner (c : Word) : Nat := bits c 30 28

/-- The operations of Table 12.5, by FN. -/
inductive ScOp where
  | read
  | set
  | add
  | arm
  | init
  | free
deriving DecidableEq, Repr

/-- The operation an FN or OP field names. -/
def ScOp.ofCode : Nat → Option ScOp
  | 0 => some .read
  | 1 => some .set
  | 2 => some .add
  | 3 => some .arm
  | 5 => some .init
  | 6 => some .free
  | _ => none

/-- COUNT after adding a signed 24-bit value, saturating, and whether it saturated. -/
def scSum (count : Nat) (v : Nat) : Nat × Bool :=
  let x := signed 24 count + signed 24 v
  let y := clampS 24 x
  ((y % 2 ^ 24).toNat, x != y)

/-- Whether the condition of CONFIG holds of COUNT. -/
def scFires (v c : Word) : Bool :=
  let n := signed 24 (bits v 23 0)
  let t := signed 24 (bits c 23 0)
  if bit c 24 then n ≤ t else t ≤ n

/-- Evaluation at the end of a counter cycle (R268, R270): an ARMED counter whose condition holds disarms and sets
NOTE, or notifies the scheduler. -/
def State.scEval (s : State) (i : Nat) : State :=
  let v := s.scValue i
  if bit v 24 ∧ scFires v (s.scConfig i) then
    if bit v 27 then
      let s := s.setScValue i (setBit v 24 false)
      { s with sc.sb := s.sc.sb ++ [(i, scOwner (s.scConfig i), false)] }
    else s.setScValue i (setBit (setBit v 24 false) 25 true)
  else s

/-- The effect of a permitted operation on counter `i` with its operand (Table 12.5). -/
def State.scApply (s : State) (ten i : Nat) (op : ScOp) (x : Word) : State :=
  let v := s.scValue i
  let c := s.scConfig i
  match op with
  | .read => s
  | .set => s.setScValue i (setBits v 23 0 (bits x 23 0))
  | .add =>
    let (n, sat) := scSum (bits v 23 0) (bits x 23 0)
    s.setScValue i (setBit (setBits v 23 0 n) 26 (bit v 26 || sat))
  | .arm =>
    (s.setScConfig i (setBit (setBits c 23 0 (bits x 23 0)) 24 (bit x 24))).setScValue i
      (setBit (setBit (setBit v 24 true) 25 false) 27 (bit x 25))
  | .init => (s.setScConfig i (setBits c 30 28 ten)).setScValue i (word (0x10000000 + bits x 23 0))
  | .free => (s.setScConfig i 0).setScValue i 0

/-- Whether tenant `ten` (Adsel: `adsel`) may make an operation on counter `i` (R267); `holder` says that it comes from
the holding tile's TCC or the counter page. -/
def State.scPermitted (s : State) (ten i : Nat) (op : ScOp) (holder adsel : Bool) : Bool :=
  if scState (s.scValue i) = 0 then op == .init && holder else adsel || scOwner (s.scConfig i) == ten

/-- An operation on counter `i` by tenant `ten`: its code and the state after evaluation (R267 to R270). A refused or
failed one changes nothing; the counters of a tile that is OFF take none (R259). -/
def State.scOp (s : State) (ten i : Nat) (op : ScOp) (x : Word) (holder : Bool) (adsel : Bool := false) : Nat × State :=
  if !s.scPermitted ten i op holder adsel then (1, s)
  else if (s.dom (32 + i / 2048)).st = .off then (2, s)
  else if scState (s.scValue i) = 2 ∧ op ≠ .init ∧ op ≠ .free then (5, s)
  else (0, (s.scApply ten i op x).scEval i)

/-- Whether any counter of tile `t` has NOTE set (EVT.STITCH). -/
def State.scNoted (s : State) (t : Nat) : Bool := s.sc.value.any fun e => e.1 / 2048 == t && bit e.2 25

/-- NEXTN (R270): the lowest local index of tile `t` whose NOTE is set, which clears, as the word it returns. -/
def State.scNextN (s : State) (t : Nat) : Word × State :=
  match s.sc.value.find? fun e => e.1 / 2048 == t && bit e.2 25 with
  | some (i, v) => (word (0x80000000 + i % 2048), s.setScValue i (setBit v 25 false))
  | none => (0, s)

/-- Make every counter for which `p` holds FREE (R272). -/
def State.scFreeAll (s : State) (p : Nat → Bool) : State :=
  { s with sc.value := s.sc.value.clear p, sc.config := s.sc.config.clear p }

/-- The counters tenant `ten` owns. -/
def State.scOwnedBy (s : State) (ten i : Nat) : Bool := scState (s.scValue i) != 0 && scOwner (s.scConfig i) == ten

/-- A frog of tile `t` (R271): LIVE counters become STALE, NOTE clears, and an ARMED counter with SCH set tells the
scheduler, marked STALE. -/
def State.scFrog (s : State) (t : Nat) : State :=
  let mine := s.sc.value.filter fun e => e.1 / 2048 == t
  let told := (mine.filter fun e => scState e.2 == 1 && bit e.2 24 && bit e.2 27).map fun e => (e.1, scOwner (s.scConfig e.1), true)
  let s := mine.foldl (fun s e =>
    let v := if scState e.2 = 1 then setBits e.2 29 28 2 else e.2
    s.setScValue e.1 (setBit (setBit v 24 false) 25 false)) s
  { s with sc.sb := s.sc.sb ++ told }

/-- The notifications of a NOTE word (Table 14.4) for tenant `ten`: a STITCH ADD of 1 and a ring, each where enabled. -/
def State.note (s : State) (ten : Nat) (n : Word) : State :=
  let s := if bit n 17 then (s.scOp ten (bits n 16 0) .add 1 false).2 else s
  if bit n 29 then s.bell ten (bits n 23 18) (bits n 28 24) else s

end Sys2Proof.Machine
end

