-- ==== Sys2Proof/Machine/Stream.lean ====
section
/-! DEFINITION. The stream table (R178 to R183): buffers, sequences and headers, the boundary at which commands take
effect, and the commands' own checks. -/

namespace Sys2Proof.Machine

/-- What an unlisted stream holds. -/
def strmReset : Nat → Strm := fun _ => {}

/-- Stream `st`. -/
def State.stream (s : State) (st : Nat) : Strm := s.strm.get strmReset st

/-- `s` with stream `st` replaced. -/
def State.setStream (s : State) (st : Nat) (x : Strm) : State := { s with strm := s.strm.set strmReset st x }

/-- STRM_STAT: 0 STOPPED, 1 RUNNING, 2 PAUSED, 3 STOPPING. -/
def State.strmState (s : State) (st : Nat) : Nat := s.fld (STRM_STAT st) 1 0

/-- `s` with stream `st` in a state, which STRM_RUNNING shows. -/
def State.setStrmState (s : State) (st v : Nat) : State :=
  (s.setFld (STRM_STAT st) 1 0 v).setFlag STRM_RUNNING st (v == 1)

/-- The domain a running stream holds ON (R160, R180). -/
def strmDomain (st : Nat) : Nat := if 12 ≤ st then 9 else if st = 7 then 5 else pageDom (streamPage st)

/-- Whether the device reads stream `st`: 9 to 11 by their endpoints (Table 1.5), 12 to 15 by DIR. -/
def State.strmOut (s : State) (st : Nat) : Bool :=
  if 12 ≤ st then s.flag (STRM_BUF_CFG st) 28 else decide (9 ≤ st)

/-- Buffers of the ring. -/
def State.strmCount (s : State) (st : Nat) : Nat := s.fld (STRM_BUF_CFG st) 3 0 + 1

/-- The address of the buffer the device is at (R179): HW_IDX. -/
def State.strmBuf (s : State) (st : Nat) : Nat :=
  s.base64 (STRM_BASE_LO st) (STRM_BASE_HI st) + s.fld (STRM_HW_SEQ st) 19 16 * s.fld64 (STRM_BUF_SIZE st) 23

/-- A sequence register one further: the sequence modulo 65,536, its index modulo COUNT (R179). -/
def State.strmAdvance (s : State) (st k n : Nat) : State :=
  (s.setFld k 15 0 (s.fld k 15 0 + n)).setFld k 19 16 ((s.fld k 19 16 + n) % s.strmCount st)

/-- How far HW_SEQ is ahead of SW_SEQ, modulo 65,536; for an output stream how far SW_SEQ is ahead. -/
def State.strmAhead (s : State) (st : Nat) : Nat :=
  if s.strmOut st then (s.fld (STRM_SW_SEQ st) 15 0 + 0x10000 - s.fld (STRM_HW_SEQ st) 15 0) % 0x10000
  else (s.fld (STRM_HW_SEQ st) 15 0 + 0x10000 - s.fld (STRM_SW_SEQ st) 15 0) % 0x10000

/-- Stamp an event of the stream (R18). -/
def State.strmStamp (s : State) (st : Nat) : State := s.setReg64 (STRM_LAST_TS_LO st) (STRM_LAST_TS_HI st) s.now

/-- The Repeat Table sees the event of stream `st` stamped `e` that can be its lock event (R382). -/
def State.lockSeen (s : State) (st e : Nat) : State :=
  if s.flag RPT_STATUS 0 ∧ bit s.rpt.cfg 1 ∧ bits s.rpt.cfg 5 2 = st then { s with rpt.events := s.rpt.events ++ [e] } else s

/-- Stamp an event of stream `st` that can be a lock event: vsync, frame start, block, record. -/
def State.strmEvent (s : State) (st : Nat) : State := (s.strmStamp st).lockSeen st s.now

/-- Count an overrun (R181). -/
def State.strmOverrun (s : State) (st : Nat) : State := ((s.bumpSat (STRM_EVT st) 15 0).irq 0x04C 16).strmStamp st

/-- Count an underrun (R181). -/
def State.strmUnderrun (s : State) (st : Nat) : State := ((s.bumpSat (STRM_EVT st) 31 16).irq 0x04C 17).strmStamp st

/-- Write a part of the open buffer at data offset `off` (R178, R181): a write that is not taken, or that lies past the
buffer's end, ends the buffer with TRUNC and counts as an overrun. -/
def State.strmPut (s : State) (st off : Nat) (bs : List Byte) : State :=
  let x := s.stream st
  if !x.cap ∨ x.flags.testBit 2 then s
  else
    let q := unitReq (s.streamOwner st)
    let r := if s.fld64 (STRM_BUF_SIZE st) 23 < 0x40 + off + bs.length then (1, s)
      else s.unitWrite q (s.strmBuf st + 0x40 + off) bs
    if r.1 = 0 then r.2.setStream st { x with len := x.len + bs.length }
    else (r.2.setStream st { x with flags := x.flags + 4 }).strmOverrun st

/-- The header of Table 8.2. -/
def State.strmHeader (s : State) (st : Nat) : List Byte :=
  let x := s.stream st
  leBytes 8 x.ts0 ++ leBytes 8 x.ts1 ++ leBytes 4 (s.fld (STRM_HW_SEQ st) 19 0) ++ leBytes 4 x.len ++ leBytes 4 x.flags ++
    List.replicate 36 0

/-- Complete the open buffer of an input stream (R179, R182): its header, HW_SEQ, the interrupt and any NOTIFY bell. -/
def State.strmComplete (s : State) (st : Nat) : State :=
  let ten := s.streamOwner st
  let x := s.stream st
  let r := s.unitWrite (unitReq ten) (s.strmBuf st) (s.strmHeader st)
  let s := if r.1 = 0 ∨ x.flags.testBit 2 then r.2 else r.2.strmOverrun st
  let s := (s.strmAdvance st (STRM_HW_SEQ st) 1).irq 0x04C st
  let s := s.setStream st { s.stream st with cap := false, ended := false, len := 0, flags := 0 }
  if s.flag (STRM_BUF_CFG st) 27 then s.bell ten (s.fld (STRM_BUF_CFG st) 21 16) (s.fld (STRM_BUF_CFG st) 26 22) else s

/-- Whether the memory of the next buffer is asleep; a stream 4 frame is then dropped (R169). -/
def State.strmAsleep (s : State) (st : Nat) : Bool :=
  st == 4 && !s.domOn (memDomain (s.strmBuf st)).1

/-- Open the next buffer of an input stream (R181): with COUNT buffers unreleased, DROP_NEW drops the frame and
OVERWRITE_OLDEST releases one; either way an overrun. -/
def State.strmOpen (s : State) (st ts : Nat) : State :=
  let full := s.strmCount st ≤ s.strmAhead st
  let s := if full then s.strmOverrun st else s
  if full ∧ !s.flag (STRM_BUF_CFG st) 4 then s
  else
    let s := if full then s.strmAdvance st (STRM_SW_SEQ st) 1 else s
    if s.strmAsleep st then s.strmOverrun st
    else s.setStream st { s.stream st with cap := true, ended := false, len := 0, ts0 := ts, ts1 := ts, flags := 0 }

/-- Open the next buffer of an output stream: LENGTH from its header (R179). -/
def State.strmOpenOut (s : State) (st : Nat) : State :=
  let (_, bs, s) := s.unitRead (unitReq (s.streamOwner st)) (s.strmBuf st + 0x14) 4
  s.setStream st { s.stream st with cap := true, ended := false, len := 0, size := leNat bs }

/-- The endpoint boundary of stream `st` (R180): the waiting command takes effect; a stopping stream is STOPPED and
releases its request. -/
def State.strmBoundary (s : State) (st : Nat) : State :=
  let x := s.stream st
  if s.strmState st = 3 then
    ((s.setStrmState st 0).setStream st { x with next := 0, cap := false, ended := false }).unhold 13 st (strmDomain st)
  else
    let s := s.setStream st { x with next := 0 }
    match x.next with
    | 1 => s.setStrmState st 1
    | 2 => s.setStrmState st 2
    | 3 => s.setStrmState st 1
    | _ => s

/-- One record of an input stream whose buffers hold records (7 and 8): the buffer ends when no further record fits. -/
def State.strmRecord (s : State) (st : Nat) (bs : List Byte) : State :=
  let s := if (s.stream st).ended then s.strmComplete st else s
  let s := if (s.stream st).cap then s else s.strmOpen st s.now
  let s := s.strmPut st (s.stream st).len bs
  let x := s.stream st
  s.setStream st { x with ts1 := s.now, ended := x.cap &&
    (x.flags.testBit 2 || decide (s.fld64 (STRM_BUF_SIZE st) 23 < 0x40 + x.len + bs.length)) }

/-- Lanes, lane rate in Mb/s, width and lines that receiver `n` has at most (Table 8.1). -/
def csiCaps (n : Nat) : Nat × Nat × Nat × Nat := match n with
  | 0 => (4, 2500, 4096, 3072)
  | 1 => (4, 2500, 4096, 3072)
  | 4 => (1, 800, 640, 480)
  | _ => (2, 1500, 2048, 2048)

/-- Whether receiver `n` has the lanes, the lane rate and the size it is configured for (R164). -/
def State.csiCapsOk (s : State) (n : Nat) : Bool :=
  let c := csiCaps n
  let rate := s.fld (CSI_LANE_RATE n) 11 0
  decide (s.fld (CSI_CFG n) 1 0 + 1 ≤ c.1 ∧ 80 ≤ rate ∧ rate ≤ c.2.1 ∧ s.fld (CSI_SIZE n) 15 0 ≤ c.2.2.1 ∧ s.fld (CSI_SIZE n) 31 16 ≤ c.2.2.2)

/-- Whether the configuration of receiver `n` is one the receiver and its ISP have (R164, R166). -/
def State.ispConfigOk (s : State) (n : Nat) : Bool :=
  s.csiCapsOk n &&
  let dt := s.fld (CSI_CFG n) 13 8
  let mode := s.fld (CSI_ISP n) 1 0
  (dt == 0x2A || dt == 0x2B || dt == 0x2C || (dt == 0x1E && mode != 0)) && mode != 3 &&
    s.fld (CSI_ISP n) 5 4 != 3 && s.fld (CSI_ISP n) 7 6 != 3 && (mode != 0 || s.fld (CSI_ISP n) 9 8 == 3)

/-- Whether transmitter `n` has the lane rate it is configured for (R172). -/
def State.dsiRateOk (s : State) (n : Nat) : Bool :=
  decide (160 ≤ s.fld (DSI_LANE_RATE n) 11 0 ∧ s.fld (DSI_LANE_RATE n) 11 0 ≤ 2500)

/-- Whether the high-quality path runs: stream 7 has been started and is not STOPPED. -/
def State.hqRuns (s : State) : Bool := s.strmState 7 != 0 || (s.stream 7).next == 1

/-- Whether the low-power path runs. -/
def State.lpRuns (s : State) : Bool := s.strmState 6 != 0 || (s.stream 6).next == 1

/-- Whether the group of PDM clock `g` holds the low-power microphone, in use. -/
def State.lpGroup (s : State) (g : Nat) : Bool := s.lpRuns && s.fld AUD_LP_CFG 2 0 / 4 == g

/-- Whether the group of PDM clock `g` holds an enabled microphone of the running high-quality path. -/
def State.hqGroup (s : State) (g : Nat) : Bool := s.hqRuns && s.fld AUD_HQ_CFG (4 * g + 3) (4 * g) != 0

/-- The rate of PDM clock `g` (R140, R141): 0 held low, as its group holds no microphone in use; 1 768 kHz; 2 3.072 MHz. -/
def State.pdmRate (s : State) (g : Nat) : Nat := if s.lpGroup g || s.hqGroup g then s.aud.clk.getD g 1 else 0

/-- The paths settle for times in 0.1 ms (R141); one that does not run has nothing to settle. -/
def State.audSettle (s : State) (lp hq : Nat) : State :=
  let s : State := { s with aud.lpTill := if s.lpRuns then s.now + 3840 * lp else s.aud.lpTill
                            aud.hqTill := if s.hqRuns then s.now + 3840 * hq else s.aud.hqTill }
  (s.setFlag AUD_STATUS 2 (s.lpRuns || s.flag AUD_STATUS 2)).setFlag AUD_STATUS 3 (s.hqRuns || s.flag AUD_STATUS 3)

/-- Start the low-power or high-quality path with an empty block (R141, R143, R149): its stopped clocks start and the paths settle
for AUD_HQ_CFG.SETTLE, the low-power path for AUD_LP_CFG.SETTLE where its own start starts its clock. A clock that runs changes its
rate at a 16 kHz boundary only. -/
def State.audStart (s : State) (st : Nat) : State :=
  let hq := s.fld AUD_HQ_CFG 25 20
  if st = 6 then
    let s : State := { s with aud.lpBlk := 0 }
    let g := s.fld AUD_LP_CFG 2 0 / 4
    if s.hqGroup g then s
    else ({ s with aud.clk := s.aud.clk.set g (if s.hqRuns then 2 else 1) } : State).audSettle (s.fld AUD_LP_CFG 9 4) hq
  else if st = 7 then
    let s : State := { s with aud.hqBlk := 0 }
    let new := [0, 1].filter fun g => s.hqGroup g && !s.lpGroup g
    let s : State := { s with aud.clk := new.foldl (fun l g => l.set g 2) s.aud.clk }
    if new.isEmpty then ({ s with aud.hqTill := s.now + 3840 * hq } : State).setFlag AUD_STATUS 3 true else s.audSettle hq hq
  else s

/-- START (R180). -/
def strmStart (q : Req) (st : Nat) (s : State) : State :=
  if s.strmState st ≠ 0 then s.fail q (STRM_CMD st) 0x12
  else if (st < 6 ∧ !s.ispConfigOk st) ∨ (st = 10 ∨ st = 11) ∧ !s.dsiRateOk (st - 10) then s.fail q (STRM_CMD st) 0x13
  else
    let s := ((s.setReg (STRM_SW_SEQ st) 0).setReg (STRM_HW_SEQ st) 0).hold 13 st (strmDomain st)
    let s := s.setStream st { next := 1 }
    let s := s.setFlag (STRM_STAT st) 2 (s.strmOut st)
    let s := s.audStart st
    let s := if st = 10 ∨ st = 11 then
        let d := s.dsi.get (fun _ => {}) (st - 10)
        { s with dsi := s.dsi.set (fun _ => {}) (st - 10) { d with layers := d.layers.map fun l => { l with shown := false } } }
      else s
    let s : State := if st < 6 then { s with cam := s.cam.set (fun _ => {}) st { s.cam.get (fun _ => {}) st with fsAt := s.now } } else s
    if 12 ≤ st then s.strmBoundary st else s

/-- PAUSE (R180). -/
def strmPause (q : Req) (st : Nat) (s : State) : State :=
  if s.strmState st ≠ 1 then s.fail q (STRM_CMD st) 0x12
  else
    let s := s.setStream st { s.stream st with next := 2 }
    if 12 ≤ st then s.strmBoundary st else s

/-- RESUME (R180). -/
def strmResume (q : Req) (st : Nat) (s : State) : State :=
  if s.strmState st ≠ 2 then s.fail q (STRM_CMD st) 0x12
  else
    let s := s.setStream st { s.stream st with next := 3 }
    if 12 ≤ st then s.strmBoundary st else s

/-- STOP (R180): STOPPING at once, the frame in progress is discarded. -/
def strmStop (q : Req) (st : Nat) (s : State) : State :=
  if s.strmState st ≠ 1 ∧ s.strmState st ≠ 2 then s.fail q (STRM_CMD st) 0x12
  else
    let s := (s.setStrmState st 3).setStream st {}
    if 12 ≤ st then s.strmBoundary st else s

/-- Transmitter `n`. -/
def State.display (s : State) (n : Nat) : Dsi := s.dsi.get (fun _ => {}) n

/-- `s` with transmitter `n` replaced. -/
def State.setDisplay (s : State) (n : Nat) (x : Dsi) : State := { s with dsi := s.dsi.set (fun _ => {}) n x }

/-- Send the DCS writes that wait (R172). -/
def State.dcsFlush (s : State) (n : Nat) : State :=
  let d := s.display n
  (d.dcs.foldl (fun s w => s.emit (.bus (10 + n) (leBytes 3 w.toNat))) s).setDisplay n { d with dcs := [] }

/-- The end of a STOP that met no boundary in 10 ms (R180); a transmitter then sends what waited for its blanking (R172). -/
def strmStopComplete (st : Nat) (s : State) : State :=
  if s.strmState st = 3 then
    let s := s.strmBoundary st
    if st = 10 ∨ st = 11 then (s.setDisplay (st - 10) { s.display (st - 10) with line := none }).dcsFlush (st - 10) else s
  else s

/-- A stop by a soft reset of the endpoint page (R183): at once, nothing further is written. -/
def State.strmKill (s : State) (st : Nat) : State :=
  ((s.setStrmState st 0).setStream st {}).unhold 13 st (strmDomain st)

/-- A write of STRM_SW_SEQ (R182): within SW_SEQ to HW_SEQ for an input stream, within COUNT buffers ahead of HW_SEQ for
an output stream, whose roles are swapped (R179). -/
def strmSwSeqWrite (q : Req) (st : Nat) (v : Word) (s : State) : State :=
  let n := (bits v 15 0 + 0x10000 - s.fld (STRM_SW_SEQ st) 15 0) % 0x10000
  let room := if s.strmOut st then s.strmCount st - s.strmAhead st else s.strmAhead st
  if room < n then s.fail q (STRM_SW_SEQ st) 0x11 else s.strmAdvance st (STRM_SW_SEQ st) n

/-- The device consumes the output buffer it is at and goes on to the next, or counts an underrun (R179, R181). -/
def State.strmConsumed (s : State) (st : Nat) : State :=
  if s.strmAhead st = 0 then s.strmUnderrun st
  else (s.strmAdvance st (STRM_HW_SEQ st) 1).setStream st { s.stream st with cap := false, ended := false, len := 0 }

/-- A write of a "stopped" field of a stream window or an endpoint page (R183). -/
def State.stoppedWrite (s : State) (q : Req) (st k : Nat) (v : Word) : State :=
  if s.strmState st ≠ 0 then s.fail q k 0x10 else s.plainWrite k v

/-- A write of STRM_BUF_CFG: DIR only for streams 12 to 15. -/
def strmBufCfg (q : Req) (st : Nat) (v : Word) (s : State) : State :=
  s.stoppedWrite q st (STRM_BUF_CFG st) (if 12 ≤ st then v else setBit v 28 false)

/-- A write of STRM_HV_OWNER: each owner only while its stream is stopped (R186). -/
def strmHvOwner (v : Word) (s : State) : State :=
  (List.range 4).foldl (fun s k =>
    if s.strmState (12 + k) = 0 then s.setFld STRM_HV_OWNER (4 * k + 2) (4 * k) (bits v (4 * k + 2) (4 * k)) else s) s

end Sys2Proof.Machine
end

