-- ==== Sys2Proof/Machine/Camera.lean ====
section
/-! DEFINITION. CSI-2 receivers and the light ISP (R164 to R169): packets to lines, lines to output lines, frames to
buffers. -/

namespace Sys2Proof.Machine

/-- Receiver `n`. -/
def State.camera (s : State) (n : Nat) : Cam := s.cam.get (fun _ => {}) n

/-- `s` with receiver `n` replaced. -/
def State.setCamera (s : State) (n : Nat) (x : Cam) : State := { s with cam := s.cam.set (fun _ => {}) n x }

/-- Bits per sensor value of a data type (R164). -/
def dtDepth (dt : Nat) : Nat := if dt = 0x2B then 10 else if dt = 0x2C then 12 else 8

/-- Payload bytes of a line of `w` pixels. -/
def dtBytes (dt w : Nat) : Nat :=
  if dt = 0x2B then ceilDiv (w * 5) 4 else if dt = 0x2C then ceilDiv (w * 3) 2 else if dt = 0x1E then 2 * w else w

/-- The values of a line in the packed order of CSI-2: RAW10 puts the low bits of four values into a fifth byte, RAW12
those of two into a third; RAW8 and YUV422 are bytes. -/
def unpackLine (dt : Nat) : List Byte → List Nat
  | a :: b :: c :: d :: e :: l =>
    if dt = 0x2B then
      (a.toNat * 4 + nbits e.toNat 1 0) :: (b.toNat * 4 + nbits e.toNat 3 2) :: (c.toNat * 4 + nbits e.toNat 5 4) ::
        (d.toNat * 4 + nbits e.toNat 7 6) :: unpackLine dt l
    else if dt = 0x2C then
      (a.toNat * 16 + nbits c.toNat 3 0) :: (b.toNat * 16 + nbits c.toNat 7 4) :: unpackLine dt (d :: e :: l)
    else a.toNat :: unpackLine dt (b :: c :: d :: e :: l)
  | [a, b, c, d] => if dt = 0x2C then [a.toNat * 16 + nbits c.toNat 3 0, b.toNat * 16 + nbits c.toNat 7 4]
    else if dt = 0x2B then [] else [a.toNat, b.toNat, c.toNat, d.toNat]
  | [a, b, c] => if dt = 0x2C then [a.toNat * 16 + nbits c.toNat 3 0, b.toNat * 16 + nbits c.toNat 7 4]
    else if dt = 0x2B then [] else [a.toNat, b.toNat, c.toNat]
  | l => if dt = 0x2B ∨ dt = 0x2C then [] else l.map (·.toNat)

/-- A list cut or filled with zeros to `n` entries. -/
def fitTo (n : Nat) (l : List Nat) : List Nat := (l ++ List.replicate (n - l.length) 0).take n

/-! ### The light ISP (R166) -/

def State.csiDt (s : State) (n : Nat) : Nat := s.fld (CSI_CFG n) 13 8
def State.csiW (s : State) (n : Nat) : Nat := s.fld (CSI_SIZE n) 15 0
def State.csiH (s : State) (n : Nat) : Nat := s.fld (CSI_SIZE n) 31 16
def State.ispMode (s : State) (n : Nat) : Nat := s.fld (CSI_ISP n) 1 0

/-- HSCALE and VSCALE. -/
def State.ispHScale (s : State) (n : Nat) : Nat := 2 ^ s.fld (CSI_ISP n) 5 4
def State.ispVScale (s : State) (n : Nat) : Nat := 2 ^ s.fld (CSI_ISP n) 7 6

/-- OUT: 0 PLANAR8, 1 B16, 2 B32, 3 PLANAR16, the LAYOUT codes of Table 14.1. -/
def State.ispOut (s : State) (n : Nat) : Nat := s.fld (CSI_ISP n) 9 8

/-- Channels of the output. -/
def State.ispC (s : State) (n : Nat) : Nat := if s.ispMode n = 2 then 3 else 1

/-- Width of the output. -/
def State.ispW (s : State) (n : Nat) : Nat :=
  let w := s.fld (CSI_CROP_SIZE n) 15 0
  let rest := s.csiW n - s.fld (CSI_CROP_ORG n) 15 0
  (if w = 0 then rest else min w rest) / s.ispHScale n

/-- Lines of the output. -/
def State.ispH (s : State) (n : Nat) : Nat :=
  let h := s.fld (CSI_CROP_SIZE n) 31 16
  let rest := s.csiH n - s.fld (CSI_CROP_ORG n) 31 16
  (if h = 0 then rest else min h rest) / s.ispVScale n

/-- A sensor value less CSI_BLACK, clamped at zero; none outside the frame. -/
def State.ispRaw (s : State) (n : Nat) (lines : List (List Nat)) (y x : Int) : Option Nat :=
  if 0 ≤ y ∧ y < s.csiH n ∧ 0 ≤ x ∧ x < s.csiW n then
    some (at' 0 (at' [] lines y.toNat) x.toNat - s.fld (CSI_BLACK n) 11 0)
  else none

/-- The values of the pixels of a neighbourhood that lie inside the frame, at offsets (dy, dx) from (y, x). -/
def State.ispNear (s : State) (n : Nat) (lines : List (List Nat)) (y x : Nat) (os : List (Int × Int)) : List Nat :=
  os.filterMap fun o => s.ispRaw n lines ((y : Int) + o.1) ((x : Int) + o.2)

/-- The bilinear mean of a neighbourhood (R166): its rounding is open, and at the frame's edge, where a neighbour is missing, the
value. -/
def State.ispMean (s : State) (n : Nat) (lines : List (List Nat)) (y x : Nat) (os : List (Int × Int)) : Nat :=
  let vs := s.ispNear n lines y x os
  if vs.length = os.length then (roundOpen 166 (vs.foldl (· + ·) 0 : Nat) os.length).toNat
  else min (Config.demosaicEdge vs) (2 ^ dtDepth (s.csiDt n) - 1)

/-- Bilinear demosaic of a pixel (R166): its own colour as the sensor gives it, the others from the nearest of theirs. BAYER names
where red stands in a 2 x 2 cell: its bit 0 the column, bit 1 the line. -/
def State.ispDemosaic (s : State) (n : Nat) (lines : List (List Nat)) (y x : Nat) : Nat × Nat × Nat :=
  let b := s.fld (CSI_ISP n) 3 2
  let own := (s.ispRaw n lines y x).getD 0
  let mean := s.ispMean n lines y x
  let side := mean [(0, -1), (0, 1)]
  let upDown := mean [(-1, 0), (1, 0)]
  let cross := mean [(-1, 0), (0, -1), (0, 1), (1, 0)]
  let corners := mean [(-1, -1), (-1, 1), (1, -1), (1, 1)]
  match (y + b / 2) % 2, (x + b) % 2 with
  | 0, 0 => (own, cross, corners)
  | 1, 1 => (corners, cross, own)
  | 0, _ => (side, own, upDown)
  | _, _ => (upDown, own, side)

/-- BT.601 full range of a pixel (R166); its rounding is open. -/
def yuvToRgb (y u v : Nat) : Nat × Nat × Nat :=
  let du : Int := (u : Int) - 128
  let dv : Int := (v : Int) - 128
  (clamp8 (roundOpen 166 (1000 * y + 1402 * dv) 1000), clamp8 (roundOpen 166 (587000 * y - 202008 * du - 419198 * dv) 587000),
    clamp8 (roundOpen 166 (1000 * y + 1772 * du) 1000))

/-- The channels of one input pixel (R166, steps 1 and 2). CSI_BLACK is taken off a YUV422 pixel's Y. -/
def State.ispPixel (s : State) (n : Nat) (lines : List (List Nat)) (y x : Nat) : List Nat :=
  if s.ispMode n = 0 then [(s.ispRaw n lines y x).getD 0]
  else
    let l := at' [] lines y
    let (r, g, b) := if s.csiDt n = 0x1E then
        yuvToRgb (at' 0 l (2 * x + 1) - s.fld (CSI_BLACK n) 11 0) (at' 0 l (x / 2 * 4)) (at' 0 l (x / 2 * 4 + 2))
      else s.ispDemosaic n lines y x
    if s.ispMode n = 1 then [(77 * r + 150 * g + 29 * b) >>> 8] else [r, g, b]

/-- The value an output format writes (R166): the top 8 bits, INT8 less 128 as a byte, or 16 bits left-justified. -/
def State.ispValue (s : State) (n v : Nat) : Nat :=
  let d := dtDepth (s.csiDt n)
  match s.ispOut n with
  | 0 => (v >>> (d - 8)) % 256
  | 3 => (v * 2 ^ (16 - d)) % 65536
  | _ => ((v >>> (d - 8)) + 128) % 256

/-- Channel `c` of output pixel (y, x): the crop and the box average (R166, steps 3 and 4). -/
def State.ispAverage (s : State) (n : Nat) (lines : List (List Nat)) (c y x : Nat) : Nat :=
  let hs := s.ispHScale n
  let vs := s.ispVScale n
  let sum := ((List.range (hs * vs)).map fun i =>
    at' 0 (s.ispPixel n lines (s.fld (CSI_CROP_ORG n) 31 16 + y * vs + i / hs) (s.fld (CSI_CROP_ORG n) 15 0 + x * hs + i % hs)) c).foldl
      (· + ·) 0
  (roundOpen 166 (sum : Nat) (hs * vs)).toNat

/-- The same in the output format. -/
def State.ispAt (s : State) (n : Nat) (lines : List (List Nat)) (c y x : Nat) : Nat :=
  s.ispValue n (s.ispAverage n lines c y x)

/-- Output line `y`, its values by channel. -/
def State.ispLine (s : State) (n : Nat) (lines : List (List Nat)) (y : Nat) : List (List Nat) :=
  (List.range (s.ispC n)).map fun c => (List.range (s.ispW n)).map fun x => s.ispAt n lines c y x

/-- Whether the input lines output line `y` needs are there: its own and, for a demosaic, the one below. -/
def State.ispReady (s : State) (n : Nat) (x : Cam) (y : Nat) : Bool :=
  x.done || decide (min (s.csiH n) (s.fld (CSI_CROP_ORG n) 31 16 + (y + 1) * s.ispVScale n +
    (if s.ispMode n = 0 ∨ s.csiDt n = 0x1E then 0 else 1)) ≤ x.lines.length)

/-- The pixels of a line in a B layout with K-channel blocks: channels, then zeros (R297, R299). -/
def blockPixels (k : Nat) (chans : List (List Nat)) (w : Nat) : List Byte :=
  (List.range w).flatMap fun x =>
    (chans.map fun l => byte (at' 0 l x)) ++ List.replicate (roundUp chans.length k - chans.length) 0

/-- Write an output line into the stream's open buffer, rows packed (R166, R297). -/
def State.ispWrite (s : State) (n y : Nat) (chans : List (List Nat)) : State :=
  let w := s.ispW n
  match s.ispOut n with
  | 0 => (List.range chans.length).foldl (fun s c =>
      s.strmPut n ((c * s.ispH n + y) * w) ((at' [] chans c).map byte)) s
  | 3 => (List.range chans.length).foldl (fun s c =>
      s.strmPut n ((c * s.ispH n + y) * (2 * w)) ((at' [] chans c).flatMap (leBytes 2))) s
  | o => s.strmPut n (y * w * roundUp chans.length (16 * o)) (blockPixels (16 * o) chans w)

/-- The ISP completes its next output line (R167): the line ring, the buffer, CSI_LINE_CNT. Nothing where no frame is
in work, every line is out, or its input is not there yet. -/
def ispLineDone (n : Nat) (s : State) : State :=
  let x := s.camera n
  let y := s.fld (CSI_LINE_CNT n) 15 0
  if (x.frame ∨ x.done) ∧ y < s.ispH n ∧ s.ispReady n x y then
    let line := s.ispLine n x.lines y
    let s := s.setCamera n { x with ring := ((y, line) :: x.ring).take 16 }
    (s.ispWrite n y line).setReg (CSI_LINE_CNT n) (word (y + 1))
  else s

/-- Every output line that is left. -/
def State.ispFlush (s : State) (n : Nat) : State := (List.range (s.ispH n)).foldl (fun s _ => ispLineDone n s) s

/-! ### Packets and frames (R164, R165, R168) -/

/-- One error of CSI_ERR: its counter in bits [lo+7:lo], saturating, and PKT_ERR. -/
def State.csiError (s : State) (n lo : Nat) : State := (s.bumpSat (CSI_ERR n) (lo + 7) lo).irq (0x044 + n) 3

/-- Whether receiver `n`'s domain is ON. -/
def State.csiOn (s : State) (n : Nat) : Bool := s.domOn (pageDom (0x044 + n))

/-- Set a flag of the open buffer (Table 8.2). -/
def State.strmFlag (s : State) (st i : Nat) : State :=
  let x := s.stream st
  if x.cap ∧ !x.flags.testBit i then s.setStream st { x with flags := x.flags + 2 ^ i } else s

/-- A long packet: a header error of one bit is corrected, of more drops it; another channel or type is dropped
uncounted; a payload error keeps the line. -/
def csiLongPacket (n vc dt ecc : Nat) (crcOk : Bool) (payload : List Byte) (s : State) : State :=
  if !s.csiOn n ∨ s.strmState n = 0 then s
  else if 2 ≤ ecc then s.csiError n 8
  else
    let s := if ecc = 1 then s.bumpSat (CSI_ERR n) 7 0 else s
    if vc ≠ s.fld (CSI_CFG n) 5 4 ∨ dt ≠ s.csiDt n then s
    else
      let x := s.camera n
      if !x.frame then s
      else
        let s := if crcOk then s else (s.csiError n 16).strmFlag n 0
        if s.csiH n ≤ x.lines.length then s.setCamera n { x with bad := true }
        else s.setCamera n { x with
          lines := x.lines ++ [fitTo (if dt = 0x1E then 2 * s.csiW n else s.csiW n) (unpackLine dt payload)]
          bad := x.bad || payload.length != dtBytes dt (s.csiW n) }

/-- Complete a frame's buffer: the lines left, then the buffer. -/
def State.frameComplete (s : State) (n : Nat) : State :=
  let s := s.ispFlush n
  let s := s.setCamera n { s.camera n with done := false }
  if (s.stream n).cap then s.strmComplete n else s

/-- A short packet with header errors (R165): none where it is dropped. -/
def State.csiShort (s : State) (n ecc : Nat) : Option State :=
  if !s.csiOn n ∨ s.strmState n = 0 ∧ (s.stream n).next ≠ 1 then none
  else if 2 ≤ ecc then none
  else some (if ecc = 1 then s.bumpSat (CSI_ERR n) 7 0 else s)

/-- A short packet of a receiver in use, dropped for its header (R165). -/
def State.csiShortLost (s : State) (n ecc : Nat) : State :=
  if !s.csiOn n ∨ s.strmState n = 0 ∧ (s.stream n).next ≠ 1 ∨ ecc < 2 then s else s.csiError n 8

/-- The end of the frame in progress: cut or filled to CSI_SIZE, the SIZE flag where it differed (R165) or was `cut` short. -/
def State.frameEnd (s : State) (n : Nat) (cut : Bool := false) : State :=
  let x := s.camera n
  let bad := x.bad || x.lines.length != s.csiH n || cut
  let s := s.setCamera n { x with frame := false, done := true, bad := false }
  let s := if bad then (s.csiError n 24).strmFlag n 1 else s
  let y := s.stream n
  s.setStream n { y with ts1 := s.now, ended := y.cap }

/-- A frame start (R165, R168, R180): a frame whose end was lost ends here; then the boundary of the stream, stamped; a running
stream captures from here. -/
def csiFrameStart (p : ShortPacket) (s : State) : State :=
  let n := p.n
  match s.csiShort n p.ecc with
  | none => s.csiShortLost n p.ecc
  | some s =>
    let s := if (s.camera n).frame then s.frameEnd n else s
    let s := if (s.camera n).done then s.frameComplete n else s
    let s := s.strmBoundary n
    if s.strmState n = 0 then s
    else
      let s := (s.strmEvent n).irq (0x044 + n) 0
      let fresh : Cam := { frames := (s.camera n).frames, fsAt := s.now }
      if s.strmState n = 1 then
        let s := s.setCamera n { fresh with frame := true, frames := fresh.frames + 1 }
        (s.setReg (CSI_LINE_CNT n) 0).strmOpen n s.now
      else s.setCamera n fresh

/-- A frame end packet (R165): stamped, also where no frame is captured. -/
def csiFrameEnd (p : ShortPacket) (s : State) : State :=
  let n := p.n
  match s.csiShort n p.ecc with
  | none => s.csiShortLost n p.ecc
  | some s =>
    let s := (s.strmStamp n).irq (0x044 + n) 1
    if (s.camera n).frame then s.frameEnd n else s

/-- A camera supply fault cuts the frames in progress short (R168). -/
def State.cameraCut (s : State) : State :=
  (List.range 6).foldl (fun s n => if (s.camera n).frame then s.frameEnd n true else s) s

/-- No FS within CSI_FRAME_TMO of the last FS, of START, or of the timeout before (R168). -/
def csiFrameTmo (n : Nat) (s : State) : State :=
  let tmo := s.fld (CSI_FRAME_TMO n) 15 0
  if s.csiOn n ∧ (s.strmState n ≠ 0 ∨ (s.stream n).next = 1) ∧ tmo ≠ 0 ∧ (s.camera n).fsAt + 38400 * tmo ≤ s.now then
    (s.irq (0x044 + n) 2).setCamera n { s.camera n with fsAt := s.now }
  else s

/-- A write to a CSI page: the "stopped" fields only while the stream is STOPPED (R183, Table 8.3). -/
def csiWrite (q : Req) (k : Nat) (v : Word) (s : State) : State :=
  let n := keyPage k - 0x044
  let off := keyOff k
  if off = 0x100 ∨ off = 0x104 ∨ off = 0x108 ∨ off = 0x110 ∨ off = 0x114 ∨ off = 0x118 then s.stoppedWrite q n k v
  else if off = 0x128 ∧ n ≠ 4 then s
  else s.plainWrite k v

/-- A receiver stops at once (R183). -/
def State.cameraKill (s : State) (n : Nat) : State := (s.strmKill n).setCamera n {}

/-! ### Meanings -/

def execCsiLongPacket (n vc dt ecc : Nat) (crcOk : Bool) (payload : List Byte) (s : State) : Host.Outcome State Fault Refusal :=
  only (decide (n < 6)) s (s.heldIdle (0x044 + n) (csiLongPacket n vc dt ecc crcOk payload s))
def execCsiFrameTmo (n : Nat) (s : State) : Host.Outcome State Fault Refusal :=
  only (decide (n < 6)) s (s.heldIdle (0x044 + n) (csiFrameTmo n s))

end Sys2Proof.Machine
end

