-- ==== Sys2Proof/Machine/Buses.lean ====
section
/-! DEFINITION. I3C, GPIO and SPI (R170, R171, R187). -/

namespace Sys2Proof.Machine

/-- Controller `n`. -/
def State.i3cOf (s : State) (n : Nat) : I3c := s.i3c.get (fun _ => {}) n

/-- `s` with controller `n` replaced. -/
def State.setI3c (s : State) (n : Nat) (x : I3c) : State := { s with i3c := s.i3c.set (fun _ => {}) n x }

/-- Bytes on the bus of controller `n`; its balls, like SPI's, show nothing while VR_IO18 is not good (R37, R456) or the
boundary chain controls the pads (R432). -/
def State.ioEmit (s : State) (o : Out) : State := if s.flag VR_STATUS 9 && !s.dbg.scan then s.emit o else s

/-- Start a bus command: BUSY, with `bytes` on the bus, after an auto-read that is on it; nothing while another runs. -/
def State.i3cStart (s : State) (n : Nat) (v : Word) (bytes : List Byte) : State :=
  let wait := n == 0 && s.autoCur.isSome
  let s := (s.setI3c n { s.i3cOf n with cmd := v, held := if wait then bytes else [] }).setFlag (I3C_STAT n) 0 true
  if wait then s else s.ioEmit (.bus n bytes)

/-- I3C_CMD (R170, Table 8.6): 1 ENTDAA, 2 write, 3 read, 4 CCC; another code does nothing. A write takes its bytes from
the FIFO. ENTDAA and a CCC go to the broadcast address 0x7E; a direct CCC (0x80 up) then names ADDR. -/
def i3cCommand (n : Nat) (v : Word) (s : State) : State :=
  if s.flag (I3C_STAT n) 0 then s
  else
    let len := bits v 23 16
    let addr := byte (bits v 10 4 * 2)
    match bits v 2 0 with
    | 1 => s.i3cStart n v [0xFC, 0x07]
    | 2 =>
      let x := s.i3cOf n
      let words := ceilDiv len 4
      let out := ((x.fifo.take words).flatMap fun w => leBytes 4 w.toNat).take len
      (s.setI3c n { x with fifo := x.fifo.drop words }).i3cStart n v (addr :: out)
    | 3 => s.i3cStart n v [addr + 1]
    | 4 => s.i3cStart n v ([0xFC, byte len] ++ if 0x80 ≤ len then [addr] else [])
    | _ => s

/-- Bytes as the words of the FIFO, the last filled with zeros. -/
def fifoWords (bs : List Byte) : List Word := (List.range (ceilDiv bs.length 4)).map fun i => word (leNat (slice bs (4 * i) 4))

/-- Auto-read entry `k`. -/
def State.autoRead (s : State) (k : Nat) : AutoRead := s.auto.get (fun _ => {}) k

/-- `s` with an entry replaced. -/
def State.setAuto (s : State) (k : Nat) (x : AutoRead) : State := { s with auto := s.auto.set (fun _ => {}) k x }

/-- The next auto-read goes on the free bus (R171): the longest-waiting entry, those of one cycle in rotating order (R35); a period's
read takes its stamp here. -/
def State.autoNext (s : State) : State :=
  let waits := (List.range 4).filter fun k => (s.autoRead k).wait
  let first := waits.filter fun k => waits.all fun j => (s.autoRead k).stamp ≤ (s.autoRead j).stamp
  if s.autoCur.isSome ∨ s.flag (I3C_STAT 0) 0 then s
  else match s.arbitrate 0x101 4 first false with
    | (none, s) => s
    | (some k, s) =>
      let addr := byte (s.fld (I3C_AUTO k) 22 16 * 2)
      let s : State := { s with autoCur := some k }
      let s := if s.fld (I3C_AUTO k) 2 1 = 2 then s.setAuto k { s.autoRead k with stamp := s.now } else s
      s.ioEmit (.bus 0 [addr, byte (s.fld (I3C_AUTO_RD k) 7 0), addr + 1])

/-- The end of a bus command (R170): BUSY clears, NACK is recorded, the bytes of a read enter the FIFO. -/
def i3cTransferDone (n : Nat) (nack : Bool) (data : List Byte) (s : State) : State :=
  if !s.flag (I3C_STAT n) 0 ∨ (s.i3cOf n).held ≠ [] then s
  else
    let x := s.i3cOf n
    let got := if bits x.cmd 2 0 = 3 ∧ !nack then fifoWords (data.take (bits x.cmd 23 16)) else []
    let s := ((s.setI3c n { fifo := (x.fifo ++ got).take 16 }).setFlag (I3C_STAT n) 0 false).setFlag (I3C_STAT n) 1 nack
    if n = 0 then s.autoNext else s

/-- A trigger of entry `k` (R171): its read waits, or the trigger is merged into the read that does. -/
def State.autoTrigger (s : State) (k : Nat) : State :=
  let x := s.autoRead k
  if x.wait then s.setAuto k { x with merged := true } else s.setAuto k ⟨true, s.now, false⟩

/-- Trigger every enabled entry of trigger kind `trig` for which `p` holds. -/
def State.autoFire (s : State) (trig : Nat) (p : Nat → Bool) : State :=
  s.heldIdle 0x04D <| ((List.range 4).foldl (fun s k =>
    if s.flag (I3C_AUTO k) 0 ∧ s.fld (I3C_AUTO k) 2 1 = trig ∧ p k then s.autoTrigger k else s) s).autoNext

/-- An in-band interrupt of a target of controller `n`, with a payload of up to 8 bytes (R170, R171): acknowledged; on I3C0 it triggers
its entry, and the payload is discarded. I3C1 has no entries and the rules give its payload no place. -/
def i3cIbi (ibi : Ibi) (s : State) : State :=
  if s.domOn 2 ∧ s.flag VR_STATUS 9 ∧ ibi.n = 0 then s.autoFire 0 fun k => s.fld (I3C_AUTO k) 22 16 == ibi.addr else s

/-- An entry's period expires (R171). -/
def i3cAutoPeriod (k : Nat) (s : State) : State := if s.domOn 2 then s.autoFire 2 fun j => j == k else s

/-- The bus is free of the auto-read: the command that waited for it goes first, then the next auto-read. -/
def State.autoDone (s : State) : State :=
  let x := s.i3cOf 0
  let s : State := { s with autoCur := none }
  if x.held ≠ [] then (s.setI3c 0 { x with held := [] }).ioEmit (.bus 0 x.held) else s.autoNext

/-- The record of an auto-read goes to stream 8, whose boundary it is (R171); an overrun takes the last stamp (R18). -/
def State.autoRecord (s : State) (k : Nat) (x : AutoRead) (data : List Byte) : State :=
  let len := min 20 (s.fld (I3C_AUTO_RD k) 12 8)
  let body := (data.take len ++ List.replicate (20 - min len data.length) 0).take 20
  let s := s.strmBoundary 8
  if s.strmState 8 = 1 then
    let s : State := { s with imu := (x.stamp, body) :: s.imu }
    ((s.setReg64 (STRM_LAST_TS_LO 8) (STRM_LAST_TS_HI 8) x.stamp).lockSeen 8 x.stamp).strmRecord 8
      (leBytes 8 x.stamp ++ leBytes 4 (k + len * 0x100 + x.merged.toNat * 0x10000) ++ body)
  else s

/-- The read of entry `k` that is on the bus completes (R171). -/
def i3cAutoReadDone (k : Nat) (data : List Byte) (s : State) : State :=
  if !s.domOn 2 ∨ s.autoCur ≠ some k then s
  else ((s.setAuto k {}).autoRecord k (s.autoRead k) data).autoDone

/-! ### GPIO (R187, R454) -/

/-- What GPIO ball `p` is to be driven to: 0 not driven, 1 low, 2 high. An FSYNC pin rests low. -/
def State.gpioWant (s : State) (p : Nat) : Nat :=
  if s.flag (GPIO_PIN p) 0 then 1 else if s.flag GPIO_OE p then 1 + (s.flag GPIO_OUT p).toNat else 0

/-- The GPIO outputs follow their registers while SOC is ON; else each holds its last level and drive (R454). -/
def State.gpioDrive (s : State) : State :=
  if (s.dom 2).st ≠ .on then s
  else (List.range 24).foldl (fun s p =>
    let w := s.gpioWant p
    if s.pads.get (fun _ => 0) p = w then s
    else ({ s with pads := s.pads.set (fun _ => 0) p w } : State).emit (if w = 0 then .release (0x100 + p) else .pin (0x100 + p) (w == 2))) s

/-- A write to the GPIO page. -/
def gpioWrite (k : Nat) (v : Word) (s : State) : State := (s.plainWrite k v).gpioDrive

/-- An edge on a GPIO pin (R187): GPIO_IN, the pin's interrupt, and any auto-read it triggers. -/
def gpioEdge (pin : Nat) (rising : Bool) (s : State) : State :=
  if !s.domOn 2 then s
  else
    let s := s.setFlag GPIO_IN pin rising
    let sel := s.fld (GPIO_PIN pin) 7 6
    let s := if sel = 3 ∨ (sel = 1 ∧ rising) ∨ (sel = 2 ∧ !rising) then s.irq 0x04F pin else s
    s.autoFire 1 fun k => s.fld (I3C_AUTO k) 12 8 == pin

/-- OFS after a vsync of its source, every FSYNC pin outputs a pulse of WIDTH us (R187). -/
def gpioFsyncPulse (s : State) : State :=
  if !s.domOn 2 ∨ !s.fsync then s
  else
    let s : State := { s with fsync := false }
    (List.range 24).foldl (fun s p =>
      if s.flag (GPIO_PIN p) 0 then (s.emit (.pin (0x100 + p) true)).emit (.pin (0x100 + p) false) else s) s

/-! ### SPI (R187) -/

/-- SPI_XFER (R187): a transfer to or from the memory buffer; nothing while one runs. -/
def spiXfer (v : Word) (s : State) : State :=
  if s.flag SPI_STAT 0 then s
  else
    let s : State := { s with spi := v }
    let n := bits v 15 0
    let (bs, s) := if bit v 16 then ([], s)
      else
        let (_, bs, s) := s.unitRead (unitReq (s.pageOwner 0x050)) (s.reg64 SPI_ADDR_LO SPI_ADDR_HI) n
        (bs, s)
    (s.setFlag SPI_STAT 0 true).ioEmit (.spi (s.fld SPI_CFG 3 2) (s.fld SPI_CFG 1 0) (s.fld SPI_CFG 15 8) (bit v 16) bs)

/-- A SPI transfer completes (R187): a read's bytes are in the buffer. -/
def spiDone (data : List Byte) (s : State) : State :=
  if !s.flag SPI_STAT 0 then s
  else
    let s := if bit s.spi 16 then
        (s.unitWrite (unitReq (s.pageOwner 0x050)) (s.reg64 SPI_ADDR_LO SPI_ADDR_HI) (data.take (bits s.spi 15 0))).2
      else s
    (({ s with spi := 0 } : State).setFlag SPI_STAT 0 false).irq 0x050 0

/-- A write of the I3C FIFO: one word more, 16 at most. -/
def i3cFifoWrite (n : Nat) (v : Word) (s : State) : State :=
  let x := s.i3cOf n
  s.setI3c n { x with fifo := (x.fifo ++ [v]).take 16 }

/-- A read of the I3C FIFO: the oldest word, zero where it is empty. -/
def i3cFifoRead (n : Nat) (s : State) : State :=
  let x := s.i3cOf n
  (s.answer 0 [x.fifo.headD 0]).setI3c n { x with fifo := x.fifo.drop 1 }

/-- I3C_STAT with the FIFO level. -/
def State.i3cStat (s : State) (n : Nat) : Word := setBits (s.reg (I3C_STAT n)) 12 8 (s.i3cOf n).fifo.length

/-- SPI_CFG: a DIV below 3 is stored as 3. -/
def spiCfg (v : Word) (s : State) : State :=
  s.plainWrite SPI_CFG (if bits v 15 8 < 3 then setBits v 15 8 3 else v)

/-! ### Meanings -/

def execEntdaa (q : Req) (n : Nat) (v : Word) (s : State) : Host.Outcome State Fault Refusal :=
  only (q.wf && decide (n < 2)) s (s.writeVia q (I3C_CMD n) v (i3cCommand n (setBits v 2 0 1)))
def execI3cWrite (q : Req) (n : Nat) (v : Word) (s : State) : Host.Outcome State Fault Refusal :=
  only (q.wf && decide (n < 2)) s (s.writeVia q (I3C_CMD n) v (i3cCommand n (setBits v 2 0 2)))
def execI3cRead (q : Req) (n : Nat) (v : Word) (s : State) : Host.Outcome State Fault Refusal :=
  only (q.wf && decide (n < 2)) s (s.writeVia q (I3C_CMD n) v (i3cCommand n (setBits v 2 0 3)))
def execI3cCcc (q : Req) (n : Nat) (v : Word) (s : State) : Host.Outcome State Fault Refusal :=
  only (q.wf && decide (n < 2)) s (s.writeVia q (I3C_CMD n) v (i3cCommand n (setBits v 2 0 4)))
def execI3cTransferDone (n : Nat) (nack : Bool) (data : List Byte) (s : State) : Host.Outcome State Fault Refusal :=
  only (decide (n < 2)) s (s.heldIdle (0x04D + n) (i3cTransferDone n nack data s))
def execI3cIbi (ibi : Ibi) (s : State) : Host.Outcome State Fault Refusal :=
  only (decide (ibi.n < 2 ∧ ibi.payload.length ≤ 8)) s (s.heldIdle (0x04D + ibi.n) (i3cIbi ibi s))
def execI3cAutoPeriod (k : Nat) (s : State) : Host.Outcome State Fault Refusal :=
  only (decide (k < 4)) s (s.heldIdle 0x04D (i3cAutoPeriod k s))
def execI3cAutoReadDone (k : Nat) (data : List Byte) (s : State) : Host.Outcome State Fault Refusal :=
  only (decide (k < 4)) s (s.heldIdle 0x04D (i3cAutoReadDone k data s))
def execGpioEdge (pin : Nat) (rising : Bool) (s : State) : Host.Outcome State Fault Refusal :=
  only (decide (pin < 24)) s (s.heldIdle 0x04F (gpioEdge pin rising s))
def execGpioFsyncPulse (s : State) : Host.Outcome State Fault Refusal :=
  only true s (s.heldIdle 0x04F (gpioFsyncPulse s))
def execSpiXfer (q : Req) (v : Word) (s : State) : Host.Outcome State Fault Refusal :=
  only q.wf s (s.writeVia q SPI_XFER v (spiXfer v))
def execSpiDone (data : List Byte) (s : State) : Host.Outcome State Fault Refusal :=
  only true s (s.heldIdle 0x050 (spiDone data s))

end Sys2Proof.Machine
end

