-- ==== Sys2Proof/Machine/Audio.lean ====
section
/-! DEFINITION. Audio (R140 to R163): the low-power and high-quality paths, beams, calibration and the restore block,
speakers and their protection. -/

namespace Sys2Proof.Machine

/-! ### Pins, clocks and gain (R140, R141, R154) -/

/-- AUD_STATUS: LP_ACTIVE, HQ_ACTIVE and CLK_FAST show the paths and the clocks. -/
def State.audStatus (s : State) : Word :=
  setBit (setBit (setBit (s.reg AUD_STATUS) 0 s.lpRuns) 1 s.hqRuns) 4 (s.pdmRate 0 == 2 || s.pdmRate 1 == 2)

/-- The PDM bit of microphone `c` in one clock period (R140): `b` holds PDM_D0 to PDM_D3 at the rising edge in bits 0 to 3 and at
the falling edge in bits 4 to 7; even microphones are read at the rising edge of PDM_D(c div 2). -/
def pdmBit (c : Nat) (b : Byte) : Bool := b.getLsbD (c / 2 + 4 * (c % 2))

/-- 10 ^ (2 ^ k / 4000) * 2 ^ 64 for k from 0. -/
def quarterDb : List Nat :=
  [18457365930111865569, 18467993902706445244, 18489268210561536986, 18531890375673023370,
   18617429695109339415, 18789694651118867537, 19139021155796183517, 19857278300080642989,
   21375669327403393734, 24769641589254725920, 33259806825994437632, 59968021764830161471,
   194948421250795437689, 2060249049714006793516, 230101644490040030624887]

/-- 10 ^ (n / 4000) * 2 ^ 64: an amplitude of `n` steps of 0.005 dB. -/
def dbRatio (n : Nat) : Nat := (quarterDb.zipIdx.filter fun e => n.testBit e.2).foldl (fun a e => a * e.1 / 2 ^ 64) (2 ^ 64)

/-- A sample times an amplitude of `h` steps of 0.005 dB, as a numerator over 2 ^ 64. -/
def ampBy (h x : Int) : Int := if 0 ≤ h then x * (dbRatio h.toNat : Nat) else x * ((2 ^ 128 / dbRatio (-h).toNat : Nat) : Int)

/-- A sample after a gain of `g` * 0.01 dB in the linear domain (R154): within 0.005 dB, then rounded either way to an integer; which
of these values is open. 0 dB with no error (`err` 0) leaves the sample as it is. -/
def gained (err : Int) (g x : Int) : Int :=
  let a := ampBy (2 * g - err) x
  let b := ampBy (2 * g + err) x
  let lo := (min a b) / 2 ^ 64
  let hi := -(-(max a b) / 2 ^ 64)
  max lo (min hi (Config.audioGain g x))

/-! ### Filters (R142, R145) -/

/-- The integrators take an input; the last one's value. -/
def integrate (x : Word) : List Word → List Word × Word
  | [] => ([], x)
  | a :: l =>
    let r := integrate (a + x) l
    ((a + x) :: r.1, r.2)

/-- The combs take a decimated value; the filter's output. -/
def combRun (x : Word) : List Word → List Word × Word
  | [] => ([], x)
  | d :: l =>
    let r := combRun (x - d) l
    (x :: r.1, r.2)

/-- A CIC filter that decimates by `r` takes a PDM bit, as +1 or -1; every `r`-th gives an output. -/
def cicPush (r : Nat) (c : Cic × List Int) (bit : Bool) : Cic × List Int :=
  let i := integrate (if bit then 1 else -1) c.1.ints
  if c.1.n + 1 < r then ({ c.1 with ints := i.1, n := c.1.n + 1 }, c.2)
  else
    let o := combRun i.2 c.1.combs
    (⟨i.1, o.1, 0⟩, c.2 ++ [o.2.toInt])

/-- A CIC filter takes the bits of microphone `c` in `n` clock periods; a period that is not given reads 0. -/
def cicRun (r n c : Nat) (x : Cic) (pdm : List Byte) : Cic × List Int :=
  (List.range n).foldl (fun a i => cicPush r a (pdmBit c (pdm.getD i 0))) (x, [])

/-- The filters of the low-power path (R142) over the 48 or 192 clock periods of a sample. -/
def State.lpFilter (s : State) (pdm : List Byte) : Int × State :=
  let c := s.fld AUD_LP_CFG 2 0
  let fast := s.pdmRate (c / 4) == 2
  let r := if fast then 48 else 12
  let o := cicRun r (4 * r) c s.aud.lpCic pdm
  let f := Config.lpFilter s.aud.lpFir fast o.2
  (f.2, { s with aud.lpCic := o.1, aud.lpFir := f.1 })

/-- The filters of the high-quality path (R145) over the 64 clock periods of a frame: a sample per microphone. -/
def State.hqFilter (s : State) (pdm : List Byte) : List Int × State :=
  let o := (List.range 8).map fun c => cicRun 16 64 c (s.aud.hqCic.getD c ⟨[], [], 0⟩) pdm
  let f := o.zipIdx.map fun (x, c) => Config.hqFilter (s.aud.hqFir.getD c 0) x.2
  (f.map (·.2), { s with aud.hqCic := o.map (·.1), aud.hqFir := f.map (·.1) })

/-! ### The paths (R143 to R149) -/

/-- GAIN of microphone `c` in 0.01 dB (R154). -/
def State.audGain (s : State) (c : Nat) : Int := signed 16 (s.fld (AUD_CAL c) 15 0)

/-- Write a stream 6 sample into the pre-roll ring (R143, R144); a write not taken drops it. -/
def State.prerollWrite (s : State) (x : Int) : State :=
  let len := s.fld64 AUD_LP_RING_LEN 17
  if len = 0 then s
  else
    let p := s.fld AUD_LP_RING_WPTR 17 0
    let r := s.unitWrite (unitReq (s.pageOwner 0x040)) (0x10000000 + s.fld64 AUD_LP_RING_BASE 17 + p) (leBytes 2 (ofInt x).toNat)
    if r.1 = 0 then r.2.setReg AUD_LP_RING_WPTR (word ((p + 2) % len))
    else (r.2.bumpSat AUD_LP_GAPS 31 0).irq 0x040 2

/-- Whether a stream 6 sample reaches the AIE: a tap is set and tenant 0 owns the AUD page (R143). -/
def State.lpTapped (s : State) : Bool := s.flag AUD_LP_CFG 16 && s.pageOwner 0x040 == 0

/-- A 16 kHz sample of the low-power path from the PDM data of its period (R141 to R144, R154): the boundary of stream 6, then
the sample, zero and counted while the path settles; a block's end is stamped. Answers the sample, none where stream 6 does
not run. -/
def State.lpSample (s : State) (pdm : List Byte) : Option Int × State :=
  if !s.domOn 4 then (none, s)
  else
    let s := s.strmBoundary 6
    if s.strmState 6 ≠ 1 then (none, s)
    else
      let (x, s) := s.lpFilter pdm
      let settling := s.flag AUD_STATUS 2
      let y := if settling then 0 else clampS 16 (gained 1 (s.audGain (s.fld AUD_LP_CFG 2 0)) x)
      let s := if settling then s.bumpSat AUD_LP_GAPS 31 0 else s
      let s := s.prerollWrite y
      let n := s.aud.lpBlk + 1
      if n < 64 * 2 ^ s.fld AUD_LP_CFG 13 12 then (some y, { s with aud.lpBlk := n })
      else (some y, (({ s with aud.lpBlk := 0 } : State).strmEvent 6).irq 0x040 0)

/-- A rate change at a 16 kHz boundary (R141): the clocks that run go to the rate the paths ask for, and both paths settle. -/
def pdmRateChange (s : State) : State :=
  let want := if s.hqRuns then 2 else 1
  let ch := [0, 1].filter fun g => s.pdmRate g != 0 && s.pdmRate g != want
  if !s.domOn 4 ∨ ch.isEmpty then s
  else
    let hq := s.fld AUD_HQ_CFG 25 20
    ({ s with aud.clk := ch.foldl (fun l g => l.set g want) s.aud.clk } : State).audSettle hq hq

/-- The settling time of a path expires (R141). -/
def settleEnd (s : State) : State :=
  let s := if s.aud.lpTill ≤ s.now then s.setFlag AUD_STATUS 2 false else s
  if s.aud.hqTill ≤ s.now then s.setFlag AUD_STATUS 3 false else s

/-- The sample of channel `c` delayed by `d` 1/64 samples and the interpolator's 4 (R146), in 24 bits: of a whole number of samples,
the sample itself. -/
def State.tap (s : State) (c d : Nat) : Int :=
  let xs := (List.range 8).map fun i => at' 0 (at' [] s.aud.hist (d / 64 + i)) c
  if d % 64 = 0 then at' 0 xs 4 else clampS 24 (Config.interpolate (d % 64) xs)

/-- PHASE of channel `c`. -/
def State.audPhase (s : State) (c : Nat) : Nat := s.fld (AUD_CAL c) 22 16

/-- Microphone `c` is enabled. -/
def State.micEn (s : State) (c : Nat) : Bool := s.flag AUD_HQ_CFG c

/-- Beam `b` (R147): the delayed taps of its enabled channels summed, shifted, saturated to 24 bits. -/
def State.beam (s : State) (b : Nat) : Int :=
  let w := at' [] s.aud.beams b
  let ctrl := w.headD 0
  let sum := ((List.range 8).filter fun c => bit ctrl c && s.micEn c).foldl
    (fun a c => a + s.tap c ((at' 0 w (c + 1)).toNat + s.audPhase c)) 0
  clampS 24 (sum >>> bits ctrl 9 8)

/-- Copy the committed shadows into use (R148). -/
def State.beamLatch (s : State) : State :=
  (List.range 4).foldl (fun s b =>
    if s.flag (AUD_BEAM_CTRL b) 31 then
      let w := (s.reg (AUD_BEAM_CTRL b) &&& 0x3FF) :: (List.range 8).map fun c => s.reg (AUD_BEAM_DELAY b c)
      ({ s with aud.beams := s.aud.beams.set b w } : State).setFlag (AUD_BEAM_CTRL b) 31 false
    else s) s

/-- The output words of a stream 7 frame (R149): raw channels, then beams. -/
def State.hqWords (s : State) : List Int :=
  (if s.flag AUD_HQ_CFG 12 then ((List.range 8).filter s.micEn).map fun c => s.tap c (s.audPhase c) else []) ++
    ((List.range 4).filter fun b => s.flag AUD_HQ_CFG (8 + b)).map s.beam

/-- A 48 kHz frame of the high-quality path from the PDM data of its period (R145 to R149): the boundary of stream 7 and of
committed beams; nothing is emitted while the path settles. -/
def hqFrame (pdm : List Byte) (s : State) : State :=
  if !s.domOn 5 then s
  else
    let s := (s.strmBoundary 7).beamLatch
    let (xs, s) := s.hqFilter pdm
    let frame := (List.range 8).map fun c => if s.micEn c then clampS 24 (gained 1 (s.audGain c) (at' 0 xs c)) else 0
    let s : State := { s with aud.hist := (frame :: s.aud.hist).take 112 }
    if s.strmState 7 ≠ 1 ∨ s.flag AUD_STATUS 3 then s
    else
      let s := s.strmRecord 7 (s.hqWords.flatMap fun w => leBytes 4 (ofInt w).toNat)
      let n := s.aud.hqBlk + 1
      if n < [48, 96, 192, 480].getD (s.fld AUD_HQ_CFG 17 16) 48 then { s with aud.hqBlk := n }
      else (({ s with aud.hqBlk := 0 } : State).strmEvent 7).irq 0x040 1

/-- AUD_BEAM_COMMIT (R148). -/
def beamCommit (v : Word) (s : State) : State :=
  (List.range 4).foldl (fun s b => if bit v b then s.setFlag (AUD_BEAM_CTRL b) 31 true else s) s

/-! ### The restore block (R151 to R153) -/

/-- The address of the restore block. -/
def restoreBase : Nat := 0x1003FE00

/-- Whether MAGIC is present. -/
def State.savedConfig (s : State) : Bool := s.wordAt restoreBase == 0x31445541

/-- The AUD offsets SAVE copies: every RW register of 0x100 to 0x1FF but AUD_CAL. -/
def saveOffsets : List Nat :=
  [0x108, 0x10C, 0x110, 0x120, 0x160, 0x164, 0x168, 0x16C] ++ (List.range 32).map fun i => 0x180 + 4 * i

/-- Write a word of AON SRAM from the audio block. -/
def State.restorePut (s : State) (off : Nat) (v : Word) : State := s.putBytes (restoreBase + off) (leBytes 4 v.toNat)

/-- AUD_CTRL.SAVE (R152). -/
def audSave (s : State) : State :=
  let s := saveOffsets.foldl (fun s o =>
    s.restorePut o (if 0x160 ≤ o ∧ o < 0x170 then s.reg (regKey 0x040 o) &&& 0x3FF else s.reg (regKey 0x040 o))) s
  (s.restorePut 0 0x31445541).irq 0x040 4

/-- A GAIN outside ±1,200 is stored at the nearer limit (R154). -/
def calStored (v : Word) : Word :=
  let g := signed 16 (bits v 15 0)
  setBits (v &&& 0x7FFFFF) 15 0 (ofInt (if g < -1200 then -1200 else if 1200 < g then 1200 else g)).toNat

/-- Load the calibration words where CAL_VALID is set; CAL_DEFAULT says that it was clear (R153). -/
def calReload (s : State) : State :=
  let valid := bit (s.wordAt (restoreBase + 4)) 0
  let s := s.setFlag AUD_STATUS 6 (!valid)
  if valid then
    (List.range 8).foldl (fun s c => s.setReg (AUD_CAL c) (calStored (s.wordAt (restoreBase + 0x140 + 4 * c)))) s
  else s

/-- The restore of a wake of AUD_LP from OFF (R153). -/
def State.audRestore (s : State) : State :=
  let s := calReload s
  if s.savedConfig then
    (saveOffsets.foldl (fun s o => s.plainWrite (regKey 0x040 o) (s.wordAt (restoreBase + o))) s).setFlag AUD_STATUS 5 true
  else (s.setFlag AUD_STATUS 5 false).irq 0x040 3

/-- Clear MAGIC: a soft reset of the AUD page or a change of its owner (R153). -/
def State.clearMagic (s : State) : State := s.restorePut 0 0

/-- AUD_CTRL (Table 7.2). -/
def audCtrl (v : Word) (s : State) : State :=
  let s := if bit v 0 then audSave s else s
  if bit v 1 then calReload s else s

/-- A write to the AUD page (R146, R148, R150, R154): path fields only while their path is stopped. -/
def audWrite (q : Req) (k : Nat) (v : Word) (s : State) : State :=
  let off := keyOff k
  if off = 0x100 then audCtrl v s
  else if off = 0x170 then beamCommit v s
  else if (off = 0x108 ∧ s.lpRuns) ∨ (off = 0x120 ∧ s.hqRuns) then s.fail q k 0x10
  else if 0x140 ≤ off ∧ off < 0x160 then s.setReg k (calStored v)
  else if 0x180 ≤ off ∧ off < 0x200 then s.setReg k (word (min (bits v 12 0) 6144))
  else s.plainWrite k v

/-! ### Speakers (R155 to R158) -/

/-- Driver `d`. -/
def State.spkOf (s : State) (d : Nat) : Spk := at' {} s.aud.spk d

/-- `s` with driver `d` replaced. -/
def State.setSpk (s : State) (d : Nat) (x : Spk) : State := { s with aud.spk := s.aud.spk.set d x }

/-- SPK_STATUS.MUTEDd: muted by the current limit or by temperature. -/
def State.spkMuted (s : State) : State :=
  (List.range 2).foldl (fun s d => s.setFlag SPK_STATUS d ((s.spkOf d).muted || s.flag SPK_STATUS 6)) s

/-- Whether the current of a sample is above SPK_ILIM, which ends the PWM cycle early (R157). -/
def State.spkOver (s : State) (i : Int) : Bool := decide (s.fld SPK_ILIM 9 0 * 20 < i.natAbs)

/-- The current limit of driver `d` (R157): four consecutive samples above SPK_ILIM mute it. -/
def State.spkLimit (s : State) (d : Nat) (i : Int) : State :=
  let x := s.spkOf d
  if x.muted then s
  else if !s.spkOver i then s.setSpk d { x with ovr := 0, ramp := min 480 (x.ramp + 1) }
  else if x.ovr < 3 then s.setSpk d { x with ovr := x.ovr + 1, ramp := min 480 (x.ramp + 1) }
  else
    let s := s.setSpk d { x with ovr := 0, muted := true, mutedAt := s.now, ramp := 0 }
    (((s.setFlag SPK_STATUS (2 + d) true).bumpSat SPK_EVT 15 0).irq 0x041 0).spkMuted

/-- Write a sense frame (R156); each wrap of the ring sets SENSE_WRAP. -/
def State.senseWrite (s : State) (xs : List Int) : State :=
  let len := (s.reg SPK_SENSE_LEN).toNat
  if !s.flag SPK_CTRL 2 ∨ len = 0 then s
  else
    let p := (s.reg SPK_SENSE_WPTR).toNat
    let s := (s.unitWrite (unitReq (s.pageOwner 0x041)) (s.base64 SPK_SENSE_BASE_LO SPK_SENSE_BASE_HI + p)
      (xs.flatMap fun x => leBytes 2 (ofInt (clampS 16 x)).toNat)).2
    let s := s.setReg SPK_SENSE_WPTR (word ((p + 8) % len))
    if len ≤ p + 8 then s.irq 0x041 2 else s

/-- The next pair of stream 9 words (R155, R158, R179): none in an underrun. -/
def State.spkPair (s : State) : Option (Int × Int) × State :=
  let s := if (s.stream 9).ended then s.strmConsumed 9 else s
  if !(s.stream 9).cap ∧ s.strmAhead 9 = 0 then (none, s)
  else
    let s := if (s.stream 9).cap then s else s.strmOpenOut 9
    let x := s.stream 9
    let (_, bs, s) := s.unitRead (unitReq (s.streamOwner 9)) (s.strmBuf 9 + 0x40 + x.len) 8
    let s := s.setStream 9 { x with len := x.len + 8, ended := decide (x.size ≤ x.len + 8) }
    (some (signed 24 (leNat (bs.take 4)), signed 24 (leNat (bs.drop 4))), s)

/-- A sample in step `k` of a ramp of `n` steps from zero (R157, R158): the rules give the ramp's length and not its shape. -/
def rampOf (n k : Nat) (y : Int) : Int := if n ≤ k then y else max (min 0 y) (min (max 0 y) (Config.rampSample n k y))

/-- The smaller amplitude. -/
def softer (a b : Int) : Int := if a.natAbs < b.natAbs then a else b

/-- What driver `d` plays for a word (R155, R157): nothing while it is disabled or muted; else the word after SPK_GAIN, under the lower
of the gains that the ramp after a mute and the power limit leave. -/
def State.spkPlay (s : State) (d : Nat) (w : Int) : Int :=
  let g := signed 16 (s.fld (SPK_GAIN d) 15 0)
  if !s.flag SPK_CTRL d ∨ s.flag SPK_STATUS d then 0
  else softer (rampOf 480 (s.spkOf d).ramp (gained 0 g w)) (gained 0 (g - 100 * (s.spkOf d).atten) w)

/-- A sample of stream 9 is played (R158): ramped up over 32 samples from the first after an underrun. -/
def State.spkOut (s : State) (ws : List Int) (cut : List Bool) : State :=
  let ys := [0, 1].map fun d => rampOf 32 s.aud.fade (s.spkPlay d (at' 0 ws d))
  let s := [0, 1].foldl (fun s d => s.setSpk d { s.spkOf d with last := at' 0 ys d }) s
  ({ s with aud.fade := min 32 (s.aud.fade + 1) } : State).emit (.sound (at' 0 ys 0) (at' 0 ys 1) cut)

/-- No sample of stream 9 (R158): what was played last ramps to zero over 32 samples. -/
def State.spkFade (s : State) (cut : List Bool) : State :=
  let s : State := { s with aud.fade := min 32 (s.aud.fade + 1) }
  let y (d : Nat) : Int := if s.flag SPK_STATUS d then 0 else rampOf 32 (32 - s.aud.fade) (if s.aud.fade = 32 then 0 else (s.spkOf d).last)
  s.emit (.sound (y 0) (y 1) cut)

/-- A 48 kHz sample of the speakers with the sensed currents (0.1 mA) and voltages (mV) (R155 to R158). -/
def spkSample (i0 v0 i1 v1 : Int) (s : State) : State :=
  if !s.domOn 5 then s
  else
    let s := s.strmBoundary 9
    let cut := [s.spkOver i0, s.spkOver i1]
    let s := ((s.senseWrite [i0, v0, i1, v1]).spkLimit 0 i0).spkLimit 1 i1
    if s.strmState 9 ≠ 1 then (if s.strmState 9 = 2 then s.emit (.sound 0 0 cut) else s)
    else
      match s.spkPair with
      | (none, s) =>
        if s.aud.silent then s.spkFade cut
        else ((({ s with aud.silent := true, aud.fade := 0 } : State).strmUnderrun 9).irq 0x041 3).spkFade cut
      | (some (a, b), s) =>
        let s : State := if s.aud.silent then { s with aud.silent := false, aud.fade := 0 } else s
        s.spkOut [a, if s.flag SPK_CTRL 8 then a else b] cut

/-- The end of a current-limit mute (R157), after 100 ms: the gain ramps back. -/
def spkMuteExpiry (d : Nat) (s : State) : State :=
  let x := s.spkOf d
  if x.muted ∧ x.mutedAt + 3840000 ≤ s.now then
    ((s.setSpk d { x with muted := false, ramp := 0 }).setFlag SPK_STATUS (2 + d) false).spkMuted
  else s

/-- A step of the power limit from the 10 ms mean power (R157). -/
def spkPlimStep (d mw : Nat) (s : State) : State :=
  let x := s.spkOf d
  if !s.domOn 5 then s
  else if s.fld SPK_PLIM 11 0 < mw then
    let s' := s.setSpk d { x with atten := x.atten + 1 }
    if s.flag SPK_STATUS (4 + d) then s' else ((s'.setFlag SPK_STATUS (4 + d) true).bumpSat SPK_EVT 31 16).irq 0x041 1
  else if mw < s.fld SPK_PLIM 11 0 ∧ x.atten ≠ 0 then
    let s' := s.setSpk d { x with atten := x.atten - 1 }
    if x.atten = 1 then s'.setFlag SPK_STATUS (4 + d) false else s'
  else s

/-- The driver junction temperature (R157): both muted above 150 degrees until below 130. -/
def spkThermal (temp : Int) (s : State) : State :=
  if !s.domOn 5 then s
  else if 150 < temp then (s.setFlag SPK_STATUS 6 true).spkMuted
  else if temp < 130 ∧ s.flag SPK_STATUS 6 then (s.setFlag SPK_STATUS 6 false).spkMuted
  else s

/-- What the high-quality path loses with AUD_HQ or a soft reset of the AUD page: blocks, delay lines, filters, the beams in use. -/
def State.audHqLost (s : State) : State :=
  { s with aud := { s.aud with
    lpBlk := 0, hqBlk := 0, hist := [], beams := [[], [], [], []]
    hqCic := List.replicate 8 ⟨[0, 0, 0, 0, 0], [0, 0, 0, 0, 0], 0⟩, hqFir := [0, 0, 0, 0, 0, 0, 0, 0] } }

/-- What the drivers lose with AUD_HQ or a soft reset of the SPK page. -/
def State.spkLost (s : State) : State := { s with aud := { s.aud with spk := [{}, {}], silent := false, fade := 32 } }

/-! ### Meanings -/

def execPdmRateChange (s : State) : Host.Outcome State Fault Refusal :=
  only true s (s.heldIdle 0x040 (pdmRateChange s))
def execSettleEnd (s : State) : Host.Outcome State Fault Refusal :=
  only true s (s.heldIdle 0x040 (settleEnd s))
def execHqFrame (pdm : List Byte) (s : State) : Host.Outcome State Fault Refusal :=
  only true s (s.heldIdle 0x040 (hqFrame pdm s))
def execAudBeamCommit (q : Req) (v : Word) (s : State) : Host.Outcome State Fault Refusal :=
  only q.wf s (s.writeVia q AUD_BEAM_COMMIT v (beamCommit v))
def execSave (q : Req) (v : Word) (s : State) : Host.Outcome State Fault Refusal :=
  only q.wf s (s.writeVia q AUD_CTRL (setBit v 0 true) (audCtrl (setBit v 0 true)))
def execCalReload (q : Req) (v : Word) (s : State) : Host.Outcome State Fault Refusal :=
  only q.wf s (s.writeVia q AUD_CTRL (setBit v 1 true) (audCtrl (setBit v 1 true)))
def execSpkSample (i0 v0 i1 v1 : Int) (s : State) : Host.Outcome State Fault Refusal :=
  only true s (s.heldIdle 0x041 (spkSample i0 v0 i1 v1 s))
def execSpkMuteExpiry (drv : Nat) (s : State) : Host.Outcome State Fault Refusal :=
  only (decide (drv < 2)) s (s.heldIdle 0x041 (spkMuteExpiry drv s))
def execSpkPlimStep (drv : Nat) (mw : Nat) (s : State) : Host.Outcome State Fault Refusal :=
  only (decide (drv < 2)) s (s.heldIdle 0x041 (spkPlimStep drv mw s))
def execSpkThermal (temp : Int) (s : State) : Host.Outcome State Fault Refusal :=
  only true s (spkThermal temp s)

end Sys2Proof.Machine
end

