-- ==== Sys2Proof/Machine/Cascade.lean ====
section
/-! DEFINITION. The always-on engine (R188 to R191) and the ply cascade (R192 to R202). -/

namespace Sys2Proof.Machine

/-! ### Plies (R192 to R198) -/

/-- Ply `j` beside its descriptor. -/
def State.plyOf (s : State) (j : Nat) : Ply := s.ply.get (fun _ => {}) j

/-- `s` with ply `j` replaced. -/
def State.setPly (s : State) (j : Nat) (x : Ply) : State := { s with ply := s.ply.set (fun _ => {}) j x }

/-- State of ply `j` in CASC_STATUS: 0 INACTIVE, 1 CLIMBING, 2 ACTIVE, 3 FAILED. -/
def State.plyState (s : State) (j : Nat) : Nat := s.fld CASC_STATUS (2 * j + 1) (2 * j)

def State.setPlyState (s : State) (j v : Nat) : State := s.setFld CASC_STATUS (2 * j + 1) (2 * j) v

/-- Whether ply `j` is CLIMBING or ACTIVE. -/
def State.plyUp (s : State) (j : Nat) : Bool := s.plyState j == 1 || s.plyState j == 2

/-- The domains ply `j` names. -/
def State.plyDoms (s : State) (j : Nat) : List Nat :=
  ((setPositions 21 (s.reg (DESC_DOMS j)).toNat).filter (· != 0)) ++
    (setPositions 32 (s.reg (DESC_TILES_LO j)).toNat).map (32 + ·) ++
    (setPositions 32 (s.reg (DESC_TILES_HI j)).toNat).map (64 + ·)

/-- COUNT of descriptor `k`, 0 meaning 1. -/
def State.descCount (s : State) (k : Nat) : Nat := max 1 (s.fld (DESC_CFG k) 11 8)

/-- Append a log entry (R204): ply, kind 0 CLIMB, 1 ACTIVE, 2 DESCENT, 3 FAILED, and its last word. -/
def State.cascLog (s : State) (j kind x : Nat) : State :=
  let p := s.plyOf j
  let e := (s.reg CASC_LOG_WPTR).toNat % 16
  let s := s.setReg64 (CASC_LOG e 0) (CASC_LOG e 1) s.now
  let s := s.setReg (CASC_LOG e 2) (word (j + kind * 4 + p.src % 16 * 0x10 + p.score * 0x10000))
  (s.setReg (CASC_LOG e 3) (word x)).bump CASC_LOG_WPTR

/-- Ring the CASC_NOTIFY doorbell where it is enabled. -/
def State.cascNotify (s : State) : State :=
  if s.flag CASC_NOTIFY 11 then s.bell 0 (s.fld CASC_NOTIFY 5 0) (s.fld CASC_NOTIFY 10 6) else s

/-- A climb of ply `j` by descriptor `k` (R194, R195). -/
def State.plyClimb (s : State) (k j src score : Nat) : State :=
  let s := s.setPly j { t0 := s.now, src := src, score := score }
  let s := (s.setFld (DESC_STAT j) 27 24 (2 ^ k)).setFlag (DESC_CFG k) 16 false
  if (s.plyDoms j).any s.absent then ((s.setPlyState j 3).cascLog j 3 0x12).irq 0x007 2
  else
    let s := (s.plyDoms j).foldl (fun s d => s.hold 11 j d) (s.wakeSource 4)
    let s := ((s.setPlyState j 1).bumpSat (DESC_STAT j) 23 16).cascLog j 0 0
    if s.flag (DESC_WAKE j) 11 then s.bell 0 (s.fld (DESC_WAKE j) 5 0) (s.fld (DESC_WAKE j) 10 6) else s

/-- Whether a trigger makes no request (R200). -/
def State.cascSuppressed (s : State) : Bool := !s.flag AON_WAKE_EN 4 || s.life.bindStage != 0

/-- Evaluate descriptor `k` for an update of its source (R193). A further trigger of a ply in the tick of its climb is a trigger too:
its descriptor is disarmed and counts in WOKEN_BY (R198). -/
def State.cascStep (s : State) (k src score : Nat) : State :=
  let th := s.fld (DESC_THRESH k) 15 0
  let run := if th ≤ score then min (s.descCount k) (s.fld (DESC_CFG k) 23 20 + 1) else 0
  let s := s.setFld (DESC_CFG k) 23 20 run
  let s := if score < th - s.fld (DESC_THRESH k) 31 16 then s.setFlag (DESC_CFG k) 16 true else s
  let j := s.fld (DESC_CFG k) 5 4
  if run < s.descCount k ∨ j = 0 then s
  else if s.plyUp j then
    let s := s.setFlag (DESC_STAT j) (24 + k) true
    let s := if s.plyState j = 1 ∧ (s.plyOf j).t0 = s.now then s.setFlag (DESC_CFG k) 16 false else s
    s.setPly j { s.plyOf j with due := false, timer := s.now }
  else if s.flag (DESC_CFG k) 16 ∧ s.plyState j = 0 then
    if s.cascSuppressed then (s.setFlag CASC_STATUS 8 true).irq 0x007 3 else s.plyClimb k j src score
  else s

/-- An update of score source `src` (R192, R193): every enabled descriptor of an ACTIVE ply that names it, in order.
Nothing is evaluated before step 15, while REFOSC is stopped or while the CASC page is not enabled (R25). -/
def State.cascUpdate (s : State) (src score : Nat) : State :=
  if !s.life.ready ∨ !s.refoscOk ∨ !s.flag (PAGE_CTRL 0x007) 0 then s
  else
    let up := (List.range 4).filter fun k => s.plyState k == 2 && s.flag (DESC_CFG k) 7 && s.fld (DESC_CFG k) 3 0 == src
    up.foldl (fun s k => s.cascStep k src score) s

/-- Ply `j` becomes ACTIVE once all its domains are ON (R194), so at once where its descriptor names none, which no rule forbids (DEDUCED,
log entry 78); its sleep timer starts (R196). -/
def plyActive (j : Nat) (s : State) : State :=
  if s.plyState j = 1 ∧ (s.plyDoms j).all s.domOn then
    let time := min 65535 ((s.now - (s.plyOf j).t0) * 10 / 96)
    let s := ((s.setPlyState j 2).setFld (DESC_STAT j) 15 0 time).cascLog j 1 time
    let s := s.setPly j { s.plyOf j with timer := s.now }
    (s.irq 0x007 0).cascNotify
  else s

/-- Whether a CLIMBING or ACTIVE ply was woken by ply `j`. -/
def State.plyNeeded (s : State) (j : Nat) : Bool := [1, 2, 3].any fun m => m != j && s.plyUp m && s.flag (DESC_STAT m) (24 + j)

/-- The descent of ply `j` (R196). -/
def State.plyDescend (s : State) (j : Nat) : State :=
  let s := ((s.unholdAll 11 j).setPlyState j 0).setFld (DESC_STAT j) 27 24 0
  let s := (s.cascLog j 2 0).setPly j { s.plyOf j with due := false }
  (s.irq 0x007 1).cascNotify

/-- Descents that waited and may happen now. -/
def State.plySettle : Nat → State → State
  | 0, s => s
  | n + 1, s => match [3, 2, 1].find? fun j => (s.plyOf j).due && s.plyState j == 2 && !s.plyNeeded j with
    | some j => State.plySettle n (s.plyDescend j)
    | none => s

/-- Ply `j`'s sleep timer reaches SLEEP_TMO milliseconds (R196). -/
def plySleep (j : Nat) (s : State) : State :=
  if j = 0 ∨ s.plyState j ≠ 2 ∨ s.fld (DESC_SLEEP j) 15 0 = 0 ∨
      s.now < (s.plyOf j).timer + 38400 * s.fld (DESC_SLEEP j) 15 0 then s
  else State.plySettle 3 (s.setPly j { s.plyOf j with due := true })

/-- CASC_CMD: DESCEND_ALL (R197), which spares a climb triggered in the same tick, and KEEP for plies 1 to 3 (R196). -/
def cascCommand (v : Word) (s : State) : State :=
  s.heldIdle 0x007 <|
  let s := [1, 2, 3].foldl (fun s j => if bit v (4 + j) then s.setPly j { s.plyOf j with due := false, timer := s.now } else s) s
  let spared (s : State) (j : Nat) : Bool := s.plyState j == 1 && (s.plyOf j).t0 == s.now
  if bit v 0 then [3, 2, 1].foldl (fun s j => if s.plyUp j && !spared s j then s.plyDescend j else s) s else s

/-- A write of a ply descriptor word (R195, R202). -/
def descWrite (q : Req) (k : Nat) (v : Word) (s : State) : State :=
  let off := keyOff k
  let j := (off - 0x200) / 0x20
  let w := off % 0x20 / 4
  if w = 0 then
    let old := s.fld k 5 4
    let new := bits v 5 4
    let s := if s.plyState j = 3 then s.setPlyState j 0 else s
    let s' := s.setReg k ((s.reg k &&& 0xFF0000) ||| (v &&& 0xFFBF))
    if new = old then s'
    else if s.plyUp j then (s'.setFld k 5 4 old).fail q k 0x10
    else if new ≠ 0 ∧ new ≤ j then (s'.setFld k 5 4 old).fail q k 0x11
    else s'
  else if (w = 2 ∨ w = 3 ∨ w = 4) ∧ s.plyUp j then s.fail q k 0x10
  else s.plainWrite k v

/-- CASC_SCORE_IN[j] (R192): the score of source 8 + j, evaluated. -/
def cascScoreIn (j : Nat) (v : Word) (s : State) : State :=
  (s.setReg (CASC_SCORE_IN j) (v &&& 0xFFFF)).cascUpdate (8 + j) (bits v 15 0)

/-- A cast-on resets the cascade (R200); a warm one keeps the descriptors. -/
def State.cascReset (s : State) : State :=
  let s := (List.range 4).foldl (fun s j =>
    let s := (s.unholdAll 11 j).setPlyState j 0
    (s.setFld (DESC_CFG j) 23 20 0).setFld (DESC_STAT j) 27 24 0) s
  { s with ply := [] }

/-! ### The engine (R188 to R191) -/

/-- A layer record (Table 9.2). -/
structure Layer where
  op : Nat
  flags : Nat
  kh : Nat
  kw : Nat
  sv : Nat
  sh : Nat
  inC : Nat
  outC : Nat
  inH : Nat
  inW : Nat
  wOfs : Nat
  src : Nat
  aOfs : Nat
  mult : Nat
  shift : Nat
deriving DecidableEq, Repr

/-- Layer record at an offset of a model. -/
def layerOf (m : List Byte) (o : Nat) : Layer :=
  let b (i n : Nat) : Nat := leNat (slice m (o + i) n)
  { op := b 0 1, flags := b 1 1, kh := b 2 1 / 16, kw := b 2 1 % 16, sv := b 3 1 / 16, sh := b 3 1 % 16, inC := b 4 2
    outC := b 6 2, inH := b 8 1, inW := b 9 1, wOfs := b 10 2, src := b 12 1, aOfs := b 13 1, mult := b 14 1, shift := b 15 1 }

/-- Kernel height and width; an FC layer's kernel is its whole input. -/
def Layer.kernel (l : Layer) : Nat × Nat := if l.op = 1 then (l.inH, l.inW) else (l.kh, l.kw)

/-- Output height and width: floor((in - kernel) / stride) + 1. -/
def Layer.outHW (l : Layer) : Nat × Nat :=
  if l.op = 1 then (1, 1) else ((l.inH - l.kh) / l.sv + 1, (l.inW - l.kw) / l.sh + 1)

/-- Weights of the layer; pooling layers have none. -/
def Layer.weights (l : Layer) : Nat :=
  let (kh, kw) := l.kernel
  if l.op = 5 ∨ l.op = 6 then 0 else if l.op = 4 then l.outC * kh * kw else l.outC * kh * kw * l.inC

/-- Offset of the biases. -/
def Layer.biasOfs (l : Layer) : Nat := roundUp (l.wOfs + ceilDiv l.weights 2) 4

/-- The checks of R191 on record `i`. -/
def Layer.ok (l : Layer) (i len : Nat) : Bool :=
  let (oh, ow) := l.outHW
  decide (1 ≤ l.op ∧ l.op ≤ 6 ∧ 1 ≤ l.kh ∧ 1 ≤ l.kw ∧ 1 ≤ l.sv ∧ 1 ≤ l.sh ∧ 1 ≤ l.inC ∧ l.inC ≤ 512 ∧ 1 ≤ l.outC ∧
    l.outC ≤ 512 ∧ 1 ≤ l.inH ∧ 1 ≤ l.inW ∧ l.shift ≤ 31 ∧ l.wOfs % 4 = 0 ∧ l.wOfs < len) &&
    decide (l.kernel.1 ≤ l.inH ∧ l.kernel.2 ≤ l.inW) &&
    (l.op == 5 || l.op == 6 || decide (l.biasOfs + 4 * l.outC ≤ len)) &&
    decide (64 * l.aOfs + oh * ow * l.outC ≤ 8192) && (l.src == 0xFF || decide (l.src < i))

/-- The records of a program: AUDIO, or VISION. -/
def programLayers (m : List Byte) (vision : Bool) : List Layer :=
  let h := if vision then 12 else 8
  (List.range (leNat (slice m (h + 2) 1))).map fun i => layerOf m (leNat (slice m h 2) + 16 * i)

/-- Whether a model passes the checks of R191. -/
def modelOk (m : List Byte) : Bool :=
  let len := leNat (slice m 4 4)
  let prog (v : Bool) : Bool :=
    let h := if v then 12 else 8
    decide (leNat (slice m (h + 2) 1) ≤ 64 ∧ (leNat (slice m (h + 2) 1) = 0 ∨
      leNat (slice m h 2) + 16 * leNat (slice m (h + 2) 1) ≤ len)) &&
      ((programLayers m v).zipIdx.all fun (l, i) => l.ok i len)
  leNat (slice m 0 4) == 0x31454941 && decide (64 ≤ len ∧ len ≤ 32768) &&
    (leNat (slice m 10 1) == 0 || decide (1 ≤ leNat (slice m 11 1) ∧ leNat (slice m 11 1) ≤ 98)) &&
    prog false && prog true

/-- Weight `i` of a layer: INT4, low nibble first. -/
def modelWeight (m : List Byte) (l : Layer) (i : Nat) : Int :=
  let b := leNat (slice m (l.wOfs + i / 2) 1)
  signed 4 (if i % 2 = 0 then b % 16 else b / 16)

/-- The accumulator of output (oc, oy, ox) of a layer over an input given by index. -/
def layerAcc (m : List Byte) (l : Layer) (inp : Nat → Int) (oy ox oc : Nat) : Int :=
  let (kh, kw) := l.kernel
  let at_ (ky kx c : Nat) : Int := inp (((oy * l.sv + ky) * l.inW + ox * l.sh + kx) * l.inC + c)
  let taps := (List.range (kh * kw)).map fun i => (i / kw, i % kw)
  match l.op with
  | 5 => (taps.map fun t => at_ t.1 t.2 oc).foldl (· + ·) 0
  | 6 => match taps.map fun t => at_ t.1 t.2 oc with
    | [] => 0
    | a :: r => r.foldl max a
  | 4 => (taps.map fun t => modelWeight m l (oc * (kh * kw) + t.1 * kw + t.2) * at_ t.1 t.2 oc).foldl (· + ·) 0
  | _ => (taps.flatMap fun t => (List.range l.inC).map fun c =>
      modelWeight m l (((oc * kh + t.1) * kw + t.2) * l.inC + c) * at_ t.1 t.2 c).foldl (· + ·) 0

/-- Output (oc, oy, ox) (R190): sat8(((acc + bias) * MULT) >> SHIFT), then ReLU. -/
def layerOut (m : List Byte) (l : Layer) (inp : Nat → Int) (oy ox oc : Nat) : Int :=
  let bias : Int := if l.op = 5 ∨ l.op = 6 then 0 else signed 32 (leNat (slice m (l.biasOfs + 4 * oc) 4))
  let acc := signed 32 (ofInt (layerAcc m l inp oy ox oc + bias)).toNat
  let y := clampS 8 ((acc * l.mult) >>> l.shift)
  if l.flags.testBit 0 ∧ y < 0 then 0 else y

/-- Activation byte `i`, signed. -/
def State.actAt (s : State) (i : Nat) : Int := signed 8 (s.aie.act.get (fun _ => 0) i).toNat

/-- Run one record: its outputs into activation memory. -/
def State.runLayer (s : State) (ls : List Layer) (input : List Int) (l : Layer) : State :=
  let m := s.aie.model
  let base := ((ls[l.src]?).map fun p => 64 * p.aOfs).getD 0
  let inp (i : Nat) : Int := if l.src = 0xFF then at' 0 input i else s.actAt (base + i)
  let (oh, ow) := l.outHW
  let out := (List.range (oh * ow * l.outC)).map fun i => byte (ofInt (layerOut m l inp (i / l.outC / ow) (i / l.outC % ow) (i % l.outC))).toNat
  { s with aie.act := Tab.setList (fun _ => 0) s.aie.act (64 * l.aOfs) out }

/-- Write a score (R190): (value + 128) << 8, SEQ one up; it is an update (R192). Before step 15 the result is held (R95). -/
def State.scoreWrite (s : State) (j : Nat) (v : Int) : State :=
  let score := (v + 128).toNat * 256 % 65536
  if !s.life.ready then { s with aie.held := s.aie.held ++ [(j, v)] }
  else (s.setReg (AIE_SCORE j) (word (score + (s.fld (AIE_SCORE j) 31 16 + 1) % 65536 * 65536))).cascUpdate j score

/-- The results held for step 15 are written (R95). -/
def State.scoresRelease (s : State) : State :=
  s.aie.held.foldl (fun s e => s.scoreWrite e.1 e.2) { s with aie.held := [] }

/-- Run a program over its input (R190). -/
def State.runProgram (s : State) (vision : Bool) (input : List Int) : State :=
  let ls := programLayers s.aie.model vision
  ls.foldl (fun s l =>
    let s := s.runLayer ls input l
    if l.flags.testBit 1 then
      (List.range (min 4 l.outC)).foldl (fun s c => s.scoreWrite ((if vision then 4 else 0) + c) (s.actAt (64 * l.aOfs + c))) s
    else s) s

/-- Whether a program may run: a valid model that has it, no load, enabled, REFOSC running. -/
def State.aieRuns (s : State) (vision : Bool) : Bool :=
  s.flag AIE_STATUS 0 && !s.flag AIE_STATUS 3 && s.flag AIE_CTRL vision.toNat && s.refoscOk &&
    (programLayers s.aie.model vision) != []

/-- The programs whose input is ready and that may run: 0 AUDIO, 1 VISION. -/
def State.aieReady (s : State) : List Nat :=
  (if s.aie.audioReady && s.aieRuns false then [0] else []) ++ (if s.aie.vision.isSome && s.aieRuns true then [1] else [])

/-- A ready input starts its program once the engine runs none (R189); where both are ready, the rotating pointer of R35 says which
runs first. An input whose program may not run is dropped. -/
def aieStart (vision : Bool) (s : State) : State :=
  let ready := if vision then s.aie.vision.isSome else s.aie.audioReady
  let t : State := if vision then { s with aie.vision := none } else { s with aie.audioReady := false }
  let (won, u) := t.arbitrate 0x100 2 s.aieReady false
  if !ready then s
  else if !s.aieRuns vision then t
  else if s.flag AIE_STATUS 1 ∨ s.flag AIE_STATUS 2 ∨ won ≠ some vision.toNat then s
  else
    let t := u
    let frames := leNat (slice s.aie.model 11 1)
    let t : State := if vision then { t with aie.visionIn := s.aie.vision.getD [] }
      else { t with aie.audioIn := (s.aie.frames.take frames).reverse.flatten }
    t.setFlag AIE_STATUS (1 + vision.toNat) true

/-- A program completes (R190); the engine runs only while REFOSC does (R188, R201). -/
def aieDone (vision : Bool) (s : State) : State :=
  if !s.flag AIE_STATUS (1 + vision.toNat) ∨ !s.refoscOk then s
  else
    let s := s.runProgram vision (if vision then s.aie.visionIn else s.aie.audioIn)
    (s.setFlag AIE_STATUS (1 + vision.toNat) false).irq 0x008 vision.toNat

/-- AIE_LOAD_CMD START (R191): ignored while LOADING; neither program runs during the load. -/
def aieLoad (v : Word) (s : State) : State :=
  if !bit v 0 ∨ s.flag AIE_STATUS 3 then s
  else ((s.setFlag AIE_STATUS 3 true).setFlag AIE_STATUS 1 false).setFlag AIE_STATUS 2 false

/-- Take a model that passes the checks; clear MODEL_VALID otherwise (R191). -/
def State.takeModel (s : State) (m : List Byte) : Bool × State :=
  if modelOk m then (true, ({ s with aie.model := m.take 32768 } : State).setFlag AIE_STATUS 0 true)
  else (false, s.setFlag AIE_STATUS 0 false)

/-- A load ends (R191): the model read from tenant 0 memory, checked. -/
def aieLoadDone (s : State) : State :=
  if !s.flag AIE_STATUS 3 then s
  else
    let a := s.base64 AIE_LOAD_ADDR_LO AIE_LOAD_ADDR_HI
    let (c, h, s) := s.unitRead (unitReq 0) a 64
    let len := leNat (slice h 4 4)
    let (c, m, s) := if c ≠ 0 ∨ 32768 < len then (c, h, s) else s.unitRead (unitReq 0) a len
    let (ok, s) := if c = 0 then s.takeModel m else (false, s.setFlag AIE_STATUS 0 false)
    let s := (s.setFlag AIE_STATUS 3 false).irq 0x008 2
    if ok then s else s.err 0x008 0x118 0x10 true (unitReq 0)

/-! ### Inputs (R143, R169, R189) -/

/-- A stream 6 sample reaches the AIE; every 160th closes a hop, whose feature frame is formed once 400 samples are
there. An input that becomes ready while AUDIO runs is discarded and counted. -/
def State.aieSample (s : State) (x : Int) : State :=
  let a := s.aie
  let samples := (x :: a.samples).take 400
  if a.hop + 1 < 160 then { s with aie.samples := samples, aie.hop := a.hop + 1 }
  else
    let off : Int := (s.fld AIE_FEAT_CFG 7 0 : Nat)
    let frame := (List.range 40).map fun b => clampS 8 (Config.melEnergy samples.reverse b - off)
    if samples.length < 400 then { s with aie.samples := samples, aie.hop := 0 }
    else
      let s : State := { s with aie.samples := samples, aie.hop := 0, aie.frames := (frame :: a.frames).take 98 }
      if s.flag AIE_STATUS 1 then s.bumpSat AIE_OVERRUN 15 0 else { s with aie.audioReady := true }

/-- A 16 kHz sample (R142, R143): the AIE receives it where the tap is open, zero otherwise. -/
def lpSample (pdm : List Byte) (s : State) : State :=
  match s.lpSample pdm with
  | (none, s) => s
  | (some y, s) => s.aieSample (if s.lpTapped then y else 0)

/-- The 8-bit value PLANAR8 output would hold of channel `c` at (y, x) of CSI4's frame. -/
def State.visionByte (s : State) (lines : List (List Nat)) (c y x : Nat) : Nat :=
  (s.ispAverage 4 lines c y x >>> (dtDepth (s.csiDt 4) - 8)) % 256

/-- The Y value of an output pixel of CSI4 (R189). -/
def State.visionY (s : State) (lines : List (List Nat)) (y x : Nat) : Nat :=
  if s.ispMode 4 = 2 then
    (77 * s.visionByte lines 0 y x + 150 * s.visionByte lines 1 y x + 29 * s.visionByte lines 2 y x) >>> 8
  else s.visionByte lines 0 y x

/-- The 64 x 48 input of VISION (R189). -/
def State.visionInput (s : State) (lines : List (List Nat)) : List Int :=
  let w := s.ispW 4
  let h := s.ispH 4
  (List.range (64 * 48)).map fun i =>
    let u := i % 64
    let v := i / 64
    let x0 := u * w / 64
    let x1 := (u + 1) * w / 64
    let y0 := v * h / 48
    let y1 := (v + 1) * h / 48
    let sum := ((List.range ((x1 - x0) * (y1 - y0))).map fun k => s.visionY lines (y0 + k / (x1 - x0)) (x0 + k % (x1 - x0))).foldl (· + ·) 0
    ((sum / ((x1 - x0) * (y1 - y0)) : Nat) : Int) - 128

/-- A frame end (R165); a completed stream 4 frame is offered to the AIE (R169, R189). -/
def frameEndOffer (p : ShortPacket) (s : State) : State :=
  let n := p.n
  let lines := (s.camera n).lines
  let took := n == 4 && p.ecc < 2 && s.csiOn n && (s.camera n).frame && (s.stream 4).cap && s.flag (CSI_AO 4) 0 && s.pageOwner 0x048 == 0
  let s := csiFrameEnd p s
  if !took then s
  else if s.ispMode 4 = 0 ∨ s.ispW 4 < 64 ∨ s.ispH 4 < 48 then (s.bumpSat AIE_OVERRUN 31 16).setFlag AIE_STATUS 4 true
  else
    let s := s.setFlag AIE_STATUS 4 false
    if s.flag AIE_STATUS 2 then s.bumpSat AIE_OVERRUN 31 16 else { s with aie.vision := some (s.visionInput lines) }

/-! ### Meanings -/

def execLpSample (pdm : List Byte) (s : State) : Host.Outcome State Fault Refusal :=
  only true s (s.heldIdle 0x040 (lpSample pdm s))
def execCsiFrameEnd (p : ShortPacket) (s : State) : Host.Outcome State Fault Refusal :=
  only (decide (p.n < 6)) s (s.heldIdle (0x044 + p.n) (frameEndOffer p s))
def execAieProgramStart (vision : Bool) (s : State) : Host.Outcome State Fault Refusal :=
  only true s (s.heldIdle 0x008 (aieStart vision s))
def execAieProgramDone (vision : Bool) (s : State) : Host.Outcome State Fault Refusal :=
  only true s (s.heldIdle 0x008 (aieDone vision s))
def execAieLoadCmd (q : Req) (v : Word) (s : State) : Host.Outcome State Fault Refusal :=
  only q.wf s (s.writeVia q AIE_LOAD_CMD v (aieLoad v))
def execAieLoadDone (s : State) : Host.Outcome State Fault Refusal :=
  only true s (s.heldIdle 0x008 (aieLoadDone s))
def execCascScoreIn (q : Req) (j : Nat) (v : Word) (s : State) : Host.Outcome State Fault Refusal :=
  only (q.wf && decide (j < 8)) s (s.writeVia q (CASC_SCORE_IN j) v (cascScoreIn j v))
def execPlyActive (ply : Nat) (s : State) : Host.Outcome State Fault Refusal :=
  only (decide (ply < 4)) s (s.heldIdle 0x007 (plyActive ply s))
def execPlySleepTimerExpiry (ply : Nat) (s : State) : Host.Outcome State Fault Refusal :=
  only (decide (ply < 4)) s (s.heldIdle 0x007 (plySleep ply s))
def execDescendAll (q : Req) (v : Word) (s : State) : Host.Outcome State Fault Refusal :=
  only q.wf s (s.writeVia q CASC_CMD (setBit v 0 true) (cascCommand (setBit v 0 true)))
def execKeep (q : Req) (v : Word) (s : State) : Host.Outcome State Fault Refusal :=
  only q.wf s (s.writeVia q CASC_CMD v (cascCommand v))
def execDescCfgWrite (q : Req) (ply : Nat) (word : Nat) (v : Word) (s : State) : Host.Outcome State Fault Refusal :=
  only (q.wf && decide (ply < 4) && decide (word < 8)) s (s.writeVia q (DESC_CFG ply + 4 * word) v (fun s => descWrite q (DESC_CFG ply + 4 * word) v s))

end Sys2Proof.Machine
end

