-- ==== Sys2Proof/Machine/Cert.lean ====
section
/-! DEFINITION. Adsel's key slots (R120), what it holds about a tenant, and the certificates of the attestation report (R124 to
R126): DER, the extension ThetchalorMeasurements, X.509, the tenant certificate. -/

namespace Sys2Proof.Machine

/-! ### Key slots (R120) -/

/-- What key slot `k` holds. -/
def State.keySlot (s : State) (k : Nat) : KeySlot := s.adsel.keys.get (fun _ => {}) k

/-- `s` with a key slot replaced. -/
def State.setKeySlot (s : State) (k : Nat) (x : KeySlot) : State := { s with adsel.keys := s.adsel.keys.set (fun _ => {}) k x }

/-- The lowest free general key slot. -/
def State.freeKey (s : State) : Option Nat := ((List.range 30).map (2 + ·)).find? fun k => (s.keySlot k).kind == 0

/-- The count of free general key slots. -/
def State.keysFree (s : State) : Nat := (((List.range 30).map (2 + ·)).filter fun k => (s.keySlot k).kind == 0).length

/-- A new key of a kind for tenant `t` in slot `k`. -/
def State.newKey (s : State) (k kind t : Nat) : State :=
  let (id, s) := s.fresh
  s.setKeySlot k { kind := kind, tenant := t, id := id }

/-- Zeroise a key slot. -/
def State.dropKey (s : State) (k : Nat) : State := s.setKeySlot k {}

/-! ### Tenants -/

/-- What Adsel holds about tenant `t`. -/
def State.tenant (s : State) (t : Nat) : Tenant := s.adsel.tenants.get (fun _ => {}) t

/-- `s` with tenant `t`'s record replaced. -/
def State.setTenant (s : State) (t : Nat) (x : Tenant) : State := { s with adsel.tenants := s.adsel.tenants.set (fun _ => {}) t x }

/-! ### DER -/

/-- A number as big-endian bytes without leading zeros; none for 0. -/
def beMin (v : Nat) : List Byte :=
  let n := ((List.range 256).find? fun n => decide (v < 256 ^ n)).getD 256
  (List.range n).map fun i => BitVec.ofNat 8 (v / 256 ^ (n - 1 - i))

/-- A DER length. -/
def derLen (n : Nat) : List Byte := if n < 128 then [BitVec.ofNat 8 n] else BitVec.ofNat 8 (0x80 + (beMin n).length) :: beMin n

/-- A DER value with a tag. -/
def der (tag : Byte) (body : List Byte) : List Byte := tag :: derLen body.length ++ body

/-- The content of a non-negative INTEGER. -/
def derNat (v : Nat) : List Byte :=
  match beMin v with
  | [] => [0]
  | b :: bs => if b.msb then 0 :: b :: bs else b :: bs

def derInt (v : Nat) : List Byte := der 0x02 (derNat v)
def derEnum (v : Nat) : List Byte := der 0x0A (derNat v)
def derOctets (bs : List Byte) : List Byte := der 0x04 bs
def derBits (bs : List Byte) : List Byte := der 0x03 (0 :: bs)
def derOid (bs : List Byte) : List Byte := der 0x06 bs
def derSeq (xs : List (List Byte)) : List Byte := der 0x30 xs.flatten

/-! ### ThetchalorMeasurements (R125, R126) -/

/-- What the extension says. -/
structure Measured where
  lifecycle : Nat
  level : Nat
  castOn : List Nat
  aliasSerial : Nat
  list : List (Nat × Nat × List Byte)
  tenant : Option (Nat × Nat) := none
  nonce : Option (List Byte) := none
deriving DecidableEq, Repr

/-- Its DER. -/
def Measured.der (x : Measured) : List Byte :=
  derSeq ([derInt 1, derEnum x.lifecycle, derEnum x.level, derSeq (x.castOn.map derInt), derInt x.aliasSerial,
      derSeq (x.list.map fun (kind, rollback, digest) => derSeq [derInt kind, derInt rollback, derOctets digest])] ++
    (match x.tenant with
      | none => []
      | some (t, gen) => [Machine.der 0x80 (derNat t), Machine.der 0x81 (derNat gen)]) ++
    (match x.nonce with
      | none => []
      | some n => [Machine.der 0x82 n]))

/-! ### X.509 v3 (R124) -/

/-- AlgorithmIdentifier ecdsa-with-SHA384. -/
def sigAlg : List Byte := derSeq [derOid [0x2A, 0x86, 0x48, 0xCE, 0x3D, 0x04, 0x03, 0x03]]

/-- SubjectPublicKeyInfo of a P-384 key, X and Y. -/
def keyInfo (pub : List Byte) : List Byte :=
  derSeq [derSeq [derOid [0x2A, 0x86, 0x48, 0xCE, 0x3D, 0x02, 0x01], derOid [0x2B, 0x81, 0x04, 0x00, 0x22]], derBits (0x04 :: pub)]

/-- notAfter 99991231235959Z. -/
def notAfter : List Byte :=
  der 0x18 [0x39, 0x39, 0x39, 0x39, 0x31, 0x32, 0x33, 0x31, 0x32, 0x33, 0x35, 0x39, 0x35, 0x39, 0x5A]

/-- An extension; the rules say of the measurements alone that they are not critical. -/
def extension (oid : List Byte) (critical : Bool) (value : List Byte) : List Byte :=
  derSeq ([derOid oid] ++ (if critical then [der 0x01 [0xFF]] else []) ++ [derOctets value])

/-- The part of a certificate that is signed: issuer `i` and subject `j` of the names the rules leave open. -/
def tbsCert (serial i j : Nat) (pub : List Byte) (ca : Bool) (x : Measured) : List Byte :=
  derSeq [der 0xA0 (derInt 2), derInt serial, sigAlg, Config.certName i, derSeq [Config.certNotBefore, notAfter], Config.certName j,
    keyInfo pub, der 0xA3 (derSeq [
      extension [0x55, 0x1D, 0x13] (Config.certCritical 0) (derSeq (if ca then [der 0x01 [0xFF], derInt 0] else [])),
      extension [0x55, 0x1D, 0x0F] (Config.certCritical 1) (der 0x03 (if ca then [0x02, 0x84] else [0x07, 0x80])),
      extension [0x2B, 0x06, 0x01, 0x04, 0x01, 0x83, 0xCB, 0x48, 0x01, 0x01] false x.der])]

/-- A certificate signed by the key of a name: ECDSA P-384 with SHA-384. -/
def signedCert (key : Nat) (tbs : List Byte) : List Byte :=
  let sig := (Config.ecdsaSign key tbs).toNat
  derSeq [tbs, sigAlg, derBits (derSeq [derInt (sig / 2 ^ 384), derInt (sig % 2 ^ 384)])]

/-- The 96 bytes of a public key whose private half is the key of a name. -/
def publicKey (key : Nat) : List Byte := leBytes 96 (Config.publicKey key).toNat

/-! ### The certificates of the device -/

/-- What the extension says of the device now (R125). -/
def State.measured (s : State) (list : List (Nat × Nat × List Byte)) : Measured :=
  { lifecycle := s.fld ADSEL_STATUS 2 0, level := s.fld ADSEL_STATUS 5 4, castOn := s.adsel.castOn
    aliasSerial := (s.reg ADSEL_ALIAS_SERIAL).toNat, list := list }

/-- Tenant `t`'s certificate (R124, R126), issued by the alias key, with the caller's nonce where there is one. -/
def State.tenantCert (s : State) (t : Nat) (nonce : Option (List Byte)) : List Byte :=
  let gen := s.fld (ADSEL_T_INFO t) 15 0
  let x : Measured := { s.measured [(0x90, 0, (s.tenant t).measurement)] with tenant := some (t, gen), nonce := nonce }
  signedCert (s.keySlot 1).id (tbsCert (Config.certSerial x.der) 1 (1 + t) (publicKey (s.keySlot 1).id) false x)

end Sys2Proof.Machine
end

