-- ==== Sys2Proof/Machine/Float.lean ====
section
/-! DEFINITION. BF16, FP16 and FP32 arithmetic (R234): every operation exact on the numbers the operands stand for,
then one rounding. -/

namespace Sys2Proof.Machine

/-- A format: exponent bits, fraction bits, whether subnormals are flushed (R234). -/
structure Fmt where
  eb : Nat
  mb : Nat
  ftz : Bool
deriving DecidableEq, Repr

def bf16 : Fmt := ⟨8, 7, true⟩
def fp16 : Fmt := ⟨5, 10, false⟩
def fp32 : Fmt := ⟨8, 23, true⟩

/-- What a float stands for: `fin` is (-1)^neg * m * 2^e. -/
inductive FVal where
  | nan
  | inf (neg : Bool)
  | fin (neg : Bool) (m : Nat) (e : Int)
deriving DecidableEq, Repr

/-- Bytes of a format. -/
def Fmt.bytes (f : Fmt) : Nat := (1 + f.eb + f.mb) / 8

/-- The exponent bias. -/
def Fmt.bias (f : Fmt) : Int := 2 ^ (f.eb - 1) - 1

/-- The bits of infinity. -/
def Fmt.infBits (f : Fmt) : Nat := (2 ^ f.eb - 1) * 2 ^ f.mb

/-- The canonical quiet NaN (R234). -/
def Fmt.nanBits (f : Fmt) : Nat := f.infBits + 2 ^ (f.mb - 1)

/-- The number an encoding stands for, subnormals flushed where the format flushes them. -/
def Fmt.decode (f : Fmt) (n : Nat) : FVal :=
  let neg := n.testBit (f.eb + f.mb)
  let e := nbits n (f.eb + f.mb - 1) f.mb
  let m := n % 2 ^ f.mb
  if e = 0 then (if f.ftz then .fin neg 0 0 else .fin neg m (1 - f.bias - f.mb))
  else if e = 2 ^ f.eb - 1 then (if m = 0 then .inf neg else .nan)
  else .fin neg (2 ^ f.mb + m) ((e : Int) - f.bias - f.mb)

/-- m * 2^(-sh) rounded to a whole number: to nearest, ties to even, or toward zero. -/
def roundShift (rtz : Bool) (m sh : Nat) : Nat :=
  let q := m >>> sh
  let r := m % 2 ^ sh
  if rtz ∨ sh = 0 then q
  else if 2 ^ (sh - 1) < r ∨ (r = 2 ^ (sh - 1) ∧ q % 2 = 1) then q + 1 else q

/-- The encoding of a number rounded into a format, and whether it overflowed. -/
def Fmt.encode (f : Fmt) (rtz : Bool) : FVal → Nat × Bool
  | .nan => (f.nanBits, false)
  | .inf neg => (f.infBits + neg.toNat * 2 ^ (f.eb + f.mb), false)
  | .fin neg m e =>
    let sign := neg.toNat * 2 ^ (f.eb + f.mb)
    if m = 0 then (sign, false)
    else
      let lead : Int := e + Nat.log2 m
      let big := max lead (1 - f.bias)
      let sh : Int := big - f.mb - e
      let mant := if sh ≤ 0 then m * 2 ^ (-sh).toNat else roundShift rtz m sh.toNat
      let bits := if lead < 1 - f.bias then mant else (big + f.bias).toNat * 2 ^ f.mb + (mant - 2 ^ f.mb)
      if f.infBits ≤ bits then (sign + (if rtz then f.infBits - 1 else f.infBits), true)
      else if f.ftz ∧ bits < 2 ^ f.mb then (sign, false)
      else (sign + bits, false)

/-- Negation. -/
def FVal.neg : FVal → FVal
  | .nan => .nan
  | .inf b => .inf (!b)
  | .fin b m e => .fin (!b) m e

/-- The signed numerator of a finite number over 2^-k for a common exponent `e0` below its own. -/
def scaledInt (neg : Bool) (m : Nat) (e e0 : Int) : Int :=
  let v : Int := (m * 2 ^ (e - e0).toNat : Nat)
  if neg then -v else v

/-- Exact sum; inf - inf is NaN. A zero sum is -0 only where both are. -/
def FVal.add : FVal → FVal → FVal
  | .nan, _ => .nan
  | _, .nan => .nan
  | .inf a, .inf b => if a = b then .inf a else .nan
  | .inf a, _ => .inf a
  | _, .inf b => .inf b
  | .fin a m e, .fin b n f =>
    let e0 := min e f
    let v := scaledInt a m e e0 + scaledInt b n f e0
    if v = 0 then .fin (a && b) 0 0 else .fin (decide (v < 0)) v.natAbs e0

/-- Exact product; 0 * inf is NaN. -/
def FVal.mul : FVal → FVal → FVal
  | .nan, _ => .nan
  | _, .nan => .nan
  | .inf a, .inf b => .inf (a != b)
  | .inf a, .fin b n _ => if n = 0 then .nan else .inf (a != b)
  | .fin a m _, .inf b => if m = 0 then .nan else .inf (a != b)
  | .fin a m e, .fin b n f => .fin (a != b) (m * n) (e + f)

/-- Whether x < y, NaN below nothing. -/
def FVal.lt : FVal → FVal → Bool
  | .nan, _ => false
  | _, .nan => false
  | .inf a, .inf b => a && !b
  | .inf a, .fin .. => a
  | .fin .., .inf b => !b
  | .fin a m e, .fin b n f =>
    let e0 := min e f
    decide (scaledInt a m e e0 < scaledInt b n f e0)

/-- Whether a value is NaN. -/
def FVal.isNan : FVal → Bool
  | .nan => true
  | _ => false

/-- An integer as a float value. -/
def FVal.ofInt (i : Int) : FVal := .fin (decide (i < 0)) i.natAbs 0

/-- The integer of `w` bits a value converts to (R234): rounded, saturating, NaN to 0; and whether it saturated. -/
def FVal.toInt (w : Nat) (rtz : Bool) : FVal → Int × Bool
  | .nan => (0, false)
  | .inf neg => (if neg then -(2 ^ (w - 1)) else 2 ^ (w - 1) - 1, true)
  | .fin neg m e =>
    let a : Int := if 0 ≤ e then ((m * 2 ^ e.toNat : Nat) : Int) else (roundShift rtz m (-e).toNat : Nat)
    let v := if neg then -a else a
    (clampS w v, clampS w v != v)

/-- Sum of an FP32 accumulator and an exact value, rounded to FP32 with RNE, as bits. -/
def addF32 (acc : Nat) (x : FVal) : Nat := (fp32.encode false ((fp32.decode acc).add x)).1

/-- sat8((x * M + 2^(S-1)) >> S), the rounding term only for S > 0 (R236). -/
def requant (x : Int) (m sh : Nat) : Int := clampS 8 ((x * m + (if sh = 0 then 0 else 2 ^ (sh - 1))) >>> sh)

end Sys2Proof.Machine
end

