-- ==== Sys2Proof/Machine/Lookup.lean ====
section
/-! DEFINITION. The functions whose results a rule bounds to a number of ULP (R235, R317): each worked out in fixed point far below the
formats' precision, rounded once, then moved by the error that the rule leaves open. -/

namespace Sys2Proof.Machine

/-- Fraction bits of the fixed-point numbers. -/
def fxBits : Nat := 640

/-- One. -/
def fxOne : Int := 2 ^ fxBits

/-- A product. -/
def fxMul (a b : Int) : Int := a * b / fxOne

/-- ln 2, the sum of 1 / (n 2^n). -/
def fxLn2 : Int := (List.range 660).foldl (fun a n => a + fxOne / ((n + 1 : Nat) * 2 ^ (n + 1))) 0

/-- The sum of r^k / k! from k = n on, `t` being its first term. -/
def expSum : Nat → Nat → Int → Int → Int
  | 0, _, _, _ => 0
  | f + 1, n, r, t => t + expSum f (n + 1) r (fxMul t r / (n + 1 : Nat))

/-- e^x of a fixed-point x: a fixed-point number and the power of two it is multiplied by. -/
def fxExp (x : Int) : Int × Int :=
  let k := x / fxLn2
  (expSum 130 0 (x - k * fxLn2) fxOne, k)

/-- e^-x for x from 0 up, as a fixed-point number. -/
def fxExpNeg (x : Int) : Int := let (m, k) := fxExp (-x); m >>> (-k).toNat

/-- arctan (1 / n). -/
def fxAtanInv (n : Nat) : Int :=
  (List.range 480).foldl (fun a k =>
    let t := fxOne / ((2 * k + 1) * n ^ (2 * k + 1) : Nat)
    if k % 2 = 0 then a + t else a - t) 0

/-- Pi (Machin). -/
def fxPi : Int := 16 * fxAtanInv 5 - 4 * fxAtanInv 239

/-- 1 / sqrt (2 pi). -/
def fxInvRoot : Int := fxOne * fxOne / (Nat.sqrt (2 * fxPi * fxOne).toNat : Int)

/-- The sum of (-x^2 / 2)^k x / (k! (2k + 1)) from k = n on; `t` is its first term times 2n + 1, `h` is x^2 / 2. -/
def phiSum : Nat → Nat → Int → Int → Int
  | 0, _, _, _ => 0
  | f + 1, n, h, t => t / (2 * n + 1 : Nat) + phiSum f (n + 1) h (-(fxMul t h) / (n + 1 : Nat))

/-- The normal distribution function of a fixed-point x between -16 and 16. -/
def fxPhi (x : Int) : Int := fxOne / 2 + fxMul fxInvRoot (phiSum 800 0 (fxMul x x / 2) x)

/-- A finite float value as a fixed-point number. -/
def toFx (neg : Bool) (m : Nat) (e : Int) : Int :=
  let v : Int := if 0 ≤ e + fxBits then m * 2 ^ (e + fxBits).toNat else (m >>> (-(e + fxBits)).toNat : Nat)
  if neg then -v else v

/-- A fixed-point number times 2^k as a float value. -/
def ofFx (v k : Int) : FVal := .fin (decide (v < 0)) v.natAbs (k - fxBits)

/-- EXP of a finite value; past 512 either way every format overflows or underflows. -/
def expVal (neg : Bool) (m : Nat) (e : Int) : FVal :=
  let x := toFx neg m e
  if 512 * fxOne < x then .inf false
  else if x < -512 * fxOne then .fin false 0 0
  else let (v, k) := fxExp x; ofFx v k

/-- 1 / sqrt of m 2^e, m not 0. -/
def rsqrtVal (m : Nat) (e : Int) : FVal :=
  let (m, e) := if e % 2 = 0 then (m, e) else (2 * m, e - 1)
  .fin false (Nat.sqrt (2 ^ (2 * fxBits) / m)) (-(e / 2) - fxBits)

/-- The logistic function of a finite value. -/
def sigmoidVal (neg : Bool) (m : Nat) (e : Int) : FVal :=
  let y := fxExpNeg (min (toFx false m e) (512 * fxOne))
  ofFx ((if neg then y else fxOne) * fxOne / (fxOne + y)) 0

/-- tanh of a finite value. -/
def tanhVal (neg : Bool) (m : Nat) (e : Int) : FVal :=
  let y := fxExpNeg (2 * min (toFx false m e) (512 * fxOne))
  let v := (fxOne - y) * fxOne / (fxOne + y)
  .fin neg v.toNat (-fxBits)

/-- x times the normal distribution function of x, for a finite x. -/
def geluVal (neg : Bool) (m : Nat) (e : Int) : FVal :=
  let x := toFx neg m e
  if 15 * fxOne < x then .fin false m e
  else if x < -15 * fxOne then .fin true 0 0
  else (FVal.fin neg m e).mul (ofFx (fxPhi x) 0)

/-- The encoding `n` units in the last place from encoding `b`, between the infinities; flushed to zero with its sign where the format
flushes. -/
def Fmt.ulps (f : Fmt) (b : Nat) (n : Int) : Nat :=
  let sign := 2 ^ (f.eb + f.mb)
  let o : Int := (if sign ≤ b then -((b - sign : Nat) : Int) else b) + n
  let o := max (-(f.infBits : Int)) (min f.infBits o)
  let a := o.natAbs
  (if f.ftz ∧ a < 2 ^ f.mb then 0 else a) + (if o < 0 ∨ (o = 0 ∧ sign ≤ b) then sign else 0)

/-- A value rounded to nearest, then off by the open error, at most `k` units; never across zero. -/
def Fmt.within (f : Fmt) (k : Nat) (err : Int) (x : FVal) : Nat :=
  let b := (f.encode false x).1
  let r := f.ulps b (max (-(k : Int)) (min k err))
  if (2 ^ (f.eb + f.mb) ≤ r) = (2 ^ (f.eb + f.mb) ≤ b) then r else b / 2 ^ (f.eb + f.mb) * 2 ^ (f.eb + f.mb)

/-- sigma of an FP32 value, as bits, to within 8 ULP (R317). -/
def sigma32 (a : Nat) : Nat := match fp32.decode a with
  | .nan => fp32.nanBits
  | .inf neg => if neg then 0 else 0x3F800000
  | .fin neg m e => fp32.within 8 (Config.sigma a) (sigmoidVal neg m e)

/-- tanh of an FP32 value, as bits, to within 8 ULP (R317). -/
def tanh32 (a : Nat) : Nat := match fp32.decode a with
  | .nan => fp32.nanBits
  | .inf neg => 0x3F800000 + neg.toNat * 0x80000000
  | .fin neg m e => fp32.within 8 (Config.tanh a) (tanhVal neg m e)

end Sys2Proof.Machine
end

