-- ==== Sys2Proof/Machine/Link.lean ====
section
/-! DEFINITION. The outbound window (R393, R394) and what decides it: tenants' TDIs, their streams, the link. -/

namespace Sys2Proof.Machine

/-- `s` with a TDI's state set; CONFIG_UNLOCKED forgets its stream. -/
def State.setTdi (s : State) (t v : Nat) : State :=
  let s := s.setFld IDE_TDI (4 * t + 1) (4 * t) v
  if v = 0 then { s with link.tdi := s.link.tdi.filter fun e => e.1 != t } else s

/-- R403: a TDI that is LOCKED or RUN goes to ERROR. -/
def State.tdiError (s : State) (t : Nat) : State :=
  if s.tdi t = 1 ∨ s.tdi t = 2 then (s.setTdi t 3).irq 0x039 2 else s

/-- The bounce binding of tenant `t`. -/
def State.binding (s : State) (t : Nat) : Option Binding := s.link.bind.get (fun _ => none) t

/-- Whether tenant `t` is bound in bounce mode. -/
def State.bounced (s : State) (t : Nat) : Bool := (s.binding t).isSome

/-- Whether an address lies in the outbound window (R19). -/
def isOutbound (a : Nat) : Bool := 0x8000000000 ≤ a && a < 0x10000000000

/-- The host address of a device address in the outbound window (R393). -/
def State.hostAddr (s : State) (a : Nat) : Nat := s.fld HOST_OUT_HI 24 0 * 0x8000000000 + (a - 0x8000000000)

/-- Whether tenant `t` may reach `n` bytes at outbound address `a` (R393). -/
def State.outPermitted (s : State) (t a n : Nat) : Bool :=
  t == 0 || (s.tdi t == 2 && (s.tdiStream t).any fun st => s.pci.ideAssoc.any fun e =>
    e.1 == st && e.2.1 ≤ s.hostAddr a && s.hostAddr a + n ≤ e.2.2 + 1)

/-- Whether the data link is up. -/
def State.linkUp (s : State) : Bool := s.flag HOST_LINK_STATUS 8 && s.domOn 9

/-- An outbound access ends because the link cannot complete it: its HOST_EVT field counts (R394). -/
def State.linkFail (s : State) (code : Nat) : State :=
  match code with
  | 0x10 => s.bumpSat HOST_EVT 7 0
  | 0x11 => s.bumpSat HOST_EVT 15 8
  | 0x12 => s.bumpSat HOST_EVT 23 16
  | _ => s

/-- The checks of an outbound access that is permitted: none to go on, LINK_DOWN, DOMAIN_OFF, WAKE_TIMEOUT, or 0x100 to wait for
HOST. -/
def State.linkCheck (s : State) : Option Nat × State :=
  if !s.domOn 9 then
    (some (if s.flag (PAGE_CTRL 0x038) 2 then (if s.lapsed 9 then 4 else 0x100) else 2), s)
  else if !s.flag HOST_LINK_STATUS 8 then (some 0x10, s.linkFail 0x10)
  else (none, s)

/-- The checks of an outbound access by `q`. -/
def State.outCheck (s : State) (q : Req) (a n : Nat) (wr : Bool) : Option Nat × State :=
  if !isOutbound (a + n - 1) ∨ !s.outPermitted q.tenant a n then (some 1, s.logRefusal q a wr 1)
  else match s.linkCheck with
    | (some c, s) => (some c, s.powerFail a c wr q)
    | r => r

/-- A posted outbound write of tenant `t` leaves the chip. -/
def State.hostOut (s : State) (t a : Nat) (bs : List Byte) : State := s.emit (.host (s.hostAddr a) true 0 bs (s.outStream t))

/-- An outbound write: its code and the state. -/
def State.hostWrite (s : State) (q : Req) (a : Nat) (bs : List Byte) : Nat × State :=
  match s.outCheck q a bs.length true with
  | (some c, s) => (c, s)
  | (none, s) => (0, s.hostOut q.tenant a bs)

/-- The lowest free tag of an outbound read; none while 64 are outstanding. -/
def State.outTag (s : State) : Option Nat :=
  if 64 ≤ s.link.reads.length then none else (List.range 64).find? fun i => !s.link.reads.any fun r => r.tag == i

/-- Issue an outbound read for tile `t`: 0x101 while no tag is free, 0x102 where it is on its way, else its code. -/
def State.hostRead (s : State) (q : Req) (kind t a n : Nat) : Nat × State :=
  match s.outTag with
  | none => (0x101, s)
  | some tag =>
    match s.outCheck q a n false with
    | (some c, s) => (c, s)
    | (none, s) =>
      let s := s.emit (.host (s.hostAddr a) false tag (leBytes 4 n) (s.outStream q.tenant))
      (0x102, { s with link.reads := s.link.reads ++ [⟨tag, kind, t, a, n, s.now⟩] })

/-- The outbound reads of tile `t` are abandoned: their completions free their tags and do nothing else. -/
def State.readsDrop (s : State) (t : Nat) : State :=
  { s with link.reads := s.link.reads.map fun r => if r.tile = t then { r with kind := 2 } else r }

/-- The outbound reads of tile `t`'s core alone are abandoned (R373). -/
def State.coreReadsDrop (s : State) (t : Nat) : State :=
  { s with link.reads := s.link.reads.map fun r => if r.tile = t ∧ r.kind = 0 then { r with kind := 2 } else r }

/-- Whether tile `t`'s DMA waits for an outbound read. -/
def State.dmaReads (s : State) (t : Nat) : Bool := s.link.reads.any fun r => r.kind == 1 && r.tile == t

/-- The code and data of an outbound read by the intake or the bounce engine (R394): the status of its completion (none: no
completion in 10 ms) and the bytes a successful one brings. -/
def hostResult (cpl : Option CplStatus) (data : List Byte) : Nat × List Byte :=
  match cpl with
  | some .success => (0, data)
  | some .poisoned => (8, [])
  | some _ => (0x11, [])
  | none => (0x12, [])

end Sys2Proof.Machine
end

