-- ==== Sys2Proof/Machine/Weights.lean ====
section
/-! DEFINITION. Compute-in-memory weight banks (R277 to R295): records, the load window, sealing, flipping, zeroing. -/

namespace Sys2Proof.Machine

/-! ### Records (R277, R278, R282) -/

/-- A field of bank `b`'s TILE_WGT_STAT. -/
def State.bankState (s : State) (t b : Nat) : Nat := s.fld (TILE_WGT_STAT t b) 2 0
def State.bankRole (s : State) (t b : Nat) : Nat := s.fld (TILE_WGT_STAT t b) 3 3
def State.bankMode (s : State) (t b : Nat) : Nat := s.fld (TILE_WGT_STAT t b) 6 5
def State.bankOwner (s : State) (t b : Nat) : Nat := s.fld (TILE_WGT_STAT t b) 10 8
def State.bankRows (s : State) (t b : Nat) : Nat := 64 * s.fld (TILE_WGT_STAT t b) 25 16

/-- Whether tile `t` is in joined mode. -/
def State.joined (s : State) (t : Nat) : Bool := s.flag (TILE_WGT_STAT t 0) 4 || s.flag (TILE_WGT_STAT t 1) 4

/-- Whether a bank has an owner: LOADING, RESIDENT or LOST. -/
def State.bankOwned (s : State) (t b : Nat) : Bool := 1 ≤ s.bankState t b && s.bankState t b ≤ 3

/-- Rows one bank holds in a mode (Table 13.1). -/
def modeRows (m : Nat) : Nat := if m = 2 then 16384 else 8192

/-- Bytes of a row. -/
def modeBytes (m : Nat) : Nat := if m = 2 then 32 else 64

/-- The load-window address of bank `b`. -/
def bankBase (t b : Nat) : Nat := 0x60000000 + t * 0x100000 + b * 0x80000

/-- The extent of the model in bank `b`: first address and bytes; a joined model spans both from bank A. -/
def State.bankExtent (s : State) (t b : Nat) : Nat × Nat :=
  (bankBase t (if s.joined t then 0 else b), s.bankRows t b * modeBytes (s.bankMode t b))

/-- Whether page command or zeroing keeps the tile's bank interface busy. -/
def State.wgtBusy (s : State) (t : Nat) : Bool := s.flag (TILE_WGT_RESULT t) 8

/-- Post a command's code. -/
def State.wgtPost (s : State) (t code : Nat) : State := s.setReg (TILE_WGT_RESULT t) (word code)

/-- Post that a command is in progress. -/
def State.wgtStart (s : State) (t : Nat) : State := s.setFlag (TILE_WGT_RESULT t) 8 true

/-- Clear the granule map of a bank. -/
def State.mapClear (s : State) (t b : Nat) : State :=
  { s with wgt.map := s.wgt.map.clear fun k => bankBase t b ≤ 32 * k && 32 * k < bankBase t b + 0x80000 }

/-- Clear the contents of a bank. -/
def State.bankClear (s : State) (t b : Nat) : State :=
  { s with wgt.bytes := s.wgt.bytes.clear fun k => bankBase t b ≤ k && k < bankBase t b + 0x80000 }

/-! ### DECLARE (R284, R291) -/

/-- The banks a declare involves. -/
def declBanks (decl : Word) (b : Nat) : List Nat := if bit decl 2 then [0, 1] else [b]

/-- The checks of R284, in order: 0 where all pass. -/
def State.declCheck (s : State) (t b : Nat) (decl : Word) : Nat :=
  let rows := 64 * bits decl 17 8
  let mode := bits decl 1 0
  let owner := bits decl 6 4
  let bs := declBanks decl b
  if rows = 0 ∨ 64 * 512 < rows ∨ mode = 3 ∨ !(owner == 0 || s.flag ADSEL_TENANTS owner) then 0x13
  else if (if bit decl 2 then 2 * modeRows mode else modeRows mode) < rows ∨ bs.any (fun x => s.bankState t x == 4) then 7
  else if bs.any (fun x => (s.bankState t x == 2 && (s.joined t || s.bankRole t x == 0)) || s.bankState t x == 5) then 0x11
  else if !bit decl 2 ∧ s.joined t ∧ (s.bankState t 0 = 2 ∨ s.bankState t 1 = 2) then 0x11
  else 0

/-- The record of a bank that becomes LOADING. -/
def loadingStat (decl : Word) (role : Nat) : Word :=
  word (1 + role * 8 + (bits decl 2 2) * 0x10 + bits decl 1 0 * 0x20 + bits decl 6 4 * 0x100 + bits decl 17 8 * 0x10000)

/-- A declare's record in a bank: FILL counts from it. -/
def State.bankTake (s : State) (t b : Nat) (stat id : Word) : State :=
  ((s.setReg (TILE_WGT_STAT t b) stat).setFld (TILE_WGT_ID t b) 15 0 id.toNat).setReg (TILE_WGT_FILL t b) 0

/-- Give a bank its new record, zeroing it first where its owner changes (R284). -/
def State.declBank (s : State) (t b : Nat) (stat : Word) (id : Word) : State :=
  if s.bankOwned t b ∧ (bits stat 2 0 ≠ 1 ∨ s.bankOwner t b ≠ bits stat 10 8) then
    let s : State := { s with wgt.zeroing := s.wgt.zeroing ++ [(t, b, some (stat, id))] }
    ((s.setFld (TILE_WGT_STAT t b) 2 0 5).setFlag (TILE_WGT_STAT t b) 4 (bit stat 4)).wgtStart t
  else (s.bankTake t b stat id).mapClear t b

/-- DECLARE with the parameters of a DECL word and MODEL_ID: the checks, then (unless dry) the new records. -/
def State.declare (s : State) (t b : Nat) (decl model : Word) (dry : Bool) : Nat × State :=
  let c := s.declCheck t b decl
  if c ≠ 0 ∨ dry then (c, s)
  else if bit decl 2 then
    (0, [0, 1].foldl (fun s x => s.declBank t x (loadingStat decl (s.bankRole t x)) model) s)
  else if s.joined t then
    let s := s.declBank t (1 - b) 0 0
    (0, s.declBank t b (loadingStat decl 1) model)
  else (0, s.declBank t b (loadingStat decl (s.bankRole t b)) model)

/-- TILE_WGT_CTRL DECLARE. -/
def wgtDeclare (t : Nat) (v : Word) (s : State) : State :=
  let r := s.declare t (bits v 3 3) (s.reg (TILE_WGT_DECL t)) (s.reg (TILE_WGT_MODEL t)) (bit v 4)
  if s.wgt.zeroing.length < r.2.wgt.zeroing.length then r.2 else r.2.wgtPost t r.1

/-! ### The load window (R286) -/

/-- The tile and bank whose load window holds an address. -/
def cimBank (a : Nat) : Nat × Nat := ((a - 0x60000000) / 0x100000, (a - 0x60000000) % 0x100000 / 0x80000)

/-- Whether the owner of every granule of a load window range permits a write of it (R22, R286). -/
def State.wgtOk (s : State) (q : Req) (a n : Nat) : Bool :=
  q.cls == 6 || (List.range ((a + n + 31) / 32 - a / 32)).all fun i =>
    let (t, b) := cimBank ((a / 32 + i) * 32)
    s.bankOwned t b && s.bankOwner t b == q.tenant

/-- The code of the checks a write to the load windows meets as a whole (R22, R29): permission, alignment, the tile's state. -/
def State.wgtCheck (s : State) (q : Req) (a n : Nat) : Nat :=
  if !s.wgtOk q a n || !isCimWin (a + n - 1) then 1
  else if a % 32 ≠ 0 ∨ n % 32 ≠ 0 ∨ n = 0 then 3
  else s.memPower q a n

/-- What a write that ends with a code leaves: the log of a refusal, the capture of DOMAIN_OFF or WAKE_TIMEOUT. -/
def State.wgtRefused (s : State) (q : Req) (a code : Nat) : State :=
  if code = 1 then s.logRefusal q a true 4 else s.powerFail a code true q

/-- One granule into the load window (R286): BANK_STATE where its bank is not LOADING or its extent ends below; a poisoned one
changes nothing. -/
def State.wgtGranule (s : State) (a : Nat) (bs : List Byte) (poison : Bool) : Nat × State :=
  let (t, b) := cimBank a
  let (base, len) := s.bankExtent t b
  if s.bankState t b ≠ 1 ∨ base + len ≤ a then (0x11, s)
  else if poison then (0, s)
  else
    let new := !s.wgt.map.get (fun _ => false) (a / 32)
    let s : State := { s with wgt := { s.wgt with bytes := Tab.setList (fun _ => 0) s.wgt.bytes a bs,
                                                  map := Tab.set (fun _ => false) s.wgt.map (a / 32) true } }
    (0, if new then s.setFld (TILE_WGT_FILL t b) 14 0 (s.fld (TILE_WGT_FILL t b) 14 0 + 1) else s)

/-- A write to the load window: its granules are accepted one by one (R286), and the first code that is not OK is the write's. -/
def State.wgtWrite (s : State) (q : Req) (a : Nat) (bs : List Byte) (poison : Nat → Bool) : Nat × State :=
  match s.wgtCheck q a bs.length with
  | 0 => (List.range (bs.length / 32)).foldl (fun (c, s) i =>
      let (c', s) := s.wgtGranule (a + 32 * i) (slice bs (32 * i) 32) (poison i)
      (if c = 0 then c' else c, s)) (0, s)
  | c => (c, s.wgtRefused q a c)

/-- A write anywhere in memory: the load windows, or the tiers. -/
def State.store (s : State) (q : Req) (a : Nat) (bs : List Byte) (poison : Bool := false) : Nat × State :=
  if isCimWin a then s.wgtWrite q a bs (fun _ => poison) else s.memWrite q a bs poison

/-! ### SEAL (R287) -/

/-- One bit of the reflected CRC-32. -/
def crcBit (c : Nat) : Nat := if c % 2 = 1 then (c / 2) ^^^ 0xEDB88320 else c / 2

/-- One byte of the CRC-32. -/
def crcByte (c : Nat) (b : Byte) : Nat := crcBit (crcBit (crcBit (crcBit (crcBit (crcBit (crcBit (crcBit (c ^^^ b.toNat))))))))

/-- The IEEE 802.3 CRC-32. -/
def crc32 (bs : List Byte) : Nat := bs.foldl crcByte 0xFFFFFFFF ^^^ 0xFFFFFFFF

/-- The weight bytes of an extent. -/
def State.wgtBytes (s : State) (a n : Nat) : List Byte := Tab.getList (fun _ => 0) s.wgt.bytes a n

/-- Whether every granule of the bank's extent has been written. -/
def State.mapFull (s : State) (t b : Nat) : Bool :=
  let (a, n) := s.bankExtent t b
  (List.range (n / 32)).all fun i => s.wgt.map.get (fun _ => false) (a / 32 + i)

/-- SEAL. -/
def wgtSeal (t : Nat) (v : Word) (s : State) : State :=
  let b := bits v 3 3
  if s.bankState t b ≠ 1 then s.wgtPost t 0x11
  else if !s.mapFull t b then s.wgtPost t 0x12
  else ({ s with wgt.seals := s.wgt.seals ++ [(t, b, bit v 5)] } : State).wgtStart t

/-- The end of a seal of bank `b`: the CRC, then RESIDENT unless VERIFY finds another. -/
def State.sealEnd (s : State) (t b : Nat) (verify : Bool) : State :=
  let (a, n) := s.bankExtent t b
  let crc := word (crc32 (s.wgtBytes a n))
  let bs := if s.joined t then [0, 1] else [b]
  let s := bs.foldl (fun s x => s.setReg (TILE_WGT_CRC t x) crc) s
  if verify ∧ crc ≠ s.reg (TILE_WGT_EXPECT t) then s.wgtPost t 0x14
  else
    let s := bs.foldl (fun s x =>
      (s.setFld (TILE_WGT_STAT t x) 2 0 2).setFld (TILE_WGT_ID t x) 31 16 (s.fld (TILE_WGT_ID t x) 31 16 + 1)) s
    (s.wgtPost t 0).irq (0x100 + t) 3

/-- A seal's CRC finishes. -/
def wgtSealDone (t : Nat) (s : State) : State :=
  match s.wgt.seals.find? fun x => x.1 == t with
  | none => s
  | some (_, b, verify) =>
    let s : State := { s with wgt.seals := s.wgt.seals.filter fun x => x.1 != t }
    if s.bankState t b = 1 then s.sealEnd t b verify else s.wgtPost t 0x11

/-! ### FLIP (R289, R290) -/

/-- Whether tile `t` may flip: WGT_Qq ON, not joined, the LOAD bank RESIDENT. -/
def State.mayFlip (s : State) (t : Nat) : Bool :=
  s.domOn (13 + quadOf t) && !s.joined t && [0, 1].any (fun b => s.bankRole t b == 1 && s.bankState t b == 2)

/-- Whether a flip of tile `t` is in progress: CIM.MACs stall. -/
def State.flipping (s : State) (t : Nat) : Bool := s.wgt.flips.any fun f => f.1 == t

/-- Accept a flip. -/
def State.flipStart (s : State) (t : Nat) (page : Bool) : State :=
  { s with wgt.flips := s.wgt.flips ++ [(t, page)] }

/-- FLIP. -/
def wgtFlip (t : Nat) (s : State) : State :=
  if s.mayFlip t ∧ !s.flipping t then (s.flipStart t true).wgtStart t else s.wgtPost t 0x11

/-- Exchange the roles. -/
def State.swapRoles (s : State) (t : Nat) : State :=
  let a := s.bankRole t 0
  let s := (s.setFld (TILE_WGT_STAT t 0) 3 3 (s.bankRole t 1)).setFld (TILE_WGT_STAT t 1) 3 3 a
  (s.bumpSat (TILE_WGT_FLIPS t) 15 0).irq (0x100 + t) 5

/-- A flip ends, its earlier CIM.MACs done. -/
def State.flipEnd (s : State) (t : Nat) : State :=
  match s.wgt.flips.find? fun f => f.1 == t with
  | none => s
  | some (_, page) =>
    let s := ({ s with wgt.flips := s.wgt.flips.filter fun f => f.1 != t } : State).swapRoles t
    if page then s.wgtPost t 0 else s

/-- A broadcast flip (R290): every masked tile is checked first; none flips where one may not. Answers the mask of
failing tiles. -/
def State.broadcastFlip (s : State) (mask : Nat) : Nat × State :=
  let ts := setPositions 64 mask
  let bad := ts.filter fun t => !s.mayFlip t || s.flipping t
  if bad = [] then (0, ts.foldl (fun s t => s.flipStart t false) s) else (bad.foldl (fun a t => a + 2 ^ t) 0, s)

/-! ### DISCARD (R288) and zeroing -/

/-- DISCARD of a bank, or of both in joined mode. -/
def State.discard (s : State) (t b : Nat) : State :=
  let bs := if s.joined t then [0, 1] else [b]
  bs.foldl (fun s x => ({ s with wgt.zeroing := s.wgt.zeroing ++ [(t, x, none)] } : State).setFld (TILE_WGT_STAT t x) 2 0 5) s

/-- TILE_WGT_CTRL DISCARD. -/
def wgtDiscard (t : Nat) (v : Word) (s : State) : State :=
  let b := bits v 3 3
  if s.bankState t b = 4 ∨ s.bankState t b = 5 then s.wgtPost t 0x11 else (s.discard t b).wgtStart t

/-- Zeroing of tile `t`'s banks completes: EMPTY with no owner and the ROLE it had, or the record of the declare. -/
def State.zeroEnd (s : State) (t : Nat) : State :=
  let mine := s.wgt.zeroing.filter fun z => z.1 == t
  let s : State := { s with wgt.zeroing := s.wgt.zeroing.filter fun z => z.1 != t }
  let s := mine.foldl (fun s z =>
    let b := z.2.1
    let s := (s.bankClear t b).mapClear t b
    match z.2.2 with
    | some (stat, id) => s.bankTake t b stat id
    | none => (s.setReg (TILE_WGT_STAT t b) (word (8 * s.bankRole t b))).setFld (TILE_WGT_ID t b) 15 0 0) s
  if mine = [] then s else s.wgtPost t 0

/-! ### Commands, retention, cast-on (R292, R293, R296) -/

/-- TILE_WGT_CTRL (Table 13.3): ignored while BUSY, which captures BANK_STATE. -/
def wgtCommand (q : Req) (t : Nat) (v : Word) (s : State) : State :=
  if s.wgtBusy t then s.fail q (TILE_WGT_CTRL t) 0x11
  else match bits v 2 0 with
    | 1 => wgtDeclare t v s
    | 2 => wgtSeal t v s
    | 3 => wgtFlip t s
    | 4 => wgtDiscard t v s
    | _ => s

/-- Tile `t`'s contents are lost (R292); a seal in progress ends with them, BANK_STATE. -/
def State.wgtLose (s : State) (t : Nat) : State :=
  let hit := [0, 1].filter fun b => s.bankState t b == 1 || s.bankState t b == 2
  let seals := s.wgt.seals.any fun x => x.1 == t
  let s : State := { s with wgt.seals := s.wgt.seals.filter fun x => x.1 != t }
  let s := if seals then s.wgtPost t 0x11 else s
  let s := hit.foldl (fun s b => ((s.bankClear t b).mapClear t b).setFld (TILE_WGT_STAT t b) 2 0 3) s
  if hit = [] then s else s.irq (0x100 + t) 4

/-- The loss is recorded in the MEM step of the wake of WGT_Qq. -/
def State.wgtWoke (s : State) (quad : Nat) : State :=
  let mine := s.wgt.lost.filter fun t => quadOf t == quad
  mine.foldl State.wgtLose { s with wgt.lost := s.wgt.lost.filter fun t => quadOf t != quad }

/-- WGT_Qq goes to RETAIN or OFF: the tiles whose contents do not survive. -/
def State.wgtSleep (s : State) (quad : Nat) (off : Bool) : State :=
  let gone := (tilesOf quad).filter fun t => off || !s.flag (PWR_WGT_RETAIN (t / 32)) (t % 32)
  { s with wgt.lost := s.wgt.lost ++ gone.filter fun t => !s.wgt.lost.contains t }

/-- Discard every bank of a tenant (R295). -/
def State.wgtTeardown (s : State) (ten : Nat) : State :=
  (List.range 64).foldl (fun s t => [0, 1].foldl (fun s b =>
    if s.bankOwned t b ∧ s.bankOwner t b = ten then (s.discard t b).wgtStart t else s) s) s

/-- The columns of a bank that the self-test finds failing, rising (R293). -/
def failingColumns (t b : Nat) : List Nat := (List.range 128).filter (Config.columnFails t b)

/-- TILE_WGT_REPAIR of a bank: its first four failing columns, 0xFF for a spare that is not used. -/
def repairMap (t b : Nat) : Word := word (leNat ((failingColumns t b ++ [0xFF, 0xFF, 0xFF, 0xFF]).take 4 |>.map (BitVec.ofNat 8)))

/-- The records after cast-on step 9 (R282, R293): every bank EMPTY or FAILED, A COMPUTE, B LOAD, repair maps. -/
def State.wgtCastOn (s : State) : State :=
  let s : State := { s with wgt := {} }
  (List.range 64).foldl (fun s t => [0, 1].foldl (fun s b =>
    let s := s.setReg (TILE_WGT_STAT t b) (word (8 * b + (if 4 < (failingColumns t b).length then 4 else 0)))
    (s.setReg (TILE_WGT_ID t b) 0).setReg (TILE_WGT_REPAIR t b) (repairMap t b)) s) s

/-! ### Meanings -/

def execDeclare (q : Req) (t : Nat) (v : Word) (s : State) : Host.Outcome State Fault Refusal :=
  only (q.wf && decide (t < 64)) s (s.writeVia q (TILE_WGT_CTRL t) (setBits v 2 0 1) (wgtCommand q t (setBits v 2 0 1)))
def execSeal (q : Req) (t : Nat) (v : Word) (s : State) : Host.Outcome State Fault Refusal :=
  only (q.wf && decide (t < 64)) s (s.writeVia q (TILE_WGT_CTRL t) (setBits v 2 0 2) (wgtCommand q t (setBits v 2 0 2)))
def execSealDone (t : Nat) (s : State) : Host.Outcome State Fault Refusal :=
  only (decide (t < 64)) s (s.heldIdle (0x100 + t) (wgtSealDone t s))
def execFlip (q : Req) (t : Nat) (v : Word) (s : State) : Host.Outcome State Fault Refusal :=
  only (q.wf && decide (t < 64)) s (s.writeVia q (TILE_WGT_CTRL t) (setBits v 2 0 3) (wgtCommand q t (setBits v 2 0 3)))
def execDiscard (q : Req) (t : Nat) (v : Word) (s : State) : Host.Outcome State Fault Refusal :=
  only (q.wf && decide (t < 64)) s (s.writeVia q (TILE_WGT_CTRL t) (setBits v 2 0 4) (wgtCommand q t (setBits v 2 0 4)))

end Sys2Proof.Machine
end

