-- ==== Sys2Proof/Machine/Tile.lean ====
section
/-! DEFINITION. A tile control core's state and the shared parts of its instructions (R225 to R249): registers, the
scratchpad, events, faults, issue of a bundle, program start and end, frog. -/

namespace Sys2Proof.Machine

/-! ### Registers (R225, R248) -/

/-- What an unlisted tile holds. -/
def tileReset : Nat → Tile := fun _ => {}

/-- The record of tile `t`. -/
def State.tile (s : State) (t : Nat) : Tile := s.tiles.get tileReset t

/-- `s` with the record of tile `t` replaced. -/
def State.setTile (s : State) (t : Nat) (x : Tile) : State := { s with tiles := s.tiles.set tileReset t x }

/-- TILE_STATUS.STATE: 0 IDLE, 1 RUN, 2 WAIT, 3 FAULTED, 4 HALTED. -/
def State.tileSt (s : State) (t : Nat) : Nat := s.fld (TILE_STATUS t) 2 0

/-- `s` with a tile's STATE set. -/
def State.setTileSt (s : State) (t v : Nat) : State := s.setFld (TILE_STATUS t) 2 0 v

/-- The tenant of the program on tile `t`. -/
def State.tileTen (s : State) (t : Nat) : Nat := s.fld (TILE_STATUS t) 6 4

/-- Tile `t`'s core as a requester (R30). -/
def State.tileReq (s : State) (t : Nat) : Req := ⟨0, t, s.tileTen t⟩

/-- The page of tile `t`. -/
abbrev tilePage (t : Nat) : Nat := 0x100 + t

/-- The domain of tile `t`. -/
abbrev tileDom (t : Nat) : Nat := 32 + t

/-- PC, 16 bits. -/
def State.tilePc (s : State) (t : Nat) : Nat := s.fld (TILE_PC t) 15 0

/-- `s` with PC set. -/
def State.setTilePc (s : State) (t v : Nat) : State := s.setReg (TILE_PC t) (word (v % 0x10000))

/-- General register `i`: g0 reads as zero (R225). -/
def Tile.gr (x : Tile) (i : Nat) : Word := if i = 0 then 0 else x.g.get (fun _ => 0) i

/-- Write general register `i`: a write to g0 is ignored. -/
def Tile.setGr (x : Tile) (i : Nat) (v : Word) : Tile := if i = 0 then x else { x with g := x.g.set (fun _ => 0) i v }

/-- A vector register of zeros. -/
def vZero : List Byte := List.replicate 64 0

/-- Vector register `i`, 64 bytes. -/
def Tile.vr (x : Tile) (i : Nat) : List Byte := x.v.get (fun _ => vZero) i

/-- Write vector register `i`. -/
def Tile.setVr (x : Tile) (i : Nat) (bs : List Byte) : Tile := { x with v := x.v.set (fun _ => vZero) i bs }

/-- Accumulator element (row, lane) of m. -/
def Tile.accAt (x : Tile) (m row lane : Nat) : Word := x.acc.get (fun _ => 0) (256 * m + 16 * row + lane)

/-- Column `c` of CIM output entry `e`. -/
def Tile.cimAt (x : Tile) (e c : Nat) : Word := x.cim.get (fun _ => 0) (128 * e + c)

/-- What a CCR holds at reset (Table 11.9): TIMER all ones. -/
def ccrReset (k : Nat) : Word := if k = 8 ∨ k = 9 then 0xFFFFFFFF else 0

/-- CCR `k` of those the tile record holds. -/
def Tile.ccrAt (x : Tile) (k : Nat) : Word := x.ccr.get ccrReset k

/-- Write such a CCR. -/
def Tile.setCcr (x : Tile) (k : Nat) (v : Word) : Tile := { x with ccr := x.ccr.set ccrReset k v }

/-- FPCFG with sticky flags ORed in: bit 0 INV, bit 1 OVF, bit 2 SAT. -/
def Tile.orFlags (x : Tile) (f : Nat) : Tile := x.setCcr 0x0D (x.ccrAt 0x0D ||| word (f * 0x100))

/-- Whether FPCFG.RM is round toward zero. -/
def Tile.rtz (x : Tile) : Bool := bit (x.ccrAt 0x0D) 0

/-- LASTCODE (R231). -/
def Tile.lastCode (x : Tile) (c : Nat) : Tile := x.setCcr 0x0E (word c)

/-- IMEM word at a byte offset. -/
def State.imemWord (s : State) (t off : Nat) : Word := s.imem.get (fun _ => 0) (16384 * t + off % 0x10000 / 4)

/-- The owner of the IMEM segment a byte offset lies in (R232). -/
def State.segOwner (s : State) (t off : Nat) : Nat :=
  let k := off % 0x10000 / 0x2000
  s.fld (TILE_IMEM_SEG t) (3 * k + 2) (3 * k)

/-- Write IMEM words from a word offset. -/
def State.imemPut (s : State) (t off : Nat) (ws : List Word) : State :=
  { s with imem := Tab.setList (fun _ => 0) s.imem (16384 * t + off % 0x10000 / 4) ws }

/-- Zero the segments of tile `t` that `p` names. -/
def State.zeroSegs (s : State) (t : Nat) (p : Nat → Bool) : State :=
  { s with imem := s.imem.clear fun k => k / 16384 == t && p (k % 16384 / 2048) }

/-- A write of TILE_IMEM_SEG (R232): a segment whose owner changes is zeroed. -/
def imemSegWrite (t : Nat) (v : Word) (s : State) : State :=
  let k := TILE_IMEM_SEG t
  let new := s.written k v
  let old := s.reg k
  (s.zeroSegs t fun i => bits new (3 * i + 2) (3 * i) != bits old (3 * i + 2) (3 * i)).setReg k new

/-- Teardown of a tenant: its segments are zeroed and return to tenant 0. -/
def State.segTeardown (s : State) (ten : Nat) : State :=
  (List.range 64).foldl (fun s t => (List.range 8).foldl (fun s i =>
    if s.fld (TILE_IMEM_SEG t) (3 * i + 2) (3 * i) = ten then
      (s.zeroSegs t (· == i)).setFld (TILE_IMEM_SEG t) (3 * i + 2) (3 * i) 0 else s) s) s

/-! ### Events (R239) -/

/-- Whether mailbox `m`'s condition is delivered to tile `t` (R211, R212). -/
def State.mbxAtTile (s : State) (t m : Nat) : Bool :=
  s.fld (MBX_CFG m) 1 0 == 0 && s.fld (MBX_CFG m) 9 4 == t && s.mbxCond m && s.mbxDeliverable m

/-- Whether every STG, MSG, STITCH and DMA of the core is complete (Table 11.6, R258, MSG_IDLE). -/
def Tile.msgIdle (x : Tile) : Bool := x.stg.isEmpty && x.dma.isEmpty && x.out.isEmpty

/-- EVT (Table 11.6). -/
def State.evt (s : State) (t : Nat) : Nat :=
  let x := s.tile t
  let sel := (x.ccrAt 6).toNat + 0x100000000 * (x.ccrAt 7).toNat
  (!x.inbox.isEmpty).toNat + x.dma.isEmpty.toNat * 2 + (s.scNoted t).toNat * 4 +
    (decide ((x.ccrAt 8).toNat + 0x100000000 * (x.ccrAt 9).toNat ≤ s.now)).toNat * 8 +
    ((setPositions 64 sel).any (s.mbxAtTile t)).toNat * 0x10 + x.preempt.toNat * 0x20 + x.msgIdle.toNat * 0x40

/-- Whether a WAIT's condition holds (R240). -/
def State.waitMet (s : State) (t mask : Nat) (mbx : Bool) : Bool :=
  if mbx then s.mbxAtTile t mask else s.evt t &&& mask != 0

/-! ### Debug counters (R441, R442) -/

/-- Whether tenant `ten`'s programs are visible to trace and counters (R441). -/
def State.dbgSees (s : State) (ten : Nat) : Bool :=
  s.capH || (s.capC && (ten == 0 || (s.adsel.tenants.get (fun _ => {}) ten).consent))

/-- Add `n` to every counter that selects event `ev` of tile `t`. -/
def State.pmc (s : State) (t ev n : Nat) : State :=
  if s.dbgSees (s.tileTen t) ∧ ev ≠ 0 ∧ n ≠ 0 then
    (List.range 8).foldl (fun s k =>
      let v := s.reg (DBG_PMC_SEL k)
      if bits v 7 0 = ev ∧ (bit v 14 ∨ bits v 13 8 = t) ∧ (!bit v 19 ∨ bits v 18 16 = s.tileTen t) then
        s.setReg64 (DBG_PMC_LO k) (DBG_PMC_HI k) (s.reg64 (DBG_PMC_LO k) (DBG_PMC_HI k) + n)
      else s) s
  else s

/-- An event of tile `t` that the trace unit takes (R439 to R441): buffered, or dropped where 64 records wait. -/
def State.traceEv (s : State) (t kind pc target : Nat) : State :=
  let w := s.reg DBG_TRACE_TILES
  let taken := (List.range 4).any fun i => bit w (8 * i + 7) && bits w (8 * i + 5) (8 * i) == t
  if !s.flag DBG_TRACE_STAT 0 ∨ !taken ∨ !s.dbgSees (s.tileTen t) then s
  else
    let l := s.dbg.bufs.get (fun _ => []) t
    let job := if s.flag (TILE_STATUS t) 3 then 0 else s.fld (TILE_STATUS t) 31 16
    if l.length < 64 then { s with dbg.bufs := s.dbg.bufs.set (fun _ => []) t (l ++ [⟨s.now, pc, target, kind, job⟩]) }
    else
      let n := s.dbg.lost.get (fun _ => 0) t
      ({ s with dbg.lost := s.dbg.lost.set (fun _ => 0) t (n + 1) } : State).bumpSat DBG_TRACE_STAT 31 16

/-! ### Faults, halts, sleep (R241, R246, R435) -/

/-- A fault of tile `t` (R246): nothing of the bundle is written, STATE FAULTED, the fault registers, IRQ_RAW bit 0,
and a frog is asked of the scheduler. -/
def State.tileFault (s : State) (t : Nat) (x : Bool) (code info : Nat) : State :=
  let s := s.traceEv t 3 (s.tilePc t) code
  let r := s.tile t
  let s := s.setTile t { r with x := none, await := none, wait := none, sleep := 0, haltReq := false, steps := 0,
                                frogDue := true, code := if code = 0x13 then info else code }
  let s := s.setReg (TILE_FAULT t) (word (code + x.toNat * 0x100 + s.tilePc t * 0x10000))
  ((s.setReg (TILE_FAULT_INFO t) (word info)).setTileSt t 3).irq (tilePage t) 0

/-- A fault of an instruction whose bundle has issued already: reported at that bundle's PC. -/
def State.lateFault (s : State) (t pc info : Nat) : State :=
  if s.tileSt t = 1 ∨ s.tileSt t = 2 ∨ s.tileSt t = 4 then
    (s.tileFault t false 0x13 info).setReg (TILE_FAULT t) (word (0x13 + pc * 0x10000))
  else s

/-- The code of a posted STG or MSG (R231): a fault with F, else LASTCODE. -/
def State.postedEnd (s : State) (t : Nat) (f : Bool) (pc code : Nat) : State :=
  if f then (if code = 0 then s else s.lateFault t pc code) else s.setTile t ((s.tile t).lastCode code)

/-- Tile `t` halts (R435). -/
def State.tileHalt (s : State) (t : Nat) : State :=
  let s := (s.traceEv t 6 (s.tilePc t) 0).setTile t { s.tile t with haltReq := false, steps := 0 }
  let s := (s.setTileSt t 4).setFlag (if t < 32 then DBG_HALTED_LO else DBG_HALTED_HI) (t % 32) true
  (s.unhold 12 (0x300 + t) (tileDom t)).irq 0x018 0

/-- Tile `t` is halted no longer. -/
def State.tileUnhalt (s : State) (t : Nat) : State :=
  (s.setFlag (if t < 32 then DBG_HALTED_LO else DBG_HALTED_HI) (t % 32) false).unhold 12 (0x300 + t) (tileDom t)

/-- A bundle boundary (R435, R436): a halt that is due, or the end of a step. -/
def State.boundary (s : State) (t : Nat) : State :=
  let x := s.tile t
  if s.tileSt t ≠ 1 then s
  else if x.haltReq ∨ x.steps = 1 then s.tileHalt t
  else if 1 < x.steps then s.setTile t { x with steps := x.steps - 1 } else s

/-- The state a SLEEP.MODE names after a WAIT (1) or an END (2): OFF counts only after an END. -/
def sleepState (mode kind : Nat) : Pow := match mode with
  | 1 => .clockstop
  | 2 => .retain
  | 3 => if kind = 2 then .off else .retain
  | _ => .on

/-- A domain starts its entry towards what its TCC's WAIT has asked for, no deeper than its effective target (R43, R44); the request
stays while others hold the domain higher. -/
def State.restEntry (s : State) (d : Nat) : State :=
  let r := (s.dom d).rest
  let s := s.startEntry d (s.target d)
  s.setDom d { s.dom d with rest := r }

/-- R241: the request for the SLEEP state, once every operation issued before has completed and while the event is
false; no deeper than the effective target. -/
def State.tileSleep (s : State) (t : Nat) : State :=
  let x := s.tile t
  let d := tileDom t
  let idle := x.stg.isEmpty && x.dma.isEmpty && x.out.isEmpty && x.cimQ.isEmpty
  let met := x.wait.any fun w => s.waitMet t w.2.1 w.2.2
  if x.sleep = 0 ∨ !idle then s
  else
    let goal := sleepState (s.fld (TILE_SLEEP t) 1 0) x.sleep
    let s := s.setTile t { x with sleep := 0 }
    if met ∨ !s.domOn d ∨ goal = .on ∨ (s.dom d).step ≠ 0 then s
    else
      (s.setDom d { s.dom d with rest := goal }).restEntry d

/-! ### The scratchpad (R230) -/

/-- The physical address of scratchpad offset `off`. -/
def spad (t off : Nat) : Nat := 0x40000000 + t * 0x100000 + off

/-- A signed immediate added to a register, as a 32-bit offset. -/
def addImm (a : Word) (imm : Int) : Nat := (a + ofInt imm).toNat

/-- The checks of a local access in the order of Table 11.7: none, or the fault's code and info; and the state with a
refusal logged. A load of tagged bytes faults POISON. -/
def State.localCheck (s : State) (t off n : Nat) (wr : Bool) : Option (Nat × Nat) × State :=
  let q := s.tileReq t
  if 0x7FFFF < off then (some (0x12, 0), s)
  else if off % n ≠ 0 then (some (0x03, 0), s)
  else match s.checkRange q wr (spad t off) n with
    | .error c => (some (0x13, c), s.logRefusal q (spad t off) wr 4)
    | .ok _ => (if !wr && s.poisonIn (spad t off) n then some (0x08, 0) else none, s)

/-- A local store after its check. -/
def State.localStore (s : State) (t off : Nat) (bs : List Byte) : State := (s.memWrite (s.tileReq t) (spad t off) bs).2

/-! ### Issue of a bundle (R226, R227) -/

/-- The fields of an instruction word (Table 11.1). -/
def opc (w : Word) : Nat := bits w 31 26
def fd (w : Word) : Nat := bits w 25 21
def fa (w : Word) : Nat := bits w 20 16
def fb (w : Word) : Nat := bits w 15 11
def fn (w : Word) : Nat := bits w 10 0
def imm16 (w : Word) : Int := signed 16 (bits w 15 0)

/-- Which slot of the bundle at PC issues word `w` now: the X slot first (true), then the S slot; none where the core
does not run, its page is not enabled (R25), or another word stands there. A bundle is fetched whole (R232): its S word is the
one fetched with its X word. -/
def State.slotOf (s : State) (t : Nat) (w : Word) : Option Bool :=
  let x := s.tile t
  let pc := s.tilePc t / 8 * 8
  if s.tileSt t ≠ 1 ∨ !s.domOn (tileDom t) ∨ x.await.isSome ∨ x.yielded ∨ !s.flag (PAGE_CTRL (tilePage t)) 0 then none
  else match x.x with
    | none => if s.imemWord t (pc + 4) = w then some true else none
    | some r => if r.sw = w then some false else none

/-- What an S-slot instruction does: the state with its own effects, the register it writes and its value, the next PC,
a fault, a stall of its issue, a stall for a response, and what follows (1 WAIT, 2 END, 3 YIELD). -/
structure SRes where
  s : State
  dst : Option Nat := none
  val : Word := 0
  pc : Option Nat := none
  fault : Option (Nat × Nat) := none
  stall : Bool := false
  await : Option Await := none
  wait : Option (Nat × Nat × Bool) := none
  then' : Nat := 0
  posted : Option (Bool × Nat) := none

/-- A fault of the S slot. -/
def SRes.bad (s : State) (code : Nat) (info : Nat := 0) : SRes := { s := s, fault := some (code, info) }

/-- An undefined encoding. -/
def SRes.illegal (s : State) : SRes := .bad s 0x10

/-- The X slot's results written: vector, general and accumulator registers, flags, queue and scratchpad. -/
def State.xWrite (s : State) (t : Nat) (r : XRes) : State :=
  let x := s.tile t
  let x := match r.v with
    | some (i, b) => x.setVr i b
    | none => x
  let x := match r.g with
    | some (i, v) => x.setGr i v
    | none => x
  let x := match r.acc with
    | some (m, ws) => { x with acc := Tab.setList (fun _ => 0) x.acc (256 * m) ws }
    | none => x
  let x := match r.acc, r.tag with
    | some (m, _), some b => { x with fp32 := if b then (x.fp32.filter (· != m)) ++ [m] else x.fp32.filter (· != m) }
    | _, _ => x
  let x := if r.flags = 0 then x else x.orFlags r.flags
  let x := match r.clr with
    | some e => { x with cim := x.cim.clear fun k => k / 128 == e }
    | none => x
  let x := match r.mac with
    | some m => { x with cimQ := x.cimQ ++ [m] }
    | none => x
  let s := s.setTile t x
  match r.store with
  | some (off, bs) => s.localStore t off bs
  | none => s

/-- The bundle at PC completes: the X slot's results, then the S slot's register, then PC. -/
def State.retireCore (s : State) (t : Nat) (dst : Option Nat) (v : Word) (pc : Option Nat) : State :=
  let x := s.tile t
  let r := x.x.getD {}
  let s := (s.setTile t { x with x := none, await := none }).xWrite t r
  let s := match dst with
    | some d => s.setTile t ((s.tile t).setGr d v)
    | none => s
  let s := match pc with
    | some p => s.traceEv t 0 (s.tilePc t) (p % 0x10000)
    | none => s
  ((s.pmc t 2 1).pmc t r.ev 1).setTilePc t (pc.getD (s.tilePc t / 8 * 8 + 8))

/-- The bundle completes and a boundary follows. -/
def State.retire (s : State) (t : Nat) (dst : Option Nat) (v : Word) (pc : Option Nat) : State :=
  (s.retireCore t dst v pc).boundary t

/-- The end of a program on tile `t` (R243 to R245): IDLE, and its tenant is the previous program's. -/
def State.tileStop (s : State) (t : Nat) : State :=
  let x := s.tile t
  let s := s.setTile t { x with prev := some (s.tileTen t), wait := none, await := none, x := none, yielded := false, parked := false, preempt := false, steps := 0 }
  s.setReg (TILE_STATUS t) 0

/-- A tile executes END (R245): a resident program sets IRQ_RAW bit 1; a job's tile stays held until its job ends. -/
def State.tileEnd (s : State) (t : Nat) : State :=
  let res := s.flag (TILE_STATUS t) 3
  let s := (s.traceEv t 5 ((s.tilePc t + 0x10000 - 8) % 0x10000) 0).tileStop t
  let s := s.setTile t { s.tile t with sleep := if s.fld (TILE_SLEEP t) 1 0 = 0 then 0 else 2 }
  (if res then s.irq (tilePage t) 1 else s).tileSleep t

/-- The bundle issues a WAIT whose condition is false (R240, R241). -/
def State.tileWait (s : State) (t : Nat) (w : Nat × Nat × Bool) : State :=
  let s := (s.traceEv t 1 (s.tilePc t) 0).retireCore t none 0 none
  let x := s.tile t
  ((s.setTile t { x with wait := some w, steps := min x.steps 1, sleep := if s.fld (TILE_SLEEP t) 1 0 = 0 then 0 else 1 }).setTileSt t 2).tileSleep t

/-- The S slot issues: stall, a fault of either slot (S first), a double write, or the bundle's completion. -/
def State.commit (s : State) (t : Nat) (r : SRes) : State :=
  let xr := (s.tile t).x.getD {}
  if r.stall then s
  else match r.fault, xr.fault with
    | some (c, i), _ => r.s.tileFault t false c i
    | none, some (c, i) => s.tileFault t true c i
    | none, none =>
      if r.dst.any (fun d => d != 0 && xr.g.any fun g => g.1 == d) then s.tileFault t false 0x10 0
      else match r.await with
        | some a => r.s.setTile t { r.s.tile t with await := some a }
        | none =>
          match r.wait with
          | some w => if s.waitMet t w.2.1 w.2.2 then r.s.retire t (some w.1) (word (s.evt t)) none else r.s.tileWait t w
          | none =>
            let s' := r.s.retire t r.dst r.val r.pc
            let s' := match r.posted with
              | some (f, c) => s'.postedEnd t f (s.tilePc t) c
              | none => s'
            if r.then' = 2 then (r.s.retireCore t none 0 none).tileEnd t
            else if r.then' = 3 ∧ (s'.tile t).preempt then s'.setTile t { s'.tile t with yielded := true }
            else s'

/-- Keep the X slot's results, and the S word of its bundle, for the S slot. -/
def State.latch (s : State) (t : Nat) (r : XRes) : State :=
  s.setTile t { s.tile t with x := some { r with sw := s.imemWord t (s.tilePc t / 8 * 8) } }

/-- Whether the program owns the segment it fetches from. -/
def State.fetchOk (s : State) (t : Nat) : Bool := s.segOwner t (s.tilePc t) == s.tileTen t

/-- An S-slot instruction (Table 11.2): in the X slot it is illegal. -/
def State.issueS (s : State) (t : Nat) (w : Word) (mine : Bool) (f : State → SRes) : State :=
  match if mine then s.slotOf t w else none with
  | none => s
  | some true => if s.fetchOk t then s.latch t { fault := some (0x10, 0) } else s.tileFault t false 0x11 0
  | some false => s.commit t (f s)

/-- An X-slot instruction: its results are kept; none: it stalls. In the S slot it is illegal. -/
def State.issueX (s : State) (t : Nat) (w : Word) (mine : Bool) (f : State → Option XRes × State) : State :=
  match if mine then s.slotOf t w else none with
  | none => s
  | some true =>
    if s.fetchOk t then (match f s with
      | (some r, s') => s'.latch t r
      | (none, _) => s)
    else s.tileFault t false 0x11 0
  | some false => s.tileFault t false 0x10 0

/-- The S slot's response has come: the register and the code end its stall. -/
def State.awaitEnd (s : State) (t : Nat) (a : Await) (code : Nat) (v : Word) : State :=
  match a.kind with
  | 1 => if a.f ∧ code ≠ 0 then s.tileFault t false 0x13 code else s.retire t (some a.d) (word code) none
  | 2 =>
    if code = 0 then s.retire t (some a.d) v none
    else if code = 5 then s.tileFault t false 0x05 0 else s.tileFault t false 0x13 code
  | _ =>
    if a.f ∧ code = 8 then s.tileFault t false 0x08 0
    else if a.f ∧ code ≠ 0 then s.tileFault t false 0x13 code
    else
      let s := if a.f then s else s.setTile t ((s.tile t).lastCode code)
      s.retire t (some a.d) (if code = 0 then v else 0) none

/-! ### Program start (R243, R244, R272) and frog (R247) -/

/-- The clearing of R244. -/
def State.tileClear (s : State) (t : Nat) : State :=
  let x := s.tile t
  let zero : Tab Word := [(8, 0), (9, 0)]
  (s.setTile t { x with g := [], v := [], acc := [], fp32 := [], cim := [], ccr := zero }).setReg (TILE_SLEEP t) 0 |>.setReg (TILE_DMA_STAT t) 0

/-- A program begins on tile `t`: the clearing where the tenant changes, then STATUS and PC. -/
def State.tileBegin (s : State) (t ten job pc : Nat) (resident : Bool) : State :=
  let s := if (s.tile t).prev = some ten then s
    else ((s.tileClear t).scFreeAll fun i => i / 2048 == t)
  let x := s.tile t
  let s := s.setTile t { x with x := none, await := none, wait := none, sleep := 0, yielded := false, parked := false, preempt := false, chk := none
                                inbox := [], frogDue := false, code := 0 }
  let s := s.setReg (TILE_STATUS t) (word (1 + resident.toNat * 8 + ten % 8 * 0x10 + job * 0x10000))
  let s := s.setTilePc t pc
  let s := (s.setDom (tileDom t) { s.dom (tileDom t) with rest := .on }).traceEv t 4 pc 0
  if x.haltReq then s.tileHalt t else s

/-- TILE_CTRL (Table 11.8): START begins the resident program on an IDLE tile; FROG asks for a frog. `held` says that a
job holds the tile. -/
def tileCtrl (q : Req) (t : Nat) (v : Word) (held : Bool) (s : State) : State :=
  let s := if bit v 1 then s.setTile t { s.tile t with frogDue := true } else s
  if bit v 0 then
    (if s.tileSt t = 0 ∧ !held then s.tileBegin t 0 0 ((s.reg (TILE_ENTRY t)).toNat % 0x10000 / 8 * 8) true
     else s.fail q (TILE_CTRL t) 0x10)
  else s

/-- The core's part of a frog (R247): stopped and cleared, IDLE, IRQ_RAW bit 2; its stalled accesses are cancelled. -/
def State.coreFrog (s : State) (t : Nat) : State :=
  let s := if s.tileSt t = 4 then s.tileUnhalt t else s
  let s := if s.tileSt t = 0 then s else s.traceEv t 5 (s.tilePc t) (s.tile t).code
  let s := s.tileStop t
  let x := s.tile t
  let s := (s.setTile t { x with sleep := 0, dma := [], dmaOn := false, dmaPos := 0, dmaCode := none, stage := [], stageBad := [], stg := [], cimQ := [],
                                 out := [], inbox := [], frogDue := false, code := 0, chk := none, haltReq := false, steps := 0 }).tileClear t
  let s : State := { s with stalls := s.stalls.filter fun e => !(e.q.cls ≤ 1 && e.q.index == t)
                            holds := s.holds.filter fun h => !(h.src == 12 && (h.who == 0x200 + t || h.who == 0x240 + t)) }
  (s.readsDrop t).irq (tilePage t) 2

end Sys2Proof.Machine
end

