-- ==== Sys2Proof/Machine/Mesh.lean ====
section
/-! DEFINITION. The mesh and the AON side path (R250 to R265): messages, their delivery and responses, inboxes, power,
fences. -/

namespace Sys2Proof.Machine

/-! ### Routers and targets (R251, R344, Table 12.3) -/

/-- The router of DRAM channel `c`. -/
def channelRouter (c : Nat) : Nat := if c < 8 then 8 * c else 8 * (c - 8) + 7

/-- The router of the attachment that serves an address; a SOC gateway for what neither tiles, pool nor DRAM serve. -/
def routerOf (a : Nat) : Nat :=
  if 0x40000000 ≤ a ∧ a < 0x44000000 then (a - 0x40000000) / 0x100000
  else if isCimWin a then (a - 0x60000000) / 0x100000
  else if 0x20000000 ≤ a ∧ a < 0x21000000 then nbits a 13 8
  else if 0x100000000 ≤ a then channelRouter (nbits a 11 8 ^^^ nbits a 15 12)
  else 3

/-- The tile a PUT or GET address belongs to. -/
def tileAt (a : Nat) : Option Nat :=
  if 0x40000000 ≤ a ∧ a < 0x44000000 then some ((a - 0x40000000) / 0x100000)
  else if isCimWin a then some ((a - 0x60000000) / 0x100000) else none

/-- Whether a PUT or GET may name the range (Table 12.3); anything else is unmapped. -/
def meshTarget (a n : Nat) : Bool := (granulesOf a n).isSome || (isCimWin a && isCimWin (a + n - 1))

/-- The tile whose port a message belongs to: the sender of the request. -/
def Msg.home (m : Msg) : Nat := if m.resp then m.dst else m.src

/-- The router of the attachment a request names, which sends the response. -/
def Msg.target (m : Msg) : Nat := if m.resp then m.src else m.dst

/-- The requester a message carries. -/
def Msg.req (m : Msg) : Req := ⟨m.cls, m.home, m.ten⟩

/-- The tile whose port a request addresses. -/
def Msg.tileOf (m : Msg) : Option Nat :=
  match m.kind with
  | 1 => tileAt m.addr
  | 2 => tileAt m.addr
  | 3 => some m.target
  | 4 => some m.target
  | _ => none

/-- SRC_PORT of the attachment that answers a request (Table 12.2). -/
def Msg.answers (m : Msg) : Nat :=
  if (m.kind = 1 ∨ m.kind = 2) ∧ 0x20000000 ≤ m.addr ∧ m.addr < 0x21000000 then 2
  else if (m.kind = 1 ∨ m.kind = 2) ∧ 0x100000000 ≤ m.addr then 3
  else if m.tileOf.isSome then 0 else 4

/-- The response to a request (R254, R257): SRC and DST change places. -/
def Msg.answered (m : Msg) (code : Nat) (aux : Word := 0) (data : List Byte := []) (bad : List Nat := []) : Msg :=
  { m with resp := true, src := m.dst, dst := m.src, port := m.answers, len := data.length, code := code, aux := aux, data := data, bad := bad }

/-- Flits of a message: the header and its payload (R254). -/
def Msg.flits (m : Msg) : Nat := 1 + ceilDiv m.data.length 32

/-- The router outputs a message passes (R252), X before Y: router, and 1 north, 2 east, 3 south or 4 west; then 0, local, at its end.
`n` bounds the hops. North is where tile numbers fall. -/
def routeFrom : Nat → Nat → Nat → List (Nat × Nat)
  | 0, a, _ => [(a, 0)]
  | n + 1, a, b =>
    if a % 8 < b % 8 then (a, 2) :: routeFrom n (a + 1) b
    else if b % 8 < a % 8 then (a, 4) :: routeFrom n (a - 1) b
    else if a < b then (a, 3) :: routeFrom n (a + 8) b
    else if b < a then (a, 1) :: routeFrom n (a - 8) b
    else [(a, 0)]

/-- The route of a message. -/
def Msg.route (m : Msg) : List (Nat × Nat) := routeFrom 14 m.src m.dst

/-- A message has crossed the mesh: the selected output counts its flits (Table 12.6). -/
def State.passed (s : State) (m : Msg) : State :=
  if m.kind ≠ 5 ∧ !m.atPort ∧ s.flag MESH_PERF_SEL 12 = m.resp ∧ m.route.contains (s.fld MESH_PERF_SEL 5 0, s.fld MESH_PERF_SEL 10 8) then
    s.setReg MESH_PERF_FLITS (s.reg MESH_PERF_FLITS + word m.flits)
  else s

/-- The page whose WAKE_ON_ACCESS governs a message to tile `t` (R259). -/
def Msg.pageOf (m : Msg) (t : Nat) : Nat := if m.kind = 4 then 0x200 + 2 * t + m.addr % 2048 / 1024 else tilePage t

/-- Whether port `t` is fenced. -/
def State.fenced (s : State) (t : Nat) : Bool := s.flag (if t < 32 then MESH_FENCED_LO else MESH_FENCED_HI) (t % 32)

/-- Whether a message's target lets its tenant in (R255, R263, R267). -/
def State.msgPermitted (s : State) (m : Msg) : Bool :=
  match m.kind with
  | 1 => meshTarget m.addr m.len && (if isCimWin m.addr then s.wgtOk m.req m.addr m.len else s.rangeOk m.req true m.addr m.len == some true)
  | 2 => meshTarget m.addr m.len && (isCimWin m.addr || s.rangeOk m.req false m.addr m.len == some true)
  | 3 => s.tileSt m.dst != 0 && s.tileTen m.dst == m.ten && s.flag (TILE_MESH_INBOX m.dst) 8
  | 4 => s.scPermitted m.ten (m.addr % 131072) ((ScOp.ofCode (bits m.oper 31 28)).getD .read) false false
  | _ => true

/-- The domain a request waits for (R259): MESH, or its target tile where that may be woken. -/
def State.msgWaits (s : State) (m : Msg) : Option Nat :=
  if m.kind = 5 then none
  else if !s.domOn 3 then some 3
  else match m.tileOf with
    | none => none
    | some t =>
      if s.domClocked (tileDom t) ∨ !s.msgPermitted m ∨ !s.flag (PAGE_CTRL (m.pageOf t)) 2 ∨ s.absent (tileDom t) then none
      else some (tileDom t)

/-- Whether the tile a permitted request addresses cannot be woken for it: DOMAIN_OFF. -/
def State.msgOff (s : State) (m : Msg) : Bool := m.tileOf.any fun t => !s.domClocked (tileDom t)

/-! ### Injection (R254, R257) -/

/-- The lowest free tag of a port's 32. -/
def Tile.freeTag (x : Tile) : Option Nat := (List.range 32).find? fun i => !x.out.any fun o => o.tag == i

/-- What else of a program's accesses the port holds back (R33, R259): an LDG or STG that is stalled. -/
def State.portStalled (s : State) (t : Nat) : Bool := s.stalls.any fun e => e.q.cls == 0 && e.q.index == t

/-- Whether an access of tile `t` to an address must wait behind a request of its port (R258, R259): one to the same router that has not
been applied, or one that waits for a wake. -/
def State.portBehind (s : State) (t a : Nat) : Bool :=
  s.net.any fun m => !m.resp && m.src == t && m.kind != 5 && (m.dst == routerOf a || (s.msgWaits m).isSome)

/-- An error of a message that is treated as an access to a tile's page (R32, R259), captured there. -/
def State.msgErr (s : State) (m : Msg) (t code : Nat) : State :=
  s.err (m.pageOf t) (Config.memOffset m.addr).toNat code (m.kind != 2) m.req

/-- Requests that wait for domain `d` end with a code at their ports (R259): WAKE_TIMEOUT of a tile is an access' to its page (R32). -/
def State.meshEnd (s : State) (d code : Nat) : State :=
  let mine := fun (m : Msg) => !m.resp && s.msgWaits m == some d
  let hit := if 32 ≤ d then s.net.filter mine else []
  let t : State := { s with net := s.net.map fun m => if mine m then { m.answered code with atPort := true } else m }
  hit.foldl (fun s m => ((s.msgErr m (d - 32) code).setFlag (PAGE_STATUS (m.pageOf (d - 32))) 3 true).irq (m.pageOf (d - 32)) 31) t

/-- Send a request from tile `t`: it takes tag `o.tag`, and where it must wait it holds the wake. -/
def State.inject (s : State) (t : Nat) (m : Msg) (o : Outst) : State :=
  let x := s.tile t
  let s := s.setTile t { x with out := x.out ++ [o] }
  let s := if m.kind = 5 then s else (s.bump (TILE_MESH_SENT t)).pmc t 9 m.flits
  let s : State := { s with net := s.net ++ [m] }
  match s.msgWaits m with
  | some d => if s.lapsed d then s.meshEnd d 4 else s.waitFor d
  | none => s

/-- Count a code at the requesting port (TILE_MESH_ERR); REFUSED is counted nowhere. -/
def State.countCode (s : State) (t code : Nat) : State :=
  if code = 0 ∨ code = 1 then s
  else if code = 8 then s.bumpSat (TILE_MESH_ERR t) 7 0
  else if code = 0x18 then s.bumpSat (TILE_MESH_ERR t) 15 8
  else s.bumpSat (TILE_MESH_ERR t) 23 16

/-! ### Delivery (R258) -/

/-- The request at place `k`, of TYPE `kind`, where it may be applied next: no earlier request of its port goes to the
same router or waits for a wake. -/
def State.requestAt (s : State) (k kind : Nat) : Option Msg :=
  match s.net[k]? with
  | none => none
  | some m =>
    let early := (s.net.take k).filter fun e => !e.resp && e.src == m.src && (e.kind == 5) == (m.kind == 5)
    if m.resp ∨ m.kind ≠ kind ∨ early.any (fun e => e.dst == m.dst || (s.msgWaits e).isSome) then none else some m

/-- Answer the request at place `k`, which has crossed the mesh: the response goes last; one to a fenced port is discarded. -/
def State.respond (s : State) (k code : Nat) (aux : Word := 0) (data : List Byte := []) (bad : List Nat := []) : State :=
  match s.net[k]? with
  | none => s
  | some m =>
    let s := s.passed m
    let rest := s.net.eraseIdx k
    if m.fenced then { s with net := rest } else { s with net := rest ++ [m.answered code aux data bad] }

/-- End the request at place `k` at its own port (R259). -/
def State.portEnd (s : State) (k code : Nat) : State :=
  match s.net[k]? with
  | none => s
  | some m => { s with net := if m.fenced then s.net.eraseIdx k else s.net.set k { m.answered code with atPort := true } }

/-- The outcome of the checks every mesh request meets first: an answer, a wait, or none to go on. -/
def State.preCheck (s : State) (k : Nat) (m : Msg) (go : State) : State :=
  match s.msgWaits m with
  | some d => s.waitFor d
  | none =>
    if m.tileOf.any s.fenced then s.respond k 8
    else if !s.msgPermitted m then
      (s.logRefusal m.req m.addr (m.kind != 2) (if m.kind ≤ 2 ∧ !meshTarget m.addr m.len then 0 else 1)).respond k 1
    else if s.msgOff m then (m.tileOf.elim s fun t => s.msgErr m t 2).portEnd k 2
    else go

/-- A write in 32-byte granules, each with its own poison, checked as a whole before any is written (R22, R28, R264). -/
def State.storeGrans (s : State) (q : Req) (a : Nat) (bs : List Byte) (bad : List Nat) : Nat × State :=
  if isCimWin a then s.wgtWrite q a bs bad.contains
  else if s.rangeOk q true a bs.length ≠ some true ∨ barred q a bs.length then (1, s.logRefusal q a true 4)
  else match s.memPower q a bs.length with
    | 0 =>
      (match s.checkRange q true a bs.length with
        | .error c => (c, s)
        | .ok s => (0, (List.range (ceilDiv bs.length 32)).foldl
            (fun s i => s.deposit q (a + 32 * i) (slice bs (32 * i) 32) (bad.contains i)) s))
    | c => (c, s.powerFail a c true q)

/-- A read in 32-byte granules: code, data and the granules that are poisoned. -/
def State.loadGrans (s : State) (q : Req) (a n : Nat) : Nat × List Byte × List Nat × State :=
  (List.range (n / 32)).foldl (fun (c, d, b, s) i =>
    match s.memRead q (a + 32 * i) 32 with
    | (8, e, s) => ((if c = 0 then 8 else c), d ++ e, b ++ [i], s)
    | (x, e, s) => ((if c = 0 ∨ c = 8 then (if x = 0 then c else x) else c), d ++ e, b, s)) (0, [], [], s)

/-- A PUT reaches its target (R255). -/
def putArrive (k : Nat) (s : State) : State :=
  match s.requestAt k 1 with
  | none => s
  | some m => s.preCheck k m (
    let bad := if m.fenced then List.range (ceilDiv m.len 32) else m.bad
    match s.storeGrans m.req m.addr m.data bad with
    | (0x100, _) => s.waitFor (memDomain m.addr).1
    | (c, s) => s.respond k c)

/-- A GET reaches its target (R255, R264): poisoned granules are marked and the code is POISON. -/
def getArrive (k : Nat) (s : State) : State :=
  match s.requestAt k 2 with
  | none => s
  | some m => s.preCheck k m (
    match s.loadGrans m.req m.addr m.len with
    | (0x100, _, _, _) => s.waitFor (memDomain m.addr).1
    | (c, d, b, s) => if c = 0 ∨ c = 8 then s.respond k c 0 d b else s.respond k c)

/-- Slot size of tile `t`'s inbox. -/
def State.slotBytes (s : State) (t : Nat) : Nat := 64 * 2 ^ min 6 (s.fld (TILE_MESH_INBOX t) 2 0)

/-- The scratchpad offset of slot `i`. -/
def State.slotAt (s : State) (t i : Nat) : Nat := s.fld (TILE_MESH_INBOX t) 18 12 * 0x1000 + i * s.slotBytes t

/-- A SEND reaches its tile (R263, R265). -/
def sendArrive (k : Nat) (s : State) : State :=
  match s.requestAt k 3 with
  | none => s
  | some m => s.preCheck k m (
    let x := s.tile m.dst
    if m.fenced ∨ !m.bad.isEmpty then s.respond k 8
    else if s.slotBytes m.dst < m.len then s.respond k 0x19
    else match (List.range 16).find? fun i => !x.inbox.any fun e => e.1 == i with
      | none => s.respond k 0x18
      | some i =>
        match s.storeGrans m.req (spad m.dst (s.slotAt m.dst i)) m.data [] with
        | (0, s) =>
          let x := s.tile m.dst
          (s.setTile m.dst { x with inbox := x.inbox ++ [(i, m.len, m.src)] }).respond k 0
        | (c, s) => s.respond k c)

/-- A STITCH message reaches the counter store (R268, R269): its response carries the VALUE word. -/
def stitchArrive (k : Nat) (s : State) : State :=
  match s.requestAt k 4 with
  | none => s
  | some m => s.preCheck k m (
    if m.fenced then s.respond k 8
    else
      let i := m.addr % 131072
      let (c, s) := s.scOp m.ten i ((ScOp.ofCode (bits m.oper 31 28)).getD .read) m.oper false
      s.respond k c (if c = 0 then s.scValue i else 0))

/-- The tiles whose DOORBELL waits at the AON side path. -/
def State.sideWaits (s : State) : List Nat := (s.net.filter fun m => !m.resp && m.kind == 5).map (·.src)

/-- A DOORBELL crosses the AON side path (R260): an MBX_RING write by its requester. The side path serves the tiles that wait in
rotating order (R35), a tile's own in their order. -/
def doorbellArrive (k : Nat) (s : State) : State :=
  match s.requestAt k 5 with
  | none => s
  | some m =>
    let (w, s') := s.arbitrate 0x102 64 s.sideWaits false
    if !s.refoscOk ∨ w ≠ some m.src then s
    else
      let s := s'
      let i := bits m.oper 5 0
      let s := s.regAccessNow none m.req (MBX_RING i) 4 true m.aux.toNat fun s => mbxRing i m.aux (s.answer 0)
      s.respond k s.resp.code

/-! ### Responses (R257) -/

/-- The response at place `k` where it may arrive next: no earlier one of the same attachment to the same port. One that crosses the
mesh needs it. -/
def State.responseAt (s : State) (k : Nat) : Option Msg :=
  match s.net[k]? with
  | none => none
  | some m =>
    let early := !m.atPort && (s.net.take k).any fun e => e.resp && e.src == m.src && e.port == m.port && e.dst == m.dst && !e.atPort
    if !m.resp ∨ early ∨ (m.kind ≠ 5 ∧ !m.atPort ∧ !s.domOn 3) then none else some m

/-- MESH goes OFF: every message in it is lost, and its port ends the request with DOMAIN_OFF; the AON side path is no part of it
(R260). -/
def State.meshLost (s : State) : State :=
  { s with net := s.net.map fun m =>
      if m.kind = 5 ∨ m.atPort then m
      else if m.resp then { m with code := 2, data := [], bad := [], atPort := true } else { m.answered 2 with atPort := true } }

/-! ### Fences (R265) -/

/-- The requests of port `t` that have not left it: one that waits for a wake and all behind it (R33, R259). -/
def State.heldAtPort (s : State) (t : Nat) (net : List Msg) : List Msg :=
  (net.filter fun m => !m.resp && m.src == t && m.kind != 5 && !m.fenced).dropWhile fun m => (s.msgWaits m).isNone

/-- Fence port `t`: its requests not yet injected end, those in flight are poisoned and counted, responses to it and its tags are discarded, and
requests addressed to it are answered POISON. -/
def State.fence (s : State) (t : Nat) : State :=
  let stay := s.heldAtPort t s.net
  let s : State := { s with net := s.net.filter fun m => !stay.contains m }
  let n := (s.net.filter fun m => !m.resp && m.src == t && !m.fenced).length
  let s := s.setFlag (if t < 32 then MESH_FENCED_LO else MESH_FENCED_HI) (t % 32) true
  let s := s.setFld MESH_POISON 15 0 (min 0xFFFF (s.fld MESH_POISON 15 0 + n))
  let net := s.net.filter fun m => !(m.resp && m.home == t)
  let net := net.map fun m =>
    if m.resp then (if m.tileOf == some t then { m with code := 8, bad := List.range (ceilDiv m.data.length 32) } else m)
    else if m.src = t then { m with fenced := true }
    else if m.tileOf = some t then m.answered 8 else m
  ({ s with net := net } : State).setTile t { s.tile t with out := [], stage := [], stageBad := [] }

/-- The fence lifts when nothing of the port is left in the mesh. -/
def fenceLift (t : Nat) (s : State) : State :=
  if s.fenced t ∧ !s.net.any (fun m => m.home == t) then
    s.setFlag (if t < 32 then MESH_FENCED_LO else MESH_FENCED_HI) (t % 32) false
  else s

/-- TILE_MESH_STAT (Table 12.7). -/
def State.meshStat (s : State) (t : Nat) : Word :=
  let x := s.tile t
  word (x.out.length + (s.fenced t).toNat * 0x100 +
    (s.net.any fun m => !m.resp && m.src == t && (s.msgWaits m).isSome).toNat * 0x200 + x.inbox.length * 0x10000)

/-! ### Meanings -/

def execPutArrive (k : Nat) (s : State) : Host.Outcome State Fault Refusal :=
  only true s (s.heldIdle 0x060 (putArrive k s))
def execGetArrive (k : Nat) (s : State) : Host.Outcome State Fault Refusal :=
  only true s (s.heldIdle 0x060 (getArrive k s))
def execSendArrive (k : Nat) (s : State) : Host.Outcome State Fault Refusal :=
  only true s (s.heldIdle 0x060 (sendArrive k s))
def execStitchMessageArrive (k : Nat) (s : State) : Host.Outcome State Fault Refusal :=
  only true s (stitchArrive k s)
def execDoorbellMessage (k : Nat) (s : State) : Host.Outcome State Fault Refusal :=
  only true s (doorbellArrive k s)
def execMeshFenceLift (t : Nat) (s : State) : Host.Outcome State Fault Refusal :=
  only (decide (t < 64)) s (s.heldIdle 0x060 (fenceLift t s))

end Sys2Proof.Machine
end

