-- ==== Sys2Proof/Machine/Tcc.lean ====
section
/-! DEFINITION. The S-slot instructions of Table 11.2 but LDG and STG (R229 to R232, R240, R245, R248, R262, R263, R269,
R270): each as what it does on the state, with its register and next PC. -/

namespace Sys2Proof.Machine

/-- A result for g(d). -/
def SRes.reg (s : State) (d : Nat) (v : Word) : SRes := { s := s, dst := some d, val := v }

/-! ### Arithmetic (R229) -/

/-- The ALU operations by FN; MIN and MAX are signed. -/
def aluOp (f : Nat) (a b : Word) : Option Word :=
  let sh := b.toNat % 32
  match f with
  | 0 => some (a + b)
  | 1 => some (a - b)
  | 2 => some (a &&& b)
  | 3 => some (a ||| b)
  | 4 => some (a ^^^ b)
  | 5 => some (a <<< sh)
  | 6 => some (a >>> sh)
  | 7 => some (a.sshiftRight sh)
  | 8 => some (a * b)
  | 9 => some (word (a.toNat * b.toNat / 0x100000000))
  | 10 => some (if a.slt b then 1 else 0)
  | 11 => some (if a.ult b then 1 else 0)
  | 12 => some (if a.slt b then a else b)
  | 13 => some (if a.slt b then b else a)
  | _ => none

def sAlu (t : Nat) (w : Word) (s : State) : SRes :=
  let x := s.tile t
  match aluOp (fn w) (x.gr (fa w)) (x.gr (fb w)) with
  | some v => .reg s (fd w) v
  | none => .illegal s

def sAddi (t : Nat) (w : Word) (s : State) : SRes := .reg s (fd w) ((s.tile t).gr (fa w) + ofInt (imm16 w))

def sLui (w : Word) (s : State) : SRes := if fa w = 0 then .reg s (fd w) (word (bits w 15 0 * 0x10000)) else .illegal s

def sOri (t : Nat) (w : Word) (s : State) : SRes := .reg s (fd w) ((s.tile t).gr (fa w) ||| word (bits w 15 0))

/-! ### Scratchpad (R230) -/

def sLdl (t : Nat) (w : Word) (s : State) : SRes :=
  let off := addImm ((s.tile t).gr (fa w)) (imm16 w)
  match s.localCheck t off 4 false with
  | (some (c, i), s) => .bad s c i
  | (none, s) => .reg s (fd w) (s.wordAt (spad t off))

def sStl (t : Nat) (w : Word) (s : State) : SRes :=
  let off := addImm ((s.tile t).gr (fa w)) (imm16 w)
  match s.localCheck t off 4 true with
  | (some (c, i), s) => .bad s c i
  | (none, s) => { s := s.localStore t off (leBytes 4 ((s.tile t).gr (fd w)).toNat) }

/-! ### Branches (R226, R229, R232) -/

/-- Whether a compare-and-branch opcode takes its branch. -/
def taken (o : Nat) (a b : Word) : Bool := match o with
  | 0x10 => a == b
  | 0x11 => a != b
  | 0x12 => a.slt b
  | 0x13 => !a.slt b
  | 0x14 => a.ult b
  | _ => !a.ult b

/-- A bundle offset from the bundle at PC, within the 16-bit PC. -/
def branchTo (pc : Nat) (off : Int) : Nat := ((pc / 8 * 8 + 8 * off) % 0x10000).toNat

def sBranch (t : Nat) (w : Word) (s : State) : SRes :=
  let x := s.tile t
  { s := s, pc := if taken (opc w) (x.gr (fd w)) (x.gr (fa w)) then some (branchTo (s.tilePc t) (imm16 w)) else none }

def sJal (t : Nat) (w : Word) (s : State) : SRes :=
  { SRes.reg s (fd w) (word ((s.tilePc t / 8 * 8 + 8) % 0x10000)) with
    pc := some (branchTo (s.tilePc t) (signed 21 (bits w 20 0))) }

def sJr (t : Nat) (w : Word) (s : State) : SRes :=
  let a := (s.tile t).gr (fa w)
  if fd w ≠ 0 ∨ fb w ≠ 0 ∨ fn w ≠ 0 then .illegal s
  else if 0x10000 ≤ a.toNat then .bad s 0x11
  else { s := s, pc := some (a.toNat / 8 * 8) }

/-! ### Waiting and control (R240, R245, R246) -/

def sWait (w : Word) (s : State) : SRes :=
  if fa w ≠ 0 ∨ bits w 15 0 = 0 then .illegal s
  else { s := s, dst := some (fd w), wait := some (fd w, bits w 15 0, false) }

def sWaitM (w : Word) (s : State) : SRes :=
  if fd w ≠ 0 ∨ fa w ≠ 0 ∨ 64 ≤ bits w 15 0 then .illegal s else { s := s, wait := some (0, bits w 15 0, true) }

/-- The fields SYS leaves unused. -/
def sysClean (w : Word) : Bool := fd w == 0 && fa w == 0 && fb w == 0

def sEnd (w : Word) (s : State) : SRes := if sysClean w then { s := s, then' := 2 } else .illegal s

def sYield (w : Word) (s : State) : SRes := if sysClean w then { s := s, then' := 3 } else .illegal s

def sFence (t : Nat) (w : Word) (s : State) : SRes :=
  if !sysClean w then .illegal s else { s := s, stall := !(s.tile t).msgIdle }

/-- CHKPT: a value below the last one is ignored (R376). -/
def sChkpt (t : Nat) (w : Word) (s : State) : SRes :=
  if fd w ≠ 0 ∨ fa w ≠ 0 then .illegal s
  else
    let x := s.tile t
    let v := bits w 15 0
    { s := if x.chk.any (fun c => v < c.1) then s else s.setTile t { x with chk := some (v, s.now) } }

def sFault (w : Word) (s : State) : SRes :=
  if fd w ≠ 0 ∨ fa w ≠ 0 ∨ bits w 15 8 ≠ 0 then .illegal s else .bad s 0x14 (bits w 7 0)

/-- A waited event is true (R240, R241): on a clocked domain the WAIT completes and g(d) takes EVT; else the domain
wakes. -/
def waitRelease (t : Nat) (s : State) : State :=
  match (s.tile t).wait with
  | none => s
  | some (d, m, mbx) =>
    if s.tileSt t ≠ 2 ∨ !s.waitMet t m mbx then s
    else if s.domOn (tileDom t) then
      let x := s.tile t
      let x := { x with wait := none, sleep := 0 }
      let s := s.traceEv t 2 ((s.tilePc t + 0x10000 - 8) % 0x10000) (s.tilePc t)
      ((s.setTile t (x.setGr d (word (s.evt t)))).setTileSt t 1).boundary t
    else s.setDom (tileDom t) { s.dom (tileDom t) with tcc := true }

/-! ### Core control registers (R248) -/

/-- DMA_STAT: the last code and ERR, with the queue's length. -/
def State.dmaStat (s : State) (t : Nat) : Word := setBits (s.reg (TILE_DMA_STAT t)) 3 0 (s.tile t).dma.length

/-- The value of CCR `k`; none for an unknown number. -/
def State.csr (s : State) (t k : Nat) : Option Word :=
  let x := s.tile t
  match k with
  | 0x00 => some (word (t + quadOf t * 0x100))
  | 0x01 => some (word (s.tileTen t + s.fld (TILE_STATUS t) 3 3 * 0x100))
  | 0x02 => some (word (if s.flag (TILE_STATUS t) 3 then 0 else s.fld (TILE_STATUS t) 31 16))
  | 0x03 => some (word (s.evt t))
  | 0x04 => some (s.reg (TILE_SLEEP t))
  | 0x05 => some (s.reg (TILE_CLKDIV t))
  | 0x0A => some (word s.now)
  | 0x0C => some (Config.cycles s.free)
  | 0x10 => some (s.dmaStat t)
  | 0x06 => some (x.ccrAt 0x06)
  | 0x07 => some (x.ccrAt 0x07)
  | 0x08 => some (x.ccrAt 0x08)
  | 0x09 => some (x.ccrAt 0x09)
  | 0x0B => some (x.ccrAt 0x0B)
  | 0x0D => some (x.ccrAt 0x0D)
  | 0x0E => some (x.ccrAt 0x0E)
  | 0x0F => some (x.ccrAt 0x0F)
  | _ => none

/-- What a read changes: TS_LO captures TS_HI, DMA_STAT clears ERR, CYCLE is a fresh open value. -/
def State.csrRead (s : State) (t k : Nat) : State :=
  match k with
  | 0x0A => s.setTile t ((s.tile t).setCcr 0x0B (word (s.now / 0x100000000)))
  | 0x0C => s.fresh.2
  | 0x10 => s.setFlag (TILE_DMA_STAT t) 16 false
  | _ => s

/-- A write of CCR `k`; none for one that is not RW. The FPCFG flags only clear. -/
def State.csrWrite (s : State) (t k : Nat) (v : Word) : Option State :=
  let x := s.tile t
  match k with
  | 0x04 => some (s.setReg (TILE_SLEEP t) (word (v.toNat % 4)))
  | 0x05 => some (s.setReg (TILE_CLKDIV t) (word (v.toNat % 4)))
  | 0x06 => some (s.setTile t (x.setCcr 0x06 v))
  | 0x07 => some (s.setTile t (x.setCcr 0x07 v))
  | 0x08 => some (s.setTile t (x.setCcr 0x08 v))
  | 0x09 => some (s.setTile t (x.setCcr 0x09 v))
  | 0x0D => some (s.setTile t (x.setCcr 0x0D (word (v.toNat % 2) ||| (x.ccrAt 0x0D &&& v &&& 0x700))))
  | _ => none

def sCsrr (t : Nat) (w : Word) (s : State) : SRes :=
  if fa w ≠ 0 ∨ bits w 15 8 ≠ 0 then .illegal s
  else match s.csr t (bits w 7 0) with
    | some v => .reg (s.csrRead t (bits w 7 0)) (fd w) v
    | none => .illegal s

def sCsrw (t : Nat) (w : Word) (s : State) : SRes :=
  if fd w ≠ 0 ∨ bits w 15 8 ≠ 0 then .illegal s
  else match s.csrWrite t (bits w 7 0) ((s.tile t).gr (fa w)) with
    | some s => { s := s }
    | none => .illegal s

/-! ### Messages (R256, R262) -/

/-- A code known at the sender: to g(d), to LASTCODE or as a fault. -/
def State.msgCode (s : State) (t d : Nat) (f : Bool) (c : Nat) : SRes :=
  let s := s.countCode t c
  if f ∧ c ≠ 0 then .bad s 0x13 c
  else if d = 0 then { s := s.setTile t ((s.tile t).lastCode c) } else .reg s d (word c)

/-- Whether a header image obeys R256, R262 (its payload within the scratchpad, a SEND's DST a router). -/
def imageOk (kind loc len addr dst : Nat) : Bool :=
  match kind with
  | 1 => addr % 32 == 0 && loc % 32 == 0 && len % 32 == 0 && decide (32 ≤ len ∧ len ≤ 4096 ∧ loc + len ≤ 0x80000)
  | 2 => addr % 32 == 0 && loc % 32 == 0 && len % 32 == 0 && decide (32 ≤ len ∧ len ≤ 4096 ∧ loc + len ≤ 0x80000)
  | 3 => loc % 4 == 0 && len % 4 == 0 && decide (4 ≤ len ∧ len ≤ 4096 ∧ loc + len ≤ 0x80000 ∧ dst < 64)
  | 5 => len == 0
  | _ => false

/-- A message sent by the S slot, posted (`d` 0) or waited for; one for the mesh waits at the port behind a stalled access (R259). -/
def State.sendMsg (s : State) (t d : Nat) (f : Bool) (m : Msg) (loc : Nat) : SRes :=
  match if m.kind ≠ 5 ∧ s.portStalled t then none else (s.tile t).freeTag with
  | none => { s := s, stall := true }
  | some tag =>
    let o : Outst := ⟨tag, m.kind == 4, d != 0, f, m.kind == 2, loc, s.tilePc t / 8 * 8, false⟩
    let s := s.inject t { m with tag := tag } o
    if d = 0 then { s := s } else { s := s, dst := some d, await := some ⟨if m.kind = 4 then 2 else 1, d, f⟩ }

def sMsg (t : Nat) (w : Word) (s : State) : SRes :=
  let f := fn w == 1
  let off := ((s.tile t).gr (fa w)).toNat
  if fb w ≠ 0 ∨ 1 < fn w then .illegal s
  else match s.localCheck t off 32 false with
    | (some (0x08, _), s) => .bad s 0x08
    | (some (c, i), s) => .bad s c i
    | (none, s) =>
      let h := s.bytesAt (spad t off) 32
      let kind := nbits (leNat h) 3 0
      let len := nbits (leNat (slice h 6 2)) 12 0
      let addr := leNat (slice h 8 5)
      let loc := nbits (leNat (slice h 0x14 4)) 18 0
      let oper := word (leNat (slice h 0x10 4))
      let img := leNat (slice h 3 1)
      if s.fenced t then { s := s, stall := true }
      else if !imageOk kind loc len addr img then s.msgCode t (fd w) f 0x1A
      else
        let a := spad t loc
        let q := s.tileReq t
        let pays := kind == 1 || kind == 3
        match if pays then (s.checkRange q false a len).map fun _ => () else .ok () with
        | .error c => (s.logRefusal q a false 4).msgCode t (fd w) f c
        | .ok _ =>
          let data := if pays then s.bytesAt a len else []
          let bad := if pays then (List.range (ceilDiv len 32)).filter fun i => s.poisonIn (a + 32 * i) (min 32 (len - 32 * i)) else []
          let dst := if kind = 3 then img else if kind = 5 then 64 else routerOf addr
          s.sendMsg t (fd w) f
            { kind := kind, port := 0, src := t, dst := dst, cls := 0, ten := s.tileTen t, tag := 0, len := len, addr := addr
              oper := oper, aux := word (leNat (slice h 0x1C 4)), data := data, bad := bad } loc

/-- RECV (R263): the entry word of the oldest slot, freed with FN[0]. -/
def sRecv (t : Nat) (w : Word) (s : State) : SRes :=
  if fa w ≠ 0 ∨ fb w ≠ 0 ∨ 1 < fn w then .illegal s
  else
    let x := s.tile t
    match x.inbox with
    | [] => .reg s (fd w) 0
    | (slot, len, src) :: rest =>
      .reg (if fn w = 1 then s.setTile t { x with inbox := rest } else s) (fd w)
        (word (len + slot * 0x2000 + src * 0x20000 + 0x80000000))

/-! ### Stitch counters (R269, R270) -/

/-- The fields a STITCH operation leaves unused: b where it has no operand, a for NEXTN. -/
def stitchClean (w : Word) : Bool :=
  let f := fn w
  (f == 1 || f == 2 || f == 3 || f == 5 || fb w == 0) && (f != 7 || fa w == 0) && (!(f == 0 || f == 7) || fd w != 0)

/-- STITCH but NEXTN: local operations complete at once, others travel, and local-only ones on a remote index end with
BAD_MSG. -/
def State.stitch (s : State) (t : Nat) (w : Word) (op : ScOp) : SRes :=
  let x := s.tile t
  let i := bits (x.gr (fa w)) 16 0
  let v := x.gr (fb w)
  if !stitchClean w then .illegal s
  else if i / 2048 = t then
    match s.scOp (s.tileTen t) i op v true with
    | (0, s) => .reg s (fd w) (s.scValue i)
    | (5, s) => .bad s 0x05
    | (c, s) => .bad (s.logRefusal (s.tileReq t) 0 (op != .read) 1) 0x13 c
  else if op = .arm ∨ op = .init ∨ op = .free then .bad (s.countCode t 0x1A) 0x13 0x1A
  else if s.fenced t then { s := s, stall := true }
  else s.sendMsg t (fd w) true
    { kind := 4, port := 0, src := t, dst := i / 2048, cls := 0, ten := s.tileTen t, tag := 0, len := 0, addr := i
      oper := setBits (word (v.toNat % 0x4000000)) 31 28 (fn w), aux := 0 } 0

def sNextn (t : Nat) (w : Word) (s : State) : SRes :=
  if !stitchClean w then .illegal s
  else
    let (v, s) := s.scNextN t
    .reg s (fd w) v

/-! ### Enqueueing a DMA descriptor (R233) -/

def sDma (t : Nat) (w : Word) (s : State) : SRes :=
  let x := s.tile t
  let off := (x.gr (fa w)).toNat
  if fd w ≠ 0 ∨ fb w ≠ 0 ∨ fn w ≠ 0 then .illegal s
  else match s.localCheck t off 32 false with
    | (some (c, i), s) => .bad s c i
    | (none, s) =>
      if 8 ≤ x.dma.length then { s := s, stall := true }
      else { s := s.setTile t { x with dma := x.dma ++ [(s.tileTen t, s.bytesAt (spad t off) 32)] } }

/-! ### Words of no other row (R229) -/

/-- The OPCs of Table 11.2, SYS and STITCH with the FN values their rows name. -/
def listed (w : Word) : Bool :=
  let o := opc w
  o == 0x01 || o == 0x02 || o == 0x03 || o == 0x04 || o == 0x08 || o == 0x09 || o == 0x0C || o == 0x0D ||
    (0x10 ≤ o && o ≤ 0x1B) || (o == 0x1C && fn w ≤ 2) || o == 0x1D || o == 0x1E || o == 0x20 ||
    (o == 0x21 && (fn w ≤ 3 || (5 ≤ fn w && fn w ≤ 7))) || o == 0x22 || o == 0x23 ||
    (0x30 ≤ o && o ≤ 0x34) || (0x38 ≤ o && o ≤ 0x3A) || (0x3C ≤ o && o ≤ 0x3E)

/-- NOP in either slot; a word of an encoding that Table 11.2 does not list is illegal there. -/
def nopIssue (t : Nat) (x : Bool) (w : Word) (s : State) : State :=
  match if w = 0 ∨ !listed w then s.slotOf t w else none with
  | none => s
  | some slot =>
    if slot ≠ x then s
    else if x then
      (if s.fetchOk t then s.latch t (if w = 0 then {} else { fault := some (0x10, 0) }) else s.tileFault t false 0x11 0)
    else s.commit t (if w = 0 then { s := s } else .illegal s)

/-! ### Meanings -/

def execAlu (t : Nat) (w : Word) (s : State) : Host.Outcome State Fault Refusal :=
  only (decide (t < 64)) s (s.issueS t w (opc w == 0x01) (sAlu t w))
def execAddi (t : Nat) (w : Word) (s : State) : Host.Outcome State Fault Refusal :=
  only (decide (t < 64)) s (s.issueS t w (opc w == 0x02) (sAddi t w))
def execLui (t : Nat) (w : Word) (s : State) : Host.Outcome State Fault Refusal :=
  only (decide (t < 64)) s (s.issueS t w (opc w == 0x03) (sLui w))
def execOri (t : Nat) (w : Word) (s : State) : Host.Outcome State Fault Refusal :=
  only (decide (t < 64)) s (s.issueS t w (opc w == 0x04) (sOri t w))
def execLdl (t : Nat) (w : Word) (s : State) : Host.Outcome State Fault Refusal :=
  only (decide (t < 64)) s (s.issueS t w (opc w == 0x08) (sLdl t w))
def execStl (t : Nat) (w : Word) (s : State) : Host.Outcome State Fault Refusal :=
  only (decide (t < 64)) s (s.issueS t w (opc w == 0x09) (sStl t w))
def execBranch (t : Nat) (w : Word) (s : State) : Host.Outcome State Fault Refusal :=
  only (decide (t < 64)) s (s.issueS t w (0x10 ≤ opc w && opc w ≤ 0x15) (sBranch t w))
def execJal (t : Nat) (w : Word) (s : State) : Host.Outcome State Fault Refusal :=
  only (decide (t < 64)) s (s.issueS t w (opc w == 0x16) (sJal t w))
def execJr (t : Nat) (w : Word) (s : State) : Host.Outcome State Fault Refusal :=
  only (decide (t < 64)) s (s.issueS t w (opc w == 0x17) (sJr t w))
def execWait (t : Nat) (w : Word) (s : State) : Host.Outcome State Fault Refusal :=
  only (decide (t < 64)) s (s.issueS t w (opc w == 0x18) (sWait w))
def execWaitM (t : Nat) (w : Word) (s : State) : Host.Outcome State Fault Refusal :=
  only (decide (t < 64)) s (s.issueS t w (opc w == 0x19) (sWaitM w))
def execWaitRelease (t : Nat) (s : State) : Host.Outcome State Fault Refusal :=
  only (decide (t < 64)) s (s.heldIdle (0x100 + t) (waitRelease t s))
def execCsrr (t : Nat) (w : Word) (s : State) : Host.Outcome State Fault Refusal :=
  only (decide (t < 64)) s (s.issueS t w (opc w == 0x1A) (sCsrr t w))
def execCsrw (t : Nat) (w : Word) (s : State) : Host.Outcome State Fault Refusal :=
  only (decide (t < 64)) s (s.issueS t w (opc w == 0x1B) (sCsrw t w))
def execEndBundle (t : Nat) (w : Word) (s : State) : Host.Outcome State Fault Refusal :=
  only (decide (t < 64)) s (s.issueS t w (opc w == 0x1C && fn w == 0) (sEnd w))
def execYieldBundle (t : Nat) (w : Word) (s : State) : Host.Outcome State Fault Refusal :=
  only (decide (t < 64)) s (s.issueS t w (opc w == 0x1C && fn w == 1) (sYield w))
def execFence (t : Nat) (w : Word) (s : State) : Host.Outcome State Fault Refusal :=
  only (decide (t < 64)) s (s.issueS t w (opc w == 0x1C && fn w == 2) (sFence t w))
def execChkpt (t : Nat) (w : Word) (s : State) : Host.Outcome State Fault Refusal :=
  only (decide (t < 64)) s (s.issueS t w (opc w == 0x1D) (sChkpt t w))
def execFault (t : Nat) (w : Word) (s : State) : Host.Outcome State Fault Refusal :=
  only (decide (t < 64)) s (s.issueS t w (opc w == 0x1E) (sFault w))
def execMsg (t : Nat) (w : Word) (s : State) : Host.Outcome State Fault Refusal :=
  only (decide (t < 64)) s (s.issueS t w (opc w == 0x20) (sMsg t w))
def execStitchRead (t : Nat) (w : Word) (s : State) : Host.Outcome State Fault Refusal :=
  only (decide (t < 64)) s (s.issueS t w (opc w == 0x21 && fn w == 0) (fun s => s.stitch t w .read))
def execStitchSet (t : Nat) (w : Word) (s : State) : Host.Outcome State Fault Refusal :=
  only (decide (t < 64)) s (s.issueS t w (opc w == 0x21 && fn w == 1) (fun s => s.stitch t w .set))
def execStitchAdd (t : Nat) (w : Word) (s : State) : Host.Outcome State Fault Refusal :=
  only (decide (t < 64)) s (s.issueS t w (opc w == 0x21 && fn w == 2) (fun s => s.stitch t w .add))
def execStitchArm (t : Nat) (w : Word) (s : State) : Host.Outcome State Fault Refusal :=
  only (decide (t < 64)) s (s.issueS t w (opc w == 0x21 && fn w == 3) (fun s => s.stitch t w .arm))
def execStitchInit (t : Nat) (w : Word) (s : State) : Host.Outcome State Fault Refusal :=
  only (decide (t < 64)) s (s.issueS t w (opc w == 0x21 && fn w == 5) (fun s => s.stitch t w .init))
def execStitchFree (t : Nat) (w : Word) (s : State) : Host.Outcome State Fault Refusal :=
  only (decide (t < 64)) s (s.issueS t w (opc w == 0x21 && fn w == 6) (fun s => s.stitch t w .free))
def execNextn (t : Nat) (w : Word) (s : State) : Host.Outcome State Fault Refusal :=
  only (decide (t < 64)) s (s.issueS t w (opc w == 0x21 && fn w == 7) (sNextn t w))
def execRecv (t : Nat) (w : Word) (s : State) : Host.Outcome State Fault Refusal :=
  only (decide (t < 64)) s (s.issueS t w (opc w == 0x22) (sRecv t w))
def execDma (t : Nat) (w : Word) (s : State) : Host.Outcome State Fault Refusal :=
  only (decide (t < 64)) s (s.issueS t w (opc w == 0x23) (sDma t w))
def execNop (t : Nat) (x : Bool) (w : Word) (s : State) : Host.Outcome State Fault Refusal :=
  only (decide (t < 64)) s (nopIssue t x w s)

end Sys2Proof.Machine
end

