-- ==== Sys2Proof/Machine/Vector.lean ====
section
/-! DEFINITION. The X-slot instructions of the vector unit and the matrix assist (R230, R234 to R237). Flags are INV, OVF
and SAT as bits 0 to 2. -/

namespace Sys2Proof.Machine

/-! ### Lanes (R236) -/

/-- Bytes of a lane of TYPE 0 INT8, 1 BF16, 2 FP16, 3 FP32, 4 INT32. -/
def laneBytes (ty : Nat) : Nat := match ty with
  | 0 => 1
  | 1 => 2
  | 2 => 2
  | _ => 4

/-- Lanes of a TYPE. -/
def laneCount (ty : Nat) : Nat := 64 / laneBytes ty

/-- Whether a TYPE is a float type. -/
def isFloat (ty : Nat) : Bool := 1 ≤ ty && ty ≤ 3

/-- The format of a float TYPE. -/
def fmtOf (ty : Nat) : Fmt := match ty with
  | 1 => bf16
  | 2 => fp16
  | _ => fp32

/-- The lanes of a vector register, as numbers. -/
def lanesOf (ty : Nat) (v : List Byte) : List Nat :=
  (List.range (laneCount ty)).map fun i => leNat (slice v (i * laneBytes ty) (laneBytes ty))

/-- A vector register from its lanes. -/
def packLanes (ty : Nat) (l : List Nat) : List Byte := l.flatMap (leBytes (laneBytes ty))

/-- A general register broadcast into every lane. -/
def broadcast (ty : Nat) (g : Word) : List Byte :=
  (List.range (laneCount ty)).flatMap fun _ => leBytes (laneBytes ty) g.toNat

/-- The signed value of an integer lane. -/
def laneInt (ty n : Nat) : Int := signed (8 * laneBytes ty) n

/-! ### Lane operations (R234, Table 11.5): each answers the lane's bits and its flags -/

/-- An integer result: INT8 saturates (SAT), INT32 wraps (OVF). -/
def intLane (ty : Nat) (i : Int) : Nat × Nat :=
  if ty = 0 then ((clampS 8 i % 256).toNat, if clampS 8 i = i then 0 else 4)
  else ((i % 2 ^ 32).toNat, if -(2 ^ 31) ≤ i ∧ i < 2 ^ 31 then 0 else 2)

/-- A float result, rounded once: NaN raises INV, overflow OVF. -/
def floatLane (ty : Nat) (rtz : Bool) (x : FVal) : Nat × Nat :=
  let (b, o) := (fmtOf ty).encode rtz x
  (b, if x.isNan then 1 else if o then 2 else 0)

/-- ADD, SUB, MUL of two lanes. -/
def arithLane (op ty : Nat) (rtz : Bool) (a b : Nat) : Nat × Nat :=
  if isFloat ty then
    let x := (fmtOf ty).decode a
    let y := (fmtOf ty).decode b
    floatLane ty rtz (match op with
      | 0 => x.add y
      | 1 => x.add y.neg
      | _ => x.mul y)
  else
    let x := laneInt ty a
    let y := laneInt ty b
    intLane ty (match op with
      | 0 => x + y
      | 1 => x - y
      | _ => x * y)

/-- FMA of a lane: d + a * b, rounded once. -/
def fmaLane (ty : Nat) (rtz : Bool) (d a b : Nat) : Nat × Nat :=
  let f := fmtOf ty
  floatLane ty rtz ((f.decode d).add ((f.decode a).mul (f.decode b)))

/-- Whether a float value is a zero. -/
def FVal.isZero : FVal → Bool
  | .fin _ m _ => m == 0
  | _ => false

/-- Whether a float value has its sign set. -/
def FVal.isNeg : FVal → Bool
  | .nan => false
  | .inf neg => neg
  | .fin neg _ _ => neg

/-- MAX or MIN of two lanes; open where a NaN or zeros of two signs meet. -/
def maxMinLane (max : Bool) (ty a b : Nat) : Nat × Nat :=
  if isFloat ty then
    let f := fmtOf ty
    let x := f.decode a
    let y := f.decode b
    let pick := Config.maxMin max ty a b
    if x.isNan ∨ y.isNan then ((f.encode false (if pick then (if x.isNan then y else x) else .nan)).1, 1)
    else if x.isZero ∧ y.isZero ∧ x.isNeg ≠ y.isNeg then ((f.encode false (.fin pick 0 0)).1, 0)
    else ((f.encode false (if x.lt y = max then y else x)).1, 0)
  else if decide (laneInt ty a < laneInt ty b) = max then (b, 0) else (a, 0)

/-- ABS or NEG of a lane. -/
def absNegLane (neg : Bool) (ty a : Nat) : Nat × Nat :=
  if isFloat ty then
    let f := fmtOf ty
    floatLane ty false (match f.decode a with
      | .fin s m e => .fin (neg && !s) m e
      | .inf s => .inf (neg && !s)
      | .nan => .nan)
  else intLane ty (if neg then -(laneInt ty a) else (laneInt ty a).natAbs)

/-- Conversion of a lane from TYPE `src` to TYPE `ty`. -/
def cvtLane (src ty : Nat) (rtz : Bool) (a : Nat) : Nat × Nat :=
  if isFloat src then
    let x := (fmtOf src).decode a
    if isFloat ty then floatLane ty rtz x
    else
      let w := 8 * laneBytes ty
      let (i, sat) := x.toInt w rtz
      ((i % 2 ^ w).toNat, if x.isNan then 1 else if sat then 4 else 0)
  else
    let i := laneInt src a
    if isFloat ty then floatLane ty rtz (FVal.ofInt i)
    else if ty = 4 then ((i % 2 ^ 32).toNat, 0)
    else if clampS 8 i = i then ((i % 256).toNat, 0) else ((Config.narrow i).toNat, 0)

/-- EXP, RSQRT, SIGMOID, GELU of a lane (R235): to within 1 ULP, or 8 for FP32, of the value rounded to nearest. -/
def lookupLane (op ty a : Nat) : Nat × Nat :=
  let f := fmtOf ty
  let near (v : FVal) : Nat × Nat :=
    let b := f.within (if ty = 3 then 8 else 1) (Config.lookup op ty (f.encode false (f.decode a)).1) v
    (b, if b = f.infBits then 2 else 0)
  match f.decode a with
  | .nan => (f.nanBits, 1)
  | .inf neg =>
    match op with
    | 0x10 => (if neg then 0 else f.infBits, 0)
    | 0x11 => if neg then (f.nanBits, 1) else (0, 0)
    | 0x12 => (if neg then 0 else (f.encode false (FVal.ofInt 1)).1, 0)
    | _ => if !neg then (f.infBits, 0) else if Config.geluInvalid ty then (f.nanBits, 1) else ((f.encode false (.fin true 0 0)).1, 0)
  | .fin neg m e =>
    match op with
    | 0x10 => near (expVal neg m e)
    | 0x11 => if m = 0 then (f.infBits, 0) else if neg then (f.nanBits, 1) else near (rsqrtVal m e)
    | 0x12 => near (sigmoidVal neg m e)
    | _ => near (geluVal neg m e)

/-- A reduction over a pairwise tree in lane order (R236). -/
def pairwise (f : Nat → Nat → Nat × Nat) : Nat → List Nat → Nat × Nat
  | 0, l => (l.headD 0, 0)
  | n + 1, l =>
    let rec pairs : List Nat → List Nat × Nat
      | a :: b :: r =>
        let (x, fl) := f a b
        let (xs, fs) := pairs r
        (x :: xs, fl ||| fs)
      | r => (r, 0)
    let (l', fl) := pairs l
    let (x, fs) := pairwise f n l'
    (x, fl ||| fs)

/-! ### VOP (R236) -/

/-- Whether Table 11.5 allows a TYPE for an OP. -/
def vopTypes (op ty : Nat) : Bool :=
  if op = 0x20 ∨ op = 0x21 ∨ op = 0x22 then true
  else if op = 0x02 ∨ op = 0x18 ∨ op = 0x19 then 1 ≤ ty && ty ≤ 4
  else if op = 0x03 ∨ (0x10 ≤ op ∧ op ≤ 0x13) then 1 ≤ ty && ty ≤ 3
  else if op = 0x09 then ty == 4
  else if op ≤ 0x08 then ty ≤ 4
  else false

/-- Whether a VOP's unused fields are zero: FN[7] but for RQ; b and SCALAR where no b operand is read. -/
def vopClean (w : Word) : Bool :=
  let op := bits w 5 0
  if op = 0x09 then true
  else if bit w 7 then false
  else if op = 0x08 then !bit w 6 && fb w ≤ 4
  else if (0x10 ≤ op && op ≤ 0x13) || op == 0x18 || op == 0x19 then !bit w 6 && fb w == 0
  else true

/-- Collect lane results. -/
def lanesUp (ty : Nat) (l : List (Nat × Nat)) : List Byte × Nat :=
  (packLanes ty (l.map (·.1)), l.foldl (fun a r => a ||| r.2) 0)

/-- The lanes of b: v(b), or g(b) broadcast. -/
def bOperand (x : Tile) (w : Word) (ty : Nat) : List Byte :=
  if bit w 6 then broadcast ty (x.gr (fb w)) else x.vr (fb w)

/-- The result of a VOP and its flags. -/
def vopResult (x : Tile) (w : Word) : List Byte × Nat :=
  let op := bits w 5 0
  let ty := bits w 10 8
  let rtz := x.rtz
  let va := x.vr (fa w)
  let vd := x.vr (fd w)
  let la := lanesOf ty va
  let lb := lanesOf ty (bOperand x w ty)
  if 0x20 ≤ op then
    let b := bOperand x w 4
    ((List.zip va b).map fun p => match op with
      | 0x20 => p.1 &&& p.2
      | 0x21 => p.1 ||| p.2
      | _ => p.1 ^^^ p.2, 0)
  else if op ≤ 0x02 then lanesUp ty ((List.zip la lb).map fun p => arithLane op ty rtz p.1 p.2)
  else if op = 0x03 then
    lanesUp ty ((List.zip (lanesOf ty vd) (List.zip la lb)).map fun p => fmaLane ty rtz p.1 p.2.1 p.2.2)
  else if op ≤ 0x05 then lanesUp ty ((List.zip la lb).map fun p => maxMinLane (op == 0x04) ty p.1 p.2)
  else if op ≤ 0x07 then lanesUp ty (la.map fun a => absNegLane (op == 0x07) ty a)
  else if op = 0x08 then
    let src := fb w
    let n := min (laneCount src) (laneCount ty)
    let r := ((lanesOf src va).take n).map fun a => cvtLane src ty rtz a
    let (bs, fl) := lanesUp ty r
    (bs ++ List.replicate (64 - bs.length) 0, fl)
  else if op = 0x09 then
    let g := x.gr (fb w)
    let r := (lanesOf 4 va).map fun a => requant (laneInt 4 a) (bits g 15 0) (bits g 20 16)
    let sat := (lanesOf 4 va).any fun a =>
      let m := bits g 15 0
      let sh := bits g 20 16
      let y : Int := (laneInt 4 a * m + (if sh = 0 then 0 else 2 ^ (sh - 1))) >>> sh
      clampS 8 y != y
    let q := bits w 7 6
    (vd.take (16 * q) ++ r.map (fun i => byte (i % 256).toNat) ++ vd.drop (16 * q + 16), if sat then 4 else 0)
  else if op ≤ 0x13 then lanesUp ty (la.map fun a => lookupLane op ty a)
  else
    let (v, fl) := pairwise (if op = 0x18 then arithLane 0 ty rtz else maxMinLane true ty) 5 la
    (packLanes ty (v :: List.replicate (laneCount ty - 1) 0), fl)

def xVop (t : Nat) (w : Word) (s : State) : Option XRes × State :=
  let x := s.tile t
  if !vopTypes (bits w 5 0) (bits w 10 8) ∨ !vopClean w then (some { fault := some (0x10, 0) }, s)
  else
    let (bs, fl) := vopResult x w
    (some { v := some (fd w, bs), flags := fl, ev := 8 }, s)

/-! ### Loads, stores, lanes (R229, R230) -/

def xVld (t : Nat) (w : Word) (s : State) : Option XRes × State :=
  let off := addImm ((s.tile t).gr (fa w)) (imm16 w * 64)
  match s.localCheck t off 64 false with
  | (some e, s) => (some { fault := some e }, s)
  | (none, s) => (some { v := some (fd w, s.bytesAt (spad t off) 64) }, s)

def xVst (t : Nat) (w : Word) (s : State) : Option XRes × State :=
  let x := s.tile t
  let off := addImm (x.gr (fa w)) (imm16 w * 64)
  match s.localCheck t off 64 true with
  | (some e, s) => (some { fault := some e }, s)
  | (none, s) => (some { store := some (off, x.vr (fd w)) }, s)

def xVbc (t : Nat) (w : Word) (s : State) : Option XRes × State :=
  if fb w ≠ 0 ∨ bits w 7 0 ≠ 0 ∨ 4 < bits w 10 8 then (some { fault := some (0x10, 0) }, s)
  else (some { v := some (fd w, broadcast (bits w 10 8) ((s.tile t).gr (fa w))) }, s)

def xVext (t : Nat) (w : Word) (s : State) : Option XRes × State :=
  let ty := bits w 10 8
  let i := bits w 5 0
  if fb w ≠ 0 ∨ bits w 7 6 ≠ 0 ∨ 4 < ty ∨ laneCount ty ≤ i then (some { fault := some (0x10, 0) }, s)
  else
    let n := (lanesOf ty ((s.tile t).vr (fa w))).getD i 0
    (some { g := some (fd w, if isFloat ty then word n else ofInt (laneInt ty n)) }, s)

/-! ### Matrix assist (R237) -/

/-- An INT8 MMA's new element and its flag. -/
def mmaInt (a b : List Byte) (acc : Word) (i j : Nat) : Nat × Nat :=
  intLane 4 ((List.range 4).foldl (fun z k =>
    z + signed 8 (at' 0 a (4 * i + k)).toNat * signed 8 (at' 0 b (16 * k + j)).toNat) (signed 32 acc.toNat))

/-- A BF16 MMA's new element and its flags: exact products, each added in FP32 with RNE. -/
def mmaBf16 (a b : List Nat) (acc : Word) (i j : Nat) : Nat × Nat :=
  (List.range 2).foldl (fun (z, fl) k =>
    let p := (bf16.decode (at' 0 a (2 * i + k))).mul (bf16.decode (at' 0 b (16 * k + j)))
    let (v, f) := floatLane 3 false ((fp32.decode z).add p)
    (v, fl ||| f)) (acc.toNat, 0)

def xMma (t : Nat) (w : Word) (s : State) : Option XRes × State :=
  let x := s.tile t
  let m := fd w
  let bf := fn w == 1
  if 4 ≤ m ∨ 1 < fn w ∨ x.fp32.contains m ≠ bf then (some { fault := some (0x10, 0) }, s)
  else
    let a := x.vr (fa w)
    let b := x.vr (fb w)
    let la := lanesOf 1 a
    let lb := lanesOf 1 b
    let r := (List.range 256).map fun n =>
      if bf then mmaBf16 la lb (x.accAt m (n / 16) (n % 16)) (n / 16) (n % 16)
      else mmaInt a b (x.accAt m (n / 16) (n % 16)) (n / 16) (n % 16)
    (some { acc := some (m, r.map fun e => word e.1), flags := r.foldl (fun z e => z ||| e.2) 0, ev := 7 }, s)

def xMmr (t : Nat) (w : Word) (s : State) : Option XRes × State :=
  let x := s.tile t
  if 4 ≤ fa w ∨ fb w ≠ 0 ∨ 16 ≤ fn w then (some { fault := some (0x10, 0) }, s)
  else (some { v := some (fd w, (List.range 16).flatMap fun j => leBytes 4 (x.accAt (fa w) (fn w) j).toNat) }, s)

def xMmz (w : Word) (s : State) : Option XRes × State :=
  if 4 ≤ fd w ∨ fa w ≠ 0 ∨ fb w ≠ 0 ∨ 1 < fn w then (some { fault := some (0x10, 0) }, s)
  else (some { acc := some (fd w, List.replicate 256 0), tag := some (fn w == 1) }, s)

/-! ### Meanings -/

def execVop (t : Nat) (w : Word) (s : State) : Host.Outcome State Fault Refusal :=
  only (decide (t < 64)) s (s.issueX t w (opc w == 0x30) (xVop t w))
def execVld (t : Nat) (w : Word) (s : State) : Host.Outcome State Fault Refusal :=
  only (decide (t < 64)) s (s.issueX t w (opc w == 0x31) (xVld t w))
def execVst (t : Nat) (w : Word) (s : State) : Host.Outcome State Fault Refusal :=
  only (decide (t < 64)) s (s.issueX t w (opc w == 0x32) (xVst t w))
def execVbc (t : Nat) (w : Word) (s : State) : Host.Outcome State Fault Refusal :=
  only (decide (t < 64)) s (s.issueX t w (opc w == 0x33) (xVbc t w))
def execVext (t : Nat) (w : Word) (s : State) : Host.Outcome State Fault Refusal :=
  only (decide (t < 64)) s (s.issueX t w (opc w == 0x34) (xVext t w))
def execMma (t : Nat) (w : Word) (s : State) : Host.Outcome State Fault Refusal :=
  only (decide (t < 64)) s (s.issueX t w (opc w == 0x38) (xMma t w))
def execMmr (t : Nat) (w : Word) (s : State) : Host.Outcome State Fault Refusal :=
  only (decide (t < 64)) s (s.issueX t w (opc w == 0x39) (xMmr t w))
def execMmz (t : Nat) (w : Word) (s : State) : Host.Outcome State Fault Refusal :=
  only (decide (t < 64)) s (s.issueX t w (opc w == 0x3A) (xMmz w))

end Sys2Proof.Machine
end

