-- ==== Sys2Proof/Machine/Cim.lean ====
section
/-! DEFINITION. The compute-in-memory instructions (R238, R279 to R281), the end of flips and zeroing, and the tile's
page commands (R243, R247, R276). -/

namespace Sys2Proof.Machine

/-- The checks of a CIM.MAC at issue, in order (R281): the program's tenant must own the bank; then role, state, rows. -/
def State.macFault (s : State) (t b row : Nat) : Option (Nat × Nat) :=
  let joined := s.joined t
  let mode := s.bankMode t b
  let first := (if mode = 2 then 2 * row else row) + (if joined ∧ b = 1 then modeRows mode else 0)
  if !(s.bankOwned t b && s.bankOwner t b == s.tileTen t) then some (0x13, 1)
  else if (!joined ∧ s.bankRole t b ≠ 0) ∨ s.bankState t b ≠ 2 ∨ s.bankRows t b < first + 64 then some (0x07, 0)
  else none

/-- A CIM.MAC is checked at issue; with the queue full or a flip in progress it stalls. -/
def xMac (t : Nat) (w : Word) (s : State) : Option XRes × State :=
  let b := bits w 25 25
  let row := bits w 12 0
  if bits w 15 14 ≠ 0 ∨ row % 8 ≠ 0 then (some { fault := some (0x10, 0) }, s)
  else if 2 ≤ (s.tile t).cimQ.length ∨ s.flipping t then (none, s)
  else match s.macFault t b row with
    | some e => (some { fault := some e }, if e.1 = 0x13 then s.logRefusal (s.tileReq t) (bankBase t b) false 1 else s)
    | none => (some { mac := some ⟨b, bits w 24 21, row, bit w 13, (s.tile t).vr (fa w)⟩, ev := 6 }, s)

/-- Whether a queued CIM.MAC is still to write an output entry. -/
def Tile.entryBusy (x : Tile) (e : Nat) : Bool := x.cimQ.any fun m => m.entry == e

def xCimRd (t : Nat) (w : Word) (s : State) : Option XRes × State :=
  let x := s.tile t
  let e := bits w 19 16
  if bits w 20 20 ≠ 0 ∨ bits w 15 3 ≠ 0 then (some { fault := some (0x10, 0) }, s)
  else if x.entryBusy e then (none, s)
  else (some { v := some (fd w, (List.range 16).flatMap fun j => leBytes 4 (x.cimAt e (16 * bits w 2 0 + j)).toNat) }, s)

def xCimClr (t : Nat) (w : Word) (s : State) : Option XRes × State :=
  let e := bits w 19 16
  if bits w 25 20 ≠ 0 ∨ bits w 15 0 ≠ 0 then (some { fault := some (0x10, 0) }, s)
  else if (s.tile t).entryBusy e then (none, s)
  else (some { clr := some e }, s)

/-- The weight of column `c` in a row's bytes (R278). -/
def rowWeight (mode : Nat) (bs : List Byte) (c : Nat) : Int :=
  match mode with
  | 0 => signed 4 ((at' 0 bs (c / 2)).toNat / 16 ^ (c % 2))
  | 1 => signed 8 (at' 0 bs c).toNat
  | _ => signed 2 ((at' 0 bs (c / 4)).toNat / 4 ^ (c % 4))

/-- The sums a CIM.MAC adds to its columns. -/
def State.macSums (s : State) (t : Nat) (m : CimOp) : List Int :=
  let mode := s.bankMode t m.bank
  let joined := s.joined t
  let first := (if mode = 2 then 2 * m.row else m.row) + (if joined ∧ m.bank = 1 then modeRows mode else 0)
  let base := bankBase t (if joined then 0 else m.bank)
  let rows := (List.range 64).map fun i => (signed 8 (at' 0 m.acts i).toNat, s.wgtBytes (base + (first + i) * modeBytes mode) (modeBytes mode))
  (List.range (if mode = 1 then 64 else 128)).map fun c => rows.foldl (fun z r => z + r.1 * rowWeight mode r.2 c) 0

/-- The oldest queued CIM.MAC finishes (R279, R280): the sums are in its entry and its place is free. -/
def cimMacDone (t : Nat) (s : State) : State :=
  let x := s.tile t
  match x.cimQ with
  | [] => s
  | m :: rest =>
    let old : Tab Word := if m.clear then x.cim.clear fun k => k / 128 == m.entry else x.cim
    let sums := s.macSums t m
    let new := (List.zip (List.range sums.length) sums).foldl (fun (l : Tab Word) p =>
      Tab.set (fun _ => 0) l (128 * m.entry + p.1) (ofInt (signed 32 (Tab.get (fun _ => 0) l (128 * m.entry + p.1)).toNat + p.2))) old
    (s.setTile t { x with cimQ := rest, cim := new }).tileSleep t

/-- A flip ends once the CIM.MACs issued before it are done (R289). -/
def flipDone (t : Nat) (s : State) : State :=
  if (s.tile t).cimQ.isEmpty ∧ s.flipping t then (s.flipEnd t).pmc t 0xC 1 else s

/-- Zeroing completes, after every queued CIM.MAC on the bank (R288). -/
def discardDone (t : Nat) (s : State) : State :=
  if (s.tile t).cimQ.any fun m => s.joined t || s.wgt.zeroing.any fun z => z.1 == t && z.2.1 == m.bank then s else s.zeroEnd t

/-! ### The counter page (R276) -/

/-- The counter a page selects. -/
def State.scSel (s : State) (p : Nat) : Nat := p * 1024 + s.fld (SC_SEL p) 9 0

/-- SC_OP: a counter owned by a tenant 1 to 7 is refused, except to Adsel; an OP that the page does not list changes
nothing. -/
def scPage (q : Req) (p : Nat) (v : Word) (s : State) : State :=
  let i := s.scSel p
  let adsel := q.cls == 6
  if !adsel ∧ scOwner (s.scConfig i) ≠ 0 then s.refuse q (regBase + SC_OP p) true 1
  else match ScOp.ofCode (bits v 31 28) with
  | none => s
  | some .read => s
  | some op =>
    if !s.scPermitted 0 i op true adsel then s.refuse q (regBase + SC_OP p) true 1
    else match s.scOp 0 i op (word (v.toNat % 0x4000000)) true adsel with
      | (0, s) => s
      | (c, s) => s.fail q (SC_OP p) c

/-- A row's operation at the counter page. -/
def State.scRow (s : State) (q : Req) (p : Nat) (v : Word) (op : Nat) : State :=
  s.writeVia q (SC_OP p) (setBits v 31 28 op) (scPage q p (setBits v 31 28 op))

/-! ### Meanings -/

def execCimMac (t : Nat) (w : Word) (s : State) : Host.Outcome State Fault Refusal :=
  only (decide (t < 64)) s (s.issueX t w (opc w == 0x3C) (xMac t w))
def execCimMacDone (t : Nat) (s : State) : Host.Outcome State Fault Refusal :=
  only (decide (t < 64)) s (s.heldIdle (0x100 + t) (cimMacDone t s))
def execCimRd (t : Nat) (w : Word) (s : State) : Host.Outcome State Fault Refusal :=
  only (decide (t < 64)) s (s.issueX t w (opc w == 0x3D) (xCimRd t w))
def execCimClr (t : Nat) (w : Word) (s : State) : Host.Outcome State Fault Refusal :=
  only (decide (t < 64)) s (s.issueX t w (opc w == 0x3E) (xCimClr t w))
def execDiscardDone (t : Nat) (s : State) : Host.Outcome State Fault Refusal :=
  only (decide (t < 64)) s (s.heldIdle (0x100 + t) (discardDone t s))
def execScSet (q : Req) (page : Nat) (v : Word) (s : State) : Host.Outcome State Fault Refusal :=
  only (q.wf && decide (page < 128)) s (s.scRow q page v 1)
def execScAdd (q : Req) (page : Nat) (v : Word) (s : State) : Host.Outcome State Fault Refusal :=
  only (q.wf && decide (page < 128)) s (s.scRow q page v 2)
def execScArm (q : Req) (page : Nat) (v : Word) (s : State) : Host.Outcome State Fault Refusal :=
  only (q.wf && decide (page < 128)) s (s.scRow q page v 3)
def execScInit (q : Req) (page : Nat) (v : Word) (s : State) : Host.Outcome State Fault Refusal :=
  only (q.wf && decide (page < 128)) s (s.scRow q page v 5)
def execScFree (q : Req) (page : Nat) (v : Word) (s : State) : Host.Outcome State Fault Refusal :=
  only (q.wf && decide (page < 128)) s (s.scRow q page v 6)

end Sys2Proof.Machine
end

