-- ==== Sys2Proof/Machine/Dma.lean ====
section
/-! DEFINITION. The tile's DMA engine (R233, R258, R261) and the responses that come back to a mesh port (R257): a transfer goes block
by block, as PUTs and GETs where a block leaves the tile. -/

namespace Sys2Proof.Machine

/-! ### Descriptors (Table 11.4) -/

def dmaSrc (d : List Byte) : Nat := nbits (leNat (slice d 0 8)) 39 0
def dmaDst (d : List Byte) : Nat := nbits (leNat (slice d 8 8)) 39 0
def dmaLen (d : List Byte) : Nat := nbits (leNat (slice d 0x10 4)) 24 0
def dmaFlag (d : List Byte) (i : Nat) : Bool := (leNat (slice d 0x14 4)).testBit i

/-- The rules SRC, DST and LEN must keep. -/
def dmaValid (d : List Byte) : Bool :=
  dmaSrc d % 64 == 0 && dmaDst d % 64 == 0 && dmaLen d % 64 == 0 && decide (64 ≤ dmaLen d ∧ dmaLen d ≤ 0x1000000)

/-- Whether an address lies in tile `t`'s own scratchpad. -/
def ownSpad (t a : Nat) : Bool := spad t 0 ≤ a && a < spad t 0x80000

/-- Tile `t`'s DMA engine as a requester for a tenant. -/
abbrev dmaReq (t ten : Nat) : Req := ⟨1, t, ten⟩

/-! ### One block of 64 bytes -/

/-- The transfer stops at this block with a code. -/
def State.dmaFail (s : State) (t code : Nat) : State := s.setTile t { s.tile t with dmaCode := some code, stage := [], stageBad := [] }

/-- The block is moved. -/
def State.dmaNext (s : State) (t : Nat) : State :=
  s.setTile t { s.tile t with dmaPos := (s.tile t).dmaPos + 64, stage := [], stageBad := [] }

/-- The block has ended with a code. -/
def State.dmaBlockEnd (s : State) (t code : Nat) : State := if code = 0 then s.dmaNext t else s.dmaFail t code

/-- The engine sends a request; false where no tag is free. -/
def State.dmaSend (s : State) (t : Nat) (m : Msg) (loc : Nat) (moves : Bool) : Bool × State :=
  match (s.tile t).freeTag with
  | none => (false, s)
  | some tag => (true, s.inject t { m with tag := tag } ⟨tag, m.kind == 4, false, false, m.kind == 2, loc, s.tilePc t / 8 * 8, moves⟩)

/-- A request of the engine. -/
def dmaMsg (t ten kind len addr : Nat) : Msg :=
  { kind := kind, port := 1, src := t, dst := if kind = 5 then 64 else if kind = 4 then addr / 2048 else routerOf addr, cls := 1, ten := ten,
    tag := 0, len := len, addr := addr, oper := 0, aux := 0 }

/-- A block into the tile's own IMEM (R232): its code and the state. -/
def State.dmaImem (s : State) (q : Req) (dst : Nat) (d : List Byte) : Nat × State :=
  if 0x10000 ≤ dst ∨ s.segOwner q.index dst ≠ q.tenant then (1, s.logRefusal q dst true 1)
  else (0, s.imemPut q.index dst ((List.range 16).map fun i => word (leNat (slice d (4 * i) 4))))

/-- Put a block where the transfer goes; false where it waits. A poisoned one does not enter IMEM or leave the chip. -/
def State.dmaPut (s : State) (t ten dst : Nat) (imem : Bool) (d : List Byte) (bad : List Nat) : Bool × State :=
  let q := dmaReq t ten
  if (imem ∨ isOutbound dst) ∧ !bad.isEmpty then (true, s.dmaFail t 8)
  else if imem then let (c, s) := s.dmaImem q dst d; (true, s.dmaBlockEnd t c)
  else if ownSpad t dst then let (c, s) := s.storeGrans q dst d bad; (true, s.dmaBlockEnd t c)
  else if isOutbound dst then
    if !s.domOn 3 then (false, s.waitFor 3)
    else match s.hostWrite q dst d with
      | (0x100, s) => (false, s.waitFor 9)
      | (c, s) => (true, s.dmaBlockEnd t c)
  else s.dmaSend t { dmaMsg t ten 1 64 dst with data := d, bad := bad } 0 true

/-- A block has come: from the tile's own scratchpad it goes where the transfer goes; from elsewhere it lies in the staging buffer, and a
poisoned one goes no further than the tile's own scratchpad, whose granules it tags (R264). -/
def State.dmaBrought (s : State) (t code : Nat) (data : List Byte) (bad : List Nat := [0, 1]) : State :=
  let x := s.tile t
  match x.dma with
  | [] => s
  | (ten, d) :: _ =>
    let dst := dmaDst d + x.dmaPos
    let bs := slice (data ++ List.replicate 64 0) 0 64
    let bad := if code = 8 then bad else []
    if !x.dmaOn ∨ x.dmaCode.isSome then s
    else if code ≠ 0 ∧ code ≠ 8 then s.dmaFail t code
    else if ownSpad t dst ∧ !dmaFlag d 0 then
      let (c, s) := s.storeGrans (dmaReq t ten) dst bs bad
      s.dmaBlockEnd t (if c = 0 then code else c)
    else if code = 8 then s.dmaFail t 8
    else s.setTile t { x with stage := bs, stageBad := [] }

/-- Whether the engine waits for a response or a completion. -/
def State.dmaAwaits (s : State) (t : Nat) : Bool := ((s.tile t).out.any (·.dma)) || s.dmaReads t

/-- One move of the engine towards the end of its transfer; false where it can make none: a parked tile's begins no block (R373). -/
def State.dmaMove (s : State) (t : Nat) : Bool × State :=
  let x := s.tile t
  match x.dma with
  | [] => (false, s)
  | (ten, d) :: _ =>
    let src := dmaSrc d + x.dmaPos
    let dst := dmaDst d + x.dmaPos
    if !x.dmaOn ∨ x.dmaCode.isSome ∨ s.fenced t ∨ s.dmaAwaits t ∨ dmaLen d ≤ x.dmaPos ∨ x.parked ∧ x.stage.isEmpty then (false, s)
    else if !x.stage.isEmpty then s.dmaPut t ten dst (dmaFlag d 0) x.stage x.stageBad
    else if ownSpad t src then
      match s.loadGrans (dmaReq t ten) src 64 with
      | (c, bs, bad, s) => if c = 0 ∨ c = 8 then s.dmaPut t ten dst (dmaFlag d 0) bs bad else (true, s.dmaFail t c)
    else if isOutbound src then
      if !s.domOn 3 then (false, s.waitFor 3)
      else match s.hostRead (dmaReq t ten) 1 t src 64 with
        | (0x100, s) => (false, s.waitFor 9)
        | (0x101, s) => (false, s)
        | (0x102, s) => (true, s)
        | (c, s) => (true, s.dmaFail t c)
    else s.dmaSend t (dmaMsg t ten 2 64 src) (dst - spad t 0) true

/-- Moves of the engine, `n` at most, until it can make none. -/
def State.dmaRun (t : Nat) : Nat → State → State
  | 0, s => s
  | n + 1, s => match s.dmaMove t with
    | (true, s) => State.dmaRun t n s
    | (false, s) => s

/-- The engine goes on as far as it can. -/
def State.dmaGo (s : State) (t : Nat) : State :=
  match (s.tile t).dma with
  | [] => s
  | (_, d) :: _ => State.dmaRun t (2 * ((dmaLen d - (s.tile t).dmaPos) / 64) + 2) s

/-! ### Transfers -/

/-- The head of the queue becomes active, once what the port of a frogged tile left is gone; one that breaks the rules moves nothing. -/
def dmaStart (t : Nat) (s : State) : State :=
  let x := s.tile t
  match x.dma with
  | [] => s
  | (_, d) :: _ =>
    if x.dmaOn ∨ !s.domOn (tileDom t) ∨ s.fenced t ∨ x.parked then s
    else if dmaValid d then (s.setTile t { x with dmaOn := true, dmaPos := 0, dmaCode := none, stage := [], stageBad := [] }).dmaGo t
    else s.setTile t { x with dmaOn := true, dmaPos := 0, dmaCode := some 3, stage := [], stageBad := [] }

/-- The completion ADD of a transfer (R233, R258): on a counter of the tile itself, or as a STITCH message; false where no tag is free. -/
def State.dmaStitch (s : State) (t ten : Nat) (d : List Byte) : Bool × State :=
  let i := nbits (leNat (slice d 0x18 4)) 16 0
  if !dmaFlag d 1 then (true, s)
  else if i / 2048 = t then (true, (s.scOp ten i .add 1 true).2)
  else s.dmaSend t { dmaMsg t ten 4 0 i with oper := 0x20000001 } 0 false

/-- Its bell, a DOORBELL message; false where no tag is free. -/
def State.dmaBell (s : State) (t ten : Nat) (d : List Byte) : Bool × State :=
  let bell := leNat (slice d 0x1C 4)
  if !dmaFlag d 2 then (true, s)
  else s.dmaSend t { dmaMsg t ten 5 0 0 with oper := word (nbits bell 5 0), aux := word (2 ^ nbits bell 10 6) } 0 false

/-- The transfer leaves the queue. -/
def State.dmaLeave (s : State) (t : Nat) : State :=
  let x := s.tile t
  ((s.pmc t 0xA (x.dmaPos / 64)).setTile t { x with dma := x.dma.drop 1, dmaOn := false, dmaPos := 0, dmaCode := none }).tileSleep t

/-- The head transfer ends (R233): DMA_STAT where it failed; else, every write being acknowledged, its ADD and its bell. Where it still
has blocks to move it goes on with them. -/
def dmaDone (t : Nat) (s : State) : State :=
  let s := s.dmaGo t
  let x := s.tile t
  match x.dma with
  | [] => s
  | (ten, d) :: _ =>
    if !x.dmaOn ∨ s.fenced t ∨ s.dmaAwaits t then s
    else match x.dmaCode with
      | some c => ((s.setFlag (TILE_DMA_STAT t) 16 true).setFld (TILE_DMA_STAT t) 15 8 c).dmaLeave t
      | none =>
        if x.dmaPos < dmaLen d then s
        else match s.dmaStitch t ten d with
          | (false, _) => s
          | (true, s1) => match s1.dmaBell t ten d with
            | (false, _) => s
            | (true, s2) => s2.dmaLeave t

/-! ### Responses (R257) -/

/-- What a response does for the request it answers: a block for the engine, or a code and data for the core. -/
def State.responseTo (s : State) (t : Nat) (m : Msg) (o : Outst) : State :=
  if o.dma then
    let s := s.countCode t m.code
    if o.get then s.dmaBrought t m.code m.data m.bad else s.dmaBlockEnd t m.code
  else
    let (c, s) := if o.get ∧ (m.code = 0 ∨ m.code = 8) then
        (match s.storeGrans m.req (spad t o.loc) m.data m.bad with
          | (0, s) => (m.code, s)
          | (e, s) => (e, s))
      else (m.code, s)
    let s := s.countCode t c
    if o.wait then (match (s.tile t).await with
      | some a => s.awaitEnd t a c m.aux
      | none => s)
    else if m.cls = 1 then s
    else s.postedEnd t (o.f && !o.stitch) o.pc c

/-- A response frees its tag and delivers its code and data; the engine goes on. -/
def meshResponse (k : Nat) (s : State) : State :=
  match s.responseAt k with
  | none => s
  | some m =>
    let t := m.home
    let s : State := { s.passed m with net := s.net.eraseIdx k }
    let x := s.tile t
    match x.out.find? fun o => o.tag == m.tag with
    | none => s
    | some o => (((s.setTile t { x with out := x.out.filter fun e => e.tag != m.tag }).responseTo t m o).dmaGo t).tileSleep t

/-! ### Meanings -/

def execDmaTransferStart (t : Nat) (s : State) : Host.Outcome State Fault Refusal :=
  only (decide (t < 64)) s (s.heldIdle (0x100 + t) (dmaStart t s))
def execDmaTransferDone (t : Nat) (s : State) : Host.Outcome State Fault Refusal :=
  only (decide (t < 64)) s (s.heldIdle (0x100 + t) (dmaDone t s))
def execMeshResponse (k : Nat) (s : State) : Host.Outcome State Fault Refusal :=
  only true s (s.heldIdle 0x060 (meshResponse k s))

end Sys2Proof.Machine
end

