-- ==== Sys2Proof/Machine/Memory.lean ====
section
/-! DEFINITION. The MEM and POOL commands (R347 to R365): skeins, wiping, MOVE, cache maintenance, WB configuration. -/

namespace Sys2Proof.Machine

/-! ### Skeins (R347, R351) -/

/-- The words of a skein record (Table 17.2). -/
def skeinWord (x : Skein) (k : Nat) : Word :=
  match k with
  | 0 => word (x.valid.toNat + x.tenant * 2 + x.tier * 0x10 + x.shared.toNat * 0x40 + x.job.toNat * 0x80 + x.held * 0x4000)
  | 1 => word x.base
  | 2 => word x.limit
  | _ => word x.quota

/-- Create record `k`; a RESERVED skein takes its whole range. -/
def State.createSkein (s : State) (k : Nat) (x : Skein) : State :=
  let n := x.limit + 1 - x.base
  let s := s.setSkein k { x with valid := true, held := 0, deleting := false, quota := if x.shared then x.quota else n }
  if x.shared then s else (List.range n).foldl (fun s i => s.assign (gran x.tier (x.base + i)) k) s

/-- The lowest free record. -/
def State.freeSkein (s : State) : Option Nat := (List.range 64).find? fun k => !(s.skein k).valid && !(s.skein k).deleting

/-- Whether every granule of a range is FREE. -/
def State.rangeFree (s : State) (tier base limit : Nat) : Bool :=
  (List.range (limit + 1 - base)).all fun i => s.ownOf (gran tier (base + i)) % 4 == 0

/-- ADD of the staged record: its code and record. Granule 4,159 of T1 is in no skein (R343). -/
def State.skeinAdd (s : State) : Nat × Nat × State :=
  let w := fun k => s.reg (MEM_SKEIN_W k)
  let x : Skein := { tenant := bits (w 0) 3 1, tier := bits (w 0) 5 4, shared := bit (w 0) 6, job := bit (w 0) 7
                     base := bits (w 1) 17 0, limit := bits (w 2) 17 0, quota := bits (w 3) 17 0 }
  if x.tier = 3 ∨ x.limit < x.base ∨ (if x.tier = 1 then 4159 else tierSize x.tier) ≤ x.limit then (0x11, 0, s)
  else if x.tenant ≠ 0 ∧ !s.flag ADSEL_TENANTS x.tenant then (0x14, 0, s)
  else match s.freeSkein with
    | none => (0x12, 0, s)
    | some k => if !x.shared ∧ !s.rangeFree x.tier x.base x.limit then (6, 0, s) else (0, k, s.createSkein k x)

/-- MEM_SKEIN_CMD. -/
def skeinCmd (v : Word) (s : State) : State :=
  match bits v 1 0 with
  | 1 =>
    let (c, k, s) := s.skeinAdd
    let s := if c = 0 ∧ (s.skein k).tier = 2 then s.tdiError (s.skein k).tenant else s
    s.setReg MEM_SKEIN_RESULT (word (c + k * 0x100))
  | 2 =>
    let k := s.fld MEM_SKEIN_SEL 5 0
    let s := if (s.skein k).valid ∧ (s.skein k).tier = 2 then s.tdiError (s.skein k).tenant else s
    (s.deleteSkein k).setReg MEM_SKEIN_RESULT (word (k * 0x100))
  | _ => s

/-! ### The wipe engine (R352, R362) -/

/-- Whether granules of T0 or T1 (T2) wait to be wiped. -/
def State.wiping (s : State) (t2 : Bool) : Bool :=
  if t2 then decide (s.mem.t2Next < tierSize 2) || !s.mem.wipe2.isEmpty else !s.mem.wipe01.isEmpty

/-- A granule reads zero, untagged. -/
def State.blankGran (s : State) (g : Nat) : State :=
  let a := granBase g
  let n := granBytes g
  { s with mem := { s.mem with bytes := Tab.clear (α := Byte) (l := s.mem.bytes) fun k => a ≤ k && k < a + n
                               poison := s.mem.poison.clear fun k => a ≤ 32 * k && 32 * k < a + n } }

/-- A RESERVED skein takes back a granule of its range that has become FREE (R362). -/
def State.reclaim (s : State) (g : Nat) : State :=
  match (List.range 64).find? fun k =>
    let x := s.skein k
    x.valid && !x.deleting && !x.shared && x.tier == g / 0x40000 && x.base ≤ g % 0x40000 && g % 0x40000 ≤ x.limit with
  | some k => if s.ownOf g % 4 = 0 then s.assign g k else s
  | none => s

/-- What follows a wiped granule: records whose deletion is complete are free, a tile whose granules are clear is no
longer held, and IRQ_RAW bit 2 says that nothing is left to wipe. -/
def State.wiped (s : State) (g : Nat) : State :=
  let s := s.reapSkeins
  let s := if g / 0x40000 = 0 ∧ !s.mem.wipe01.any (fun h => h / 0x40000 == 0 && h % 0x40000 / 128 == g / 128) then
    s.unhold 12 0x80 (32 + g / 128) else s
  if s.wiping false ∨ s.wiping true then s else s.irq 0x030 2

/-- The wipe engine finishes its next granule of T0 and T1, or of T2, whose domain must be ON. -/
def wipeDone (t2 : Bool) (s : State) : State :=
  if !s.domOn 2 then s
  else if t2 then
    if !s.domOn 10 then s
    else if s.mem.t2Next < tierSize 2 then
      let g := gran 2 s.mem.t2Next
      ((({ s with mem.t2Next := s.mem.t2Next + 1 } : State).blankGran g).reclaim g).wiped g
    else match s.mem.wipe2 with
      | [] => s
      | g :: rest => ((({ s with mem.wipe2 := rest } : State).setOwn g 0).blankGran g).wiped g
  else match s.mem.wipe01 with
    | [] => s
    | g :: rest =>
      if g / 0x40000 = 0 ∧ !s.domOn (32 + g / 128) then s
      else ((({ s with mem.wipe01 := rest } : State).setOwn g 0).blankGran g).wiped g

/-! ### Windows (Table 17.5) -/

/-- Whether window `t` is BUSY. -/
def State.memBusy (s : State) (t : Nat) : Bool := s.flag (MEM_T_STAT t) 0

/-- A window takes a command: BUSY, SEQ one up. -/
def State.memAccept (s : State) (t : Nat) : State :=
  s.setReg (MEM_T_STAT t) (word (1 + (s.fld (MEM_T_STAT t) 31 16 + 1) % 0x10000 * 0x10000))

/-- A window posts its STATUS. -/
def State.memPost (s : State) (t code : Nat) : State :=
  s.setReg (MEM_T_STAT t) (word (code * 0x100 + s.fld (MEM_T_STAT t) 31 16 * 0x10000))

/-- The requester of a tenant's MOVE and maintenance: its accesses go through the tenant's cache (R354). -/
abbrev moveReq (ten : Nat) : Req := ⟨1, 0, ten⟩

/-! ### MOVE (R357, R358) -/

/-- The rules SRC, DST and LEN must keep. -/
def moveOk (src dst len : Nat) : Bool :=
  src % 0x1000 == 0 && dst % 0x1000 == 0 && len % 0x1000 == 0 && decide (0x1000 ≤ len ∧ len ≤ 0x4000000) &&
    decide (src + len ≤ dst ∨ dst + len ≤ src)

/-- The checks of every byte: the state with FREE destination granules assigned, or the code. -/
def State.moveCheck (s : State) (m : Move) : Except Nat State :=
  match s.checkRange (moveReq m.tenant) false m.src m.len with
  | .error c => .error c
  | .ok s => s.checkRange (moveReq m.tenant) true m.dst m.len

/-- Tell whoever submitted a MOVE or a maintenance operation how it ended. -/
def State.memTell (s : State) (origin job code : Nat) : State :=
  if origin < 8 then s.memPost origin code else { s with mem.done := s.mem.done ++ [(origin, job, code)] }

/-- A MOVE ends (R309, R358). -/
def State.moveEnd (s : State) (m : Move) (code : Nat) : State :=
  let s := (s.memTell m.origin m.job code).irq 0x030 (if code = 0 then 0 else 1)
  if code = 0x13 then s else s.note m.tenant m.note

/-- Submit a MOVE: its immediate code, 0 where it is queued. -/
def State.moveSubmit (s : State) (m : Move) : Nat × State :=
  if !moveOk m.src m.dst m.len then (0x11, s)
  else if 8 ≤ s.mem.moves.length then (0x10, s)
  else match s.moveCheck m with
    | .error 1 => (1, s.logRefusal (moveReq m.tenant) m.src true 4)
    | _ => (0, { s with mem.moves := s.mem.moves ++ [m] })

/-- MEM_T_CMD MOVE; a refused one changes nothing but the window's status (R358). -/
def memMove (q : Req) (t : Nat) (v : Word) (s : State) : State :=
  let m : Move := { tenant := t, src := s.reg64 (MEM_T_SRC_LO t) (MEM_T_SRC_HI t), dst := s.reg64 (MEM_T_DST_LO t) (MEM_T_DST_HI t)
                    len := (s.reg (MEM_T_LEN t)).toNat, rel := bit v 4, note := s.reg (MEM_T_NOTE t), origin := t, job := 0
                    tile := if q.cls ≤ 1 then some q.index else none }
  match s.moveSubmit m with
  | (0, s) => s
  | (1, s) => s.memPost t 1
  | (0x11, s) => s.moveEnd m 0x11
  | (c, s) => (s.memPost t c).irq 0x030 1

/-- The domains a range needs, with the page whose WAKE_ON_ACCESS governs each. -/
def rangeDomains (a n : Nat) : List (Nat × Nat) :=
  (dropRepeats (((granulesOf a n).getD []).map fun g => (memDomain (granBase g)).1)).map fun d =>
    (d, if d = 2 then 0x031 else if d = 10 then 0x032 else if 32 ≤ d then 0x100 + (d - 32) else 0)

/-- How the domains of a MOVE stand: 0 all ON, 2 DOMAIN_OFF, 4 WAKE_TIMEOUT, 0x100 + d to wait for d. -/
def State.movePower (s : State) (m : Move) : Nat :=
  match (rangeDomains m.src m.len ++ rangeDomains m.dst m.len).find? fun p => !s.domClocked p.1 with
  | none => 0
  | some (d, p) => if s.flag (PAGE_CTRL p) 2 ∧ !s.absent d then (if s.lapsed d then 4 else 0x100 + d) else 2

/-- The head MOVE starts: its checks, then its FREE destination granules are assigned. -/
def moveStart (s : State) : State :=
  match s.mem.moves with
  | [] => s
  | m :: rest =>
    if s.mem.moving ∨ !s.domOn 2 then s
    else match s.moveCheck m with
      | .error c =>
        let s := if c = 1 then s.logRefusal (moveReq m.tenant) m.src true 4 else s
        ({ s with mem.moves := rest } : State).moveEnd m c
      | .ok s' =>
        match s.movePower m with
        | 0 => { s' with mem.moving := true }
        | c => if c < 0x100 then ({ s with mem.moves := rest } : State).moveEnd m c else s.waitFor (c - 0x100)

/-- One 32-byte granule copied with its tag. -/
def State.moveGran (s : State) (q : Req) (src dst : Nat) : State :=
  let (d, p, s) := s.fetch q src 32
  s.deposit q dst d p

/-- One 32-byte granule of the source poisoned. -/
def State.moveTaint (s : State) (q : Req) (src : Nat) : State :=
  let (d, _, s) := s.fetch q src 32
  s.deposit q src d true

/-- The granules of SHARED skeins that a range covers wholly. -/
def State.sharedGrans (s : State) (a n : Nat) : List Nat :=
  ((granulesOf a n).getD []).filter fun g =>
    a ≤ granBase g && granBase g + granBytes g ≤ a + n && s.ownOf g % 4 == 1 && (s.skein (nbits (s.ownOf g) 10 5)).shared

/-- The MOVE in progress ends: copied, the source poisoned, and with REL released. -/
def moveDone (s : State) : State :=
  match s.mem.moves with
  | [] => s
  | m :: rest =>
    if !s.mem.moving then s
    else
      let q := moveReq m.tenant
      let s : State := { s with mem := { s.mem with moves := rest, moving := false } }
      let s := (List.range (m.len / 32)).foldl (fun s i => s.moveGran q (m.src + 32 * i) (m.dst + 32 * i)) s
      let s := (List.range (m.len / 32)).foldl (fun s i => s.moveTaint q (m.src + 32 * i)) s
      let s := if m.rel then s.releaseGrans (s.sharedGrans m.src m.len) else s
      s.moveEnd m 0

/-- The MOVE in progress stops: the bytes it has written stay, and how many they are nothing fixes. -/
def State.moveCut (s : State) (m : Move) : State :=
  let (n, s) := s.fresh
  (List.range ((Config.cycles n).toNat % (m.len / 32 + 1))).foldl
    (fun s i => s.moveGran (moveReq m.tenant) (m.src + 32 * i) (m.dst + 32 * i)) s

/-- Cancel the MOVEs that `p` names (R358). -/
def State.movesCancel (s : State) (p : Move → Bool) : State :=
  let gone := s.mem.moves.filter p
  let head := (s.mem.moves.head?).any p
  let s := match s.mem.moves.head? with
    | some m => if p m ∧ s.mem.moving then s.moveCut m else s
    | none => s
  let s : State := { s with mem := { s.mem with moves := s.mem.moves.filter fun m => !p m, moving := s.mem.moving && !head } }
  gone.foldl (fun s m => s.moveEnd m 0x13) s

/-! ### Cache maintenance (R355) -/

/-- The rules a maintenance range must keep. -/
def cacheRangeOk (a n : Nat) : Bool :=
  a % 256 == 0 && n % 256 == 0 && n != 0 && decide (0x100000000 ≤ a ∧ a + n ≤ 0x300000000)

/-- Submit a maintenance operation for tenant `t`. -/
def State.cacheSubmit (s : State) (t : Nat) (o : CacheOp) : Nat × State :=
  if cacheRangeOk o.start o.len then (0, { s with mem.ops := s.mem.ops ++ [(t, o)] }) else (0x11, s)

/-- MEM_T_CMD CLEAN, FLUSH, INVALIDATE. -/
def memCacheOp (t kind : Nat) (s : State) : State :=
  match s.cacheSubmit t ⟨kind, s.reg64 (MEM_T_DST_LO t) (MEM_T_DST_HI t), (s.reg (MEM_T_LEN t)).toNat, t, 0, s.reg (MEM_T_NOTE t)⟩ with
  | (0, s) => s
  | (c, s) => s.memPost t c

/-- How the DRAM stands for a write-back of tenant `t`'s dirty lines among lines `first` to `last` (R32, R359): 0 to go on, 2 DOMAIN_OFF,
4 WAKE_TIMEOUT, 0x100 to wait. -/
def State.backPower (s : State) (t first last : Nat) : Nat :=
  if !s.mem.cache.any (fun e => e.1 / 1024 == t && e.2.any fun c => c.dirty && first ≤ c.line && c.line ≤ last) ∨ s.memServed 10 then 0
  else if !s.flag (PAGE_CTRL 0x032) 2 then 2
  else if s.lapsed 10 then 4 else 0x100

/-- A tenant's oldest maintenance operation finishes: its code, and its NOTE. One that must write back waits for the DRAM. -/
def cacheOpDone (t : Nat) (s : State) : State :=
  match s.mem.ops.find? fun o => o.1 == t with
  | none => s
  | some (_, o) =>
    let first := (o.start - 0x100000000) / 256
    let last := first + o.len / 256 - 1
    let c := if s.cacheOn t ∧ o.kind ≠ 4 then s.backPower t first last else 0
    if c = 0x100 then s.waitFor 10
    else
      let s : State := { s with mem.ops := s.mem.ops.erase (t, o) }
      let s := if s.cacheOn t ∧ c = 0 then s.cacheMaintain t o.kind first last else s.powerFail o.start c true (moveReq t)
      (s.memTell o.origin o.rseq c).note t o.note

/-! ### RELEASE (R350) -/

/-- RELEASE of a range of whole granules, each OWNED by the caller; those of RESERVED skeins stay. -/
def memRelease (t : Nat) (s : State) : State :=
  let a := s.reg64 (MEM_T_DST_LO t) (MEM_T_DST_HI t)
  let n := (s.reg (MEM_T_LEN t)).toNat
  match granulesOf a n with
  | none => (s.logRefusal (moveReq t) a true 4).memPost t 1
  | some gs =>
    if n = 0 ∨ gs.any (fun g => granBase g < a || a + n < granBase g + granBytes g) then s.memPost t 0x11
    else if gs.any (fun g => !ownedBy (s.ownOf g) t) then (s.logRefusal (moveReq t) a true 4).memPost t 1
    else (s.releaseGrans (s.sharedGrans a n)).memPost t 0

/-- MEM_T_CMD (Table 17.5): ignored while BUSY. -/
def memCommand (q : Req) (t : Nat) (v : Word) (s : State) : State :=
  if s.memBusy t then s
  else match bits v 3 0 with
    | 1 => memMove q t v (s.memAccept t)
    | 2 => memCacheOp t 2 (s.memAccept t)
    | 3 => memCacheOp t 3 (s.memAccept t)
    | 4 => memCacheOp t 4 (s.memAccept t)
    | 5 => memRelease t (s.memAccept t)
    | _ => s

/-! ### WB configuration (R353, R355) -/

/-- Whether EN = 1 is acceptable: every set granule OWNED by the tenant in a RESERVED T1 skein. -/
def State.wbOk (s : State) (t : Nat) (v : Word) : Bool :=
  decide (bits v 19 16 ≤ 10) && (List.range (2 ^ bits v 19 16)).all fun i =>
    let g := bits v 11 0 + i
    let e := s.ownOf (gran 1 g)
    decide (g < 4096) && ownedBy e t && !(s.skein (nbits e 10 5)).shared

/-- Set or clear WB of the granules that the tenant's configuration names. -/
def State.wbMark (s : State) (t : Nat) (b : Bool) : State :=
  (List.range (2 ^ min 10 (s.fld (POOL_WB_SETS t) 19 16))).foldl (fun s i =>
    let g := gran 1 (s.fld (POOL_WB_SETS t) 11 0 + i)
    let e := s.ownOf g
    s.setOwn g (if b then e ||| 0x800 else e - (e &&& 0x800))) s

/-- A configuration write applies. -/
def State.wbApply (s : State) (q : Req) (t : Nat) (win : Bool) (v : Word) : State :=
  if win then s.setReg (POOL_WB_WIN t) (s.written (POOL_WB_WIN t) v)
  else
    let s := if s.cacheOn t then s.wbMark t false else s
    let en := bit v 31 && s.wbOk t v
    let s := s.setReg (POOL_WB_SETS t) (setBit (s.written (POOL_WB_SETS t) v) 31 en)
    let s := s.setFlag POOL_STATUS t en
    if en then s.wbMark t true
    else if bit v 31 then s.fail q (POOL_WB_SETS t) 0x10 else s

/-- POOL_WB_SETS or POOL_WB_WIN: flushed first where the cache is enabled. -/
def poolConfig (q : Req) (t : Nat) (win : Bool) (v : Word) (s : State) : State :=
  if s.cacheOn t ∨ s.mem.flushing.any (fun f => f.1 == t) then
    ({ s with mem.flushing := s.mem.flushing ++ [(t, win, v, q)] } : State).setFlag POOL_STATUS 8 true
  else s.wbApply q t win v

/-- The flush before a configuration write ends (IRQ_RAW bit 0), and the write applies; the flush waits for the DRAM where it must write
back, and where the DRAM cannot be had the write does not apply (R32). -/
def poolFlushDone (t : Nat) (s : State) : State :=
  match s.mem.flushing.find? fun f => f.1 == t with
  | none => s
  | some (_, win, v, q) =>
    let c := if s.cacheOn t then s.backPower t 0 0x2000000 else 0
    if c = 0x100 then s.waitFor 10
    else
      let s : State := { s with mem.flushing := s.mem.flushing.erase (t, win, v, q) }
      let s := s.setFlag POOL_STATUS 8 (!s.mem.flushing.isEmpty)
      if c ≠ 0 then s.powerFail 0x100000000 c true (moveReq t)
      else
        let s := if s.cacheOn t then s.cacheMaintain t 3 0 0x2000000 else s
        (s.wbApply q t win v).irq 0x031 0

/-- Drop tenant `t`'s cache without writing it back and disable it (R352). -/
def State.cacheKill (s : State) (t : Nat) : State :=
  let s := if s.cacheOn t then s.wbMark t false else s
  let s := (s.setFlag (POOL_WB_SETS t) 31 false).setFlag POOL_STATUS t false
  { s with mem := { s.mem with cache := s.mem.cache.clear fun k => k / 1024 == t
                               ops := s.mem.ops.filter fun o => o.1 != t
                               flushing := s.mem.flushing.filter fun f => f.1 != t } }

/-! ### Power (R362) -/

/-- Every T2 granule leaves its skein. -/
def State.dramFree (s : State) : State :=
  let s := (List.range 64).foldl (fun s k => if (s.skein k).tier = 2 then s.setSkein k { s.skein k with held := 0 } else s) s
  { s with mem := { s.mem with own := s.mem.own.clear fun g => g / 0x40000 == 2, wipe2 := [], t2Next := 131072 } }

/-- The DRAM leaves OFF: every granule of it is WIPING. -/
def State.dramWoke (s : State) : State := { s.dramFree with mem.t2Next := 0 }

/-- The DRAM goes OFF: its contents are lost, its granules are FREE. -/
def State.dramLost (s : State) : State :=
  let s := s.dramFree
  { s with mem := { s.mem with bytes := Tab.clear (α := Byte) (l := s.mem.bytes) fun k => 0x100000000 ≤ k
                               poison := s.mem.poison.clear fun k => 0x8000000 ≤ k } }

/-- SOC goes OFF: pool granules are FREE, AON SRAM granules stay with their skeins; queued work ends. -/
def State.poolLost (s : State) : State :=
  let aon := fun k => (s.mem.own.filter fun e => e.1 / 0x40000 == 1 && 4096 ≤ e.1 % 0x40000 && e.2 % 4 == 1 && nbits e.2 10 5 == k).length
  let s := (List.range 64).foldl (fun s k => if (s.skein k).tier = 1 then s.setSkein k { s.skein k with held := aon k } else s) s
  { s with mem := { s.mem with bytes := Tab.clear (α := Byte) (l := s.mem.bytes) fun k => 0x20000000 ≤ k && k < 0x21000000
                               poison := s.mem.poison.clear fun k => 0x1000000 ≤ k && k < 0x1080000
                               own := s.mem.own.clear fun g => g / 0x40000 == 1 && g % 0x40000 < 4096
                               wipe01 := s.mem.wipe01.filter fun g => !(g / 0x40000 == 1 && g % 0x40000 < 4096)
                               cache := [], ops := [], flushing := [], moves := [], moving := false } }

/-- SOC is ON again after OFF: RESERVED pool ranges return to their skeins, LOST is set. -/
def State.poolWoke (s : State) : State :=
  let s := (List.range 64).foldl (fun s k =>
    let x := s.skein k
    if x.valid ∧ !x.deleting ∧ !x.shared ∧ x.tier = 1 then
      ((List.range (x.limit + 1 - x.base)).filter fun i => x.base + i < 4096).foldl (fun s i => s.assign (gran 1 (x.base + i)) k) s
    else s) s
  (s.reapSkeins).irq 0x030 3

/-! ### Views -/

/-- FREE granules of a tier. -/
def State.freeCount (s : State) (tier : Nat) : Nat :=
  let used := (s.mem.own.filter fun e => e.1 / 0x40000 == tier && e.2 % 4 != 0).length
  (if tier = 2 then min s.mem.t2Next (tierSize 2) else tierSize tier) - used

/-- MEM_STATUS. -/
def State.memStatus (s : State) : Word :=
  word (s.mem.moves.length + s.mem.moving.toNat * 0x10 + (s.wiping false || s.wiping true).toNat * 0x20 +
    s.fld (IRQ_RAW 0x030) 3 3 * 0x80000000)

/-- MEM_WIPE_PEND. -/
def State.wipePend (s : State) : Nat := s.mem.wipe01.length + s.mem.wipe2.length + (tierSize 2 - s.mem.t2Next)

/-- Granules a tenant holds in a tier, and the sum of its quotas. -/
def State.tenHeld (s : State) (t tier : Nat) : Nat × Nat :=
  (List.range 64).foldl (fun (h, q) k =>
    let x := s.skein k
    if x.valid ∧ x.tenant = t ∧ x.tier = tier then (h + x.held, q + x.quota) else (h, q)) (0, 0)

/-! ### Meanings -/

/-- A window command's row: MEM_T_CMD with the row's opcode. -/
def State.memRow (s : State) (q : Req) (t : Nat) (v : Word) (op : Nat) : State :=
  s.writeVia q (MEM_T_CMD t) (setBits v 3 0 op) (memCommand q t (setBits v 3 0 op))

def execSkeinAdd (q : Req) (v : Word) (s : State) : Host.Outcome State Fault Refusal :=
  only q.wf s (s.writeVia q MEM_SKEIN_CMD (setBits v 1 0 1) (skeinCmd (setBits v 1 0 1)))
def execSkeinDel (q : Req) (v : Word) (s : State) : Host.Outcome State Fault Refusal :=
  only q.wf s (s.writeVia q MEM_SKEIN_CMD (setBits v 1 0 2) (skeinCmd (setBits v 1 0 2)))
def execWipeGranuleDone (t2 : Bool) (s : State) : Host.Outcome State Fault Refusal :=
  only true s (s.heldIdle 0x030 (wipeDone t2 s))
def execMove (q : Req) (ten : Nat) (v : Word) (s : State) : Host.Outcome State Fault Refusal :=
  only (q.wf && decide (ten < 8)) s (s.memRow q ten v 1)
def execMoveStart (s : State) : Host.Outcome State Fault Refusal :=
  only true s (s.heldIdle 0x030 (moveStart s))
def execMoveDone (s : State) : Host.Outcome State Fault Refusal :=
  only true s (s.heldIdle 0x030 (moveDone s))
def execClean (q : Req) (ten : Nat) (v : Word) (s : State) : Host.Outcome State Fault Refusal :=
  only (q.wf && decide (ten < 8)) s (s.memRow q ten v 2)
def execFlush (q : Req) (ten : Nat) (v : Word) (s : State) : Host.Outcome State Fault Refusal :=
  only (q.wf && decide (ten < 8)) s (s.memRow q ten v 3)
def execInvalidate (q : Req) (ten : Nat) (v : Word) (s : State) : Host.Outcome State Fault Refusal :=
  only (q.wf && decide (ten < 8)) s (s.memRow q ten v 4)
def execCacheOpDone (ten : Nat) (s : State) : Host.Outcome State Fault Refusal :=
  only (decide (ten < 8)) s (s.heldIdle 0x030 (cacheOpDone ten s))
def execRelease (q : Req) (ten : Nat) (v : Word) (s : State) : Host.Outcome State Fault Refusal :=
  only (q.wf && decide (ten < 8)) s (s.memRow q ten v 5)
def execPoolWbConfig (q : Req) (ten : Nat) (win : Bool) (v : Word) (s : State) : Host.Outcome State Fault Refusal :=
  only (q.wf && decide (ten < 8)) s (s.writeVia q (if win then POOL_WB_WIN ten else POOL_WB_SETS ten) v (poolConfig q ten win v))
def execPoolFlushDone (ten : Nat) (s : State) : Host.Outcome State Fault Refusal :=
  only (decide (ten < 8)) s (s.heldIdle 0x031 (poolFlushDone ten s))

end Sys2Proof.Machine
end

