-- ==== Sys2Proof/Machine/Tensor.lean ====
section
/-! DEFINITION. Tensor descriptors and layouts (R297 to R300). -/

namespace Sys2Proof.Machine

/-- A tensor descriptor (Table 14.2). -/
structure Tens where
  base : Nat
  layout : Nat
  elem : Nat
  c : Nat
  w : Nat
  h : Nat
  stride : Nat
  rsvd : Bool
deriving DecidableEq, Repr

/-- Read the 16 bytes of a descriptor; `rsvd` says that a reserved bit is set. -/
def tensOf (bs : List Byte) : Tens :=
  let n := leNat bs
  { base := nbits n 39 0, layout := nbits n 41 40, elem := nbits n 43 42, c := nbits n 63 48, w := nbits n 79 64
    h := nbits n 95 80, stride := nbits n 111 96, rsvd := nbits n 47 44 != 0 || nbits n 127 112 != 0 }

/-- Whether the layout is PLANAR8 or PLANAR16. -/
def Tens.planar (t : Tens) : Bool := t.layout == 0 || t.layout == 3

/-- The element size E. -/
def Tens.e (t : Tens) : Nat := match t.layout with
  | 0 => 1
  | 3 => 2
  | _ => if t.elem = 0 then 1 else if t.elem = 1 then 2 else 4

/-- K of a B layout. -/
def Tens.k (t : Tens) : Nat := if t.layout = 1 then 16 else 32

/-- Padded channels Cp. -/
def Tens.cp (t : Tens) : Nat := if t.planar then t.c else roundUp t.c t.k

/-- The pixel stride PS. -/
def Tens.ps (t : Tens) : Nat := t.cp * t.e

/-- Bytes of the used part of a row. -/
def Tens.rowBytes (t : Tens) : Nat := if t.planar then t.w * t.e else t.w * t.ps

/-- The row stride RS in bytes. -/
def Tens.rs (t : Tens) : Nat := t.stride * 64

/-- R298, with the ranges of Table 14.2; `mem` says that BASE and ROW_STRIDE count. -/
def Tens.valid (t : Tens) (mem : Bool) : Bool :=
  !t.rsvd && decide (1 ≤ t.c ∧ t.c ≤ 4096 ∧ 1 ≤ t.w ∧ t.w ≤ 8192 ∧ 1 ≤ t.h ∧ t.h ≤ 8192) &&
    (if t.planar then t.elem == 0 else t.elem != 3) && (!mem || (t.base % 64 == 0 && decide (t.rowBytes ≤ t.rs)))

/-- The byte ranges of row `y` (address, length): one, or one per plane. -/
def Tens.rowParts (t : Tens) (y : Nat) : List (Nat × Nat) :=
  if t.planar then (List.range t.c).map fun c => (t.base + (c * t.h + y) * t.rs, t.rowBytes)
  else [(t.base + y * t.rs, t.rowBytes)]

/-- Element (c, x) of a row given as the bytes of its parts, as a number of E bytes. -/
def Tens.at (t : Tens) (parts : List (List Byte)) (c x : Nat) : Nat :=
  if t.planar then leNat (slice (at' [] parts c) (x * t.e) t.e) else leNat (slice (at' [] parts 0) (x * t.ps + c * t.e) t.e)

/-- The bytes of each part of a row whose elements are `f c x`, padding channels zero (R299). -/
def Tens.pack (t : Tens) (f : Nat → Nat → Nat) : List (List Byte) :=
  if t.planar then (List.range t.c).map fun c => (List.range t.w).flatMap fun x => leBytes t.e (f c x)
  else [(List.range t.w).flatMap fun x => (List.range t.cp).flatMap fun c => leBytes t.e (if c < t.c then f c x else 0)]

end Sys2Proof.Machine
end

