-- ==== Sys2Proof/Machine/Hook.lean ====
section
/-! DEFINITION. The Hook engines (R302 to R312), and the camera and stream commands that end or feed a descriptor which
reads a line ring. -/

namespace Sys2Proof.Machine

/-- Engine `e`. -/
def State.hookOf (s : State) (e : Nat) : Hook := s.hook.get (fun _ => {}) e

/-- `s` with engine `e` replaced. -/
def State.setHook (s : State) (e : Nat) (x : Hook) : State := { s with hook := s.hook.set (fun _ => {}) e x }

/-- The requester of engine `e`'s accesses (R302). -/
def State.hookReq (s : State) (e : Nat) : Req := ⟨4, e, s.pageOwner (0x058 + e)⟩

/-- A busy count the model leaves open. -/
def State.openCount (s : State) (k : Nat) : State :=
  let (n, s) := s.fresh
  s.setReg k (Config.cycles n)

/-! ### The active descriptor (R303 to R306) -/

/-- A 32-bit word of a descriptor. -/
def descWord (d : List Byte) (off : Nat) : Nat := leNat (slice d off 4)

/-- Bits of CTRL (Table 14.5). -/
def hookCtrl (d : List Byte) (hi lo : Nat) : Nat := nbits (descWord d 0) hi lo

def hookIn (d : List Byte) : Tens := tensOf (slice d 0x10 16)
def hookOut (d : List Byte) : Tens := tensOf (slice d 0x20 16)

/-- The regrouping factor f. -/
def hookF (d : List Byte) : Nat := if hookCtrl d 4 4 = 0 then 2 else 4

/-- Whether the descriptor reads a line ring, and whose. -/
def hookRing (d : List Byte) : Option Nat := if 8 ≤ hookCtrl d 11 8 then some (hookCtrl d 11 8 - 8) else none

/-- Element size of the mode. -/
def hookE (d : List Byte) : Nat := if hookCtrl d 6 6 = 1 then 2 else 1

/-- Bytes of a CONV's weights without the biases. -/
def hookWgtBytes (d : List Byte) : Nat :=
  (hookOut d).c * hookCtrl d 15 12 * hookCtrl d 19 16 * (hookIn d).c * hookE d

/-- Bytes loaded at WGT: the weights, then the biases at the next 4-byte boundary (R305). -/
def hookLoadBytes (d : List Byte) : Nat := roundUp (hookWgtBytes d) 4 + 4 * (hookOut d).c

/-- A tensor whose format a CONV of the mode takes: `planar` is the planar layout it takes, if any. -/
def convFormat (d : List Byte) (t : Tens) (planar block : Bool) : Bool :=
  let bf := hookCtrl d 6 6 == 1
  (planar && t.layout == (if bf then 3 else 0)) || (block && !t.planar && t.elem == bf.toNat)

/-- The limits and formats of R298, R303, R304: whether the descriptor breaks one (BAD_DESC). -/
def hookBad (d : List Byte) : Bool :=
  let i := hookIn d
  let o := hookOut d
  let op := hookCtrl d 3 0
  let src := hookCtrl d 11 8
  let kh := hookCtrl d 15 12
  let kw := hookCtrl d 19 16
  let rsvd := hookCtrl d 31 28 != 0 || nbits (descWord d 4) 23 21 != 0 || nbits (leNat (slice d 8 8)) 63 40 != 0 ||
    nbits (descWord d 0x30) 31 30 != 0 || leNat (slice d 0x34 8) != 0
  let ring := (hookRing d).isSome
  let conv := decide (1 ≤ kh ∧ 1 ≤ kw ∧ hookCtrl d 24 22 < kh ∧ hookCtrl d 27 25 < kw ∧
    hookWgtBytes d + 4 * o.c ≤ 32768 ∧ leNat (slice d 8 8) % 64 = 0)
  rsvd || src.blt 8 && src != 0 || decide (13 < src) || !i.valid (!ring) || !o.valid true ||
    (ring && !(i.layout == 0 || (i.layout == 1 && decide (i.c ≤ 15)))) ||
    (match op with
    | 1 => !(conv && decide (kh ≤ 7 ∧ kw ≤ 7 ∧ i.c ≤ 15 ∧ o.c ≤ 256) && convFormat d i true true && convFormat d o false true)
    | 2 => !(conv && decide (kh ≤ 3 ∧ kw ≤ 3 ∧ hookCtrl d 21 20 = 0 ∧ i.c ≤ 1024 ∧ o.c ≤ 8) && !ring &&
        convFormat d i false true && convFormat d o true false)
    | 3 => o.planar || o.e != i.e
    | 4 => ring || i.planar || o.planar || o.e != i.e || i.c % (hookF d * hookF d) != 0
    | _ => true)

/-- Whether the sizes of a regrouping disagree (R304, R306: BAD_SHAPE). -/
def hookShape (d : List Byte) : Bool :=
  let i := hookIn d
  let o := hookOut d
  let f := hookF d
  match hookCtrl d 3 0 with
  | 3 => !(o.c == f * f * i.cp && i.w % f == 0 && i.h % f == 0 && o.w * f == i.w && o.h * f == i.h)
  | 4 => !(o.c * (f * f) == i.c && o.w == i.w * f && o.h == i.h * f)
  | _ => false

/-- Whether the input tensor is what receiver `n` puts out (R310). -/
def State.ringMatches (s : State) (n : Nat) (t : Tens) : Bool :=
  t.c == s.ispC n && t.w == s.ispW n && t.h == s.ispH n && t.layout == s.ispOut n && t.elem == 0

/-! ### Ends (R309) -/

/-- The head descriptor of engine `e` ends with a code: STATUS in memory and HOOK_LAST, the counts, the interrupts, the
notifications unless it was cancelled; the next may start. -/
def State.hookEnd (s : State) (e code : Nat) : State :=
  let x := s.hookOf e
  match x.queue with
  | [] => s
  | (a, _) :: rest =>
    let status := code + 0x100 + (if x.active then x.row else 0) % 65536 * 65536
    let s := (s.unitWrite (s.hookReq e) (a * 64 + 0x3C) (leBytes 4 status)).2
    let s := ((s.setReg (HOOK_LAST e) (word status)).setReg (HOOK_LAST_ADDR e) (word a)).irq (0x058 + e) (if code = 0 then 0 else 1)
    let s := if code = 0 then s.bumpSat (HOOK_DONE e) 15 0 else s.bumpSat (HOOK_DONE e) 31 16
    let s := if code = 0x12 then s.irq (0x058 + e) 2 else s
    let s := s.setHook e { x with queue := rest, active := false, desc := [], row := 0 }
    if code = 0x14 ∨ x.desc = [] then s else s.note (s.pageOwner (0x058 + e)) (word (descWord x.desc 0x30))

/-- Cancel the descriptors of engine `e` for which `p` holds of who enqueued them (R311); one that is not active ends
where it stands in the queue. The weight buffer is empty afterwards (R307) unless a descriptor that stays runs on it. -/
def State.hookCancelIf (s : State) (e : Nat) (p : Req → Bool) : State :=
  let q := (s.hookOf e).queue
  let s := match q with
    | (_, r) :: _ => if p r then s.hookEnd e 0x14 else s
    | [] => s
  let x := s.hookOf e
  let head := if x.active then x.queue.take 1 else []
  let wait := if x.active then x.queue.drop 1 else x.queue
  let out := wait.filter fun d => p d.2
  let s := out.foldl (fun s d => (s.setHook e { (s.hookOf e) with queue := [d], active := false }).hookEnd e 0x14) s
  let s := s.setHook e { (s.hookOf e) with queue := head ++ wait.filter (fun d => !p d.2), active := x.active, desc := x.desc, row := x.row }
  if !x.active && q.any (fun d => p d.2) then s.setHook e { s.hookOf e with wbuf := none } else s

/-- Cancel every descriptor and empty the weight buffer (R307, R311). -/
def hookCancel (e : Nat) (s : State) : State :=
  let s := s.hookCancelIf e fun _ => true
  s.setHook e { (s.hookOf e) with wbuf := none }

/-- HOOK goes OFF: the queue and the buffer are lost, no STATUS is written (R312). -/
def State.hookLost (s : State) : State := { s with hook := [] }

/-! ### Activation (R307, R310) -/

/-- HOOK_QUEUE. -/
def hookQueue (q : Req) (e : Nat) (v : Word) (s : State) : State :=
  let x := s.hookOf e
  if bits v 31 28 ≠ 0 then s.fail q (HOOK_QUEUE e) 0x11
  else if 8 ≤ x.queue.length then s.fail q (HOOK_QUEUE e) 0x10
  else s.setHook e { x with queue := x.queue ++ [((bits v 27 0), q)] }

/-- The code of the checks at activation, on a fetched descriptor; 0 to go on. -/
def State.hookCheck (s : State) (e : Nat) (d : List Byte) : Nat :=
  if hookBad d then 0x11
  else if hookShape d then 0x13
  else if hookCtrl d 7 7 = 1 ∧ (s.hookOf e).wbuf = none then 0x11
  else match hookRing d with
    | none => 0
    | some n =>
      if s.pageOwner (0x044 + n) ≠ s.pageOwner (0x058 + e) then 1
      else if !s.csiOn n then 2
      else if !s.ringMatches n (hookIn d) then 0x13 else 0

/-- The weights read for a descriptor: code and state; the bytes past them stay as they were. -/
def State.hookLoad (s : State) (e : Nat) (d : List Byte) : Nat × State :=
  let n := hookLoadBytes d
  if hookCtrl d 7 7 = 1 ∨ 3 ≤ hookCtrl d 3 0 then (0, s)
  else
    let (c, bs, s) := s.engineRead (s.hookReq e) (nbits (leNat (slice d 8 8)) 39 0) n
    if c ≠ 0 then (c, s)
    else
      let x := s.hookOf e
      (0, s.setHook e { x with wbuf := some (bs ++ (x.wbuf.getD []).drop n) })

/-- The head descriptor becomes active: fetched, checked, its weights loaded; one that fails a check ends. -/
def hookActivate (e : Nat) (s : State) : State :=
  let x := s.hookOf e
  match x.queue with
  | [] => s
  | (a, _) :: _ =>
    if x.active ∨ !s.domOn 11 then s
    else
      let (c, d, s) := s.engineRead (s.hookReq e) (a * 64) 64
      let s := s.setHook e { s.hookOf e with active := true, row := 0, desc := if c = 0 then d else [] }
      if c ≠ 0 then s.hookEnd e c
      else
        let c := s.hookCheck e d
        if c = 1 then (s.logRefusal (s.hookReq e) (a * 64) false 1).hookEnd e 1
        else if c ≠ 0 then s.hookEnd e c
        else
          let (c, s) := s.hookLoad e d
          let s := s.openCount (HOOK_BUSY_CYC e)
          if c ≠ 0 then s.hookEnd e c
          else s.setHook e { s.hookOf e with frame := ((hookRing d).map fun n => (s.camera n).frames).getD 0 }

/-! ### Rows (R305, R306, R308, R310) -/

/-- The input rows output row `r` reads (those inside the input). -/
def hookRows (d : List Byte) (r : Nat) : List Nat :=
  let h := (hookIn d).h
  match hookCtrl d 3 0 with
  | 3 => (List.range (hookF d)).map fun i => r * hookF d + i
  | 4 => [r / hookF d]
  | _ => ((List.range (hookCtrl d 15 12)).filter fun ky =>
      hookCtrl d 24 22 ≤ r * (hookCtrl d 21 20 + 1) + ky && r * (hookCtrl d 21 20 + 1) + ky < h + hookCtrl d 24 22).map
        fun ky => r * (hookCtrl d 21 20 + 1) + ky - hookCtrl d 24 22

/-- Whether the frame of a ring descriptor has started and its lines for row `r` are complete. -/
def State.ringReady (s : State) (e n r : Nat) : Bool :=
  let x := s.hookOf e
  decide (x.frame < (s.camera n).frames) && (hookRows x.desc r).all fun y => decide (y < s.fld (CSI_LINE_CNT n) 15 0)

/-- Read one row of the input: code, the bytes of its parts, state. -/
def State.hookReadRow (s : State) (e : Nat) (d : List Byte) (y : Nat) : Nat × List (List Byte) × State :=
  match hookRing d with
  | some n =>
    let line := ((s.camera n).ring.find? fun l => l.1 == y).map (·.2)
    let t := hookIn d
    match line with
    | none => (0x12, [], s)
    | some l => (0, t.pack (fun c x => at' 0 (at' [] l c) x), s)
  | none =>
    ((hookIn d).rowParts y).foldl (fun (c, acc, s) (a, n) =>
      if c ≠ 0 then (c, acc, s)
      else
        let (c, bs, s) := s.engineRead (s.hookReq e) a n
        (c, acc ++ [bs], s)) (0, [], s)

/-- Read rows: the rows read, by row number. -/
def State.hookReadRows (s : State) (e : Nat) (d : List Byte) (ys : List Nat) : Nat × List (Nat × List (List Byte)) × State :=
  ys.foldl (fun (c, acc, s) y =>
    if c ≠ 0 then (c, acc, s)
    else
      let (c, p, s) := s.hookReadRow e d y
      (c, acc ++ [(y, p)], s)) (0, [], s)

/-- Byte `i` of the weight buffer. -/
def wbufByte (w : List Byte) (i : Nat) : Byte := (w[i]?).getD (Config.weightByte i)

/-- `n` bytes of the weight buffer. -/
def wbufNat (w : List Byte) (i n : Nat) : Nat := leNat ((List.range n).map fun j => wbufByte w (i + j))

/-- The inputs of one output pixel's products: weight index and the element, for the taps inside the input. -/
def convTaps (d : List Byte) (rows : List (Nat × List (List Byte))) (r ox co : Nat) : List (Nat × Nat) :=
  let t := hookIn d
  let st := hookCtrl d 21 20 + 1
  let kh := hookCtrl d 15 12
  let kw := hookCtrl d 19 16
  (List.range (kh * kw * t.c)).filterMap fun i =>
    let ky := i / t.c / kw
    let kx := i / t.c % kw
    let y := r * st + ky
    let x := ox * st + kx
    if hookCtrl d 24 22 ≤ y ∧ hookCtrl d 27 25 ≤ x ∧ x - hookCtrl d 27 25 < t.w then
      match rows.find? fun p => p.1 == y - hookCtrl d 24 22 with
      | some p => some (co * (kh * kw * t.c) + i, t.at p.2 (i % t.c) (x - hookCtrl d 27 25))
      | none => none
    else none

/-- An INT8 output value, as a byte (R305). -/
def convInt8 (d w : List Byte) (rows : List (Nat × List (List Byte))) (r ox co : Nat) : Nat :=
  let planar := (hookIn d).planar
  let zero : Int := if planar then nbits (descWord d 4) 31 24 else 0
  let sum := (convTaps d rows r ox co).foldl (fun (a : Int) (i, v) =>
    a + signed 8 (wbufByte w i).toNat * ((if planar then (v : Int) else signed 8 v) - zero)) 0
  let acc := signed 32 (ofInt (sum + signed 32 (wbufNat w (roundUp (hookWgtBytes d) 4 + 4 * co) 4))).toNat
  let y := requant acc (nbits (descWord d 4) 15 0) (nbits (descWord d 4) 20 16)
  (ofInt (if hookCtrl d 5 5 = 1 ∧ y < 0 then 0 else y)).toNat % 256

/-- A BF16 output value (R305). -/
def convBf16 (d w : List Byte) (rows : List (Nat × List (List Byte))) (r ox co : Nat) : Nat :=
  let planar := (hookIn d).planar
  let act (v : Nat) : Nat :=
    if planar then (bf16.encode false (FVal.ofInt ((v : Int) - nbits (descWord d 4) 31 24 * 256))).1 else v
  let sum := (convTaps d rows r ox co).foldl (fun a (i, v) =>
    addF32 a ((bf16.decode (wbufNat w (2 * i) 2)).mul (bf16.decode (act v)))) 0
  let y := (bf16.encode false ((fp32.decode sum).add (fp32.decode (wbufNat w (roundUp (hookWgtBytes d) 4 + 4 * co) 4)))).1
  if hookCtrl d 5 5 = 1 ∧ y.testBit 15 ∧ !(bf16.decode y).isNan then 0 else y

/-- The elements of output row `r` (R305, R306). -/
def hookElem (d w : List Byte) (rows : List (Nat × List (List Byte))) (r c x : Nat) : Nat :=
  let i := hookIn d
  let f := hookF d
  let pick (y : Nat) : List (List Byte) := ((rows.find? fun p => p.1 == y).map (·.2)).getD []
  match hookCtrl d 3 0 with
  | 3 =>
    let g := c / i.cp
    if c % i.cp < i.c then i.at (pick (r * f + g / f)) (c % i.cp) (x * f + g % f) else 0
  | 4 => i.at (pick (r / f)) ((r % f * f + x % f) * (i.c / (f * f)) + c) (x / f)
  | _ => if hookCtrl d 6 6 = 1 then convBf16 d w rows r x c else convInt8 d w rows r x c

/-- Write the parts of a row: the code of the first write that does not return OK. -/
def State.writeParts (s : State) (q : Req) (parts : List (Nat × Nat)) (bs : List (List Byte)) : Nat × State :=
  (parts.zip bs).foldl (fun (c, s) ((a, _), b) => if c ≠ 0 then (c, s) else s.engineWrite q a b) (0, s)

/-- An output row starts once its input lines are there, and is written; a failing access ends the descriptor. -/
def hookRowStart (e : Nat) (s : State) : State :=
  let x := s.hookOf e
  let d := x.desc
  if !x.active ∨ !s.domOn 11 ∨ (hookOut d).h ≤ x.row then s
  else if (hookRing d).any fun n => !s.ringReady e n x.row then s
  else
    let (c, rows, s) := s.hookReadRows e d (hookRows d x.row)
    if c ≠ 0 then s.hookEnd e c
    else
      let o := hookOut d
      let (c, s) := s.writeParts (s.hookReq e) (o.rowParts x.row) (o.pack (hookElem d (x.wbuf.getD []) rows x.row))
      let s := s.openCount (HOOK_BUSY_CYC e)
      if c ≠ 0 then s.hookEnd e c else s.setHook e { s.hookOf e with row := x.row + 1 }

/-- The descriptor ends with OK once its last row is written (R309). -/
def hookDescEnd (e : Nat) (s : State) : State :=
  let x := s.hookOf e
  if x.active ∧ s.domOn 11 ∧ (hookOut x.desc).h ≤ x.row then s.hookEnd e 0 else s

/-- HOOK_STATUS. -/
def State.hookStatus (s : State) (e : Nat) : Word :=
  let x := s.hookOf e
  let ring := if x.active then hookRing x.desc else none
  let fs := ring.any fun n => (s.camera n).frames ≤ x.frame
  let line := !fs && ring.any fun n => x.row < (hookOut x.desc).h && !s.ringReady e n x.row
  word (x.queue.length + x.active.toNat * 0x10 + fs.toNat * 0x20 + line.toNat * 0x40 + x.row % 65536 * 65536)

/-! ### Rings that stop or run over (R310) -/

/-- End the active descriptors that read receiver `n`'s ring and for which `p` holds. -/
def State.ringEnd (s : State) (n code : Nat) (p : State → Nat → Bool) : State :=
  (List.range 2).foldl (fun s e =>
    let x := s.hookOf e
    if x.active ∧ hookRing x.desc = some n ∧ p s e then s.hookEnd e code else s) s

/-- Stream or page `n` stops: SOURCE_STOPPED. -/
def State.ringStopped (s : State) (n : Nat) : State := if n < 6 then s.ringEnd n 0x15 fun _ _ => true else s

/-- Line L + 16 is complete while the descriptor still needs line L. -/
def State.ringOver (s : State) (n : Nat) : State :=
  s.ringEnd n 0x12 fun s e =>
    let x := s.hookOf e
    x.frame < (s.camera n).frames && x.row < (hookOut x.desc).h &&
      ((hookRows x.desc x.row).head?).any fun l => l + 17 ≤ s.fld (CSI_LINE_CNT n) 15 0

/-- A new frame starts while a descriptor still needs lines of the one before. -/
def State.ringLapped (s : State) (n : Nat) : State :=
  s.ringEnd n 0x12 fun s e =>
    let x := s.hookOf e
    x.frame < (s.camera n).frames && x.row < (hookOut x.desc).h

/-! ### Meanings -/

def execHookQueue (q : Req) (e : Nat) (v : Word) (s : State) : Host.Outcome State Fault Refusal :=
  only (q.wf && decide (e < 2)) s (s.writeVia q (HOOK_QUEUE e) v (hookQueue q e v))
def execHookDescActivate (e : Nat) (s : State) : Host.Outcome State Fault Refusal :=
  only (decide (e < 2)) s (s.heldIdle (0x058 + e) (s.engine (hookActivate e)))
def execHookRowStart (e : Nat) (s : State) : Host.Outcome State Fault Refusal :=
  only (decide (e < 2)) s (s.heldIdle (0x058 + e) (s.engine (hookRowStart e)))
def execHookDescEnd (e : Nat) (s : State) : Host.Outcome State Fault Refusal :=
  only (decide (e < 2)) s (s.heldIdle (0x058 + e) (hookDescEnd e s))
def execHookCancel (q : Req) (e : Nat) (v : Word) (s : State) : Host.Outcome State Fault Refusal :=
  only (q.wf && decide (e < 2)) s (s.writeVia q (HOOK_CANCEL e) v (fun s => if bit v 0 then hookCancel e s else s))
def execCsiFrameStart (p : ShortPacket) (s : State) : Host.Outcome State Fault Refusal :=
  only (decide (p.n < 6)) s (s.heldIdle (0x044 + p.n) (csiFrameStart p (if s.csiOn p.n && s.strmState p.n == 1 && p.ecc < 2 then s.ringLapped p.n else s)))
def execIspLineDone (n : Nat) (s : State) : Host.Outcome State Fault Refusal :=
  only (decide (n < 6)) s (s.heldIdle (0x044 + n) ((ispLineDone n s).ringOver n))

end Sys2Proof.Machine
end

