-- ==== Sys2Proof/Machine/Recur.lean ====
section
/-! DEFINITION. The recurrent state unit (R314 to R326). -/

namespace Sys2Proof.Machine

/-! ### The table and its commands (R314, R322) -/

/-- Entry `i`; none where it is FREE. -/
def State.sentry (s : State) (i : Nat) : Option SEntry := s.su.table.get (fun _ => none) i

/-- `s` with an entry replaced. -/
def State.setSentry (s : State) (i : Nat) (x : Option SEntry) : State :=
  { s with su.table := s.su.table.set (fun _ => none) i x }

/-- The eight words of an entry (Table 15.1). -/
def sentryWords (x : SEntry) : List Word :=
  [ word x.ptr, word (x.ptr / 0x100000000),
    word (x.op + x.fmt.toNat * 8 + x.reset.toNat * 0x10 + x.pause.toNat * 0x20 + x.asig.toNat * 0x40 + x.cur * 0x80 +
      x.sat.toNat * 0x100 + x.km1 * 0x200 + x.pos * 0x4000 + x.owner * 0x100000 + 0x1000000),
    word x.n, x.scale, x.step, word x.gen, 0 ]

/-- Bytes of N values of 32 bits, padded to whole lines (R315). -/
def l32 (n : Nat) : Nat := ceilDiv n 16 * 64
/-- Bytes of N values of 8 bits. -/
def l8 (n : Nat) : Nat := ceilDiv n 64 * 64
/-- Bytes of N values of 16 bits. -/
def l16 (n : Nat) : Nat := ceilDiv n 32 * 64

/-- Vectors in one copy of the state. -/
def opVectors (op : Nat) : Nat := if op = 1 then 2 else 1

/-- Bytes of the whole state region (Table 15.2). -/
def regionBytes (op n km1 : Nat) : Nat := (if op = 4 then km1 + 1 else 2 * opVectors op) * l32 n

/-- Whether a range lies wholly within tenant `t`'s skeins: granules it owns, or that a SHARED skein of it could take. -/
def State.withinSkeins (s : State) (t a n : Nat) : Bool :=
  match granulesOf a n with
  | none => false
  | some gs => gs.all fun g =>
    let e := s.ownOf g
    (ownedBy e t && !e.testBit 11) || (e % 4 == 0 && (s.sharedAt t g) != [])

/-- Post the outcome of a window's command. -/
def State.statePost (s : State) (t code : Nat) : State :=
  (s.setFlag (STATE_T_STAT t) 0 false).setFld (STATE_T_STAT t) 15 8 code

/-- LIVE entries of tenant `t`. -/
def State.liveOf (s : State) (t : Nat) : Nat := (s.su.table.filter fun e => e.2.any fun x => x.owner == t).length

/-- START (R322). -/
def State.stateStart (s : State) (t : Nat) : State :=
  let cfg := (s.reg (STATE_T_CFG t)).toNat
  let ptr := s.reg64 (STATE_T_PTR_LO t) (STATE_T_PTR_HI t)
  let op := nbits cfg 2 0
  let n := nbits cfg 28 16
  let km1 := nbits cfg 13 9
  if op = 0 ∨ 4 < op ∨ n = 0 ∨ 4096 < n ∨ (op = 4 ∧ km1 = 0) ∨ ptr % 64 ≠ 0 then s.statePost t 0x12
  else if !s.withinSkeins t ptr (regionBytes op n km1) then
    (s.logRefusal (unitReq t) (regBase + STATE_T_CMD t) true 4).statePost t 1
  else if s.fld (STATE_QUOTA t) 10 0 ≤ s.liveOf t then s.statePost t 6
  else match (List.range 1024).find? fun i => (s.sentry i).isNone with
    | none => s.statePost t 0x13
    | some i =>
      let x : SEntry := { ptr := ptr, op := op, fmt := cfg.testBit 3, reset := true, asig := cfg.testBit 6, km1 := km1
                          owner := t, n := n, scale := s.reg (STATE_T_SCALE t), gen := s.fld (ADSEL_T_INFO t) 15 0 }
      ((s.setSentry i (some x)).setReg (STATE_T_RESULT t) (word i)).statePost t 0

/-- The entry the active step names. -/
def State.activeEntry (s : State) : Option Nat := s.su.active.map fun a => descWord a.1 0 % 1024

/-- STATE_T_CMD (R322): ignored while BUSY. END waits for the active step on its entry. -/
def stateCommand (t : Nat) (v : Word) (s : State) : State :=
  let op := bits v 2 0
  if s.flag (STATE_T_STAT t) 0 ∨ op = 0 ∨ 6 < op then s
  else
    let i := bits v 25 16
    let s := s.setFld (STATE_T_STAT t) 31 16 (s.fld (STATE_T_STAT t) 31 16 + 1)
    if op = 1 then s.stateStart t
    else match s.sentry i with
      | none => (s.logRefusal (unitReq t) (regBase + STATE_T_CMD t) true 1).statePost t 1
      | some x =>
        if x.owner ≠ t then (s.logRefusal (unitReq t) (regBase + STATE_T_CMD t) true 1).statePost t 1
        else match op with
          | 2 => (s.setSentry i (some { x with pause := true })).statePost t 0
          | 3 => (s.setSentry i (some { x with pause := false })).statePost t 0
          | 4 => (({ s with su.again := s.su.again || s.activeEntry == some i } : State).setSentry i (some { x with reset := true })).statePost t 0
          | 5 =>
            if s.activeEntry = some i then
              ({ s with su.ends := s.su.ends ++ [(t, i)] } : State).setFlag (STATE_T_STAT t) 0 true
            else (s.setSentry i none).statePost t 0
          | _ => (((sentryWords x).zipIdx).foldl (fun s (w, k) => s.setReg (STATE_T_ENTRY t k) w) s).statePost t 0

/-- The END commands on an entry whose step is no longer active take effect. -/
def State.stateEnds (s : State) : State :=
  let s' := s.su.ends.foldl (fun s e => (s.setSentry e.2 none).statePost e.1 0) s
  { s' with su.ends := [] }

/-! ### Steps (R316 to R321) -/

/-- STATE_T_SUBMIT (R323). -/
def stateSubmit (q : Req) (t : Nat) (v : Word) (s : State) : State :=
  if bits v 31 28 ≠ 0 then s.fail q (STATE_T_SUBMIT t) 0x15
  else if 32 ≤ s.su.queue.length then s.fail q (STATE_T_SUBMIT t) 0x10
  else { s with su.queue := s.su.queue ++ [((bits v 27 0), t, q)] }

/-- The head step ends (R321): STATUS with STEP of the entry where the step may name it, STATE_LAST, the interrupts;
NOTE unless it was cancelled. -/
def State.stepEnd (s : State) (code : Nat) (desc : List Byte) : State :=
  match s.su.queue with
  | [] => s
  | (a, t, _) :: rest =>
    let step := match s.sentry (descWord desc 0 % 1024) with
      | some x => if desc ≠ [] ∧ x.owner = t then x.step.toNat % 65536 else 0
      | none => 0
    let status := code + 0x100 + step * 0x10000
    let s := (s.unitWrite (unitReq t) (a * 64 + 0x3C) (leBytes 4 status)).2
    let s := (s.setReg STATE_LAST (word status)).irq 0x05B (if code = 0 then 0 else 1)
    let s := ({ s with su.queue := rest, su.active := none } : State).stateEnds
    if code = 0x14 ∨ desc = [] then s else s.note t (word (descWord desc 0x20))

/-- Whether a step descriptor has a reserved bit or value set (R316). -/
def stepRsvd (d : List Byte) : Bool :=
  let w := descWord d 0
  nbits w 15 10 != 0 || nbits w 31 19 != 0 || nbits w 17 16 == 3 || nbits (leNat (slice d 8 8)) 63 40 != 0 ||
    nbits (leNat (slice d 0x10 8)) 63 40 != 0 || descWord d 0x1C != 0 || nbits (descWord d 0x20) 31 30 != 0 ||
    leNat (slice d 0x24 24) != 0

/-- A step reaches the head and is checked (R319). -/
def stepActivate (s : State) : State :=
  match s.su.queue with
  | [] => s
  | (a, t, _) :: _ =>
    if s.su.active.isSome ∨ !s.domOn 2 then s
    else
      let (c, d, s) := s.engineRead (unitReq t) (a * 64) 64
      if c ≠ 0 then s.stepEnd c []
      else match s.sentry (descWord d 0 % 1024) with
        | none => (s.logRefusal (unitReq t) (a * 64) false 1).stepEnd 1 d
        | some x =>
          if x.owner ≠ t then (s.logRefusal (unitReq t) (a * 64) false 1).stepEnd 1 d
          else if stepRsvd d then s.stepEnd 0x15 d
          else if x.pause then s.stepEnd 0x11 d
          else { s with su.active := some (d, x.reset), su.again := false }

/-! FP32 steps, each rounded (R317). -/

def f32add (a b : Nat) : Nat := (fp32.encode false ((fp32.decode a).add (fp32.decode b))).1
def f32mul (a b : Nat) : Nat := (fp32.encode false ((fp32.decode a).mul (fp32.decode b))).1
def f32sub (a b : Nat) : Nat := (fp32.encode false ((fp32.decode a).add (fp32.decode b).neg)).1
def f32one : Nat := 0x3F800000

/-- A quotient rounded to an integer of `w` bits, ties to even, saturating, NaN to 0; and whether it saturated. -/
def divToInt (w : Nat) (x d : FVal) : Int × Bool :=
  match x, d with
  | .nan, _ => (0, false)
  | _, .nan => (0, false)
  | .inf _, .inf _ => (0, false)
  | .inf a, .fin b _ _ => FVal.toInt w false (.inf (a != b))
  | .fin .., .inf _ => (0, false)
  | .fin a m e, .fin b n f =>
    if n = 0 then (if m = 0 then (0, false) else FVal.toInt w false (.inf (a != b)))
    else
      let k := e - f
      let num := if 0 ≤ k then m * 2 ^ k.toNat else m
      let den := if 0 ≤ k then n else n * 2 ^ (-k).toNat
      let q := num / den
      let r := num % den
      let q := if den < 2 * r ∨ (2 * r = den ∧ q % 2 = 1) then q + 1 else q
      let v : Int := if a != b then -(q : Int) else q
      (clampS w v, clampS w v != v)

/-- A stored or input integer times a scale, in FP32. -/
def scaled (w v scale : Nat) : Nat := (fp32.encode false ((FVal.ofInt (signed w v)).mul (fp32.decode scale))).1

/-- The N values of a vector of 32-bit state. -/
def stateVals (x : SEntry) (bs : List Byte) : List Nat :=
  (List.range x.n).map fun i =>
    let v := leNat (slice bs (4 * i) 4)
    if x.fmt then scaled 32 v x.scale.toNat else v

/-- A state value as stored, and whether it saturated (R315). -/
def stateStore (x : SEntry) (v : Nat) : Nat × Bool :=
  if x.fmt then
    let (q, sat) := divToInt 32 (fp32.decode v) (fp32.decode x.scale.toNat)
    ((ofInt q).toNat, sat)
  else (v, false)

/-- The N values of input part `p` (R316). -/
def inputVals (d : List Byte) (n : Nat) (bs : List Byte) : List Nat :=
  (List.range n).map fun i => match nbits (descWord d 0) 17 16 with
    | 0 => scaled 32 (leNat (slice bs (4 * i) 4)) (descWord d 4)
    | 1 => leNat (slice bs (4 * i) 4)
    | _ => scaled 8 (leNat (slice bs i 1)) (descWord d 4)

/-- Input parts of an operator (Table 15.4). -/
def opParts (op : Nat) : Nat := match op with
  | 1 => 4
  | 2 => 4
  | 3 => 2
  | _ => 1

/-- The update of one element: the new state values and the output (Table 15.4). -/
def stateUpdate (x : SEntry) (i st : List Nat) : List Nat × Nat :=
  let p (k : Nat) : Nat := at' 0 i k
  let h := at' 0 st 0
  match x.op with
  | 1 =>
    let c := f32add (f32mul (sigma32 (p 1)) (at' 0 st 1)) (f32mul (sigma32 (p 0)) (tanh32 (p 2)))
    let h := f32mul (sigma32 (p 3)) (tanh32 c)
    ([h, c], h)
  | 2 =>
    let z := sigma32 (p 0)
    let n := tanh32 (f32add (p 2) (f32mul (sigma32 (p 1)) (p 3)))
    let h := f32add (f32mul (f32sub f32one z) n) (f32mul z h)
    ([h], h)
  | _ =>
    let a := if x.asig then sigma32 (p 0) else p 0
    let h := f32add (f32mul a h) (p 1)
    ([h], h)

/-- An output vector: its bytes, padded, and whether a value saturated (R317). -/
def outBytes (d : List Byte) (n : Nat) (vals : List Nat) : List Byte × Bool :=
  if (descWord d 0).testBit 18 then
    ((vals.flatMap fun v => leBytes 2 (bf16.encode false (fp32.decode v)).1) ++ List.replicate (l16 n - 2 * n) 0, false)
  else
    let rs := vals.map fun v => divToInt 8 (fp32.decode v) (fp32.decode (descWord d 0x18))
    ((rs.map fun r => byte (ofInt r.1).toNat) ++ List.replicate (l8 n - n) 0, rs.any (·.2))

/-- Read N-vectors at addresses: the first code that is not OK; vectors are whole 64-byte lines (R315, R316). -/
def State.readVecs (s : State) (q : Req) (n : Nat) (as : List Nat) : Nat × List (List Byte) × State :=
  as.foldl (fun (c, acc, s) a =>
    if c ≠ 0 then (c, acc, s)
    else
      let (c, bs, s) := if a % 64 ≠ 0 then (3, [], s) else s.engineRead q a n
      (c, acc ++ [bs], s)) (0, [], s)

/-- Write ranges in order: the first code that is not OK. -/
def State.writeVecs (s : State) (q : Req) (l : List (Nat × List Byte)) : Nat × State :=
  l.foldl (fun (c, s) (a, bs) => if c ≠ 0 then (c, s) else s.engineWrite q a bs) (0, s)

/-- A step's writes, each of whole 64-byte lines. -/
def State.writeLines (s : State) (q : Req) (l : List (Nat × List Byte)) : Nat × State :=
  match s.writeVecs q (l.takeWhile fun w => w.1 % 64 == 0) with
  | (0, s) => (if l.all fun w => w.1 % 64 == 0 then 0 else 3, s)
  | r => r

/-- A step's vectors to write, in order, its SAT, from the state and input vectors read (R317, R318). -/
def stepWrites (x : SEntry) (d : List Byte) (reset : Bool) (st ins : List (List Byte)) : List (Nat × List Byte) × Bool :=
  let l := l32 x.n
  let out := nbits (leNat (slice d 0x10 8)) 39 0
  let lo := if (descWord d 0).testBit 18 then l16 x.n else l8 x.n
  let vals := ins.map (inputVals d x.n)
  let old := st.map fun v => if reset then List.replicate x.n 0 else stateVals x v
  let vec (vs : List (Nat × Bool)) : List Byte := (vs.flatMap fun v => leBytes 4 v.1) ++ List.replicate (l - 4 * x.n) 0
  if x.op = 4 then
    let k := x.km1 + 1
    let frame := at' [] vals 0
    let stored := frame.map (stateStore x)
    let zeros := if reset then (List.range x.km1).map fun i => (x.ptr + (x.pos + i) % k * l, List.replicate l (0 : Byte)) else []
    let frames := (old ++ [frame]).map (outBytes d x.n)
    (zeros ++ [(x.ptr + (x.pos + x.km1) % k * l, vec stored)] ++ (frames.zipIdx.map fun f => (out + f.2 * lo, f.1.1)),
      stored.any (·.2) || frames.any (·.2))
  else
    let rs := (List.range x.n).map fun i => stateUpdate x (vals.map fun v => at' 0 v i) (old.map fun v => at' 0 v i)
    let stored := (List.range (opVectors x.op)).map fun k => rs.map fun r => stateStore x (at' 0 r.1 k)
    let base := x.ptr + (1 - x.cur) * (opVectors x.op * l)
    let o := outBytes d x.n (rs.map (·.2))
    ((stored.zipIdx.map fun v => (base + v.2 * l, vec v.1)) ++ [(out, o.1)], stored.any (fun v => v.any (·.2)) || o.2)

/-- The addresses of the state vectors a step reads (R317). -/
def stepStateAddrs (x : SEntry) : List Nat :=
  let l := l32 x.n
  if x.op = 4 then (List.range x.km1).map fun i => x.ptr + (x.pos + i) % (x.km1 + 1) * l
  else (List.range (opVectors x.op)).map fun k => x.ptr + x.cur * (opVectors x.op * l) + k * l

/-- The active step reads, computes, writes and commits (R317, R318); an access that does not return OK ends it with the
entry as it was. -/
def stepCommit (s : State) : State :=
  match s.su.active, s.su.queue with
  | some (d, reset), (_, t, _) :: _ =>
    let i := descWord d 0 % 1024
    match s.sentry i with
    | none => s.stepEnd 1 d
    | some x =>
      if !s.domOn 2 then s
      else
        let q := unitReq t
        let inp := nbits (leNat (slice d 8 8)) 39 0
        let li := if nbits (descWord d 0) 17 16 = 2 then l8 x.n else l32 x.n
        let as := stepStateAddrs x
        let (c, st, s) := if reset then (0, as.map fun _ => List.replicate (l32 x.n) 0, s) else s.readVecs q (l32 x.n) as
        let (c, ins, s) := if c ≠ 0 then (c, [], s)
          else s.readVecs q li ((List.range (opParts x.op)).map fun p => inp + p * li)
        if c ≠ 0 then s.stepEnd c d
        else
          let (ws, sat) := stepWrites x d reset st ins
          let (c, s) := s.writeLines q ws
          if c ≠ 0 then s.stepEnd c d
          else
            let y := (s.sentry i).getD x
            let y := { y with sat := y.sat || sat
                              reset := y.reset && (!reset || s.su.again)
                              step := if reset then 1 else y.step + 1
                              cur := if x.op = 4 then y.cur else 1 - y.cur
                              pos := if x.op = 4 then (y.pos + 1) % (y.km1 + 1) else y.pos }
            ((s.setSentry i (some y)).bumpSat STATE_STEPS 31 0).stepEnd 0 d
  | _, _ => s

/-! ### Cancellation, loss, teardown (R324, R325) -/

/-- Cancel the steps for which `p` holds: the active one stops without committing; none is notified. -/
def State.stepsCancel (s : State) (p : Nat → Req → Bool) : State :=
  let act := s.su.active
  let s := match act, s.su.queue with
    | some (d, _), (_, t, q) :: _ => if p t q then s.stepEnd 0x14 d else s
    | _, _ => s
  let a := s.su.active
  let head := if a.isSome then s.su.queue.take 1 else []
  let wait := if a.isSome then s.su.queue.drop 1 else s.su.queue
  let out := wait.filter fun e => p e.2.1 e.2.2
  let ends := s.su.ends
  let s := out.foldl (fun s e => ({ s with su.queue := [e], su.ends := [] } : State).stepEnd 0x14 []) s
  { s with su.queue := head ++ wait.filter (fun e => !p e.2.1 e.2.2), su.active := a, su.ends := ends }

/-- SOC goes OFF (R324): every entry FREE, the queue lost. -/
def State.stateLost (s : State) : State :=
  let ts := (List.range 8).filter fun t => s.liveOf t != 0 || s.su.lost.contains t
  { s with su := { lost := ts } }

/-- The next wake of SOC (R324). -/
def State.stateWoke (s : State) : State :=
  let s' := (s.irq 0x05B 2)
  let s' := s.su.lost.foldl (fun s t => s.setFlag (STATE_T_LOST t) 0 true) s'
  { s' with su.lost := [] }

/-- Free the entries of a tenant (R325, teardown step 4). -/
def State.stateFree (s : State) (t : Nat) : State :=
  s.su.table.foldl (fun s e => if e.2.any (fun x => x.owner == t) then s.setSentry e.1 none else s) s

/-- STATE_STATUS. -/
def State.stateStatus (s : State) : Word :=
  word (s.su.queue.length + s.su.active.isSome.toNat * 0x40 + (s.su.table.filter fun e => e.2.isSome).length * 0x10000 +
    (s.flag (IRQ_RAW 0x05B) 2).toNat * 0x80000000)

/-! ### Meanings -/

def execStateStart (q : Req) (ten : Nat) (v : Word) (s : State) : Host.Outcome State Fault Refusal :=
  only (q.wf && decide (ten < 8)) s (s.writeVia q (STATE_T_CMD ten) (setBits v 2 0 1) (stateCommand ten (setBits v 2 0 1)))
def execStatePause (q : Req) (ten : Nat) (v : Word) (s : State) : Host.Outcome State Fault Refusal :=
  only (q.wf && decide (ten < 8)) s (s.writeVia q (STATE_T_CMD ten) (setBits v 2 0 2) (stateCommand ten (setBits v 2 0 2)))
def execStateResume (q : Req) (ten : Nat) (v : Word) (s : State) : Host.Outcome State Fault Refusal :=
  only (q.wf && decide (ten < 8)) s (s.writeVia q (STATE_T_CMD ten) (setBits v 2 0 3) (stateCommand ten (setBits v 2 0 3)))
def execStateReset (q : Req) (ten : Nat) (v : Word) (s : State) : Host.Outcome State Fault Refusal :=
  only (q.wf && decide (ten < 8)) s (s.writeVia q (STATE_T_CMD ten) (setBits v 2 0 4) (stateCommand ten (setBits v 2 0 4)))
def execStateEnd (q : Req) (ten : Nat) (v : Word) (s : State) : Host.Outcome State Fault Refusal :=
  only (q.wf && decide (ten < 8)) s (s.writeVia q (STATE_T_CMD ten) (setBits v 2 0 5) (stateCommand ten (setBits v 2 0 5)))
def execStateRead (q : Req) (ten : Nat) (v : Word) (s : State) : Host.Outcome State Fault Refusal :=
  only (q.wf && decide (ten < 8)) s (s.writeVia q (STATE_T_CMD ten) (setBits v 2 0 6) (stateCommand ten (setBits v 2 0 6)))
def execStateTSubmit (q : Req) (ten : Nat) (v : Word) (s : State) : Host.Outcome State Fault Refusal :=
  only (q.wf && decide (ten < 8)) s (s.writeVia q (STATE_T_SUBMIT ten) v (stateSubmit q ten v))
def execStateStepActivate (s : State) : Host.Outcome State Fault Refusal :=
  only true s (s.heldIdle 0x05B (s.engine stepActivate))
def execStateStepCommit (s : State) : Host.Outcome State Fault Refusal :=
  only true s (s.heldIdle 0x05B (s.engine stepCommit))

end Sys2Proof.Machine
end

