-- ==== Sys2Proof/Machine/Voxel.lean ====
section
/-! DEFINITION. The voxel engine (R328 to R341): site sets, voxelisation, sparse convolution, bird's-eye view. -/

namespace Sys2Proof.Machine

/-- The requester of the engine's accesses (R328). -/
def State.voxReq (s : State) : Req := ⟨5, 0, s.pageOwner 0x05A⟩

/-! ### Site sets (R329, R330) -/

/-- A set descriptor (Table 16.1). -/
structure VSet where
  hash : Nat
  hbits : Nat
  sites : Nat
  feat : Nat
  c : Nat
  gx : Nat
  gy : Nat
  gz : Nat
  count : Nat
deriving DecidableEq, Repr

/-- Read the 32 bytes of a set descriptor. -/
def vsetOf (bs : List Byte) : VSet :=
  let n := leNat bs
  { hash := nbits n 39 0, hbits := nbits n 44 40, sites := nbits n 103 64, feat := nbits n 167 128, c := nbits n 174 168
    gx := nbits n 202 192 + 1, gy := nbits n 213 203 + 1, gz := nbits n 221 214 + 1, count := nbits n 242 224 }

/-- Whether a set descriptor has a reserved bit set or breaks a limit of Table 16.1. -/
def vsetBad (bs : List Byte) : Bool :=
  let n := leNat bs
  let v := vsetOf bs
  nbits n 63 45 != 0 || nbits n 127 104 != 0 || nbits n 191 175 != 0 || nbits n 223 222 != 0 || nbits n 255 243 != 0 ||
    decide (v.hbits < 10 ∨ 19 < v.hbits ∨ v.c < 1 ∨ 64 < v.c ∨ v.hash % 64 ≠ 0 ∨ v.sites % 64 ≠ 0 ∨ v.feat % 64 ≠ 0)

/-- Padded channels of a set's pixel, its stride PS. -/
def VSet.ps (v : VSet) : Nat := roundUp v.c 16

/-- Sites a set can hold. -/
def VSet.capacity (v : VSet) : Nat := 2 ^ (v.hbits - 1)

/-- The KEY of a voxel. -/
def vkey (x y z : Nat) : Nat := x + y * 0x800 + z * 0x400000

/-- The first slot of a KEY. -/
def vhash (hbits key : Nat) : Nat := key * 0x9E3779B1 % 0x100000000 / 2 ^ (32 - hbits)

/-- Probe from slot `h`: the first slot that is invalid or holds KEY, with its site index where it holds it. `look` gives a
slot's KEY and index where it is valid. -/
def vprobe (hbits key : Nat) (look : Nat → Option (Nat × Nat)) : Nat → Nat → Nat × Option Nat
  | 0, h => (h, none)
  | fuel + 1, h => match look h with
    | none => (h, none)
    | some (k, i) => if k = key then (h, some i) else vprobe hbits key look fuel ((h + 1) % 2 ^ hbits)

/-- A set while it is built: its hash slots, its KEYs in site order. -/
structure VBuild where
  slots : Tab (Option (Nat × Nat)) := []
  keys : List Nat := []
deriving DecidableEq, Repr

/-- Insert a KEY: the build and the site, none where the set is full. -/
def VBuild.insert (b : VBuild) (v : VSet) (key : Nat) : VBuild × Option Nat :=
  match vprobe v.hbits key (fun i => b.slots.get (fun _ => none) i) (2 ^ v.hbits) (vhash v.hbits key) with
  | (_, some i) => (b, some i)
  | (h, none) =>
    let i := b.keys.length
    if i < v.capacity then ({ slots := b.slots.set (fun _ => none) h (some (key, i)), keys := b.keys ++ [key] }, some i)
    else (b, none)

/-- The bytes of a built hash. -/
def VBuild.hashBytes (b : VBuild) (v : VSet) : List Byte :=
  (List.range (2 ^ v.hbits)).flatMap fun i => match b.slots.get (fun _ => none) i with
    | some (k, j) => leBytes 4 (k + 0x80000000) ++ leBytes 4 j
    | none => List.replicate 8 0

/-- Find a KEY in the bytes of a hash. -/
def vfind (v : VSet) (hash : List Byte) (key : Nat) : Option Nat :=
  (vprobe v.hbits key (fun i =>
    let w := leNat (slice hash (8 * i) 8)
    if w.testBit 31 then some (nbits w 29 0, nbits w 49 32) else none) (2 ^ v.hbits) (vhash v.hbits key)).2

/-! ### The active descriptor -/

def voxCtrl (d : List Byte) (hi lo : Nat) : Nat := nbits (descWord d 0) hi lo
def voxIn (d : List Byte) : VSet := vsetOf (slice d 0x20 32)
def voxOut (d : List Byte) : VSet := vsetOf (slice d 0x40 32)

/-- Kernel size. -/
def voxK (d : List Byte) : Nat := voxCtrl d 9 8 + 1

/-- Channels that carry point features: OUT.C less the count channel. -/
def voxF (d : List Byte) : Nat := (voxOut d).c - voxCtrl d 12 12

/-- Feature bytes of a point format. -/
def ptsFeatures (d : List Byte) : Nat := match voxCtrl d 17 16 with
  | 0 => 2
  | 1 => 8
  | _ => 0

/-- R331, R336: whether the descriptor has a reserved bit set or breaks a limit. -/
def voxBad (d : List Byte) : Bool :=
  let hi40 (o : Nat) : Bool := nbits (leNat (slice d o 8)) 63 40 != 0
  voxCtrl d 15 15 != 0 || voxCtrl d 31 19 != 0 || nbits (descWord d 0x70) 31 30 != 0 ||
    (match voxCtrl d 3 0 with
    | 1 => vsetBad (slice d 0x40 32) || hi40 8 || (descWord d 0x64).testBit 31 || nbits (descWord d 0x64) 30 16 == 0 ||
        voxCtrl d 17 16 == 3 || decide (2 ≤ voxCtrl d 11 10) || (if voxCtrl d 18 18 = 1 then voxCtrl d 17 16 != 2 else hi40 0x10) ||
        (voxCtrl d 17 16 != 2 && nbits (descWord d 0x18) 31 24 != 0)
    | 2 => vsetBad (slice d 0x20 32) || vsetBad (slice d 0x40 32) || hi40 8 || hi40 0x10 || voxK d == 4 ||
        nbits (descWord d 4) 31 21 != 0 || nbits (descWord d 0x18) 31 24 != 0 ||
        decide (131072 < voxK d ^ 3 * (voxOut d).c * (voxIn d).c + 4 * (voxOut d).c)
    | 3 => vsetBad (slice d 0x20 32) || !(tensOf (slice d 0x40 16)).valid true || voxCtrl d 14 13 == 3
    | _ => true)

/-- R333, R335, R338: whether the sizes or modes disagree. -/
def voxShape (d : List Byte) : Bool :=
  let i := voxIn d
  let o := voxOut d
  match voxCtrl d 3 0 with
  | 1 => decide (o.c < voxCtrl d 12 12 ∨ ptsFeatures d < voxF d)
  | 2 =>
    if voxCtrl d 7 7 = 0 then
      !(voxK d != 2 && o.hash == i.hash && o.hbits == i.hbits && o.sites == i.sites && o.gx == i.gx && o.gy == i.gy && o.gz == i.gz)
    else !(voxK d != 1 && o.gx == ceilDiv i.gx 2 && o.gy == ceilDiv i.gy 2 && o.gz == ceilDiv i.gz 2)
  | _ =>
    let t := tensOf (slice d 0x40 16)
    !(!t.planar && t.elem == 0 && t.w == i.gx && t.h == i.gy && decide (i.gx ≤ 512 ∧ i.gy ≤ 512) &&
      t.c == (if voxCtrl d 14 13 = 2 then i.c * i.gz else i.c) && decide (voxCtrl d 14 13 = 2 → i.c * i.gz ≤ 64))

/-- The step's work is over with a code; it ends at VOX_STEP_END. -/
def State.voxFin (s : State) (code : Nat) : State :=
  let (n, s) := s.fresh
  ({ s with vox.fin := some code, vox.wait := none } : State).setReg VOX_BUSY_CYC (Config.cycles n)

/-- The head becomes active where its OP is `op`, fetched and checked (R307, R331); answers its descriptor where its
work may go on. -/
def State.voxActivate (s : State) (op : Nat) : Option (List Byte) × State :=
  match s.vox.queue with
  | [] => (none, s)
  | (a, _) :: _ =>
    if s.vox.active ∨ !s.domOn 12 then (none, s)
    else
      let (c, d, t) := s.engineRead s.voxReq (a * 64) 128
      let t : State := { t with vox := { t.vox with active := true, desc := d, ovr := false, dropped := 0, aux := 0 } }
      if c ≠ 0 then (none, ({ t with vox.desc := [] } : State).voxFin c)
      else if voxCtrl d 3 0 ≠ op ∧ 1 ≤ voxCtrl d 3 0 ∧ voxCtrl d 3 0 ≤ 3 then (none, s)
      else if voxBad d then (none, t.voxFin 0x11)
      else if voxShape d then (none, t.voxFin 0x13)
      else (some d, t)

/-! ### VOXELISE (R332 to R334, R340) -/

/-- A point: its coordinates and features. -/
abbrev VPoint := Int × Int × Int × List Int

/-- The points of PTS8 and PTS16 data. -/
def ptsPoints (stride featOff nf : Nat) (n : Nat) (bs : List Byte) : List VPoint :=
  (List.range n).map fun i =>
    let p := slice bs (i * stride) stride
    (signed 16 (leNat (slice p 0 2)), signed 16 (leNat (slice p 2 2)), signed 16 (leNat (slice p 4 2)),
      (List.range nf).map fun k => signed 8 (leNat (slice p (featOff + k) 1)))

/-- A quotient rounded to nearest, ties away from zero. -/
def divAway (n : Int) (d : Nat) : Int :=
  if d = 0 then Config.depthByZero n
  else
    let q : Int := ((2 * n.natAbs + d) / (2 * d) : Nat)
    if n < 0 then -q else q

/-- The points of a DEPTH16 image of `w` pixels a line (R332). -/
def depthPoints (d : List Byte) (w h : Nat) (bs : List Byte) : List VPoint :=
  (List.range (w * h)).filterMap fun i =>
    let z := leNat (slice bs (2 * i) 2)
    if z = 0 then none
    else
      let x := divAway ((16 * (i % w : Nat) + 8 - (nbits (descWord d 0x6C) 15 0 : Nat) : Int) * z) (nbits (descWord d 0x68) 15 0)
      let y := divAway ((16 * (i / w : Nat) + 8 - (nbits (descWord d 0x6C) 31 16 : Nat) : Int) * z) (nbits (descWord d 0x68) 31 16)
      some (signed 32 (ofInt x).toNat, z, signed 32 (ofInt y).toNat, [])

/-- The voxel of a point, none outside the grid (R332). -/
def voxelOf (d : List Byte) (p : VPoint) : Option Nat :=
  let o := voxOut d
  let vs : Int := (nbits (descWord d 0x64) 30 16 : Nat)
  let x := (p.1 - signed 16 (nbits (descWord d 0x60) 15 0)) / vs
  let y := (p.2.1 - signed 16 (nbits (descWord d 0x60) 31 16)) / vs
  let z := (p.2.2.1 - signed 16 (nbits (descWord d 0x64) 15 0)) / vs
  if 0 ≤ x ∧ x < o.gx ∧ 0 ≤ y ∧ y < o.gy ∧ 0 ≤ z ∧ z < o.gz then some (vkey x.toNat y.toNat z.toNat) else none

/-- What a site has gathered: count, sums, maxima. -/
structure VAcc where
  count : Nat := 0
  sums : List Int := []
  maxs : List Int := []
deriving DecidableEq, Repr

/-- One point more in a site. -/
def VAcc.add (a : VAcc) (f : List Int) : VAcc :=
  if a.count = 0 then ⟨1, f, f⟩
  else ⟨a.count + 1, (a.sums.zip f).map fun p => p.1 + p.2, (a.maxs.zip f).map fun p => max p.1 p.2⟩

/-- A mean rounded, ties to even. -/
def meanEven (sum : Int) (n : Nat) : Int :=
  let q := sum / n
  let r := sum % n
  if n < 2 * r ∨ (2 * r = n ∧ q % 2 = 1) then q + 1 else q

/-- A site's feature bytes (R333). -/
def siteFeatures (d : List Byte) (a : VAcc) : List Byte :=
  let o := voxOut d
  let f := (List.range (voxF d)).map fun c =>
    if voxCtrl d 11 10 = 1 then at' 0 a.maxs c else meanEven (at' 0 a.sums c) a.count
  let all := f ++ (if voxCtrl d 12 12 = 1 then [((min a.count 127 : Nat) : Int)] else [])
  (all.map fun v => byte (ofInt v).toNat) ++ List.replicate (o.ps - all.length) 0

/-- The set, the gathered sites and the counts of dropped and overflowed points, in source order (R333, R334). -/
def gather (d : List Byte) (ps : List VPoint) : VBuild × List VAcc × Nat × Bool :=
  ps.foldl (fun (b, accs, drop, ovr) p =>
    match voxelOf d p with
    | none => (b, accs, drop + 1, ovr)
    | some key => match b.insert (voxOut d) key with
      | (_, none) => (b, accs, drop + 1, true)
      | (b', some i) =>
        let accs := if i < accs.length then accs else accs ++ [{}]
        (b', accs.set i ((at' {} accs i).add p.2.2.2), drop, ovr)) ({}, [], 0, false)

/-- Record an overflow (R334). -/
def State.voxOverflow (s : State) (ovr : Bool) : State :=
  if ovr then ({ s with vox.ovr := true } : State).irq 0x05A 2 else s

/-- The address of the active descriptor. -/
def State.voxAddr (s : State) : Nat := ((s.vox.queue.head?).map (·.1)).getD 0 * 64

/-- Write COUNT of the OUT set into the descriptor. -/
def State.voxCount (s : State) (n : Nat) : Nat × State := s.engineWrite s.voxReq (s.voxAddr + 0x5C) (leBytes 4 n)

/-- Write a whole hash, clearing it first. -/
def State.voxHash (s : State) (v : VSet) (b : VBuild) : Nat × State :=
  s.writeVecs s.voxReq [(v.hash, List.replicate (8 * 2 ^ v.hbits) 0), (v.hash, b.hashBytes v), (v.sites, b.keys.flatMap (leBytes 4))]

/-- Build and write the OUT set from the points read (R333); COUNT is written last. -/
def State.voxelise (s : State) (d : List Byte) (ps : List VPoint) : State :=
  let o := voxOut d
  let (b, accs, drop, ovr) := gather d ps
  let work := nbits (leNat (slice d 8 8)) 39 0
  let (c, s) := s.voxHash o b
  let (c, s) := if c ≠ 0 then (c, s) else s.writeVecs s.voxReq (accs.zipIdx.map fun (a, i) =>
    (work + 64 * i, (List.range 64).map fun k => Config.workByte a.count a.sums a.maxs k))
  let (c, s) := if c ≠ 0 then (c, s) else s.writeVecs s.voxReq (accs.zipIdx.map fun (a, i) => (o.feat + i * o.ps, siteFeatures d a))
  let (c, s) := if c ≠ 0 then (c, s) else s.voxCount b.keys.length
  (({ s with vox.dropped := drop % 0x1000000 } : State).voxOverflow ovr).voxFin c

/-- Whether stream 5 may be the source (R340): the code, 0 to go on. -/
def State.voxStreamCheck (s : State) : Nat :=
  if s.streamOwner 5 ≠ s.pageOwner 0x05A then 1
  else if s.strmState 5 ≠ 1 then 0x15
  else if s.ispOut 5 ≠ 3 then 0x13 else 0

/-- VOXELISE: from memory at once; from stream 5 after its next buffer completion. -/
def voxVoxelise (s : State) : State :=
  match s.voxActivate 1 with
  | (none, s) => s
  | (some d, s) =>
    if voxCtrl d 18 18 = 1 then
      let c := s.voxStreamCheck
      if c = 1 then (s.logRefusal s.voxReq s.voxAddr false 1).voxFin 1
      else if c ≠ 0 then s.voxFin c
      else
        let (c, s) := s.engineWrite s.voxReq (voxOut d).hash (List.replicate (8 * 2 ^ (voxOut d).hbits) 0)
        if c ≠ 0 then s.voxFin c else { s with vox.wait := some (s.fld (STRM_HW_SEQ 5) 19 0) }
    else
      let src := nbits (leNat (slice d 0x10 8)) 39 0
      let w := nbits (descWord d 0x18) 15 0
      let h := nbits (descWord d 0x18) 31 16
      let n := nbits (descWord d 0x18) 23 0
      let bytes := match voxCtrl d 17 16 with
        | 0 => 8 * n
        | 1 => 16 * n
        | _ => 2 * w * h
      let (c, bs, s) := s.engineRead s.voxReq src bytes
      if c ≠ 0 then s.voxFin c
      else s.voxelise d (match voxCtrl d 17 16 with
        | 0 => ptsPoints 8 6 2 n bs
        | 1 => ptsPoints 16 8 8 n bs
        | _ => depthPoints d w h bs)

/-- A stream step ends before its points are read (R340): COUNT says that no site has been written. -/
def State.voxCut (s : State) (code : Nat) : State :=
  (s.unitWrite s.voxReq (s.voxAddr + 0x5C) (leBytes 4 0)).2.voxFin code

/-- A waiting STREAM VOXELISE reads the stream 5 buffer that completed (R340). -/
def voxStreamRead (s : State) : State :=
  match s.vox.wait with
  | none => s
  | some q =>
    let seq := q % 0x10000
    let ahead := (s.fld (STRM_HW_SEQ 5) 15 0 + 0x10000 - seq) % 0x10000
    if ahead = 0 ∨ !s.domOn 12 then s
    else if s.strmCount 5 < ahead ∨ (ahead = s.strmCount 5 ∧ (s.stream 5).cap) then s.voxCut 0x16
    else
      let a := s.base64 (STRM_BASE_LO 5) (STRM_BASE_HI 5) + q / 0x10000 * s.fld64 (STRM_BUF_SIZE 5) 23
      let (c, bs, s) := s.engineRead s.voxReq (a + 0x40) (2 * s.ispW 5 * s.ispH 5)
      let s : State := { s with vox.aux := seq }
      if c ≠ 0 then s.voxFin c else s.voxelise s.vox.desc (depthPoints s.vox.desc (s.ispW 5) (s.ispH 5) bs)

/-! ### SPCONV (R335 to R337) -/

/-- An offset by its index. -/
def offsetOf (k i : Nat) : Int × Int × Int :=
  match k with
  | 3 => ((i % 3 : Nat) - 1, (i / 3 % 3 : Nat) - 1, (i / 9 : Nat) - 1)
  | 2 => ((i % 2 : Nat), (i / 2 % 2 : Nat), (i / 4 : Nat))
  | _ => (0, 0, 0)

/-- The coordinates of a KEY. -/
def keyXyz (k : Nat) : Int × Int × Int := ((nbits k 10 0 : Nat), (nbits k 21 11 : Nat), (nbits k 29 22 : Nat))

/-- A KEY from coordinates within a set's grid. -/
def keyIn (v : VSet) (x y z : Int) : Option Nat :=
  if 0 ≤ x ∧ x < v.gx ∧ 0 ≤ y ∧ y < v.gy ∧ 0 ≤ z ∧ z < v.gz then some (vkey x.toNat y.toNat z.toNat) else none

/-- The OUT set of a strided convolution (R335): the build and whether it overflowed. -/
def stridedSet (d : List Byte) (keys : List Nat) : VBuild × Bool :=
  keys.foldl (fun acc key =>
    (List.range (voxK d ^ 3)).foldl (fun (b, ovr) i =>
      let (x, y, z) := keyXyz key
      let (dx, dy, dz) := offsetOf (voxK d) i
      if (x - dx) % 2 = 0 ∧ (y - dy) % 2 = 0 ∧ (z - dz) % 2 = 0 then
        match keyIn (voxOut d) ((x - dx) / 2) ((y - dy) / 2) ((z - dz) / 2) with
        | none => (b, ovr)
        | some k => match b.insert (voxOut d) k with
          | (_, none) => (b, true)
          | (b, some _) => (b, ovr)
      else (b, ovr)) acc) ({}, false)

/-- The rules of an output site: input site and offset index, rising offsets (R337). -/
def siteRules (d hash : List Byte) (key : Nat) : List (Nat × Nat) :=
  let m : Int := if voxCtrl d 7 7 = 1 then 2 else 1
  (List.range (voxK d ^ 3)).filterMap fun i =>
    let (x, y, z) := keyXyz key
    let (dx, dy, dz) := offsetOf (voxK d) i
    match keyIn (voxIn d) (m * x + dx) (m * y + dy) (m * z + dz) with
    | none => none
    | some k => (vfind (voxIn d) hash k).map fun j => (j, i)

/-- The bytes of an output site's pairs. -/
def pairBytes (rs : List (Nat × Nat)) : List Byte :=
  rs.zipIdx.flatMap fun ((j, i), n) => leBytes 4 (j + i * 0x40000 + (if n + 1 = rs.length then 0x80000000 else 0))

/-- The header of a rulebook. -/
def rulesHeader (d : List Byte) (pairs out : Nat) : List Byte :=
  leBytes 4 pairs ++ leBytes 4 out ++ leBytes 4 (voxIn d).count ++ leBytes 4 (voxCtrl d 9 8 + voxCtrl d 7 7 * 4) ++
    List.replicate 48 0

/-- The pairs of each output site as a rulebook's words give them. -/
def rulesOf : List Nat → List (Nat × Nat) → List (List (Nat × Nat))
  | [], acc => if acc = [] then [] else [acc]
  | w :: l, acc =>
    let p := (nbits w 17 0, nbits w 22 18)
    if w.testBit 31 then (acc ++ [p]) :: rulesOf l [] else rulesOf l (acc ++ [p])

/-- The feature bytes of an output site from its rules (R336). -/
def spconvSite (d w feats : List Byte) (rs : List (Nat × Nat)) : List Byte :=
  let i := voxIn d
  let o := voxOut d
  let bias := roundUp (voxK d ^ 3 * o.c * i.c) 4
  let out := (List.range o.c).map fun co =>
    let sum := rs.foldl (fun (a : Int) (site, off) =>
      (List.range i.c).foldl (fun a ci =>
        a + signed 8 (wbufByte w (off * (o.c * i.c) + co * i.c + ci)).toNat * signed 8 (leNat (slice feats (site * i.ps + ci) 1))) a)
      (signed 32 (wbufNat w (bias + 4 * co) 4))
    let y := requant (signed 32 (ofInt sum).toNat) (nbits (descWord d 4) 15 0) (nbits (descWord d 4) 20 16)
    if voxCtrl d 4 4 = 1 ∧ y < 0 then 0 else y
  (out.map fun v => byte (ofInt v).toNat) ++ List.replicate (o.ps - o.c) 0

/-- Whether a site's pairs are within the sets (R337). -/
def rulesOk (d : List Byte) (rs : List (Nat × Nat)) : Bool :=
  rs.all fun p => decide (p.1 < (voxIn d).count) && decide (p.2 < voxK d ^ 3)

/-- Load SPCONV's weights (R336). -/
def State.voxLoad (s : State) (d : List Byte) : Nat × State :=
  if voxCtrl d 5 5 = 1 then (if s.vox.wbuf = none then 0x11 else 0, s)
  else
    let n := roundUp (voxK d ^ 3 * (voxOut d).c * (voxIn d).c) 4 + 4 * (voxOut d).c
    let (c, bs, s) := s.engineRead s.voxReq (nbits (leNat (slice d 8 8)) 39 0) n
    if c ≠ 0 then (c, s) else (0, { s with vox.wbuf := some (bs ++ (s.vox.wbuf.getD []).drop n) })

/-- The features of the output sites are computed and written in site order; a site with a pair outside the sets ends
the step there. COUNT is written last. -/
def State.spconvRun (s : State) (d feats : List Byte) (rules : List (List (Nat × Nat))) (count : Nat) : State :=
  let good := rules.takeWhile (rulesOk d)
  let o := voxOut d
  let (c, s) := s.writeVecs s.voxReq (good.zipIdx.map fun (rs, i) =>
    (o.feat + i * o.ps, spconvSite d (s.vox.wbuf.getD []) feats rs))
  if c ≠ 0 then s.voxFin c
  else if good.length < rules.length then s.voxFin 0x13
  else
    let (c, s) := s.voxCount count
    s.voxFin c

/-- SPCONV. -/
def voxSpconv (s : State) : State :=
  match s.voxActivate 2 with
  | (none, s) => s
  | (some d, s) =>
    let i := voxIn d
    let o := voxOut d
    let q := s.voxReq
    let strided := voxCtrl d 7 7 = 1
    let src := nbits (leNat (slice d 0x10 8)) 39 0
    let (c, s) := s.voxLoad d
    let (c, hash, s) := if c ≠ 0 then (c, [], s) else s.engineRead q i.hash (8 * 2 ^ i.hbits)
    let (c, sites, s) := if c ≠ 0 then (c, [], s) else s.engineRead q i.sites (4 * i.count)
    let (c, feats, s) := if c ≠ 0 then (c, [], s) else s.engineRead q i.feat (i.ps * i.count)
    if c ≠ 0 then s.voxFin c
    else
      let keys := (List.range i.count).map fun k => leNat (slice sites (4 * k) 4)
      let (b, ovr) := if strided then stridedSet d keys else ({ keys := keys }, false)
      let count := b.keys.length
      if voxCtrl d 6 6 = 1 then
        let (c, h, s) := s.engineRead q src 64
        if c ≠ 0 then s.voxFin c
        else if descWord h 4 ≠ count ∨ descWord h 8 ≠ i.count ∨ nbits (descWord h 12) 2 0 ≠ voxCtrl d 9 8 + voxCtrl d 7 7 * 4 then
          s.voxFin 0x13
        else
          let (c, bs, s) := s.engineRead q (src + 64) (4 * descWord h 0)
          let (c, s) := if c ≠ 0 ∨ !strided then (c, s) else s.voxHash o b
          let s := (({ s with vox.aux := descWord h 0 } : State).voxOverflow ovr)
          if c ≠ 0 then s.voxFin c
          else s.spconvRun d feats ((rulesOf ((List.range (descWord h 0)).map fun k => leNat (slice bs (4 * k) 4)) []).take count) count
      else
        let (c, s) := if strided then s.voxHash o b else (0, s)
        let rules := b.keys.map (siteRules d hash)
        let pairs := (rules.map (·.length)).foldl (· + ·) 0
        let s := (({ s with vox.aux := pairs } : State).voxOverflow ovr)
        if c ≠ 0 then s.voxFin c
        else if nbits (descWord d 0x18) 23 0 * 64 < 64 + 4 * pairs then
          let (c, s) := s.voxCount 0
          s.voxFin (if c ≠ 0 then c else 0x12)
        else
          let (c, s) := s.writeVecs q [(src, rulesHeader d pairs count), (src + 64, rules.flatMap pairBytes)]
          if c ≠ 0 then s.voxFin c else s.spconvRun d feats rules count

/-! ### BEV (R338) -/

/-- Channel `c` of cell (x, y) from the sites, given as KEY and feature values. -/
def bevCell (d : List Byte) (sites : List (Nat × List Int)) (c x y : Nat) : Nat :=
  let i := voxIn d
  let here := sites.filter fun p => nbits p.1 10 0 == x && nbits p.1 21 11 == y
  let v : Int := match voxCtrl d 14 13 with
    | 0 => match here.map fun p => at' 0 p.2 c with
      | [] => 0
      | a :: l => l.foldl max a
    | 1 => clampS 8 ((here.map fun p => at' 0 p.2 c).foldl (· + ·) 0)
    | _ => ((here.find? fun p => nbits p.1 29 22 == c / i.c).map fun p => at' 0 p.2 (c % i.c)).getD 0
  (ofInt v).toNat % 256

/-- BEV. -/
def voxBev (s : State) : State :=
  match s.voxActivate 3 with
  | (none, s) => s
  | (some d, s) =>
    let i := voxIn d
    let t := tensOf (slice d 0x40 16)
    let (c, sites, s) := s.engineRead s.voxReq i.sites (4 * i.count)
    let (c, feats, s) := if c ≠ 0 then (c, [], s) else s.engineRead s.voxReq i.feat (i.ps * i.count)
    if c ≠ 0 then s.voxFin c
    else
      let l := (List.range i.count).map fun k =>
        (leNat (slice sites (4 * k) 4), (List.range i.c).map fun c => signed 8 (leNat (slice feats (k * i.ps + c) 1)))
      let (c, s) := s.writeVecs s.voxReq ((List.range t.h).flatMap fun y =>
        ((t.rowParts y).zip (t.pack fun c x => bevCell d l c x y)).map fun (p, b) => (p.1, b))
      s.voxFin c

/-! ### Queue, ends, cancellation (R307, R309, R311, R341) -/

/-- VOX_QUEUE. -/
def voxQueue (q : Req) (v : Word) (s : State) : State :=
  if bits v 31 28 ≠ 0 then s.fail q VOX_QUEUE 0x11
  else if 8 ≤ s.vox.queue.length then s.fail q VOX_QUEUE 0x10
  else { s with vox.queue := s.vox.queue ++ [((bits v 27 0), q)] }

/-- The head step ends: DROPPED, AUX, STATUS in the descriptor, VOX_LAST, counts, interrupts, and the notifications
unless it was cancelled. -/
def State.voxEnd (s : State) (code : Nat) : State :=
  match s.vox.queue with
  | [] => s
  | (a, _) :: rest =>
    let x := s.vox
    let q := s.voxReq
    let status := code + 0x100 + x.ovr.toNat * 0x200
    let op := if x.desc = [] then 0 else voxCtrl x.desc 3 0
    let s := if op = 1 then (s.unitWrite q (a * 64 + 0x74) (leBytes 4 x.dropped)).2 else s
    let s := if (op = 1 ∧ voxCtrl x.desc 18 18 = 1) ∨ op = 2 then (s.unitWrite q (a * 64 + 0x78) (leBytes 4 x.aux)).2 else s
    let s := (s.unitWrite q (a * 64 + 0x7C) (leBytes 4 status)).2
    let s := ((s.setReg VOX_LAST (word status)).setReg VOX_LAST_ADDR (word a)).irq 0x05A (if code = 0 then 0 else 1)
    let s := if code = 0 then s.bumpSat VOX_DONE 15 0 else s.bumpSat VOX_DONE 31 16
    let s : State := { s with vox := { queue := rest, wbuf := s.vox.wbuf } }
    if code = 0x14 ∨ x.desc = [] then s else s.note (s.pageOwner 0x05A) (word (descWord x.desc 0x70))

/-- The active step, its work over, ends (R309). -/
def voxStepEnd (s : State) : State :=
  match s.vox.fin with
  | some c => if s.domOn 12 then s.voxEnd c else s
  | none => s

/-- Cancel the descriptors for which `p` holds of who enqueued them (R311). The weight buffer is empty afterwards (R336) unless a
step that stays runs on it. -/
def State.voxCancelIf (s : State) (p : Req → Bool) : State :=
  let any := s.vox.queue.any fun d => p d.2
  let s := match s.vox.queue with
    | (_, r) :: _ => if p r then s.voxEnd 0x14 else s
    | [] => s
  let x := s.vox
  let head := if x.active then x.queue.take 1 else []
  let wait := if x.active then x.queue.drop 1 else x.queue
  let out := wait.filter fun d => p d.2
  let s := out.foldl (fun s d => ({ s with vox := { queue := [d], wbuf := x.wbuf } } : State).voxEnd 0x14) s
  { s with vox := { x with queue := head ++ wait.filter (fun d => !p d.2), wbuf := if any && !x.active then none else x.wbuf } }

/-- Cancel everything and empty the weight buffer. -/
def voxCancel (s : State) : State :=
  let s := s.voxCancelIf fun _ => true
  { s with vox := {} }

/-- VOX goes OFF (R312): the queue is lost, no STATUS. -/
def State.voxLost (s : State) : State := { s with vox := {} }

/-- Stream 5 stops while a step waits for it (R340). -/
def State.voxStopped (s : State) : State := if s.vox.wait.isSome then s.voxCut 0x15 else s

/-- VOX_STATUS. -/
def State.voxStatus (s : State) : Word :=
  let x := s.vox
  let phase := match x.fin with
    | none => 0
    | some _ => if x.desc = [] then 0 else if voxCtrl x.desc 3 0 = 1 then 1 else 3
  word (x.queue.length + x.active.toNat * 0x10 + x.wait.isSome.toNat * 0x20 + phase * 0x40)

/-! ### Meanings -/

def execVoxQueue (q : Req) (v : Word) (s : State) : Host.Outcome State Fault Refusal :=
  only q.wf s (s.writeVia q VOX_QUEUE v (voxQueue q v))
def execVoxelise (s : State) : Host.Outcome State Fault Refusal :=
  only true s (s.heldIdle 0x05A (s.engine voxVoxelise))
def execVoxeliseStreamRead (s : State) : Host.Outcome State Fault Refusal :=
  only true s (s.heldIdle 0x05A (s.engine voxStreamRead))
def execSpconv (s : State) : Host.Outcome State Fault Refusal :=
  only true s (s.heldIdle 0x05A (s.engine voxSpconv))
def execBev (s : State) : Host.Outcome State Fault Refusal :=
  only true s (s.heldIdle 0x05A (s.engine voxBev))
def execVoxStepEnd (s : State) : Host.Outcome State Fault Refusal :=
  only true s (s.heldIdle 0x05A (voxStepEnd s))
def execVoxCancel (q : Req) (v : Word) (s : State) : Host.Outcome State Fault Refusal :=
  only q.wf s (s.writeVia q VOX_CANCEL v (fun s => if bit v 0 then voxCancel s else s))

end Sys2Proof.Machine
end

