-- ==== Sys2Proof/Machine/Sched.lean ====
section
/-! DEFINITION. The scheduler and the deadline monitor (R366 to R379): admission, dispatch, switches, spills, endings. -/

namespace Sys2Proof.Machine

/-! ### Descriptors (Table 18.1) -/

/-- Bits [hi:lo] of the descriptor word at `off`. -/
def jf (d : List Byte) (off hi lo : Nat) : Nat := nbits (descWord d off) hi lo

def jobEntry (d : List Byte) : Nat := jf d 0x00 15 0
def jobPrio (d : List Byte) : Nat := jf d 0x00 22 20
def jobBank (d : List Byte) : Nat := jf d 0x00 26 25
def jobMask (d : List Byte) : Nat := leNat (slice d 0x08 8)
def jobTiles (d : List Byte) : List Nat := setPositions 64 (jobMask d)
def jobDeadline (d : List Byte) : Nat := jf d 0x10 31 0
def jobEst (d : List Byte) : Nat := jf d 0x14 19 0
def jobMargin (d : List Byte) : Nat := jf d 0x18 15 0
def jobTotal (d : List Byte) : Nat := jf d 0x18 31 16
def jobSwatch (d : List Byte) : Nat := jf d 0x1C 27 0
def jobCtx (d : List Byte) : Nat := jf d 0x24 12 8 * 0x4000
def jobNote (d : List Byte) : Word := word (descWord d 0x30)

/-- The skein records a descriptor names. -/
def jobSkeins (d : List Byte) : List Nat :=
  ((List.range 4).filter fun i => jf d 0x20 (8 * i + 7) (8 * i + 7) == 1).map fun i => jf d 0x20 (8 * i + 5) (8 * i)

/-- Whether every reserved field is zero. -/
def jobRsvd (d : List Byte) : Bool :=
  jf d 0x00 31 27 == 0 && jf d 0x14 31 20 == 0 && jf d 0x1C 31 28 == 0 &&
    ((List.range 4).all fun i => jf d 0x20 (8 * i + 6) (8 * i + 6) == 0) && jf d 0x24 6 6 == 0 && jf d 0x24 31 13 == 0 &&
    jf d 0x28 30 17 == 0 && jf d 0x30 31 30 == 0 && jf d 0x38 15 11 == 0 && jf d 0x38 31 24 == 0 && jf d 0x38 23 16 ≤ 128

/-- Whether a job is reserved (R366). -/
def State.jobReserved (s : State) (d : List Byte) : Bool := (jobSkeins d).all fun k => !(s.skein k).shared

/-- The tiles tenant `t` may use. -/
def State.tenantTiles (s : State) (t : Nat) : Nat :=
  (s.reg (SCH_TENANT_TILES_LO t)).toNat + 0x100000000 * (s.reg (SCH_TENANT_TILES_HI t)).toNat

/-- Whether a skein index names a VALID record of tenant `t`. -/
def State.skeinOf (s : State) (t k : Nat) : Bool := (s.skein k).valid && !(s.skein k).deleting && (s.skein k).tenant == t

/-- The checks of R367 on one descriptor, but the count of admitted jobs. -/
def State.jobCheck (s : State) (t : Nat) (d : List Byte) : Bool :=
  let t0 := (jobSkeins d).filter fun k => (s.skein k).tier == 0
  jobRsvd d && jobEntry d % 8 == 0 && jobMask d != 0 && (jobDeadline d == 0 || jobTotal d != 0) &&
    (jobMask d &&& s.tenantTiles t == jobMask d) && ((jobTiles d).all fun i => !s.absent (tileDom i)) &&
    decide (jobPrio d ≤ s.fld (SCH_TENANT_CFG t) 2 0) && ((jobSkeins d).all (s.skeinOf t)) &&
    (jf d 0x24 7 7 == 0 || (s.skeinOf t (jf d 0x24 5 0) && (s.skein (jf d 0x24 5 0)).tier == 2)) &&
    (t0.all (fun k => !(s.skein k).shared) || jf d 0x24 7 7 == 1) &&
    ((jobTiles d).all fun i => t0.any fun k =>
      (s.skein k).base ≤ i * 128 + jobCtx d / 0x1000 && i * 128 + jobCtx d / 0x1000 + 3 ≤ (s.skein k).limit) &&
    (jf d 0 23 23 == 0 || (s.pageOwner 0x058 == t && s.pageOwner 0x059 == t)) &&
    (jf d 0 24 24 == 0 || s.pageOwner 0x05A == t)

/-- The four further conditions on a swatch descriptor. -/
def State.swatchCheck (s : State) (t : Nat) (d w : List Byte) : Bool :=
  s.jobCheck t w && (jobMask w &&& jobMask d == jobMask w) && s.jobReserved w &&
    ((jobSkeins w).all (jobSkeins d).contains) && jobPrio w == jobPrio d && jobSwatch w == 0

/-- The scheduler as a requester for tenant `t`. -/
abbrev schReq (t : Nat) : Req := ⟨3, 0, t⟩

/-- Fetch a 64-byte descriptor with `t`'s rights: none while it waits for a wake, else the bytes or a refusal. -/
def State.jobFetch (s : State) (t addr : Nat) : Option (Option (List Byte)) × State :=
  match s.memRead (schReq t) addr 64 with
  | (0, d, s) => (some (some d), s)
  | (0x100, _, s) => (none, s.waitFor (memDomain addr).1)
  | (_, _, s) => (some none, s)

/-- Fetch and check a job and its swatch: none while a fetch waits; then the job's bytes and swatch, or a refusal. -/
def State.jobTake (s : State) (t addr : Nat) : Option (Option (List Byte × Option (Nat × List Byte))) × State :=
  match s.jobFetch t addr with
  | (none, s) => (none, s)
  | (some none, s) => (some none, s)
  | (some (some d), s) =>
    if !s.jobCheck t d then (some none, s)
    else if jobSwatch d = 0 then (some (some (d, none)), s)
    else match s.jobFetch t (jobSwatch d * 64) with
      | (none, s) => (none, s)
      | (some none, s) => (some none, s)
      | (some (some w), s) => (some (if s.swatchCheck t d w then some (d, some (jobSwatch d * 64, w)) else none), s)

/-! ### Jobs by slot -/

/-- The job in a slot. -/
def State.job (s : State) (k : Nat) : Option Job := s.sch.jobs.get (fun _ => none) k

/-- `s` with a slot's job replaced. -/
def State.setJob (s : State) (k : Nat) (j : Job) : State := { s with sch.jobs := s.sch.jobs.set (fun _ => none) k (some j) }

/-- Change the job in a slot. -/
def State.modJob (s : State) (k : Nat) (f : Job → Job) : State :=
  match s.job k with
  | some j => s.setJob k (f j)
  | none => s

/-- The slots in use by a job that has not ended. -/
def State.openSlots (s : State) : List Nat := (s.sch.jobs.filter fun e => e.2.any fun j => j.st != 6).map (·.1)

/-- Whether a job's tiles are held for it now. -/
def Job.holds (j : Job) : Bool := j.st != 6 && (j.placed || j.st == 3 || (1 ≤ j.spill && j.spill ≤ 3))

/-- The slot that holds tile `t`. -/
def State.holder (s : State) (t : Nat) : Option Nat :=
  (s.sch.jobs.find? fun e => e.2.any fun j => j.holds && (jobTiles j.d).contains t).map (·.1)

/-- The slot whose job a frog of tile `t` ends: not one that waits for the tile (R373, R377). -/
def State.frogSlot (s : State) (t : Nat) : Option Nat :=
  (s.sch.jobs.find? fun e => e.2.any fun j => j.holds && !j.switching && (jobTiles j.d).contains t).map (·.1)

/-- The slots that run, or will run, on tile `t`, for a switched victim too. -/
def State.runsOn (s : State) (t : Nat) : Option Nat :=
  (s.sch.jobs.find? fun e => e.2.any fun j => j.st == 3 && (jobTiles j.d).contains t).map (·.1)

/-- The domains a job's request covers (R45). -/
def jobDoms (d : List Byte) : List Nat :=
  (jobTiles d).map tileDom ++ (if jf d 0 23 23 = 1 then [11] else []) ++ (if jf d 0 24 24 = 1 then [12] else [])

/-- The scheduler's requests for a slot. -/
def State.jobHold (s : State) (k : Nat) (d : List Byte) : State := (jobDoms d).foldl (fun s x => s.hold 9 k x) s

/-! ### Endings (R379) -/

/-- The STATUS word of a descriptor. -/
def jobStatusWord (code tile info : Nat) : Nat :=
  code + 0x100 + (if code = 0x12 then 0x200 else 0) + tile % 64 * 0x400 + info % 256 * 0x10000

/-- Write STATUS and issue NOTE for the job record `j`; its ring, if any, is told. -/
def State.jobReport (s : State) (j : Job) (code tile info : Nat) : State :=
  let s := (s.unitWrite (schReq j.ten) (j.addr + 0x3C) (leBytes 4 (jobStatusWord code tile info))).2
  let s := if code = 0x15 then s else s.note j.ten (jobNote j.d)
  match j.ring with
  | some (r, q) => { s with mem.done := s.mem.done ++ [(16 + r, q, code + info * 0x100)] }
  | none => s

/-- Release the SCOPE JOB skeins a descriptor names (R347): SHARED ones give their granules up. -/
def State.jobSkeinsFree (s : State) (d : List Byte) : State :=
  (jobSkeins d).foldl (fun s k => if (s.skein k).valid && (s.skein k).job && (s.skein k).shared then s.emptySkein k else s) s

/-- RPT_T_ROWSTAT of an instance that has ended. -/
def State.rowEnd (s : State) (k code : Nat) (swatched : Bool) : State :=
  if k < 256 then s
  else
    let r := k - 256
    let v := s.rpt.stat.get (fun _ => 0) r
    let v := setBits (setBits v 7 0 code) 15 8 (bits v 15 8 + 1)
    let v := if swatched then setBits v 23 16 (min 255 (bits v 23 16 + 1)) else v
    { s with rpt.stat := s.rpt.stat.set (fun _ => 0) r v }

/-- A spill for slot `k` that has not begun to move data is abandoned (R377): the job it would displace runs on. -/
def State.spillAbandon (s : State) (k : Nat) : State :=
  s.openSlots.foldl (fun s h => match s.job h with
    | some v =>
      if v.spillFor = k ∧ (v.spill = 1 ∨ v.spill = 2) then
        let s := (jobTiles v.d).foldl (fun s t => s.setTile t { s.tile t with preempt := false, yielded := false }) s
        s.setJob h { v with spill := 0 }
      else s
    | none => s) s

/-- The granules of a spill's T2 area that are still held (R375): whole ones, though the last MOVE may fill one in part. -/
def State.spillArea (s : State) (j : Job) : List Nat :=
  ((j.moves.flatMap fun m => (granulesOf m.2.1 m.2.2).getD []).eraseDups).filter fun g =>
    s.ownOf g % 4 == 1 && (s.skein (nbits (s.ownOf g) 10 5)).shared

/-- A job gives its spill granules up (R375, R378). -/
def State.dropSpill (s : State) (j : Job) : State := s.releaseGrans (s.spillArea j)

/-- The hold of a job on tile `t` is over: a tile that sleeps after END or in a WAIT goes on to the state it asked for (R241). -/
def State.tileSettle (s : State) (t : Nat) : State :=
  if (s.dom (tileDom t)).rest.code ≤ (s.dom (tileDom t)).st.code ∨ (s.tile t).wait.any (fun w => s.waitMet t w.2.1 w.2.2) then s
  else s.restEntry (tileDom t)

/-- A tile that was stopped for a switch goes on (R373). -/
def State.tileUnpark (s : State) (t : Nat) : State :=
  if (s.tile t).parked then (s.setTile t { s.tile t with parked := false, yielded := false }).dmaGo t else s

/-- The switch that slot `k`'s job waited for is given up: the victims go on. -/
def State.switchDrop (s : State) (k : Nat) (j : Job) : State :=
  if !j.switching ∨ j.swatch then s
  else s.openSlots.foldl (fun s h => match s.job h with
    | some v => if h ≠ k ∧ v.st = 3 ∧ jobMask v.d &&& jobMask j.d ≠ 0 then (jobTiles v.d).foldl State.tileUnpark s else s
    | none => s) s

/-- The job in slot `k` ends: requests and skeins released, STATUS, NOTE, IRQ_RAW bit 0. -/
def State.jobEnd (s : State) (k code info tile : Nat) : State :=
  match s.job k with
  | none => s
  | some j =>
    let s := (((s.unholdAll 9 k).spillAbandon k).switchDrop k j).dropSpill j
    let s := (jobTiles j.d).foldl State.tileSettle s
    let s := s.jobSkeinsFree j.d
    let last := if j.swatch ∧ code = 0 then 0x12 else code
    let s := s.setJob k { j with st := 6, code := last, placed := false, switching := false, ending := none, spill := 0 }
    ((s.jobReport j code tile info).rowEnd k last (j.swatch && code == 0)).irq 0x028 0

/-- Ask for the frog of every tile of the job in slot `k` (R379): it ends with a code when they are done. -/
def State.jobFrog (s : State) (k code info tile : Nat) : State :=
  match s.job k with
  | none => s
  | some j =>
    if j.st = 6 ∨ j.ending.isSome then s
    else if j.st = 3 ∨ (1 ≤ j.spill ∧ j.spill ≤ 3) then
      let s := (jobTiles j.d).foldl (fun s t => s.setTile t { s.tile t with frogDue := true, preempt := false }) s
      s.setJob k { j with ending := some (code, info, tile) }
    else s.jobEnd k code info tile

/-- Whether every frog of a job's tiles is done. -/
def State.frogsDone (s : State) (d : List Byte) : Bool := (jobTiles d).all fun t => !(s.tile t).frogDue

/-- JOB_END: a job ends when every tile of its set has executed END, or when the frogs that end it are done. -/
def jobEndStep (k : Nat) (s : State) : State :=
  match s.job k with
  | none => s
  | some j =>
    match j.ending with
    | some (c, i, t) => if s.frogsDone j.d then s.jobEnd k c i t else s
    | none =>
      if j.st = 3 ∧ (jobTiles j.d).all (fun t => s.tileSt t == 0 && !(s.tile t).frogDue) then s.jobEnd k 0 0 0 else s

/-! ### Admission (R367 to R369) -/

/-- The jobs tenant `t` has admitted. -/
def State.admitted (s : State) (t : Nat) : Nat :=
  (s.openSlots.filter fun k => k < 256 && k / 32 == t).length

/-- Whether the scheduler admits jobs of tenant `t` at all. -/
def State.admits (s : State) (t : Nat) : Bool :=
  s.flag SCH_CTRL 0 && s.life.ready && s.life.bindStage == 0 && s.flag ADSEL_TENANTS t

/-- The heartbeat advances (R136). -/
def State.beat (s : State) : State := { s.bump SCH_HEARTBEAT with sch.beatAt := s.now }

/-- A job is about to be admitted: where none is, the heartbeat's time counts from now. -/
def State.workBegins (s : State) : State := if s.openSlots.isEmpty then { s with sch.beatAt := s.now } else s

/-- Admit a fetched job into a free slot of tenant `t`: the slot's identifier. -/
def State.admitJob (s : State) (t addr : Nat) (d : List Byte) (sw : Option (Nat × List Byte)) (ring : Option (Nat × Nat)) :
    Option Nat × State :=
  match ((List.range 32).map (32 * t + ·)).find? fun k => !(s.job k).any fun j => j.st != 6 with
  | none => (none, s)
  | some k =>
    let q := s.sch.seqs.get (fun _ => 0) k % 127 + 1
    let dep := jf d 0x28 31 31 == 0
    let s : State := { s.workBegins with sch.seqs := s.sch.seqs.set (fun _ => 0) k q }
    (some (q * 0x100 + k), s.setJob k { id := q * 0x100 + k, ten := t, addr := addr, d := d, sw := sw, st := if dep then 2 else 1
                                        rel := s.now, dep := dep, ring := ring })

/-- The outcome of a submission: none while a fetch waits; a code and, for OK, the identifier. -/
def State.submit (s : State) (t addr : Nat) (ring : Option (Nat × Nat)) : Option (Nat × Nat) × State :=
  if !s.admits t then (some (1, 0), s.logRefusal (schReq t) addr false 7)
  else match s.jobTake t addr with
    | (none, s) => (none, s)
    | (some none, s) => (some (1, 0), s.logRefusal (schReq t) addr false 7)
    | (some (some (d, sw)), s) =>
      if 32 ≤ s.admitted t then (some (0x10, 0), s)
      else match s.admitJob t addr d sw ring with
        | (some id, s) => (some (0, id), s)
        | (none, s) => (some (0x10, 0), s)

/-- Whether a window is BUSY. -/
def State.schBusy (s : State) (t : Nat) : Bool := s.flag (SCH_T_STAT t) 0

/-- A window takes a command. -/
def State.schAccept (s : State) (t : Nat) : State :=
  s.setReg (SCH_T_STAT t) (word (1 + (s.fld (SCH_T_STAT t) 31 16 + 1) % 0x10000 * 0x10000))

/-- A window posts. -/
def State.schPost (s : State) (t code : Nat) : State :=
  s.setReg (SCH_T_STAT t) (word (code * 0x100 + s.fld (SCH_T_STAT t) 31 16 * 0x10000))

/-- SCH_JOB_SUBMIT: ignored while BUSY; the result is posted later. -/
def schSubmit (t : Nat) (v : Word) (s : State) : State :=
  if s.schBusy t then s
  else
    let s := s.schAccept t
    { s with sch.submits := s.sch.submits.set (fun _ => none) t (some (bits v 27 0 * 64)) }

/-- ADMISSION_POST: the submission of window `t` is admitted or refused, and its result posted. -/
def admissionPost (t : Nat) (s : State) : State :=
  match s.sch.submits.get (fun _ => none) t with
  | none => s
  | some addr =>
    if !s.domOn 2 then s
    else match s.submit t addr none with
      | (none, s) => s
      | (some (c, id), s) =>
        let s : State := { s with sch.submits := s.sch.submits.set (fun _ => none) t none }
        (if c = 0 then s.setReg (SCH_T_RESULT t) (word id) else s).schPost t c

/-! ### The scoreboard (R370) -/

/-- Notifications enter the scoreboard; past 256 the oldest is dropped, counted and flagged. -/
def State.sbEnter (s : State) : State :=
  let s' := s.sc.sb.foldl (fun s e =>
    let l := s.sch.sb ++ [e]
    if l.length ≤ 256 then { s with sch.sb := l }
    else ((({ s with sch.sb := l.drop 1 } : State).bumpSat SCH_SB 31 16).irq 0x028 1)) s
  { s' with sc.sb := [] }

/-- A PENDING job consumes the oldest entry of its counter and tenant: READY, or ended STALE. -/
def State.sbConsume (s : State) (k : Nat) : State :=
  match s.job k with
  | none => s
  | some j =>
    if j.st ≠ 1 ∨ j.dep then s
    else match s.sch.sb.find? fun e => e.1 == jf j.d 0x28 16 0 && e.2.1 == j.ten with
      | none => s
      | some e =>
        let s : State := { s with sch.sb := s.sch.sb.erase e }
        if e.2.2 then s.jobEnd k 0x05 0 0 else s.modJob k fun j => { j with dep := true }

/-- Whether the PRED of an instance imposes no more wait (R385). -/
def State.predMet (s : State) (k : Nat) (j : Job) : Bool :=
  if k < 256 then true
  else
    let w2 := s.rpt.live.get (fun _ => 0) (4 * (k - 256) + 2)
    let p := bits w2 7 0
    let pw := s.rpt.live.get (fun _ => 0) (4 * p + 2)
    let runs := bit (s.rpt.live.get (fun _ => 0) (4 * p)) 31 && (bits pw 15 8 ≤ 1 || j.period % bits pw 15 8 == bits pw 23 16)
    p == 0xFF || p == k - 256 || !runs || s.rpt.skips.contains (p, j.period) ||
      (s.job (256 + p)).any fun i =>
        (i.period == j.period && i.st == 6) || (i.period != j.period && (i.period + 0x10000 - j.period) % 0x10000 < 0x8000)

/-- PENDING jobs whose conditions hold become READY. -/
def State.makeReady (s : State) (k : Nat) : State :=
  match s.job k with
  | none => s
  | some j => if j.st = 1 ∧ j.dep ∧ s.predMet k j then s.setJob k { j with st := 2 } else s

/-! ### Banks and models (R372) -/

/-- The bank BANK names on tile `t`. -/
def State.jobBankOn (s : State) (d : List Byte) (t : Nat) : Nat :=
  match jobBank d with
  | 1 => 0
  | 2 => 1
  | 3 => 0
  | _ => if s.bankRole t 0 = 0 then 0 else 1

/-- Reload a LOST bank from its SCH_MODEL record (R372 step 2): none while a read waits, else whether it succeeded. -/
def State.reload (s : State) (ten t b rank model : Nat) : Option Bool × State :=
  match (List.range 32).find? fun k => s.fld (SCH_MODEL k) 15 0 == model && s.fld (SCH_MODEL k) 31 29 == ten with
  | none => (some false, s)
  | some k =>
    let rows := s.fld (SCH_MODEL k) 25 16
    let mode := s.fld (SCH_MODEL k) 27 26
    let joined := s.fld (SCH_MODEL k) 28 28
    let n := rows * 64 * modeBytes mode
    let src := s.reg64 (SCH_MODEL_SRC_LO k) (SCH_MODEL_SRC_HI k) % 0x10000000000 + rank * n
    let decl := word (mode + joined * 4 + ten * 0x10 + rows * 0x100)
    let crc := s.reg (TILE_WGT_CRC t b)
    match s.memRead (schReq ten) src n with
    | (0x100, _, s) => (none, s.waitFor (memDomain src).1)
    | (0, bs, s) =>
      match s.declare t b decl (word model) false with
      | (0, s) =>
        match s.wgtWrite (schReq ten) (s.bankExtent t b).1 bs (fun _ => false) with
        | (0, s) =>
          if word (crc32 bs) = crc then (some true, s.sealEnd t b false) else (some false, s.wgtPost t 0x14)
        | (_, s) => (some false, s)
      | (_, s) => (some false, s)
    | (_, _, s) => (some false, s)

/-- The model check of one tile: none while a reload waits. -/
def State.modelOk (s : State) (j : Job) (t rank : Nat) : Option Bool × State :=
  let model := jf j.d 0x2C 15 0
  let loads := jf j.d 0x2C 31 16
  let b := s.jobBankOn j.d t
  if model = 0 then (some true, s)
  else if s.fld (TILE_WGT_ID t b) 15 0 ≠ model then (some false, s)
  else if s.bankState t b = 2 then (some (loads == 0 || s.fld (TILE_WGT_ID t b) 31 16 == loads), s)
  else if s.bankState t b = 3 ∧ loads = 0 then s.reload j.ten t b rank model
  else (some false, s)

/-- The model check over the tile set. -/
def State.modelsOk (j : Job) : List (Nat × Nat) → State → Option Bool × State
  | [], s => (some true, s)
  | (rank, t) :: l, s =>
    match s.modelOk j t rank with
    | (some true, s) => State.modelsOk j l s
    | r => r

/-- The tiles to flip for a job. -/
def State.flipTiles (s : State) (j : Job) : Nat :=
  let want := match jobBank j.d with
    | 1 => some 0
    | 2 => some 1
    | _ => none
  match want with
  | none => 0
  | some b => ((jobTiles j.d).filter fun t => s.bankRole t b != 0).foldl (fun a t => a + 2 ^ t) 0

/-! ### Frames (Table 18.2) -/

/-- Fill a list of bytes with zeros to `n`. -/
def padTo (n : Nat) (l : List Byte) : List Byte := l ++ List.replicate (n - l.length) 0

/-- Words as bytes. -/
def wordBytes (l : List Word) : List Byte := l.flatMap fun w => leBytes 4 w.toNat

/-- A descriptor of what is left of the head transfer. -/
def dmaRest (d : List Byte) (pos : Nat) : List Byte :=
  leBytes 8 (dmaSrc d + pos) ++ leBytes 8 (dmaDst d + pos) ++ leBytes 4 (dmaLen d - pos) ++ d.drop 0x14

/-- The queue as a frame keeps it: the paused transfer first. -/
def dmaSaved (x : Tile) : List (List Byte) :=
  match x.dma with
  | [] => []
  | (_, d) :: r => (if x.dmaOn then dmaRest d x.dmaPos else d) :: r.map (·.2)

/-- The frame of tile `t` for counters CBASE on; `pc` is the PC it resumes at. -/
def State.frame (s : State) (t pc cbase ccount : Nat) : List Byte :=
  let x := s.tile t
  let g := wordBytes (word (pc + 0x80000000) :: (List.range 31).map fun i => x.gr (i + 1))
  let c := wordBytes [s.reg (TILE_SLEEP t), s.reg (TILE_CLKDIV t), x.ccrAt 6, x.ccrAt 7, x.ccrAt 8, x.ccrAt 9, x.ccrAt 0x0D]
  let n := (List.range (min 128 ccount)).flatMap fun i =>
    if cbase + i < 2048 then [s.scValue (2048 * t + cbase + i), s.scConfig (2048 * t + cbase + i)] else [0, 0]
  let v := (List.range 32).flatMap x.vr
  let m := wordBytes ((List.range 1024).map fun i => x.acc.get (fun _ => 0) i)
  let e := wordBytes ((List.range 2048).map fun i => x.cim.get (fun _ => 0) i)
  let tags := wordBytes [word (x.fp32.foldl (fun a i => a + 2 ^ i) 0)]
  padTo 0x4000 (padTo 0x200 (g ++ padTo 0x20 c ++ (dmaSaved x).flatten) ++ padTo 0x400 (wordBytes n) ++ v ++ m ++ e ++ tags)

/-- Word `i` of a list of bytes. -/
def wordOf (bs : List Byte) (off : Nat) : Word := word (leNat (slice bs off 4))

/-- Restore a frame into tile `t`: only PC and g for a yield frame. -/
def State.unframe (s : State) (t cbase ccount : Nat) (f : List Byte) : State :=
  let w0 := wordOf f 0
  let x := s.tile t
  let x := (List.range 31).foldl (fun x i => x.setGr (i + 1) (wordOf f (4 * (i + 1)))) x
  let s := (s.setTile t x).setTilePc t (bits w0 15 0)
  if !bit w0 31 then s
  else
    let c := fun i => wordOf f (0x80 + 4 * i)
    let x := (((((x.setCcr 6 (c 2)).setCcr 7 (c 3)).setCcr 8 (c 4)).setCcr 9 (c 5)).setCcr 0x0D (c 6 &&& 0x701))
    let x := (List.range 32).foldl (fun x i => x.setVr i (slice f (0x600 + 64 * i) 64)) x
    let ds := ((List.range 8).map fun i => slice f (0xA0 + 32 * i) 32).filter fun d => dmaLen d != 0
    let x := { x with acc := Tab.setList (fun _ => 0) [] 0 ((List.range 1024).map fun i => wordOf f (0xE00 + 4 * i))
                      cim := Tab.setList (fun _ => 0) [] 0 ((List.range 2048).map fun i => wordOf f (0x1E00 + 4 * i))
                      fp32 := setPositions 4 (wordOf f 0x3E00).toNat, dma := ds.map fun d => (s.tileTen t, d) }
    let s := ((s.setTile t x).setReg (TILE_SLEEP t) (c 0 &&& 3)).setReg (TILE_CLKDIV t) (c 1 &&& 3)
    (List.range (min 128 ccount)).foldl (fun s i =>
      if cbase + i < 2048 then
        (s.setScValue (2048 * t + cbase + i) (wordOf f (0x200 + 8 * i))).setScConfig (2048 * t + cbase + i) (wordOf f (0x204 + 8 * i))
      else s) s

/-! ### Dispatch, switch and resume (R371 to R374) -/

/-- The registers a dispatch sets on one tile (R243). -/
def State.tileDispatch (s : State) (j : Job) (t rank : Nat) : State :=
  let s := s.tileBegin t j.ten j.id (jobEntry j.d) false
  let x := s.tile t
  let x := ((x.setGr 1 (word (descWord j.d 4))).setGr 2 (word rank)).setGr 3 (word (jobTiles j.d).length)
  (s.setTile t (x.setCcr 0x0F (word (jobCtx j.d)))).setReg (TILE_MESH_INBOX t) (word (descWord j.d 0x34 &&& 0x7F107))

/-- A resume on one tile: the frame after the clearing of R244. -/
def State.tileResume (s : State) (j : Job) (t rank : Nat) : State :=
  let s := s.tileDispatch j t rank
  let s := s.unframe t (jf j.d 0x38 10 0) (jf j.d 0x38 23 16) (s.bytesAt (spad t (jobCtx j.d)) 0x4000)
  let x := s.tile t
  s.setTile t { x with chk := (j.chk.find? fun c => c.1 == t).map (·.2), x := if j.skip.contains t then some {} else none }

/-- The tiles of a job with their ranks. -/
def Job.ranked (j : Job) : List (Nat × Nat) := List.zip (List.range (jobTiles j.d).length) (jobTiles j.d)

/-- A placed job starts or resumes on its tiles, all of them clocked: models, flips, then every tile. -/
def State.jobStart (s : State) (k : Nat) (j : Job) : State :=
  match State.modelsOk j j.ranked s with
  | (none, s) => s
  | (some false, s) => s.jobEnd k 0x07 0 0
  | (some true, s) =>
    match s.broadcastFlip (s.flipTiles j) with
    | (0, s) =>
      let s := j.ranked.foldl (fun s p => if j.st = 2 then s.tileDispatch j p.2 p.1
        else if j.ovr.contains p.2 then s else s.tileResume j p.2 p.1) s
      s.setJob k { j with st := 3, placed := true, switching := false, start := if j.st = 2 then s.now else j.start, spill := 0
                          moves := [], todo := [], skip := [] }
    | (_, s) => s.jobEnd k 0x16 0 0

/-- Submit as many of a job's spill MOVEs as the queue takes. -/
def State.spillSubmit (s : State) (k : Nat) : State :=
  match s.job k with
  | none => s
  | some j =>
    let n := 8 - s.mem.moves.length
    let (bad, s) := (j.todo.take n).foldl (fun (bad, s) (m : Nat × Nat × Nat) =>
      let mv : Move := { tenant := j.ten, src := m.1, dst := m.2.1, len := m.2.2, rel := true, note := 0, origin := 8, job := k }
      match s.moveSubmit mv with
      | (0, s) => (bad, s)
      | (_, s) => (true, s)) (j.bad, s)
    s.setJob k { j with todo := j.todo.drop n, bad := bad }

/-- Whether granules that a spill released for slot `k` are still being wiped. -/
def State.spillWiping (s : State) (k : Nat) (d : List Byte) : Bool :=
  (s.sch.jobs.any fun e => e.2.any fun l => l.st == 5 && l.spillFor == k) &&
    s.mem.wipe01.any fun g => g / 0x40000 == 0 && (jobTiles d).contains (g / 128)

/-- Whether a granule of some range is still being wiped. -/
def State.wipingAt (s : State) (rs : List (Nat × Nat)) : Bool :=
  rs.any fun r => ((granulesOf r.1 r.2).getD []).any fun g => s.ownOf g % 4 == 2

/-- A placed job goes on: it starts where its tiles are clocked; a SPILLED one first moves its data back. -/
def State.placedGo (s : State) (k : Nat) (j : Job) : State :=
  if !(jobTiles j.d).all (fun t => s.domClocked (tileDom t)) ∨ s.spillWiping k j.d then s
  else if j.st = 5 then
    (if j.spill = 4 ∧ !s.wipingAt (j.moves.map fun m => (m.1, m.2.2)) then
      (s.setJob k { j with spill := 5, todo := j.moves.map (fun m => (m.2.1, m.1, m.2.2)), bad := false }).spillSubmit k
    else s)
  else s.jobStart k j

/-- How a candidate can be placed: none where some tile of its set cannot be had; else the slots it displaces. -/
def State.victims (s : State) (k : Nat) (j : Job) : Option (List Nat) :=
  (jobTiles j.d).foldl (fun acc t =>
    match acc with
    | none => none
    | some l =>
      match s.holder t with
      | none => if s.tileSt t = 0 ∧ !(s.tile t).frogDue then some l else none
      | some h =>
        if h = k then some l
        else match s.job h with
          | some v =>
            if jobPrio v.d < jobPrio j.d ∧ !v.switching ∧ v.ending.isNone ∧
                (v.spill = 0 ∨ v.spill = 1 ∧ s.jobReserved j.d) then some (if l.contains h then l else l ++ [h]) else none
          | none => none) (some [])

/-- A victim that holds its tiles but does not run yet gives them up; its requests stay until it ends (R45). -/
def State.unplace (s : State) (h : Nat) : State :=
  match s.job h with
  | some v => if v.placed && v.st != 3 then s.setJob h { v with placed := false } else s
  | none => s

/-- The core of a switched-out tile stops at the bundle boundary (R373 step 1); a stalled S slot is abandoned. -/
def State.tilePark (s : State) (t : Nat) : State :=
  let x := s.tile t
  let s : State := { s with stalls := s.stalls.filter fun e => !(e.q.cls == 0 && e.q.index == t && !e.wr) }
  (s.coreReadsDrop t).setTile t { x with yielded := true, parked := true, x := none, await := none }

/-- Place the job in slot `k` if its tiles can be had (R371, R373, R375). -/
def State.place (s : State) (k : Nat) : State :=
  match s.job k with
  | none => s
  | some j =>
    if j.placed then (if j.switching then s else s.placedGo k j)
    else match s.victims k j with
      | none => s
      | some vs =>
        let s := vs.foldl State.unplace s
        let run := vs.filter fun h => (s.job h).any fun v => v.st == 3
        if run = [] then
          let j := { j with placed := true }
          ((s.setJob k j).jobHold k j.d).placedGo k j
        else if s.jobReserved j.d then
          let s := run.foldl (fun s h => match s.job h with
            | some v =>
              let s := (jobTiles v.d).foldl (fun s t => (s.setTile t { s.tile t with preempt := false, yielded := false }).tilePark t) s
              s.setJob h { v with spill := 0 }
            | none => s) s
          (s.setJob k { j with placed := true, switching := true }).jobHold k j.d
        else if j.noSpill then s
        else run.foldl (fun s h => match s.job h with
          | some v =>
            let s := (jobTiles v.d).foldl (fun s t => s.setTile t { s.tile t with preempt := true }) s
            s.setJob h { v with spill := 1, spillFor := k, bad := false }
          | none => s) s

/-- The candidates of one evaluation. -/
def State.candidates (s : State) : List Nat :=
  s.openSlots.filter fun k => (s.job k).any fun j => j.ending.isNone && (j.st == 2 || j.st == 4 || j.st == 5)

/-- The order of dispatch (R371): priority, then release, then R35 over the slot index. -/
def State.order : Nat → List Nat → State → List Nat × State
  | 0, _, s => ([], s)
  | n + 1, ks, s =>
    let prio := fun k => ((s.job k).map fun j => jobPrio j.d).getD 0
    let rel := fun k => ((s.job k).map (·.rel)).getD 0
    let top := ks.filter fun k => ks.all fun i => prio i ≤ prio k
    let top := top.filter fun k => top.all fun i => rel k ≤ rel i
    match top with
    | [] => ([], s)
    | [k] =>
      let (l, s) := State.order n (ks.filter (· != k)) s
      (k :: l, s)
    | k :: _ =>
      let (w, s) := s.arbitrate 7 512 top false
      let w := w.getD k
      let (l, s) := State.order n (ks.filter (· != w)) s
      (w :: l, s)

/-- SCHEDULER_EVALUATE (R370, R371). -/
def schEvaluate (s : State) : State :=
  if !s.domOn 2 then s
  else
    let s := s.sbEnter.beat
    let s := s.openSlots.foldl State.sbConsume s
    let s := s.openSlots.foldl State.makeReady s
    if s.flag SCH_CTRL 1 then s
    else
      let (l, s) := State.order s.candidates.length s.candidates s
      l.foldl State.place s

/-- Whether a switched-out tile is ready to be saved (R373 step 2): a transfer rests between blocks; a halted one is not (R437). -/
def State.drained (s : State) (t : Nat) : Bool :=
  let x := s.tile t
  s.tileSt t != 4 && !x.frogDue && x.cimQ.isEmpty && x.out.isEmpty && x.stg.isEmpty && (x.stage.isEmpty || x.dmaCode.isSome) &&
    !s.dmaReads t && s.domClocked (tileDom t)

/-- Save the frame of a victim's tile (step 3). -/
def State.saveTile (s : State) (v : Job) (t : Nat) : State :=
  let x := s.tile t
  if s.tileSt t = 0 then s.setTile t { x with parked := false, yielded := false }
  else
    let pc := if x.wait.isSome then (s.tilePc t + 0x10000 - 8) % 0x10000 else s.tilePc t
    let s := s.localStore t (jobCtx v.d) (s.frame t pc (jf v.d 0x38 10 0) (jf v.d 0x38 23 16))
    let prev := x.prev
    let s := (s.readsDrop t).tileStop t
    s.setTile t { s.tile t with prev := prev, dma := [], dmaOn := false, dmaPos := 0, dmaCode := none, stage := [], stageBad := [], inbox := [] }

/-- SWITCH_DONE of slot `k`: every victim is saved and SWITCHED, and the incoming job starts. -/
def switchDone (k : Nat) (s : State) : State :=
  match s.job k with
  | none => s
  | some j =>
    let vs := (s.openSlots.filter fun h => h != k && (s.job h).any fun v => v.st == 3 && (jobMask v.d &&& jobMask j.d != 0))
    let tiles := vs.flatMap fun h => ((s.job h).map fun v => jobTiles v.d).getD []
    if !j.switching ∨ !tiles.all s.drained ∨ !s.frogsDone j.d then s
    else
      let s := vs.foldl (fun s h => match s.job h with
        | some v =>
          let ts := jobTiles v.d
          let skip := ts.filter fun t => (s.tile t).wait.isSome
          let chk := ts.filterMap fun t => (s.tile t).chk.map fun c => (t, c.1, c.2)
          let ovr := ts.filter fun t => s.tileSt t == 0
          let s := ts.foldl (fun s t => s.saveTile v t) s
          s.setJob h { v with st := 4, placed := false, skip := skip, chk := chk, ovr := ovr }
        | none => s) s
      let j := { j with switching := false }
      (s.setJob k j).placedGo k j

/-! ### The spill path (R375) -/

/-- SPILL_YIELDED of slot `k`: every tile has executed YIELD or END; each yielded one saves a yield frame. -/
def spillYielded (k : Nat) (s : State) : State :=
  match s.job k with
  | none => s
  | some l =>
    if l.spill ≠ 1 ∨ !(jobTiles l.d).all (fun t => s.tileSt t == 0 || (s.tile t).yielded) then s
    else
      let s := (jobTiles l.d).foldl (fun s t =>
        if s.tileSt t = 0 then s
        else s.localStore t (jobCtx l.d) (wordBytes (word (s.tilePc t) :: (List.range 31).map fun i => (s.tile t).gr (i + 1)))) s
      s.setJob k { l with spill := 2 }

/-- Whether work that a tile submitted is queued or active (R375 step 2). -/
def State.tileWork (s : State) (t : Nat) : Bool :=
  let mine := fun (q : Req) => decide (q.cls ≤ 1) && q.index == t
  !(s.tile t).dma.isEmpty || ([0, 1].any fun e => (s.hookOf e).queue.any fun x => mine x.2) || s.vox.queue.any (fun x => mine x.2) ||
    s.su.queue.any (fun x => mine x.2.2) || s.mem.moves.any fun m => m.tile == some t

/-- Runs of neighbouring T0 granules as (address, bytes). -/
def granRuns : List Nat → List (Nat × Nat)
  | [] => []
  | g :: gs =>
    match granRuns gs with
    | (a, n) :: r => if granBase g + 0x1000 = a then (granBase g, n + 0x1000) :: r else (granBase g, 0x1000) :: (a, n) :: r
    | [] => [(granBase g, 0x1000)]

/-- The granules of a job's SHARED T0 skeins on the tiles of another. -/
def State.spillGrans (s : State) (l h : List Byte) : List Nat :=
  (s.mem.own.filter fun e => e.1 / 0x40000 == 0 && e.2 % 4 == 1 && (jobTiles h).contains (e.1 / 128) &&
    (jobSkeins l).any fun k => nbits e.2 10 5 == k && (s.skein k).shared && (s.skein k).tier == 0).map (·.1)

/-- The lowest run of `n` FREE T2 granules of a skein's range. -/
def State.freeRun (s : State) (k n : Nat) : Option Nat :=
  let x := s.skein k
  ((List.range (x.limit + 1 - x.base)).map (x.base + ·)).find? fun b =>
    b + n ≤ x.limit + 1 && (List.range n).all fun i => s.ownOf (gran 2 (b + i)) % 4 == 0

/-- Lay runs out one after another from an address. -/
def layOut : List (Nat × Nat) → Nat → List (Nat × Nat × Nat)
  | [], _ => []
  | (a, n) :: r, dst => (a, dst, n) :: layOut r (dst + n)

/-- Runs no longer than 64 MiB are one MOVE each. -/
def State.spillMoves (s : State) (l h : List Byte) : Option (List (Nat × Nat × Nat)) :=
  let runs := granRuns (s.spillGrans l h)
  let bytes := runs.foldl (fun a r => a + r.2) 0
  if runs = [] then some []
  else (s.freeRun (jf l 0x24 5 0) (ceilDiv bytes 0x10000)).map fun b => layOut runs (0x100000000 + b * 0x10000)

/-- A spill that has failed: the job runs on unchanged, IRQ_RAW bit 2; its displacer is not spilled for again. -/
def State.spillFail (s : State) (k : Nat) (l : Job) : State :=
  let s := (jobTiles l.d).foldl (fun s t => s.setTile t { s.tile t with preempt := false, yielded := false }) s
  ((s.setJob k { l with spill := 0, moves := [], todo := [], bad := false }).modJob l.spillFor fun h => { h with noSpill := true }).irq 0x028 2

/-- SPILL_DRAINED of slot `k`: its tiles' work is done, and its MOVEs are issued. -/
def spillDrained (k : Nat) (s : State) : State :=
  match s.job k with
  | none => s
  | some l =>
    if l.spill ≠ 2 ∨ (jobTiles l.d).any s.tileWork then s
    else
      let h := ((s.job l.spillFor).map (·.d)).getD l.d
      match s.spillMoves l.d h with
      | none => s.spillFail k l
      | some ms => (s.setJob k { l with spill := 3, moves := ms, todo := ms }).spillSubmit k

/-- Take the endings of slot `k`'s MOVEs: whether any is still out, and whether one failed. -/
def State.spillEndings (s : State) (k : Nat) : Bool × State :=
  let mine := s.mem.done.filter fun e => e.1 == 8 && e.2.1 == k
  let s : State := { s with mem.done := s.mem.done.filter fun e => !(e.1 == 8 && e.2.1 == k) }
  let s := if mine.any (fun e => e.2.2 != 0) then s.modJob k fun j => { j with bad := true } else s
  (s.mem.moves.any fun m => m.origin == 8 && m.job == k, s)

/-- The MOVEs that bring back what a failed spill has moved: its source granules have left their skein. -/
def State.spillBack (s : State) (l : Job) : List (Nat × Nat × Nat) :=
  (l.moves.filter fun m => ((granulesOf m.1 m.2.2).getD []).all fun g => s.ownOf g % 4 != 1).map fun m => (m.2.1, m.1, m.2.2)

/-- SPILL_MOVED of slot `k`: the MOVEs are done; the job is SPILLED, or where one failed it resumes when what had moved
is back. -/
def spillMoved (k : Nat) (s : State) : State :=
  match s.job k with
  | none => s
  | some l =>
    if l.spill ≠ 3 ∧ l.spill ≠ 6 then s
    else
      let (out, s) := s.spillEndings k
      match s.job k with
      | none => s
      | some l =>
        if l.spill = 6 then
          (if out then s
          else if l.bad then s.jobEnd k 0x14 0 0
          else if l.todo.isEmpty then (s.dropSpill l).spillFail k l
          else if s.wipingAt (l.todo.map fun m => (m.2.1, m.2.2)) then s
          else s.spillSubmit k)
        else if l.bad then
          (if out then s
          else match s.spillBack l with
            | [] => s.spillFail k l
            | ms => s.setJob k { l with spill := 6, todo := ms, bad := false })
        else if !l.todo.isEmpty then s.spillSubmit k
        else if out then s
        else
          let ovr := (jobTiles l.d).filter fun t => s.tileSt t == 0
          let s := (jobTiles l.d).foldl (fun s t =>
            let prev := (s.tile t).prev
            let s := if s.tileSt t = 0 then s else s.tileStop t
            s.setTile t { s.tile t with prev := prev, preempt := false, yielded := false, inbox := [] }) s
          s.setJob k { l with st := 5, spill := 4, placed := false, ovr := ovr }

/-- SPILL_RESTORE_DONE of slot `k`: the data is back and the job resumes, or ends RESTORE_FAIL. -/
def spillRestoreDone (k : Nat) (s : State) : State :=
  match s.job k with
  | none => s
  | some l =>
    if l.spill ≠ 5 then s
    else
      let (out, s) := s.spillEndings k
      match s.job k with
      | none => s
      | some l =>
        if out then s
        else if l.bad then s.jobEnd k 0x14 0 0
        else if !l.todo.isEmpty then s.spillSubmit k
        else (s.dropSpill l).jobStart k l

/-! ### The deadline monitor (R376 to R378), in 1/192 us -/

/-- A timestamp of 38.4 MHz in 1/192 us. -/
def units (ts : Nat) : Int := 5 * ts

/-- The bytes a spill must move for a best-effort job that waits. -/
def State.spillBytes (s : State) (k : Nat) (j : Job) : Nat :=
  if s.jobReserved j.d ∨ j.noSpill then 0
  else (s.openSlots.filter fun h => h != k && (s.job h).any fun v =>
      v.st == 3 && decide (jobPrio v.d < jobPrio j.d) && (jobMask v.d &&& jobMask j.d != 0)).foldl
    (fun a h => a + 0x1000 * (s.spillGrans (((s.job h).map (·.d)).getD []) j.d).length) 0

/-- The projected finish F. -/
def State.finish (s : State) (k : Nat) (j : Job) : Int :=
  let est : Int := jobEst j.d * 192
  let now := units s.now
  if j.st = 3 ∨ j.st = 4 then
    let start := units j.start
    (jobTiles j.d).foldl (fun a t =>
      let c := if j.st = 4 then (j.chk.find? fun c => c.1 == t).map (·.2) else (s.tile t).chk
      let f := match c with
        | some (p, at') =>
          if p = 0 then start + est else start + (units at' - start) * (jobTotal j.d : Int) / (min p (jobTotal j.d) : Nat)
        | none => start + est
      max a f) now
  else now + est + (s.spillBytes k j * 3 / 500 : Nat)

/-- The deadline D. -/
def Job.deadline (j : Job) : Int := units j.rel + jobDeadline j.d * 192

/-- Whole us, rounded to nearest. -/
def usOf (x : Int) : Int := (x + 96) / 192

/-- The monitor acts on a late job (R377). -/
def State.dlmAct (s : State) (k : Nat) (j : Job) (f : Int) : State :=
  let code := if j.sw.isSome then 0x12 else 0x11
  let s := (s.setReg DLM_LAST (word (j.id + code * 0x10000))).setReg DLM_LAST_PROJ (ofInt (usOf (f - j.deadline)))
  match j.sw with
  | none => ((s.bumpSat DLM_EVT 31 16).irq 0x02A 1).jobFrog k 0x11 0 0
  | some (addr, w) =>
    let s := ((s.bumpSat DLM_EVT 15 0).irq 0x02A 0).dropSpill j
    let running := j.st == 3 || (1 ≤ j.spill && j.spill ≤ 3)
    let s := if running then
        (jobTiles j.d).foldl (fun s t => s.setTile t { s.tile t with frogDue := true, preempt := false }) s else s
    let s := (((s.unholdAll 9 k).spillAbandon k).switchDrop k j).jobSkeinsFree j.d
    let s := (s.jobReport j 0x12 0 0).irq 0x028 0
    let next : Job := { id := j.id, ten := j.ten, addr := addr, d := w, st := 2, rel := j.rel, period := j.period, swatch := true
                        placed := running, switching := running, dep := true }
    s.setJob k { next with d := w.take 0x10 ++ leBytes 4 (jobDeadline j.d) ++ w.drop 0x14 }

/-- DLM_EVALUATE: every job with a deadline that is projected late is acted on. -/
def dlmEvaluate (s : State) : State :=
  if !s.domOn 2 ∨ !s.flag DLM_CTRL 0 then s
  else s.openSlots.foldl (fun s k =>
    match s.job k with
    | none => s
    | some j =>
      let f := s.finish k j
      if jobDeadline j.d ≠ 0 ∧ j.ending.isNone ∧ j.deadline - jobMargin j.d * 192 < f then s.dlmAct k j f else s) s.beat

/-- Whether another job runs on a tile of the job `j` in slot `k`. -/
def State.overlapped (s : State) (k : Nat) (j : Job) : Bool :=
  s.openSlots.any fun h => h != k && (s.job h).any fun v => v.st == 3 && (jobMask v.d &&& jobMask j.d != 0)

/-- SWATCH_DISPATCH of slot `k`: the frogs of the job it replaces are done, and the swatch takes the tiles. -/
def swatchDispatch (k : Nat) (s : State) : State :=
  match s.job k with
  | none => s
  | some j =>
    if !j.swatch ∨ !j.switching ∨ !s.frogsDone j.d ∨ s.overlapped k j then s
    else
      let j := { j with switching := false }
      ((s.setJob k j).jobHold k j.d).placedGo k j

/-! ### Cancel, broadcast flips, views (R379, R389) -/

/-- The slot of a job identifier of tenant `t` that has not ended. -/
def State.jobById (s : State) (t id : Nat) : Option Nat :=
  s.openSlots.find? fun k => (s.job k).any fun j => j.id == id && j.ten == t && !j.swatch

/-- SCH_T_CANCEL: ignored while BUSY; decided when it is posted. -/
def schCancel (t : Nat) (v : Word) (s : State) : State :=
  if s.schBusy t then s
  else
    let s := s.schAccept t
    { s with sch.cancels := s.sch.cancels.set (fun _ => none) t (some (bits v 15 0)) }

/-- SCH_CANCEL_POST: a running job is frogged first; the result is OK or REFUSED. -/
def schCancelPost (t : Nat) (s : State) : State :=
  match s.sch.cancels.get (fun _ => none) t with
  | none => s
  | some id =>
    let s : State := { s with sch.cancels := s.sch.cancels.set (fun _ => none) t none }
    match s.jobById t id with
    | some k => (((s.job k).map fun j => s.dropSpill j).getD s |>.jobFrog k 0x15 0 0).schPost t 0
    | none => (s.logRefusal (schReq t) (regBase + SCH_T_CANCEL t) true 7).schPost t 1

/-- Post the end of SCH_FLIP_CMD. -/
def State.flipPost (s : State) (code bad : Nat) : State :=
  let s : State := { s with sch := { s.sch with flipMask := none, flipOn := false } }
  ((s.setReg64 SCH_FLIP_FAIL_LO SCH_FLIP_FAIL_HI bad).setReg SCH_FLIP_RESULT (word code)).irq 0x028 3

/-- SCH_FLIP_CMD (Table 18.4): FLIP_FAIL where a tile is held by a job; else the broadcast is accepted. -/
def schFlipCmd (v : Word) (s : State) : State :=
  let mask := (s.reg SCH_FLIP_LO).toNat + 0x100000000 * (s.reg SCH_FLIP_HI).toNat
  let held := (setPositions 64 mask).filter fun t => (s.holder t).isSome
  if !bit v 0 ∨ s.flag SCH_FLIP_RESULT 8 then s
  else if held ≠ [] then
    let bad := held.foldl (fun a t => a + 2 ^ t) 0
    s.flipPost 0x16 bad
  else ({ s with sch.flipMask := some mask } : State).setReg SCH_FLIP_RESULT 0x100

/-- The broadcast of an accepted mask (R290): every tile is checked before any flips. -/
def flipBroadcast (mask : Nat) (s : State) : State :=
  if s.sch.flipMask ≠ some mask ∨ s.sch.flipOn then s
  else match s.broadcastFlip mask with
    | (0, s) => { s with sch.flipOn := true }
    | (bad, s) => s.flipPost 0x16 bad

/-- A tile's flip ends; with the last of a broadcast its result is posted. -/
def flipDoneAll (t : Nat) (s : State) : State :=
  let s := flipDone t s
  match s.sch.flipMask with
  | some m => if s.sch.flipOn && (setPositions 64 m).all (fun i => !s.flipping i) then s.flipPost 0 0 else s
  | none => s

/-- SCH_STATUS. -/
def State.schStatus (s : State) : Word :=
  word (s.openSlots.length % 512 + (s.openSlots.filter fun k => (s.job k).any fun j => j.st == 3).length % 128 * 0x200)

/-- The tiles held by jobs. -/
def State.schTiles (s : State) : Nat :=
  ((List.range 64).filter fun t => (s.holder t).isSome).foldl (fun a t => a + 2 ^ t) 0

/-- SCH_T_JOBSTAT of the selected job; one that its swatch has replaced has ENDED with SWATCHED (R377). -/
def State.jobStat (s : State) (t : Nat) : Word :=
  let id := s.fld (SCH_T_SEL t) 15 0
  match s.sch.jobs.find? fun e => e.2.any fun j => j.id == id && j.ten == t with
  | some (_, some j) => if j.swatch then word 0x1206 else word (j.st + j.code * 0x100)
  | _ => 0

/-- SCH_T_PROJ of the selected job. -/
def State.jobProj (s : State) (t : Nat) : Word :=
  let id := s.fld (SCH_T_SEL t) 15 0
  match s.sch.jobs.find? fun e => e.2.any fun j => j.id == id && j.ten == t with
  | some (k, some j) => if j.st = 6 ∨ j.swatch then 0 else ofInt (usOf (j.deadline - jobMargin j.d * 192 - s.finish k j))
  | _ => 0

/-! ### Meanings -/

def execSchJobSubmit (q : Req) (ten : Nat) (v : Word) (s : State) : Host.Outcome State Fault Refusal :=
  only (q.wf && decide (ten < 8)) s (s.writeVia q (SCH_JOB_SUBMIT ten) v (schSubmit ten v))
def execAdmissionPost (ten : Nat) (s : State) : Host.Outcome State Fault Refusal :=
  only (decide (ten < 8)) s (s.heldIdle 0x028 (admissionPost ten s))
def execSchedulerEvaluate (s : State) : Host.Outcome State Fault Refusal :=
  only true s (s.heldIdle 0x028 (schEvaluate s))
def execSwitchDone (slot : Nat) (s : State) : Host.Outcome State Fault Refusal :=
  only true s (s.heldIdle 0x028 (switchDone slot s))
def execSpillYielded (slot : Nat) (s : State) : Host.Outcome State Fault Refusal :=
  only true s (s.heldIdle 0x028 (spillYielded slot s))
def execSpillDrained (slot : Nat) (s : State) : Host.Outcome State Fault Refusal :=
  only true s (s.heldIdle 0x028 (spillDrained slot s))
def execSpillMoved (slot : Nat) (s : State) : Host.Outcome State Fault Refusal :=
  only true s (s.heldIdle 0x028 (spillMoved slot s))
def execSpillRestoreDone (slot : Nat) (s : State) : Host.Outcome State Fault Refusal :=
  only true s (s.heldIdle 0x028 (spillRestoreDone slot s))
def execDlmEvaluate (s : State) : Host.Outcome State Fault Refusal :=
  only true s (s.heldIdle 0x02A (dlmEvaluate s))
def execSwatchDispatch (slot : Nat) (s : State) : Host.Outcome State Fault Refusal :=
  only true s (s.heldIdle 0x02A (swatchDispatch slot s))
def execSchTCancel (q : Req) (ten : Nat) (v : Word) (s : State) : Host.Outcome State Fault Refusal :=
  only (q.wf && decide (ten < 8)) s (s.writeVia q (SCH_T_CANCEL ten) v (schCancel ten v))
def execSchCancelPost (ten : Nat) (s : State) : Host.Outcome State Fault Refusal :=
  only (decide (ten < 8)) s (s.heldIdle 0x028 (schCancelPost ten s))
def execSchFlipCmd (q : Req) (v : Word) (s : State) : Host.Outcome State Fault Refusal :=
  only q.wf s (s.writeVia q SCH_FLIP_CMD (setBit v 0 true) (schFlipCmd (setBit v 0 true)))
def execBroadcastFlip (mask : Nat) (s : State) : Host.Outcome State Fault Refusal :=
  only true s (flipBroadcast mask s)
def execFlipDone (t : Nat) (s : State) : Host.Outcome State Fault Refusal :=
  only (decide (t < 64)) s (s.heldIdle (0x100 + t) (flipDoneAll t s))

end Sys2Proof.Machine
end

