-- ==== Sys2Proof/Machine/Repeat.lean ====
section
/-! DEFINITION. The Repeat Table (R380 to R386): rows and commits, the period lock, leads and releases. -/

namespace Sys2Proof.Machine

/-! ### Rows (R380, R381) -/

/-- The timestamp in 1/16 tick. -/
def State.now16 (s : State) : Nat := s.pwr.ts / 0x10000

/-- Whether row `r` is one of tenant `t`'s. -/
def State.rowIn (s : State) (t r : Nat) : Bool :=
  let b := s.fld (RPT_RANGE t) 7 0
  decide (r < 256) && b ≤ r && r < b + s.fld (RPT_RANGE t) 16 8

/-- The tenant of a row. -/
def State.rowTenant (s : State) (r : Nat) : Option Nat := (List.range 8).find? fun t => s.rowIn t r

/-- Word `w` of live row `r`. -/
def State.liveW (s : State) (r w : Nat) : Word := s.rpt.live.get (fun _ => 0) (4 * r + w)

/-- Word `w` of shadow row `r`. -/
def State.shadowW (s : State) (r w : Nat) : Word := s.rpt.shadow.get (fun _ => 0) (4 * r + w)

/-- Whether live row `r` is VALID. -/
def State.rowValid (s : State) (r : Nat) : Bool := bit (s.liveW r 0) 31

/-- A row word without its reserved bits (Table 18.3). -/
def rowWord (w : Nat) (v : Word) : Word :=
  match w with
  | 0 => v &&& 0x8FFFFFFF
  | 1 => v &&& 0x03FFFFFF
  | 2 => v
  | _ => 0

/-- Write row words as live rows. -/
def State.setLive (s : State) (rows : List (Nat × List Word)) : State :=
  { s with rpt.live := rows.foldl (fun l e => Tab.setList (fun _ => 0) l (4 * e.1) e.2) s.rpt.live }

/-- Rows `gone` cease to exist: live, shadow and copied rows become invalid at once (R381). -/
def State.rowsDrop (s : State) (gone : Nat → Bool) : State :=
  { s with rpt.live := s.rpt.live.clear (fun k => gone (k / 4)), rpt.shadow := s.rpt.shadow.clear (fun k => gone (k / 4))
           rpt.goLive := s.rpt.goLive.filter (fun e => !gone e.1), adsel.rptCopy := s.adsel.rptCopy.filter (fun e => !gone e.1) }

/-- Teardown of tenant `t` (R381): its rows are invalid and its scoreboard entries are cleared. -/
def State.rptTeardown (s : State) (t : Nat) : State :=
  let s := s.rowsDrop (s.rowIn t)
  { s with sch.sb := s.sch.sb.filter (fun e => e.2.1 != t), rpt.commits := s.rpt.commits.set (fun _ => none) t none }

/-- Whether the access of window `t` to the row it selects is refused (R381). -/
def State.rowRefused (s : State) (t : Nat) : Bool := !s.rowIn t (s.fld (RPT_T_SEL t) 7 0)

/-- Write shadow word `w` of the row window `t` selects. -/
def rptRowWrite (q : Req) (t w : Nat) (v : Word) (s : State) : State :=
  if s.rowRefused t then s.refuse q (regBase + RPT_T_ROW t w) true 1
  else { s with rpt.shadow := s.rpt.shadow.set (fun _ => 0) (4 * s.fld (RPT_T_SEL t) 7 0 + w) (rowWord w v) }

/-- RPT_RANGE of tenant `t` (R389). -/
def rptRange (q : Req) (t : Nat) (v : Word) (s : State) : State :=
  let new := fun r => decide (r < 256) && bits v 7 0 ≤ r && decide (r < bits v 7 0 + bits v 16 8)
  if (List.range 8).any fun u => u != t && (List.range 256).any fun r => new r && s.rowIn u r then s.fail q (RPT_RANGE t) 0x10
  else
    let s := s.rowsDrop fun r => s.rowIn t r && !new r
    s.setReg (RPT_RANGE t) (s.written (RPT_RANGE t) v)

/-! ### Commits (R381) -/

/-- The shadow rows of tenant `t`. -/
def State.shadowRows (s : State) (t : Nat) : List (Nat × List Word) :=
  ((List.range 256).filter (s.rowIn t)).map fun r => (r, (List.range 4).map (s.shadowW r))

/-- Check rows of tenant `t`: none while a descriptor's fetch waits. -/
def State.rowsCheck (t : Nat) : List (Nat × List Word) → State → Option Bool × State
  | [], s => (some true, s)
  | (r, ws) :: l, s =>
    let w := fun i => ws.getD i 0
    if !bit (w 0) 31 then State.rowsCheck t l s
    else if !s.rowIn t r ∨ s.fld RPT_PERIOD 25 0 ≤ bits (w 1) 25 0 ∨ !(bits (w 2) 7 0 == 0xFF || s.rowIn t (bits (w 2) 7 0)) then
      (some false, s)
    else match s.jobTake t (bits (w 0) 27 0 * 64) with
      | (none, s) => (none, s)
      | (some none, s) => (some false, s)
      | (some (some (d, _)), s) => if s.jobReserved d then State.rowsCheck t l s else (some false, s)

/-- RPT_T_COMMIT: the shadow rows as they stand are taken for the check; ignored while BUSY. -/
def rptCommit (t : Nat) (v : Word) (s : State) : State :=
  if !bit v 0 ∨ s.flag (RPT_T_STAT t) 0 then s
  else
    let s := s.setReg (RPT_T_STAT t) (word (1 + (s.fld (RPT_T_STAT t) 31 16 + 1) % 0x10000 * 0x10000))
    { s with rpt.commits := s.rpt.commits.set (fun _ => none) t (some (s.shadowRows t)) }

/-- The post of a commit: OK, and the rows go live at the next period start; or REFUSED and nothing changes. -/
def rptCommitPost (t : Nat) (s : State) : State :=
  match s.rpt.commits.get (fun _ => none) t with
  | none => s
  | some rows =>
    match State.rowsCheck t rows s with
    | (none, s) => s
    | (some ok, s) =>
      let s : State := { s with rpt.commits := s.rpt.commits.set (fun _ => none) t none }
      let s := if ok then { s with rpt.goLive := s.rpt.goLive ++ rows }
        else s.logRefusal (schReq t) (regBase + RPT_T_COMMIT t) true 7
      s.setReg (RPT_T_STAT t) (word ((if ok then 0 else 0x100) + s.fld (RPT_T_STAT t) 31 16 * 0x10000))

/-! ### Periods (R382, R383) -/

/-- Whether the table runs. -/
def State.rptRuns (s : State) : Bool := s.flag RPT_STATUS 0

/-- The rows whose leads are held give them up. -/
def State.dropLeads (s : State) : State :=
  let s := s.rpt.leads.foldl (fun s e => s.unholdAll 9 (0x800 + e.1)) s
  { s with rpt.leads := [] }

/-- The table stops at once (R383): nothing more is scheduled. -/
def State.rptStop (s : State) : State :=
  let s := s.dropLeads.setFlag RPT_STATUS 0 false
  { s with rpt := { s.rpt with due := [], wait0 := false, restart := false, early := none, events := [] } }

/-- A new lock (R383): the timing registers are in force, P_EST is RPT_PERIOD and LOCKED is clear. -/
def State.rptTiming (s : State) : State :=
  let s := (s.setReg RPT_P_EST (word (s.fld RPT_PERIOD 25 0 * 16))).setFlag RPT_STATUS 1 false
  { s with rpt := { s.rpt with cfg := s.reg RPT_CFG, capture := s.fld RPT_CAPTURE 19 0, streak := 0, restart := false, early := none, events := [] } }

/-- The table waits for the lock event that is A_0, at `t` or later. -/
def State.rptWait0 (s : State) (t : Nat) : State :=
  { s with rpt := { s.rpt with wait0 := true, from0 := t, due := [] } }

/-- A lock event at `e` belongs to the current period (R382). -/
def State.lockAt (s : State) (e : Nat) : State :=
  let d : Int := (16 * e : Int) - s.rpt.a16
  let p := s.reg RPT_P_EST
  let s := s.setReg RPT_ERR (ofInt (d.tdiv 16))
  let s : State := { s with rpt := { s.rpt with next16 := 16 * e + p.toNat, got := true } }
  if d.natAbs ≤ 16 * s.rpt.capture then
    let s := s.setReg RPT_P_EST (ofInt ((p.toNat : Int) + d.fdiv (2 ^ bits s.rpt.cfg 11 8)))
    let s : State := { s with rpt.streak := s.rpt.streak + 1 }
    if 4 ≤ s.rpt.streak then s.setFlag RPT_STATUS 1 true else s
  else ({ (s.bumpSat RPT_EVT 15 8) with rpt.streak := 0 } : State).setFlag RPT_STATUS 1 false

/-- Whether live row `r` runs in period `n` (R385). -/
def State.rowRuns (s : State) (r n : Nat) : Bool :=
  let w := s.liveW r 2
  s.rowValid r && (bits w 15 8 ≤ 1 || n % bits w 15 8 == bits w 23 16)

/-- The rows of a live table, for Adsel's copy (R381). -/
def State.liveRows (s : State) : List (Nat × List Word) :=
  ((List.range 256).filter s.rowValid).map fun r => (r, (List.range 4).map (s.liveW r))

/-- Committed rows of their tenants go live, and Adsel copies the table. -/
def State.goLive (s : State) : State :=
  if s.rpt.goLive.isEmpty then s
  else
    let s := s.setLive s.rpt.goLive
    { s with rpt.goLive := [], adsel.rptCopy := s.liveRows }

/-- The period count the next period has. -/
def State.nextCount (s : State) : Nat := if s.rpt.first then 0 else (s.fld RPT_STATUS 31 16 + 1) % 0x10000

/-- A period starts at anchor `a` (1/16 tick). -/
def State.rptPeriod (s : State) (a : Nat) : State :=
  let n := s.nextCount
  let s := s.goLive
  let s := ((s.setFld RPT_STATUS 31 16 n).setReg64 RPT_ANCHOR_LO RPT_ANCHOR_HI (a / 16)).irq 0x029 0
  let rows := (List.range 256).filter fun r => s.rowRuns r n
  let early := s.rpt.early
  let used := s.openSlots.filterMap fun k => (s.job k).map (·.period)
  let s : State := { s with rpt := { s.rpt with
    a16 := a, next16 := a + (s.reg RPT_P_EST).toNat, first := false, got := false, missed := false, early := none
    due := s.rpt.due ++ rows.map fun r => (r, n, a + 16 * bits (s.liveW r 1) 25 0)
    skips := s.rpt.skips.filter fun e => e.2 == n || used.contains e.2 } }
  match early with
  | some e => s.lockAt e
  | none => s

/-- A period start at `a`: changes of timing apply, and the table restarts its lock where it must (R383); in bind-off
from stage 2 no further period starts (R387). -/
def State.rptBegin (s : State) (a : Nat) : State :=
  if 2 ≤ s.life.bindStage then s.rptStop
  else if s.rpt.restart then
    let s := s.rptTiming
    if bit s.rpt.cfg 1 then s.goLive.rptWait0 (ceilDiv a 16) else s.rptPeriod a
  else
    let s : State := { s with rpt := { s.rpt with
      capture := s.fld RPT_CAPTURE 19 0, cfg := setBits s.rpt.cfg 11 8 (s.fld RPT_CFG 11 8) } }
    s.rptPeriod a

/-- The table starts: A_0 is now, or the first lock event from now on. -/
def State.rptStart (s : State) : State :=
  let s := s.rptTiming.setFlag RPT_STATUS 0 true
  let s : State := { s with rpt.first := true }
  if bit s.rpt.cfg 1 then s.rptWait0 s.now else s.rptBegin (16 * s.now)

/-- RPT_CFG: starts the table, stops it at once, or changes stream or lock from the next period start. -/
def rptCfg (v : Word) (s : State) : State :=
  let old := s.reg RPT_CFG
  let s := s.setReg RPT_CFG (s.written RPT_CFG v)
  if !s.flag RPT_CFG 0 then (if s.rptRuns then s.rptStop else s)
  else if !s.rptRuns then s.rptStart
  else if bits old 5 1 = s.fld RPT_CFG 5 1 then s
  else if s.rpt.wait0 then
    let s := s.rptTiming
    if bit s.rpt.cfg 1 then s.rptWait0 s.now
    else ({ s with rpt.wait0 := false } : State).rptBegin (16 * s.now)
  else { s with rpt.restart := true }

/-- RPT_PERIOD: outside its range, or not above every valid live OFFSET, it is ignored with BAD_PERIOD. -/
def rptPeriodWrite (q : Req) (v : Word) (s : State) : State :=
  let p := bits v 25 0
  if p < 38400 ∨ 38400000 < p ∨ (List.range 256).any (fun r => s.rowValid r && p ≤ bits (s.liveW r 1) 25 0) then
    s.fail q RPT_PERIOD 0x11
  else
    let same := p == s.fld RPT_PERIOD 25 0
    let s := s.setReg RPT_PERIOD (s.written RPT_PERIOD v)
    if same ∨ !s.rptRuns then s else if s.rpt.wait0 then s.rptTiming else { s with rpt.restart := true }

/-- No lock event has come by A_n + CAPTURE: the period free-runs. -/
def State.rptMiss (s : State) : State :=
  let s := ((s.bumpSat RPT_EVT 7 0).irq 0x029 1).setFlag RPT_STATUS 1 false
  { s with rpt := { s.rpt with missed := true, streak := 0, next16 := s.rpt.a16 + (s.reg RPT_P_EST).toNat } }

/-- The table takes a lock event stamped `e` (R382). -/
def State.lockTake (s : State) (e : Nat) : State :=
  let r := s.rpt
  if !s.rptRuns ∨ !bit r.cfg 1 then s
  else if r.wait0 then
    if e < r.from0 then s
    else
      let s := ({ s with rpt.wait0 := false } : State).rptBegin (16 * e)
      if s.rptRuns then s.lockAt e else s
  else if r.got ∨ (r.missed ∧ r.next16 ≤ 16 * (e + r.capture)) then
    if r.next16 ≤ 16 * (e + r.capture) ∧ r.early.isNone then { s with rpt.early := some e } else s
  else if 16 * (e + r.capture) < r.a16 then s
  else (if !r.missed ∧ r.a16 + 16 * r.capture < 16 * e then s.rptMiss else s).lockAt e

/-- RPT_LOCK_EVENT: the oldest event of the table's stream, stamped `e`, is taken. -/
def lockEvent (e : Nat) (s : State) : State :=
  match s.rpt.events with
  | x :: l => if x = e then ({ s with rpt.events := l } : State).lockTake e else s
  | [] => s

/-- RPT_CAPTURE_MISS: a stamped event is taken before it. -/
def captureMiss (s : State) : State :=
  let r := s.rpt
  if !s.rptRuns ∨ !bit r.cfg 1 ∨ !r.events.isEmpty ∨ r.wait0 ∨ r.got ∨ r.missed ∨ s.now16 < r.a16 + 16 * r.capture then s else s.rptMiss

/-- RPT_PERIOD_START: the anchor of the next period has come. -/
def periodStart (s : State) : State :=
  let r := s.rpt
  if !s.rptRuns ∨ r.wait0 ∨ s.now16 < r.next16 ∨ (bit r.cfg 1 ∧ !r.got ∧ !r.missed) then s else s.rptBegin r.next16

/-! ### Leads and releases (R384, R385) -/

/-- The release a row waits for next: its period count and time. -/
def State.nextRelease (s : State) (row : Nat) : Option (Nat × Nat) :=
  match s.rpt.due.find? fun e => e.1 == row && !s.rpt.leads.contains (row, e.2.1) with
  | some e => some e.2
  | none =>
    let n := s.nextCount
    let known := !s.rpt.wait0 && !s.rpt.restart && (!bit s.rpt.cfg 1 || s.rpt.got || s.rpt.missed)
    if known ∧ s.rowRuns row n ∧ !s.rpt.leads.contains (row, n) then some (n, s.rpt.next16 + 16 * bits (s.liveW row 1) 25 0)
    else none

/-- ROW_LEAD: the row's domains are requested LEAD us before its release. -/
def rowLead (row : Nat) (s : State) : State :=
  match s.nextRelease row, s.rowTenant row with
  | some (n, t16), some ten =>
    let lead := bits (s.liveW row 2) 31 24
    if !s.rptRuns ∨ lead = 0 ∨ 5 * s.now16 + 3072 * lead < 5 * t16 then s
    else match s.jobFetch ten (bits (s.liveW row 0) 27 0 * 64) with
      | (some (some d), s) =>
        let s := (jobDoms d).foldl (fun s x => s.hold 9 (0x800 + row) x) s
        { s with rpt.leads := s.rpt.leads ++ [(row, n)] }
      | (_, s) => s
  | _, _ => s

/-- A row's release of period `n` is over: its lead ends. -/
def State.rowDone (s : State) (row n : Nat) : State :=
  let s : State := { s with rpt := { s.rpt with
    due := s.rpt.due.filter fun e => !(e.1 == row && e.2.1 == n)
    leads := s.rpt.leads.filter fun e => e != (row, n) } }
  if s.rpt.leads.any fun e => e.1 == row then s else s.unholdAll 9 (0x800 + row)

/-- A row does not run in period `n`. -/
def State.rowSkip (s : State) (row n : Nat) : State :=
  let s := s.rowDone row n
  { s with rpt.skips := s.rpt.skips ++ [(row, n)] }

/-- ROW_RELEASE: the instance of the row is scheduled, or skipped where the one before has not ended. -/
def rowRelease (row : Nat) (s : State) : State :=
  match s.rpt.due.find? fun e => e.1 == row with
  | none => s
  | some (_, n, t16) =>
    if !s.rptRuns ∨ !s.domOn 2 ∨ s.now16 < t16 then s
    else match (if s.rowValid row then s.rowTenant row else none) with
      | none => s.rowSkip row n
      | some ten =>
        if (s.job (256 + row)).any fun j => j.st != 6 then
          let v := s.rpt.stat.get (fun _ => 0) row
          let s : State := { s with rpt.stat := s.rpt.stat.set (fun _ => 0) row (setBits v 31 24 (min 255 (bits v 31 24 + 1))) }
          ((s.bumpSat RPT_EVT 31 16).irq 0x029 2).rowSkip row n
        else match s.jobTake ten (bits (s.liveW row 0) 27 0 * 64) with
          | (none, s) => s
          | (some none, s) =>
            let v := s.rpt.stat.get (fun _ => 0) row
            let s := s.logRefusal (schReq ten) (bits (s.liveW row 0) 27 0 * 64) false 7
            ({ s with rpt.stat := s.rpt.stat.set (fun _ => 0) row (setBits v 7 0 1) } : State).rowSkip row n
          | (some (some (d, sw)), s) =>
            let j : Job := { id := 0x8000 + n % 128 * 0x100 + row, ten := ten, addr := bits (s.liveW row 0) 27 0 * 64, d := d, sw := sw
                             st := 1, rel := ceilDiv t16 16, period := n, dep := jf d 0x28 31 31 == 0 }
            let s := s.workBegins.setJob (256 + row) j
            (s.jobHold (256 + row) d).rowDone row n

/-- RPT_T_ROWSTAT of the row window `t` selects. -/
def State.rowStat (s : State) (t : Nat) : Word := s.rpt.stat.get (fun _ => 0) (s.fld (RPT_T_SEL t) 7 0)

/-- RPT_T_ROW of the row window `t` selects. -/
def State.rowView (s : State) (t w : Nat) : Word := s.shadowW (s.fld (RPT_T_SEL t) 7 0) w

/-! ### The REPEAT_TABLE section (R386) -/

/-- Commit rows at cast-on step 14 as tenant 0's rows with RPT_PERIOD and RPT_CFG: none where it is refused. -/
def State.rptSection (s : State) (cfg period : Word) (rows : List (List Word)) : Option State :=
  let rs := List.zip (List.range rows.length) rows
  let snap := ((List.range 256).filter (s.rowIn 0)).map fun r => (r, (List.range 4).map fun w => rowWord w ((rows.getD r []).getD w 0))
  let s' := s.setReg RPT_PERIOD (s.written RPT_PERIOD period)
  if rs.any fun e => !s.rowIn 0 e.1 then none
  else match State.rowsCheck 0 snap s' with
    | (some true, s) =>
      let s : State := { s with rpt := { s.rpt with
        goLive := s.rpt.goLive ++ snap, shadow := snap.foldl (fun l e => Tab.setList (fun _ => 0) l (4 * e.1) e.2) s.rpt.shadow } }
      some (rptCfg cfg s)
    | _ => none

/-! ### Meanings -/

def execRptTCommit (q : Req) (ten : Nat) (v : Word) (s : State) : Host.Outcome State Fault Refusal :=
  only (q.wf && decide (ten < 8)) s (s.writeVia q (RPT_T_COMMIT ten) v (rptCommit ten v))
def execRptCommitPost (ten : Nat) (s : State) : Host.Outcome State Fault Refusal :=
  only (decide (ten < 8)) s (s.heldIdle 0x029 (rptCommitPost ten s))
def execRptCfgWrite (q : Req) (v : Word) (s : State) : Host.Outcome State Fault Refusal :=
  only q.wf s (s.writeVia q RPT_CFG v (rptCfg v))
def execRptPeriodWrite (q : Req) (v : Word) (s : State) : Host.Outcome State Fault Refusal :=
  only q.wf s (s.writeVia q RPT_PERIOD v (rptPeriodWrite q v))
def execRptRangeWrite (q : Req) (ten : Nat) (v : Word) (s : State) : Host.Outcome State Fault Refusal :=
  only (q.wf && decide (ten < 8)) s (s.writeVia q (RPT_RANGE ten) v (rptRange q ten v))
def execRptLockEvent (stamp : Nat) (s : State) : Host.Outcome State Fault Refusal :=
  only true s (s.heldIdle 0x029 (lockEvent stamp s))
def execRptCaptureMiss (s : State) : Host.Outcome State Fault Refusal :=
  only true s (s.heldIdle 0x029 (captureMiss s))
def execRptPeriodStart (s : State) : Host.Outcome State Fault Refusal :=
  only true s (s.heldIdle 0x029 (periodStart s))
def execRowLead (row : Nat) (s : State) : Host.Outcome State Fault Refusal :=
  only (decide (row < 256)) s (s.heldIdle 0x029 (rowLead row s))
def execRowRelease (row : Nat) (s : State) : Host.Outcome State Fault Refusal :=
  only (decide (row < 256)) s (s.heldIdle 0x029 (rowRelease row s))

end Sys2Proof.Machine
end

