-- ==== Sys2Proof/Machine/Host.lean ====
section
/-! DEFINITION. The host link's events (R390 to R398): link up and down, resets, link power, configuration space, the
host's accesses to memory; with IDE streams (R401, R402) as far as those end them. -/

namespace Sys2Proof.Machine

/-! ### IDE streams (R401, R402) -/

/-- The keys of stream `i`. -/
def State.ide (s : State) (i : Nat) : Ide := s.link.ide.get (fun _ => {}) i

/-- `s` with a stream's keys replaced. -/
def State.setIde (s : State) (i : Nat) (x : Ide) : State := { s with link.ide := s.link.ide.set (fun _ => {}) i x }

/-- The tenant a stream is bound to. -/
def State.ideTenant (s : State) (i : Nat) : Nat := s.fld (IDE_STREAM i) 14 12

/-- Whether stream `i` is Secure. -/
def State.ideSecure (s : State) (i : Nat) : Bool := decide (i < 3) && s.flag (IDE_STREAM i) 8

/-- The TDI that names stream `i` goes to ERROR. -/
def State.ideTdiError (s : State) (i : Nat) : State :=
  (s.link.tdi.filter fun e => e.2 == i).foldl (fun s e => s.tdiError e.1) s

/-- SECURE follows the keys and the enable; a stream that becomes Insecure takes its TDI to ERROR. -/
def State.ideUpdate (s : State) (i : Nat) : State :=
  let x := s.ide i
  let b := x.rxOn && x.txOn && s.pci.ideEnable.contains i
  let was := s.ideSecure i
  let s := s.setFlag (IDE_STREAM i) 8 b
  if was ∧ !b then s.ideTdiError i else s

/-- Every key of stream `i` is zeroised; the stream is Insecure and bound to nothing. -/
def State.ideDrop (s : State) (i : Nat) : State :=
  let s := (s.ide i).slots.foldl (fun s e => s.dropKey e.2) s
  let s := if (s.ide i).slots.isEmpty then s else s.ideTdiError i
  (s.setIde i {}).setFld (IDE_STREAM i) 31 8 0

/-- An integrity failure on stream `i` (R402, R403): counted, the stream Insecure, its TDI in ERROR. -/
def State.ideFail (s : State) (i : Nat) : State :=
  let s := ((s.bump (IDE_FAIL i)).irq 0x039 1).setIde i { s.ide i with rxOn := false, txOn := false }
  (s.ideTdiError i).ideUpdate i

/-- Keys of one direction leave set `k` of stream `i`; a set that holds no keys gives its slot back. -/
def State.ideRetire (s : State) (i k : Nat) (rx : Bool) : State :=
  let x := s.ide i
  let x := if rx then { x with rx := x.rx.filter (· != k) } else { x with tx := x.tx.filter (· != k) }
  if x.rx.contains k ∨ x.tx.contains k then s.setIde i x
  else
    let s := (x.slots.filter fun e => e.1 == k).foldl (fun s e => s.dropKey e.2) s
    s.setIde i { x with slots := x.slots.filter fun e => e.1 != k }

/-- A packet on stream `i`, under the other key set where `newSet`, whose integrity check passes where `ok` (R402). -/
def idePacket (i : Nat) (newSet ok : Bool) (s : State) : State :=
  if !s.ideSecure i ∨ !s.linkUp then s
  else if !ok ∨ (newSet ∧ !s.flag (IDE_STREAM i) 11) then s.ideFail i
  else if newSet then
    let old := s.fld (IDE_STREAM i) 9 9
    ((((s.setFlag (IDE_STREAM i) 11 false).setFld (IDE_STREAM i) 9 9 (1 - old)).ideRetire i old true).bump (IDE_REFRESH i)).irq 0x039 0
  else s

/-! ### Link events (R396 to R398) -/

/-- HOST_LINK_STATUS.STATE: 0 DETECT, 1 TRAINING, 2 L0, 3 L1, 4 L1.2, 5 L2, 6 DISABLED. -/
def State.linkState (s : State) : Nat := s.fld HOST_LINK_STATUS 14 12

/-- PCIE_WAKE_N is asserted (R397). -/
def State.wakeAssert (s : State) : State :=
  if s.link.wakeN.isSome then s else { s.emit (.pin 1 false) with link.wakeN := some s.now }

/-- PCIE_WAKE_N is released. -/
def State.wakeRelease (s : State) : State :=
  if s.link.wakeN.isSome then { s.emit (.pin 1 true) with link.wakeN := none } else s

/-- The fastest generation the link may train to (R398). -/
def State.linkCap (s : State) : Nat :=
  let m := s.fld HOST_LINK_CFG 2 0
  if s.flag LIFE_DEGRADE 10 then min m (s.fld (LIFE_POLICY 12) 18 16) else m

/-- The link reaches L0 from training. -/
def linkUp (gen width : Nat) (s : State) : State :=
  if !s.domOn 9 ∨ s.flag HOST_LINK_STATUS 8 ∨ gen = 0 ∨ s.linkCap < gen ∨ 5 < gen ∨ width = 0 ∨ 2 < width then s
  else
    let s := s.setReg HOST_LINK_STATUS (word (gen + width * 0x10 + 0x100 + 0x2000))
    ((s.irq 0x038 0).wakeRelease).msixFlush

/-- An outstanding outbound read of a tile ends with a code (R394). -/
def State.readEnd (s : State) (r : OutRead) (code : Nat) (data : List Byte) : State :=
  match r.kind with
  | 0 => match (s.tile r.tile).await with
    | some a => s.awaitEnd r.tile a code (word (leNat data))
    | none => s
  | 1 => s.dmaBrought r.tile code data
  | _ => { s with dbg := { s.dbg with accData := if code = 0 then word (leNat data) else 0, accCode := code } }

/-- Every outstanding outbound read ends with LINK_DOWN. -/
def State.readsFail (s : State) : State :=
  let l := s.link.reads
  l.foldl (fun s r => (s.linkFail 0x10).readEnd r 0x10 []) ({ s with link.reads := [] } : State)

/-- What DL_Down does to streams, TDIs and outbound accesses (Table 19.3). -/
def State.dlDownCore (s : State) : State :=
  let s := [0, 1, 2].foldl State.ideDrop s
  let s := (List.range 8).foldl State.tdiError s
  s.readsFail

/-- The data link goes down. -/
def dlDown (s : State) : State :=
  if !s.flag HOST_LINK_STATUS 8 then s
  else ((s.setFld HOST_LINK_STATUS 14 0 0).dlDownCore).irq 0x038 1

/-- What a function reset adds: configuration space and the MSI-X table at reset, TDIs CONFIG_UNLOCKED, DONE clear. -/
def State.fnReset (s : State) : State :=
  let s := (List.range 8).foldl (fun s t => s.setTdi t 0) s
  let s := (List.range 32).foldl (fun s v => (List.range 4).foldl (fun s k => s.setReg (MSIX_TABLE v k) (regReset (MSIX_TABLE v k))) s) s
  let s := ((s.setReg MSIX_PBA 0).setFlag HOST_HS 16 false).setFlag HOST_LINK_STATUS 15 false
  (({ s with pci := {} } : State)).irq 0x038 3

/-- PCIE_PERST_N, Hot Reset or Link Disable; where HOST is OFF its link is down already. -/
def linkReset (s : State) : State :=
  if (s.dom 9).st = .off then s
  else
    let was := s.flag HOST_LINK_STATUS 8
    let s := ((s.setFld HOST_LINK_STATUS 14 0 0).dlDownCore).fnReset
    if was then s.irq 0x038 1 else s

/-- A function-level reset: no retraining. -/
def flr (s : State) : State := if s.linkUp then s.dlDownCore.fnReset else s

/-- The link enters L1.2 (Table 19.2); ASPM L1 and L1.2 must be enabled. -/
def l12Entry (s : State) : State :=
  if !s.linkUp ∨ s.linkState = 4 ∨ !(s.pci.aspmL1 && s.pci.aspmL12) then s
  else s.setFld HOST_LINK_STATUS 14 12 4

/-- The link returns to L0, and what waits for it is sent; with HOST in CLOCKSTOP or RETAIN it asks for HOST first
(Table 19.2). -/
def l1Exit (s : State) : State :=
  if s.flag HOST_LINK_STATUS 8 ∧ !s.domOn 9 ∧ (s.dom 9).st ≠ .off then s.waitFor 9
  else if !s.linkUp ∨ !(s.linkState == 3 || s.linkState == 4) then s else (s.setFld HOST_LINK_STATUS 14 12 2).msixFlush

/-- PCIE_WAKE_N has been asserted for 1 s. -/
def pcieWakeTimeout (s : State) : State :=
  match s.link.wakeN with
  | some t => if t + 38400000 ≤ s.now then s.wakeRelease else s
  | none => s

/-- HOST_HS (Table 19.7): KEY 0x48 sets DONE. -/
def hostHs (v : Word) (s : State) : State :=
  let s := s.setFld HOST_HS 15 0 v.toNat
  if bits v 31 24 = 0x48 then (s.setFlag HOST_HS 16 true).irq 0x038 2 else s

/-- A write of the function's configuration space. -/
def pcieConfig (c : PcieCfg) (s : State) : State :=
  if !s.linkUp then s
  else match c with
    | .power d3 => (s.setFlag HOST_LINK_STATUS 15 d3).msixFlush
    | .msixMask m e => ({ s with pci := { s.pci with fnMask := m, msixEnable := e } } : State).msixFlush
    | .aspm a b => { s with pci := { s.pci with aspmL1 := a, aspmL12 := b } }
    | .ideEnable i on =>
      let l := s.pci.ideEnable.filter (· != i)
      if 3 ≤ i then s else ({ s with pci.ideEnable := if on then i :: l else l } : State).ideUpdate i
    | .ideAssoc i b l => if 3 ≤ i then s else { s with pci.ideAssoc := (i, b, l) :: s.pci.ideAssoc.filter fun e => e.1 != i }

/-! ### Outbound completions (R394) -/

/-- A completion with a tag: an outstanding read ends. -/
def outCompletion (tag : Nat) (st : CplStatus) (data : List Byte) (s : State) : State :=
  match s.link.reads.find? fun r => r.tag == tag with
  | none => s
  | some r =>
    if !s.linkUp then s
    else
      let s : State := { s with link.reads := s.link.reads.filter fun e => e.tag != tag }
      match st with
      | .success => s.readEnd r 0 (slice (data ++ List.replicate r.len 0) 0 r.len)
      | .poisoned => s.readEnd r 8 data
      | _ => (s.linkFail 0x11).readEnd r 0x11 []

/-- No completion in 10 ms (R394). -/
def cplTimeout (tag : Nat) (s : State) : State :=
  match s.link.reads.find? fun r => r.tag == tag with
  | none => s
  | some r =>
    if s.now < r.since + 384000 then s
    else
      let s : State := { s with link.reads := s.link.reads.filter fun e => e.tag != tag }
      (s.linkFail 0x12).readEnd r 0x12 []

/-! ### The host's accesses (R391, R392) -/

/-- The tenant an inbound request carries; none where it is refused. -/
def State.hostTenant (s : State) (h : HostTlp) (bar0 : Bool) : Option Nat :=
  let secure := h.stream.any s.ideSecure
  if s.flag HOST_LINK_CFG 8 ∧ !secure then none
  else
    let t := (h.offset - 0x3A400) / 0x40
    let bell := bar0 && h.write && 0x3A400 ≤ h.offset && h.offset < 0x3A600 && (h.offset % 0x40 == 0 || h.offset % 0x40 == 4)
    let other := if bell && s.bounced t then some t else some 0
    match h.stream with
    | none => other
    | some i =>
      if !s.ideSecure i then none
      else if i = 0 then other
      else if s.tdi (s.ideTenant i) = 2 then some (s.ideTenant i)
      else none

/-- The host as a requester for tenant `t`. -/
abbrev hostReq (t : Nat) : Req := ⟨2, 0, t⟩

/-- The runs of enabled bytes of a write, from an address. -/
def byteRuns : Nat → List (Option Byte) → List (Nat × List Byte)
  | _, [] => []
  | a, none :: l => byteRuns (a + 1) l
  | a, some b :: l =>
    match byteRuns (a + 1) l with
    | (x, bs) :: r => if x = a + 1 then (a, b :: bs) :: r else (a, [b]) :: (x, bs) :: r
    | [] => [(a, [b])]

/-! ### Meanings -/

def execOutboundCompletion (tag : Nat) (status : CplStatus) (data : List Byte) (s : State) : Host.Outcome State Fault Refusal :=
  only true s (outCompletion tag status data s)
def execCplTimeout (tag : Nat) (s : State) : Host.Outcome State Fault Refusal :=
  only true s (cplTimeout tag s)
def execLinkUp (gen : Nat) (width : Nat) (s : State) : Host.Outcome State Fault Refusal :=
  only true s (linkUp gen width s)
def execDlDown (s : State) : Host.Outcome State Fault Refusal :=
  only true s (dlDown s)
def execLinkReset (s : State) : Host.Outcome State Fault Refusal :=
  only true s (linkReset s)
def execFlr (s : State) : Host.Outcome State Fault Refusal :=
  only true s (flr s)
def execLinkL12Entry (s : State) : Host.Outcome State Fault Refusal :=
  only true s (l12Entry s)
def execLinkL1Exit (s : State) : Host.Outcome State Fault Refusal :=
  only true s (l1Exit s)
def execPcieWakeTimeout (s : State) : Host.Outcome State Fault Refusal :=
  only true s (pcieWakeTimeout s)
def execHostHandshake (q : Req) (v : Word) (s : State) : Host.Outcome State Fault Refusal :=
  only q.wf s (s.writeVia q HOST_HS (setBits v 31 24 0x48) (hostHs (setBits v 31 24 0x48)))
def execIdePacketRx (stream : Nat) (newSet ok : Bool) (s : State) : Host.Outcome State Fault Refusal :=
  only true s (idePacket stream newSet ok s)
def execPcieConfigRequest (c : PcieCfg) (s : State) : Host.Outcome State Fault Refusal :=
  only true s (pcieConfig c s)

end Sys2Proof.Machine
end

