-- ==== Sys2Proof/Machine/Spdm.lean ====
section
/-! DEFINITION. SPDM over DOE (R399, R400), the key management of IDE (R401, R402), TDISP (R403) and the bounce binding
(R404): the requests Adsel answers. -/

namespace Sys2Proof.Machine

/-! ### Responses -/

/-- Send an SPDM response of a code. -/
def State.spdmSay (s : State) (code : Nat) (bs : List Byte := []) : State := s.emit (.spdm code bs)

/-- ERROR InvalidRequest. -/
def State.spdmBad (s : State) : State := s.spdmSay 0x7F [1]

/-- Whether Adsel is there to answer. -/
def State.adselUp (s : State) : Bool := s.domOn 1 && s.flag ADSEL_STATUS 8

/-- Whether tenant `t` is active with HOST_BOUND (R400, R410). -/
def State.hostBound (s : State) (t : Nat) : Bool :=
  decide (1 ≤ t ∧ t < 8) && s.flag ADSEL_TENANTS t && (s.adsel.tenants.get (fun _ => {}) t).hostBound

/-- Whether certificate slot `k` exists. -/
def State.certSlot (s : State) (k : Nat) : Bool := k == 0 || s.hostBound k

/-- The chain of certificate slot `k` (R400). -/
def State.certChain (s : State) (k : Nat) : List Byte :=
  if k = 0 then s.adsel.chain
  else s.adsel.chain ++ s.tenantCert k none

/-! ### Sessions (R400) -/

/-- The session with an ID. -/
def State.session (s : State) (id : Nat) : Option Session := s.link.sessions.find? fun x => x.id == id

/-- The established session with an ID. -/
def State.established (s : State) (id : Nat) : Option Session := (s.session id).filter (·.est)

/-- `s` with a session replaced. -/
def State.setSession (s : State) (x : Session) : State :=
  { s with link.sessions := s.link.sessions.map fun y => if y.id = x.id then x else y }

/-- The bounce binding of tenant `t` ends (R404): its keys are zeroised. -/
def State.unbind (s : State) (t : Nat) : State :=
  match s.binding t with
  | none => s
  | some b => { (s.dropKey b.key) with link.bind := s.link.bind.set (fun _ => none) t none }

/-- A session ends: as BOUNCE_UNBIND and STOP_INTERFACE, and its streams' keys are zeroised. -/
def State.sessionEnd (s : State) (id : Nat) : State :=
  match s.session id with
  | none => s
  | some x =>
    let s : State := { s with link.sessions := s.link.sessions.filter fun y => y.id != id }
    let s := s.unbind x.slot
    let s := s.setTdi x.slot 0
    [0, 1, 2].foldl (fun s i => if (s.ide i).session = id ∧ !(s.ide i).slots.isEmpty then s.ideDrop i else s) s

/-- Every session ends (R42, R131). -/
def State.sessionsEnd (s : State) : State := s.link.sessions.foldl (fun s x => s.sessionEnd x.id) s

/-- The sessions of one slot end (R118, R400). -/
def State.slotEnd (s : State) (k : Nat) : State :=
  (s.link.sessions.filter fun x => x.slot == k).foldl (fun s x => s.sessionEnd x.id) s

/-- KEY_EXCHANGE on a slot: the older session of it ends. An ephemeral key takes a key slot for the exchange. -/
def State.keyExchange (s : State) (slot id pub : Nat) : State :=
  if s.link.conn < 3 ∨ !s.certSlot slot ∨ s.freeKey.isNone ∨ !s.flag ADSEL_STATUS 9 ∨
      (s.session id).any (fun x => x.slot != slot) then s.spdmBad
  else
    let (n, s) := (s.slotEnd slot).fresh
    ({ s with link.sessions := s.link.sessions ++ [{ id := id, slot := slot, secret := n }] } : State).spdmSay 0x64 (Config.spdmSign slot pub)

/-- A heartbeat is missed: the third in a row ends the session. -/
def heartbeatMissed (id : Nat) (s : State) : State :=
  match s.session id with
  | none => s
  | some x => if 3 ≤ x.missed + 1 then s.sessionEnd id else s.setSession { x with missed := x.missed + 1 }

/-! ### IDE key management (R401, R402) -/

/-- The key set of stream `i` that a direction does not use. -/
def State.idleSet (s : State) (i : Nat) (rx : Bool) : Nat :=
  let x := s.ide i
  if (if rx then x.rxOn else x.txOn) then 1 - s.fld (IDE_STREAM i) (if rx then 9 else 10) (if rx then 9 else 10) else 0

/-- Whether a session may key stream `i`: slot 0 the link stream, slot 1 to 7 a selective stream no other session keyed. -/
def State.mayKey (s : State) (x : Session) (i : Nat) : Bool :=
  decide (i < 3) && ((i == 0) == (x.slot == 0)) && ((s.ide i).slots.isEmpty || (s.ide i).session == x.id)

/-- KEY_PROG into the idle set of a direction. -/
def State.keyProg (s : State) (x : Session) (i : Nat) (rx : Bool) : State :=
  if !s.mayKey x i ∨ !s.flag ADSEL_STATUS 9 then s.spdmBad
  else
    let k := s.idleSet i rx
    let e := s.ide i
    match (e.slots.find? fun p => p.1 == k).map (·.2), s.freeKey with
    | none, none => s.spdmSay 0x7E [3]
    | have', free =>
      let slot := (have'.orElse fun _ => free).getD 0
      let s := s.newKey slot 4 x.slot
      let e := { e with session := x.id, slots := if have'.isSome then e.slots else e.slots ++ [(k, slot)] }
      let e := if rx then { e with rx := k :: e.rx.filter (· != k) } else { e with tx := k :: e.tx.filter (· != k) }
      (((s.setIde i e).setFld (IDE_STREAM i) 7 0 i).setFld (IDE_STREAM i) 14 12 x.slot).spdmSay 0x7E [0]

/-- K_SET_GO of a direction. -/
def State.kSetGo (s : State) (x : Session) (i : Nat) (rx : Bool) : State :=
  let e := s.ide i
  let k := s.idleSet i rx
  if !s.mayKey x i ∨ !(if rx then e.rx else e.tx).contains k then s.spdmBad
  else
    let s := if rx then
        (if e.rxOn then s.setFlag (IDE_STREAM i) 11 true
         else (s.setIde i { e with rxOn := true }).setFld (IDE_STREAM i) 9 9 k)
      else
        (if e.txOn then (s.setFld (IDE_STREAM i) 10 10 k).ideRetire i (1 - k) false
         else (s.setIde i { e with txOn := true }).setFld (IDE_STREAM i) 10 10 k)
    (s.ideUpdate i).spdmSay 0x7E [0]

/-! ### TDISP (R403) -/

/-- LOCK_INTERFACE: in a session of an active tenant that is not bound in bounce mode, naming one of its streams. -/
def State.tdiLock (s : State) (x : Session) (i : Nat) : State :=
  let t := x.slot
  if !s.hostBound t ∨ s.bounced t ∨ s.tdi t ≠ 0 ∨ !(i == 1 || i == 2) ∨ s.ideTenant i ≠ t ∨ (s.ide i).slots.isEmpty then s.spdmBad
  else ({ (s.setTdi t 1) with link.tdi := (t, i) :: s.link.tdi.filter fun e => e.1 != t } : State).spdmSay 0x7E [0]

/-- START_INTERFACE. -/
def State.tdiStart (s : State) (x : Session) : State :=
  if x.slot ≠ 0 ∧ s.tdi x.slot = 1 then (s.setTdi x.slot 2).spdmSay 0x7E [0] else s.spdmBad

/-- STOP_INTERFACE. -/
def State.tdiStop (s : State) (x : Session) : State :=
  if x.slot = 0 then s.spdmBad else (s.setTdi x.slot 0).spdmSay 0x7E [0]

/-- Put a range into a list of ranges that rises by first address. -/
def insertRange (r : Nat × Nat) : List (Nat × Nat) → List (Nat × Nat)
  | [] => [r]
  | x :: l => if r.1 ≤ x.1 then r :: x :: l else x :: insertRange r l

/-- The MMIO ranges of tenant `t`'s TDI (R403): its BAR0 pages and the BAR2 ranges of its T2 skeins, rising. -/
def State.tdiRanges (s : State) (t : Nat) : List (Nat × Nat) :=
  (((List.range 0x280).filter fun p => pageListed p && s.pageOwner p == t && !s.flag (PAGE_OWNER p) 31).map fun p => (p * 0x1000, 0x1000)) ++
    (((List.range 64).map s.skein).filter fun x => x.valid && !x.deleting && x.tenant == t && x.tier == 2).foldr
      (fun x l => insertRange (x.base * 0x10000, (x.limit + 1 - x.base) * 0x10000) l) []

/-- GET_DEVICE_INTERFACE_REPORT, of a TDI that is LOCKED or RUN. -/
def State.tdiReport (s : State) (x : Session) : State :=
  if x.slot ≠ 0 ∧ (s.tdi x.slot = 1 ∨ s.tdi x.slot = 2) then
    s.spdmSay 0x7E ((s.tdiRanges x.slot).flatMap fun r => leBytes 8 r.1 ++ leBytes 8 r.2)
  else s.spdmBad

/-! ### The bounce binding (R404) -/

/-- HMAC with SHA-384. -/
def hmac384 (key msg : List Byte) : List Byte :=
  let k := key ++ List.replicate (128 - key.length) 0
  leBytes 48 (Config.sha384 (k.map (· ^^^ 0x5C) ++ leBytes 48 (Config.sha384 (k.map (· ^^^ 0x36) ++ msg)).toNat)).toNat

/-- The 36 bytes that HKDF-Expand with SHA-384 gives for a direction (0 host to device, 1 device to host): key, then salt. -/
def Binding.keys (b : Binding) (dir : Nat) : List Byte × List Byte :=
  let info : List Byte := [0x54, 0x48, 0x34, 0x20, 0x62, 0x6F, 0x75, 0x6E, 0x63, 0x65]
  let okm := hmac384 (Config.exportSecret b.secret) (info ++ leBytes 1 dir ++ [1])
  (okm.take 32, slice okm 32 4)

/-- Seal a plaintext under a direction's key with IV salt and `n` (R405, R423): the ciphertext and the tag. -/
def Binding.seal (b : Binding) (dir n : Nat) (aad plain : List Byte) : List Byte :=
  Config.gcmSeal (b.keys dir).1 ((b.keys dir).2 ++ leBytes 8 n) aad plain

/-- Open what a direction's key sealed: the plaintext, where the tag verifies. -/
def Binding.unseal (b : Binding) (dir n : Nat) (aad ct : List Byte) : Option (List Byte) :=
  let p := Config.gcmPlain (b.keys dir).1 ((b.keys dir).2 ++ leBytes 8 n) (ct.take (ct.length - 16))
  if b.seal dir n aad p = ct then some p else none

/-- BOUNCE_BIND: both keys occupy one key slot; SEQ_IN and SEQ_OUT start at 0. -/
def State.bounceBind (s : State) (x : Session) : State :=
  let t := x.slot
  let s' := s.unbind t
  match s'.freeKey with
  | none => s.spdmBad
  | some k =>
    if !s.hostBound t ∨ s.tdi t ≠ 0 then s.spdmBad
    else
      let s := s'.newKey k 5 t
      let b : Binding := { session := x.id, key := k, secret := x.secret, rseq0 := s.rlog.rseq.getD t 0, mseq0 := s.rlog.mseq.getD t 0 }
      ({ s with link.bind := s.link.bind.set (fun _ => none) t (some b) } : State).spdmSay 0x7E [1]

/-- BOUNCE_UNBIND: in the session that bound. -/
def State.bounceUnbind (s : State) (x : Session) : State :=
  if (s.binding x.slot).any fun b => b.session == x.id then (s.unbind x.slot).spdmSay 0x7E [2] else s.spdmBad

/-! ### Requests -/

/-- Act in the established session with an ID; ERROR where there is none. -/
def State.inSession (s : State) (id : Nat) (f : Session → State) : State :=
  match s.established id with
  | some x => f x
  | none => s.spdmBad

/-- What Adsel answers to a request. -/
def spdmRun (r : SpdmReq) (s : State) : State :=
  match r with
  | .version => ({ s with link.conn := 1 } : State).spdmSay 0x04 [0x12]
  | .capabilities => if s.link.conn = 1 then ({ s with link.conn := 2 } : State).spdmSay 0x61 else s.spdmSay 0x7F [4]
  | .algorithms ok =>
    if s.link.conn ≠ 2 then s.spdmSay 0x7F [4]
    else if ok then ({ s with link.conn := 3 } : State).spdmSay 0x63 else s.spdmBad
  | .digests => if s.link.conn = 3 then s.spdmSay 0x01 (leBytes 1 (((List.range 8).filter s.certSlot).foldl (fun a k => a + 2 ^ k) 0)) else s.spdmSay 0x7F [4]
  | .certificate k o n =>
    if s.link.conn ≠ 3 then s.spdmSay 0x7F [4]
    else if s.certSlot k then s.spdmSay 0x02 (slice (s.certChain k) o n) else s.spdmBad
  | .challenge k n => if s.link.conn ≠ 3 then s.spdmSay 0x7F [4] else if s.certSlot k then s.spdmSay 0x03 (Config.spdmSign k n) else s.spdmBad
  | .keyExchange k id p => s.keyExchange k id p
  | .finish id ok =>
    match s.session id with
    | none => s.spdmBad
    | some x => if x.est then s.spdmBad else if ok then (s.setSession { x with est := true }).spdmSay 0x65 else (s.sessionEnd id).spdmBad
  | .keyUpdate id => s.inSession id fun _ => s.spdmSay 0x69
  | .heartbeat id => s.inSession id fun x => (s.setSession { x with missed := 0 }).spdmSay 0x68
  | .endSession id => s.inSession id fun _ => (s.sessionEnd id).spdmSay 0x6C
  | .bounceBind id => s.inSession id s.bounceBind
  | .bounceUnbind id => s.inSession id s.bounceUnbind
  | .keyProg id i rx => s.inSession id fun x => s.keyProg x i rx
  | .kSetGo id i rx => s.inSession id fun x => s.kSetGo x i rx
  | .lock id i => s.inSession id fun x => s.tdiLock x i
  | .start id => s.inSession id s.tdiStart
  | .stop id => s.inSession id s.tdiStop
  | .report id => s.inSession id s.tdiReport

/-- A request arrives (R399): where SEC is not ON it holds an ON request on SEC; until Adsel answers it waits. -/
def spdm (r : SpdmReq) (s : State) : State :=
  if !s.linkUp then s
  else if s.adselUp then spdmRun r s
  else ({ s with link.doe := s.link.doe ++ [r] } : State).requestSec

/-- Adsel answers the requests that waited for it. -/
def State.doeRun (s : State) : State :=
  if s.adselUp then s.link.doe.foldl (fun s r => spdmRun r s) ({ s with link.doe := [] } : State) else s

/-! ### Meanings -/

def execGetVersion (s : State) : Host.Outcome State Fault Refusal :=
  only true s (spdm .version s)
def execGetCapabilities (s : State) : Host.Outcome State Fault Refusal :=
  only true s (spdm .capabilities s)
def execNegotiateAlgorithms (ok : Bool) (s : State) : Host.Outcome State Fault Refusal :=
  only true s (spdm (.algorithms ok) s)
def execGetDigests (s : State) : Host.Outcome State Fault Refusal :=
  only true s (spdm .digests s)
def execGetCertificate (slot : Nat) (offset : Nat) (len : Nat) (s : State) : Host.Outcome State Fault Refusal :=
  only true s (spdm (.certificate slot offset len) s)
def execChallenge (slot : Nat) (nonce : BitVec 256) (s : State) : Host.Outcome State Fault Refusal :=
  only true s (spdm (.challenge slot nonce.toNat) s)
def execKeyExchange (slot session : Nat) (pub : BitVec 768) (s : State) : Host.Outcome State Fault Refusal :=
  only true s (spdm (.keyExchange slot session pub.toNat) s)
def execFinish (session : Nat) (ok : Bool) (s : State) : Host.Outcome State Fault Refusal :=
  only true s (spdm (.finish session ok) s)
def execKeyUpdate (session : Nat) (s : State) : Host.Outcome State Fault Refusal :=
  only true s (spdm (.keyUpdate session) s)
def execHeartbeat (session : Nat) (s : State) : Host.Outcome State Fault Refusal :=
  only true s (spdm (.heartbeat session) s)
def execHeartbeatMissed (session : Nat) (s : State) : Host.Outcome State Fault Refusal :=
  only true s (heartbeatMissed session s)
def execEndSession (session : Nat) (s : State) : Host.Outcome State Fault Refusal :=
  only true s (spdm (.endSession session) s)
def execBounceBind (session : Nat) (s : State) : Host.Outcome State Fault Refusal :=
  only true s (spdm (.bounceBind session) s)
def execBounceUnbind (session : Nat) (s : State) : Host.Outcome State Fault Refusal :=
  only true s (spdm (.bounceUnbind session) s)
def execKeyProg (session stream : Nat) (rx : Bool) (s : State) : Host.Outcome State Fault Refusal :=
  only true s (spdm (.keyProg session stream rx) s)
def execKSetGo (session stream : Nat) (rx : Bool) (s : State) : Host.Outcome State Fault Refusal :=
  only true s (spdm (.kSetGo session stream rx) s)
def execLockInterface (session : Nat) (stream : Nat) (s : State) : Host.Outcome State Fault Refusal :=
  only true s (spdm (.lock session stream) s)
def execStartInterface (session : Nat) (s : State) : Host.Outcome State Fault Refusal :=
  only true s (spdm (.start session) s)
def execStopInterface (session : Nat) (s : State) : Host.Outcome State Fault Refusal :=
  only true s (spdm (.stop session) s)
def execGetDeviceInterfaceReport (session : Nat) (s : State) : Host.Outcome State Fault Refusal :=
  only true s (spdm (.report session) s)

end Sys2Proof.Machine
end

