-- ==== Sys2Proof/Machine/Bounce.lean ====
section
/-! DEFINITION. The bounce engine (R405 to R407). -/

namespace Sys2Proof.Machine

/-! ### The descriptor (Table 19.6) -/

def bncDir (d : List Byte) : Nat := nbits (descWord d 0) 0 0
def bncHost (d : List Byte) : Nat := nbits (leNat (slice d 8 8)) 39 0
def bncLocal (d : List Byte) : Nat := nbits (leNat (slice d 0x10 8)) 39 0
def bncLen (d : List Byte) : Nat := nbits (descWord d 0x18) 16 0

/-- R406 step 1. -/
def bncBad (d : List Byte) : Bool :=
  nbits (descWord d 0) 31 1 != 0 || descWord d 4 != 0 || nbits (leNat (slice d 8 8)) 63 40 != 0 ||
    nbits (leNat (slice d 0x10 8)) 63 40 != 0 || nbits (descWord d 0x18) 31 17 != 0 || descWord d 0x1C != 0 ||
    nbits (descWord d 0x20) 31 30 != 0 || leNat (slice d 0x24 0x18) != 0 || nbits (descWord d 0x3C) 31 9 != 0 ||
    bncLen d % 64 != 0 || bncLen d < 64 || 65536 < bncLen d || bncHost d % 64 != 0 || bncLocal d % 64 != 0

/-- The header of a bounce record (Table 19.5). -/
def bncHeader (t dir session len seq : Nat) : List Byte :=
  leBytes 4 0x31424854 ++ leBytes 4 (t + dir * 0x100) ++ leBytes 4 session ++ leBytes 4 len ++ leBytes 8 seq ++ leBytes 8 0

/-! ### The queue (R406, R407) -/

/-- The bounce engine as a requester for tenant `t`. -/
abbrev bncReq (t : Nat) : Req := ⟨2, 1, t⟩

/-- Put a descriptor into the shared queue of 16; whether it had a place. -/
def State.bncPut (s : State) (j : BncJob) : Bool × State :=
  if 16 ≤ s.link.bq.length then (false, s) else (true, { s with link.bq := s.link.bq ++ [j] })

/-- BNC_T_SUBMIT. -/
def bncSubmit (q : Req) (t : Nat) (v : Word) (s : State) : State :=
  match s.bncPut ⟨t, bits v 27 0 * 64, q, none⟩ with
  | (true, s) => s
  | (false, s) => s.fail q (BNC_T_SUBMIT t) 0x15

/-- Tell the ring that submitted a descriptor how it ended. -/
def State.bncTell (s : State) (j : BncJob) (code : Nat) : State :=
  match j.ring with
  | some (r, q) => { s with mem.done := s.mem.done ++ [(16 + r, q, code)] }
  | none => s

/-- The head descriptor ends: STATUS, NOTE, the window's status, IRQ_RAW bit 4 where it failed. -/
def State.bncEnd (s : State) (j : BncJob) (d : List Byte) (code : Nat) : State :=
  let s : State := { s with link := { s.link with bq := s.link.bq.drop 1, bact := none } }
  let s := (s.unitWrite (bncReq j.ten) (j.addr + 0x3C) (leBytes 4 (code + 0x100))).2
  let k := BNC_T_STAT j.ten
  let s := (s.setFld k 15 8 code).setFld k 31 16 (s.fld k 31 16 + 1)
  let s := if code = 0 then s else s.irq 0x038 4
  (s.note j.ten (word (descWord d 0x20))).bncTell j code

/-- Cancel the descriptors `p` names (R407): they write nothing and leave SEQ_OUT unchanged. -/
def State.bncCancel (s : State) (p : BncJob → Bool) : State :=
  let gone := s.link.bq.filter p
  let head := (s.link.bq.head?).any p
  let s : State := { s with link := { s.link with bq := s.link.bq.filter fun j => !p j, bact := if head then none else s.link.bact } }
  gone.foldl (fun s j => s.bncTell j 0xFF) s

/-! ### Running a descriptor -/

/-- The code of the checks on a fetched descriptor and what was opened; none while a wake is awaited. -/
def State.bncChecks (s : State) (j : BncJob) (d : List Byte) (h : Nat × List Byte) : Option (Nat × List Byte) × State :=
  let q := bncReq j.ten
  let n := bncLen d
  if bncBad d then (some (0x16, []), s)
  else match s.binding j.ten with
    | none => (some (1, []), s.logRefusal q (bncHost d) (bncDir d == 1) 1)
    | some b =>
      if s.rangeOk q (bncDir d == 0) (bncLocal d) n ≠ some true then
        (some (1, []), s.logRefusal q (bncLocal d) (bncDir d == 0) 4)
      else
        match s.memPower q (bncLocal d) n with
        | 0 =>
          if !(s.checkRange q (bncDir d == 0) (bncLocal d) n).toBool then (some (6, []), s)
          else if bncDir d = 1 then (some (0, []), s)
          else if !isOutbound (bncHost d) ∨ !isOutbound (bncHost d + n + 47) then (some (1, []), s.logRefusal q (bncHost d) false 1)
          else match s.linkCheck with
            | (some 0x100, s) => (none, s.waitFor 9)
            | (some c, s) => (some (c, []), s.powerFail (bncHost d) c false q)
            | (none, s) =>
              match h with
              | (0, bs) =>
                let want := bncHeader j.ten 0 b.session n (leNat (slice bs 0x10 8))
                if bs.length ≠ n + 48 ∨ slice bs 0 32 ≠ want then (some (0x13, []), s)
                else (match b.unseal 0 (leNat (slice bs 0x10 8)) want (bs.drop 32) with
                  | none => (some (0x13, []), s)
                  | some p => (some (if leNat (slice bs 0x10 8) ≠ b.seqIn then (0x14, []) else (0, p)), s))
              | (c, _) => (some (c, []), s.linkFail c)
        | 0x100 => (none, s.waitFor (memDomain (bncLocal d)).1)
        | c => (some (c, []), s.powerFail (bncLocal d) c (bncDir d == 0) q)

/-- BOUNCE_DESC_ACTIVATE: the head is fetched and checked; `h` is the code and the bytes of its record's read, for DIR 0. -/
def bncActivate (h : Nat × List Byte) (s : State) : State :=
  match s.link.bq with
  | [] => s
  | j :: _ =>
    if s.link.bact.isSome ∨ !s.domOn 9 then s
    else match s.memRead (bncReq j.ten) j.addr 64 with
      | (0x100, _, s) => s.waitFor (memDomain j.addr).1
      | (0, d, s) =>
        (match s.bncChecks j d h with
        | (none, s) => s
        | (some (c, p), s) => { s with link.bact := some ⟨d, p, c⟩ })
      | (c, _, s) => { s with link.bact := some ⟨List.replicate 64 0, [], c⟩ }

/-- SEQ_IN or SEQ_OUT of tenant `t` one up; before either reaches 2 ^ 62 the binding ends (R423). -/
def State.bncSeq (s : State) (t : Nat) (b : Binding) (out : Bool) : State :=
  let b := if out then { b with seqOut := b.seqOut + 1 } else { b with seqIn := b.seqIn + 1 }
  if 2 ^ 62 ≤ b.seqIn + 1 ∨ 2 ^ 62 ≤ b.seqOut + 1 then s.unbind t
  else { s with link.bind := s.link.bind.set (fun _ => none) t (some b) }

/-- BOUNCE_DESC_END: the data of a descriptor that passed its checks moves, and the descriptor ends. -/
def bncDone (s : State) : State :=
  match s.link.bq, s.link.bact with
  | j :: _, some x =>
    let q := bncReq j.ten
    if x.code ≠ 0 then s.bncEnd j x.d x.code
    else match s.binding j.ten with
      | none => s.bncEnd j x.d 1
      | some b =>
        if bncDir x.d = 0 then
          match s.memWrite q (bncLocal x.d) x.plain with
          | (0x100, s) => s.waitFor (memDomain (bncLocal x.d)).1
          | (0, s) => (s.bncSeq j.ten b false).bncEnd j x.d 0
          | (c, s) => s.bncEnd j x.d c
        else
          match s.memRead q (bncLocal x.d) (bncLen x.d) with
          | (0x100, _, s) => s.waitFor (memDomain (bncLocal x.d)).1
          | (0, bs, s) =>
            let n := bncLen x.d
            if !isOutbound (bncHost x.d) ∨ !isOutbound (bncHost x.d + n + 47) then
              (s.logRefusal q (bncHost x.d) true 1).bncEnd j x.d 1
            else (match s.linkCheck with
              | (some 0x100, s) => s.waitFor 9
              | (some c, s) => (s.powerFail (bncHost x.d) c true q).bncEnd j x.d c
              | (none, s) =>
                let head := bncHeader j.ten 1 b.session n b.seqOut
                let s := s.hostOut j.ten (bncHost x.d) (head ++ b.seal 1 b.seqOut head bs)
                (s.bncSeq j.ten b true).bncEnd j x.d 0)
          | (c, _, s) => s.bncEnd j x.d c
  | _, _ => s

/-- BNC_T_STAT: BOUND and BUSY beside what the register keeps. -/
def State.bncStat (s : State) (t : Nat) : Word :=
  setBit (setBit (s.reg (BNC_T_STAT t)) 0 (s.bounced t)) 1 (s.link.bq.any fun j => j.ten == t)

/-! ### Meanings -/

def execBncTSubmit (q : Req) (ten : Nat) (v : Word) (s : State) : Host.Outcome State Fault Refusal :=
  only (q.wf && decide (ten < 8)) s (s.writeVia q (BNC_T_SUBMIT ten) v (bncSubmit q ten v))
def execBounceDescActivate (cpl : Option CplStatus) (data : List Byte) (s : State) : Host.Outcome State Fault Refusal :=
  only true s (s.heldIdle 0x038 (bncActivate (hostResult cpl data) s))
def execBounceDescEnd (s : State) : Host.Outcome State Fault Refusal :=
  only true s (s.heldIdle 0x038 (bncDone s))

end Sys2Proof.Machine
end

