-- ==== Sys2Proof/Machine/Ring.lean ====
section
/-! DEFINITION. Command rings and the Row Log (R410 to R428). -/

namespace Sys2Proof.Machine

/-! ### Rings and entries -/

/-- Ring `r`. -/
def State.ring (s : State) (r : Nat) : Ring := s.rlog.rings.get (fun _ => {}) r

/-- `s` with a ring replaced. -/
def State.setRing (s : State) (r : Nat) (x : Ring) : State := { s with rlog.rings := s.rlog.rings.set (fun _ => {}) r x }

/-- RSEQ_NEXT of ring `r`. -/
def State.rseqNext (s : State) (r : Nat) : Nat := s.rlog.rseq.getD r 0

/-- Whether ring `r` is enabled. -/
def State.ringOn (s : State) (r : Nat) : Bool := s.flag (RING_CFG r) 0

/-- LOG2 of the ring's size. -/
def State.ringLog (s : State) (r : Nat) : Nat := s.fld (RING_CFG r) 11 8

/-- LOG2 of the region's size; 0 is no region. -/
def State.regionLog (s : State) (r : Nat) : Nat := s.fld (ROWLOG_PART r) 15 12

/-- The journal index of an RSEQ (R419). -/
def State.rowIndex (s : State) (r rseq : Nat) : Nat := s.fld (ROWLOG_PART r) 11 0 + rseq % 2 ^ s.regionLog r

/-- What an unlisted journal entry holds: FREE. -/
def rowReset : Nat → RowEntry := fun _ => {}

/-- The journal entry at an index. -/
def State.rowAt (s : State) (i : Nat) : RowEntry := s.rlog.log.get rowReset i

/-- The entry for an RSEQ of ring `r`, where its slot holds it. -/
def State.rowFor (s : State) (r rseq : Nat) : Option RowEntry :=
  let e := s.rowAt (s.rowIndex r rseq)
  if e.st ≠ 0 ∧ e.ring = r ∧ e.rseq = rseq ∧ s.regionLog r ≠ 0 then some e else none

/-- Whether an entry is open. -/
def RowEntry.isOpen (e : RowEntry) : Bool := e.st == 1 || e.st == 2

/-- The entries of ring `r`'s region. -/
def State.region (s : State) (r : Nat) : List RowEntry :=
  let b := s.fld (ROWLOG_PART r) 11 0
  if s.regionLog r = 0 then []
  else ((s.rlog.log.filter fun e => b ≤ e.1 && e.1 < b + 2 ^ s.regionLog r).map (·.2)).filter fun e => e.st != 0

/-- The words of an entry (Table 20.3). -/
def rowWords (e : RowEntry) : List Word :=
  [word e.rseq, word (e.op + e.st * 0x100 + e.once.toNat * 0x800 + e.ring * 0x1000 + e.code * 0x10000 + e.epoch * 0x1000000),
   word e.tag, word (e.tag / 0x100000000), word (e.job + e.info * 0x10000 + e.space * 0x1000000), word e.mseq,
   word e.ts, word (e.ts / 0x100000000)]

/-! ### Memory rights, stops and the mirror (R412, R421, R423) -/

/-- The tenant whose rights the intake of ring `r` has at an address (R412). -/
def State.ringTenant (s : State) (r a : Nat) : Nat := if isOutbound a then (if s.tdi r ≠ 0 then r else 0) else r

/-- The intake as a requester. -/
abbrev ringReq (t : Nat) : Req := ⟨2, 2, t⟩

/-- A write by the intake: its code. -/
def State.ringWrite (s : State) (r a : Nat) (bs : List Byte) : Nat × State :=
  if isOutbound a then s.hostWrite (ringReq (s.ringTenant r a)) a bs else s.unitWrite (ringReq r) a bs

/-- AUTH of a mirror write in bounce mode (R423); zeros otherwise. -/
def State.mirrorAuth (s : State) (r mseq : Nat) (aad : List Byte) : List Byte :=
  match s.binding r with
  | some b => b.seal 1 (2 ^ 63 + 2 ^ 62 + mseq) aad []
  | none => List.replicate 16 0

/-- The 64 bytes of a mirror write: an entry's slot or the head record. -/
def State.mirrorBytes (s : State) (r i mseq : Nat) : List Byte :=
  let x := s.ring r
  let a := if i = 4096 then
      leBytes 4 (s.rseqNext r) ++ leBytes 4 mseq ++ leBytes 4 s.rlog.epoch ++ leBytes 4 (x.stopped.toNat + x.stopCode * 0x100) ++ List.replicate 16 0
    else wordBytes (rowWords { s.rowAt i with mseq := mseq })
  padTo 64 (a ++ s.mirrorAuth r mseq a)

/-- Where a mirror write goes. -/
def State.mirrorAddr (s : State) (r i : Nat) : Nat :=
  s.base64 (RING_MIRROR_LO r) (RING_MIRROR_HI r) + (if i = 4096 then 0 else 64 + 64 * ((s.rowAt i).rseq % 2 ^ s.regionLog r))

/-- MSEQ one up, and the binding's end before it would repeat. -/
def State.mseqUp (s : State) (r : Nat) : State :=
  let m := (s.rlog.mseq.getD r 0 + 1) % 0x100000000
  let s : State := { s with rlog.mseq := s.rlog.mseq.set r m }
  if (s.binding r).any fun b => (m + 1) % 0x100000000 == b.mseq0 then s.unbind r else s

/-- The ring stops (R412); the head record is written, or stays due where that fails (R421). -/
def State.ringStop (s : State) (r code : Nat) : State :=
  let s := (s.setRing r { s.ring r with stopped := true, stopCode := code }).irq 0x03A 0
  let m := (s.rlog.mseq.getD r 0 + 1) % 0x100000000
  if !s.flag (RING_CFG r) 16 ∨ (s.ring r).mq.contains 4096 then s
  else match s.ringWrite r (s.mirrorAddr r 4096) (s.mirrorBytes r 4096 m) with
    | (0, s) => s.mseqUp r
    | (_, s) => s.setRing r { s.ring r with mq := (s.ring r).mq ++ [4096] }

/-- Carry out up to `n` mirror writes that are due, in order, while the ring is not stopped. -/
def State.mirrorRun (r : Nat) : Nat → State → State
  | 0, s => s
  | n + 1, s =>
    let x := s.ring r
    match x.mq with
    | [] => s
    | i :: rest =>
      if x.stopped then s
      else
        let m := (s.rlog.mseq.getD r 0 + 1) % 0x100000000
        match s.ringWrite r (s.mirrorAddr r i) (s.mirrorBytes r i m) with
        | (0, s) =>
          let s := s.mseqUp r
          let s : State := if i = 4096 then s else { s with rlog.log := s.rlog.log.set rowReset i { s.rowAt i with mseq := m } }
          State.mirrorRun r n (s.setRing r { s.ring r with mq := rest, resync := (s.ring r).resync && i != 4096 })
        | (0x100, s) => s.waitFor 9
        | (c, s) => s.ringStop r c

/-- Mirror writes fall due. -/
def State.mirror (s : State) (r : Nat) (l : List Nat) : State :=
  if s.flag (RING_CFG r) 16 then
    let s := s.setRing r { s.ring r with mq := (s.ring r).mq ++ l }
    State.mirrorRun r (s.ring r).mq.length s
  else s

/-- Write a Row Log entry (R419): TS, the mirror, then its bell where it is terminal. -/
def State.rowPut (s : State) (r : Nat) (e : RowEntry) (d : List Byte) : State :=
  let i := s.rowIndex r e.rseq
  let s : State := { s with rlog.log := s.rlog.log.set rowReset i { e with ts := s.now } }
  let s := s.mirror r [i]
  let w := descWord d 0
  if !e.isOpen ∧ nbits w 10 10 = 1 then s.bell r (nbits w 21 16) (nbits w 26 22) else s

/-- RING_T_RESYNC (R422): every entry that is not FREE in rising RSEQ order, then the head record. -/
def State.ringResync (s : State) (r : Nat) : State :=
  let n := 2 ^ s.regionLog r
  let first := s.rseqNext r + 0x100000000 - n
  let l := ((List.range n).filter fun i => (s.rowFor r ((first + i) % 0x100000000)).isSome).map fun i => s.rowIndex r ((first + i) % 0x100000000)
  let s := s.setRing r { s.ring r with resync := s.flag (RING_CFG r) 16, mq := [] }
  s.mirror r (l ++ [4096])

/-! ### Registers (R411, R422, R427, R428) -/

/-- RING_T_DB. -/
def ringDb (q : Req) (r : Nat) (v : Word) (s : State) : State :=
  if !s.ringOn r then s
  else
    let x := s.ring r
    let s := s.setRing r { x with stopped := false, stopCode := 0 }
    let s := State.mirrorRun r (s.ring r).mq.length s
    if 2 ^ s.ringLog r < (v.toNat + 0x100000000 - s.rseqNext r) % 0x100000000 then s.fail q (RING_T_DB r) 0x16
    else s.setRing r { s.ring r with tail := v.toNat }

/-- RING_T_RESYNC. -/
def ringResyncWrite (r : Nat) (v : Word) (s : State) : State := if bit v 0 then s.ringResync r else s

/-- Whether ring `r` may be enabled (R410); none accepts a descriptor before step 15 (R95). -/
def State.ringBound (s : State) (r : Nat) : Bool := s.life.ready && (r == 0 || s.hostBound r)

/-- RING_CFG (Table 20.4). -/
def ringCfg (q : Req) (r : Nat) (v : Word) (s : State) : State :=
  let k := RING_CFG r
  let new := s.written k v
  if s.ringOn r then
    let s := if setBit new 0 true = setBit (s.reg k) 0 true then s else s.fail q k 0x15
    s.setFlag k 0 (bit v 0)
  else
    let s := s.setReg k (setBit new 0 false)
    if !bit v 0 then s
    else if !s.ringBound r then s.fail q k 0x17
    else if s.regionLog r = 0 ∨ s.regionLog r < s.ringLog r ∨ s.ringLog r < 4 ∨ 12 < s.ringLog r then s.fail q k 0x10
    else
      let s := (s.setFlag k 0 true).setRing r { s.ring r with tail := s.rseqNext r, stopped := false, stopCode := 0, stall := false, fetched := none }
      if s.flag k 16 then s.ringResync r else s

/-- Whether two regions (first index, LOG2 of size, 0 = none) share an entry. -/
def regionsMeet (b n b' n' : Nat) : Bool := n != 0 && n' != 0 && decide (b < b' + 2 ^ n') && decide (b' < b + 2 ^ n)

/-- ROWLOG_PART (R428). -/
def rowlogPart (q : Req) (r : Nat) (v : Word) (s : State) : State :=
  let k := ROWLOG_PART r
  let b := bits v 11 0
  let n := bits v 15 12
  if s.ringOn r ∨ (s.region r).any (·.isOpen) then s.fail q k 0x15
  else if 12 < n ∨ (n ≠ 0 ∧ 4096 < b + 2 ^ n) ∨
      (List.range 8).any (fun o => o != r && regionsMeet b n (s.fld (ROWLOG_PART o) 11 0) (s.regionLog o)) then s.fail q k 0x10
  else s.setReg k (s.written k v)

/-- RING_T_STAT. -/
def State.ringStat (s : State) (r : Nat) : Word :=
  let x := s.ring r
  word ((s.ringOn r).toNat + x.stopped.toNat * 2 + (s.bounced r).toNat * 4 + x.resync.toNat * 8 + x.stall.toNat * 0x10 +
    x.stopCode * 0x100 + ((s.region r).filter (·.isOpen)).length % 0x10000 * 0x10000)

/-- ROWLOG_T_ENTRY word `k` of window `t`. -/
def State.rowView' (s : State) (t k : Nat) : Word :=
  match s.rowFor t (s.reg (ROWLOG_T_SEL t)).toNat with
  | some e => (rowWords e).getD k 0
  | none => 0

/-! ### Intake (R414, R415, R420) -/

def rdOp (d : List Byte) : Nat := nbits (descWord d 0) 7 0
def rdTag (d : List Byte) : Nat := leNat (slice d 8 8)
def rdArg (d : List Byte) (off hi lo : Nat) : Nat := nbits (leNat (slice d off 8)) hi lo
def rdTiles (d : List Byte) : List Nat := setPositions 64 (leNat (slice d 0x18 8))

/-- Whether ring `r` has descriptors to consume and may. -/
def State.ringHungry (s : State) (r : Nat) : Bool :=
  let x := s.ring r
  s.ringOn r && !x.stopped && x.fetched.isNone && x.tail != s.rseqNext r && s.domOn 9 && s.life.bindStage == 0 &&
    !s.adsel.teardown.contains r

/-- Whether the entry slot of the next RSEQ holds an open entry (R420). -/
def State.slotOpen (s : State) (r : Nat) : Bool := (s.rowAt (s.rowIndex r (s.rseqNext r))).isOpen

/-- RING_FETCH: `h` is what the read of an outbound ring brings; of several rings that may be served the rotating order gives the turn. -/
def ringFetch (r : Nat) (cpl : Option CplStatus) (data : List Byte) (s : State) : State :=
  if !s.ringHungry r then s
  else
    let x := s.ring r
    if s.slotOpen r then
      (if x.stall then s else (s.setRing r { x with stall := true }).irq 0x03A 1)
    else match s.arbitrate 0x103 8 ((List.range 8).filter fun k => s.ringHungry k && !s.slotOpen k) false with
    | (w, s') =>
      if w ≠ some r then s
      else
      let s := s'.setRing r { x with stall := false }
      let x := s.ring r
      let a := s.base64 (RING_BASE_LO r) (RING_BASE_HI r) + 64 * (s.rseqNext r % 2 ^ s.ringLog r)
      if isOutbound a then
        match s.outCheck (ringReq (s.ringTenant r a)) a 64 false with
        | (some 0x100, s) => s.waitFor 9
        | (some c, s) => s.ringStop r c
        | (none, s) =>
          (match hostResult cpl data with
          | (0, bs) => if bs.length = 64 then s.setRing r { x with fetched := some bs } else (s.linkFail 0x11).ringStop r 0x11
          | (c, _) => (s.linkFail c).ringStop r c)
      else match s.memRead (ringReq r) a 64 with
        | (0x100, _, s) => s.waitFor (memDomain a).1
        | (0, bs, s) => s.setRing r { x with fetched := some bs }
        | (c, _, s) => s.ringStop r c

/-- The argument bytes 0x10 to 0x2F with the bits an opcode uses cleared. -/
def unusedArgs (op : Nat) (d : List Byte) : Nat :=
  let a := leNat (slice d 0x10 32)
  let used : List (Nat × Nat) := match op with
    | 1 => [(0, 28)]
    | 2 => [(0, 32)]
    | 3 => [(0, 31), (64, 64), (128, 40), (192, 32)]
    | 4 => [(0, 16), (64, 64)]
    | 5 => [(0, 40), (64, 40), (128, 33)]
    | 6 => [(0, 2), (64, 40), (128, 32)]
    | 7 => [(0, 28)]
    | _ => []
  a &&& (used.foldl (fun m u => m - ((2 ^ u.2 - 1) * 2 ^ u.1)) (2 ^ 256 - 1))

/-- R415 check 2. -/
def State.rdBad (s : State) (r : Nat) (d : List Byte) : Bool :=
  let op := rdOp d
  7 < op || nbits (descWord d 0) 15 11 != 0 || nbits (descWord d 0) 31 27 != 0 || descWord d 4 != 0 || unusedArgs op d != 0 ||
    (!s.bounced r && leNat (slice d 0x30 16) != 0) || (op == 6 && rdArg d 0x10 1 0 == 0) || (op == 3 && rdArg d 0x10 17 16 == 3)

/-- RSEQ_NEXT one up, and the binding's end before it would repeat (R423). -/
def State.rseqUp (s : State) (r : Nat) : State :=
  let n := (s.rseqNext r + 1) % 0x100000000
  let s : State := { s with rlog.rseq := s.rlog.rseq.set r n }
  if (s.binding r).any fun b => (n + 1) % 0x100000000 == b.rseq0 then s.unbind r else s

/-- Whether AUTH of the descriptor that takes the next RSEQ verifies, where the tenant is bound in bounce mode (R423). -/
def State.authOk (s : State) (r : Nat) (d : List Byte) : Bool :=
  match s.binding r with
  | none => true
  | some b => b.seal 0 (2 ^ 63 + s.rseqNext r) (slice d 0 0x30) [] == slice d 0x30 16

/-- RING_CHECK_END: the descriptor is accepted or rejected. -/
def ringCheckEnd (r : Nat) (s : State) : State :=
  match (s.ring r).fetched with
  | none => s
  | some d =>
    let n := s.rseqNext r
    let code :=
      if !s.authOk r d then 0x11
      else if s.rdBad r d then 0x10
      else if nbits (descWord d 0) 8 8 = 1 ∧ (s.region r).any (fun e => e.ring == r && e.tag == rdTag d && 1 ≤ e.st && e.st ≤ 3) then 0x12
      else 0
    let e : RowEntry := { rseq := n, op := rdOp d, st := if code = 0 then 1 else 5, once := nbits (descWord d 0) 8 8 == 1
                          ring := r, code := code, epoch := s.rlog.epoch, tag := rdTag d }
    let x := s.ring r
    let s := s.setRing r { x with fetched := none, cmds := if code = 0 then x.cmds ++ [{ rseq := n, d := d }] else x.cmds }
    let s := (s.rseqUp r).rowPut r e d
    let s := if code = 0 then s else s.setReg (RING_T_REJECTS r) (word (min 0xFFFFFFFF ((s.reg (RING_T_REJECTS r)).toNat + 1)))
    s.mirror r [4096]

/-! ### Issue, start and finish (R417) -/

/-- Change an open command of ring `r`. -/
def State.setCmd (s : State) (r : Nat) (c : RCmd) : State :=
  let x := s.ring r
  s.setRing r { x with cmds := x.cmds.map fun e => if e.rseq = c.rseq then c else e }

/-- The entry of a command goes to STARTED. -/
def State.rowStarted (s : State) (r : Nat) (c : RCmd) : State :=
  match s.rowFor r c.rseq with
  | some e => if e.st = 1 then s.rowPut r { e with st := 2 } c.d else s
  | none => s

/-- The code space of a code that opcode `op`'s engine gives. -/
def rowSpace (op code : Nat) : Nat :=
  if code < 0x10 then 0
  else match op with
    | 1 => 1
    | 3 => 4
    | 4 => 4
    | 5 => 2
    | 6 => 2
    | 7 => 3
    | _ => 0

/-- A command ends: FINISHED with its engine's code, or CANCELLED; after its tenant's teardown began, STALE. -/
def State.rowEnded (s : State) (r : Nat) (c : RCmd) (code info : Nat) (cancelled : Bool) : State :=
  let x := s.ring r
  let s := s.setRing r { x with cmds := x.cmds.filter fun e => e.rseq != c.rseq }
  match s.rowFor r c.rseq with
  | none => s
  | some e =>
    let op := rdOp c.d
    let e := if c.stale then { e with st := 3, code := 5, space := 0 }
      else if cancelled then { e with st := 4, code := 0 }
      else { e with st := 3, code := code, info := info, space := rowSpace op code }
    s.rowPut r e c.d

/-- The banks a MODEL_LOAD names: tile and bank. -/
def loadBanks (d : List Byte) : List (Nat × Nat) :=
  (rdTiles d).map fun t => (t, if rdArg d 0x10 18 18 = 1 then 0 else rdArg d 0x10 19 19)

/-- The DECL word of a MODEL_LOAD for tenant `r`. -/
def loadDecl (r : Nat) (d : List Byte) : Word :=
  word (rdArg d 0x10 17 16 + rdArg d 0x10 18 18 * 4 + r * 0x10 + rdArg d 0x10 29 20 * 0x100)

/-- The first code other than OK of a dry DECLARE on every bank. -/
def State.loadDry (s : State) (r : Nat) (d : List Byte) : Nat :=
  ((loadBanks d).map fun b => (s.declare b.1 b.2 (loadDecl r d) (word (rdArg d 0x10 15 0)) true).1).find? (· != 0) |>.getD 0

/-- MODEL_LOAD, steps 1 and 2 (R416). -/
def State.loadIssue (s : State) (r : Nat) (c : RCmd) : State :=
  match s.loadDry r c.d with
  | 0 =>
    let bs := loadBanks c.d
    let s := bs.foldl (fun s b => (s.declare b.1 b.2 (loadDecl r c.d) (word (rdArg c.d 0x10 15 0)) false).2) s
    let c := { c with issued := true, banks := bs }
    (s.setCmd r c).rowStarted r c
  | e => s.rowEnded r c e 0 false

/-- MODEL_DROP: every matching bank is discarded and the tenant's records of the model are freed. -/
def State.dropIssue (s : State) (r : Nat) (c : RCmd) : State :=
  let m := rdArg c.d 0x10 15 0
  let bs := (rdTiles c.d).flatMap fun t => ([0, 1].filter fun b =>
    s.bankOwned t b && s.bankOwner t b == r && s.fld (TILE_WGT_ID t b) 15 0 == m && !(b == 1 && s.joined t)).map fun b => (t, b)
  let bad := bs.any fun b => s.bankState b.1 b.2 == 4 || s.bankState b.1 b.2 == 5
  let go := bs.filter fun b => !(s.bankState b.1 b.2 == 4 || s.bankState b.1 b.2 == 5)
  let s := go.foldl (fun s b => s.discard b.1 b.2) s
  let s := (List.range 32).foldl (fun s k =>
    if s.fld (SCH_MODEL k) 15 0 = m ∧ s.fld (SCH_MODEL k) 31 29 = r ∧ (s.reg (SCH_MODEL k)).toNat ≠ 0 then
      ((s.setReg (SCH_MODEL k) 0).setReg (SCH_MODEL_SRC_LO k) 0).setReg (SCH_MODEL_SRC_HI k) 0 else s) s
  let c := { c with issued := true, banks := go, code := if bad then 0x11 else 0 }
  (s.setCmd r c).rowStarted r c

/-- The command that is to be issued next: the oldest not issued, CANCEL aside; with FENCE nothing earlier is open. -/
def State.ringHead (s : State) (r : Nat) : Option RCmd :=
  match (s.ring r).cmds.find? fun c => !c.issued && rdOp c.d != 2 with
  | none => none
  | some c =>
    if nbits (descWord c.d 0) 9 9 = 1 ∧ (s.ring r).cmds.any (fun e => e.rseq != c.rseq && (c.rseq + 0x100000000 - e.rseq) % 0x100000000 < 0x80000000) then none
    else some c

/-- Issue the next command of ring `r` to its engine; `only` restricts it to one opcode. -/
def ringIssue (r : Nat) (op : Option Nat) (s : State) : State :=
  match s.ringHead r with
  | none => s
  | some c =>
    let d := c.d
    let done := { c with issued := true }
    if op.any (· != rdOp d) then s
    else match rdOp d with
      | 0 => ((s.setCmd r done).rowStarted r done).rowEnded r done 0 0 false
      | 1 =>
        (match s.submit r (rdArg d 0x10 27 0 * 64) (some (r, c.rseq)) with
        | (none, s) => s
        | (some (0x10, _), s) => s
        | (some (0, id), s) =>
          let s := s.setCmd r done
          (match s.rowFor r c.rseq with
          | some e => s.rowPut r { e with job := id } d
          | none => s)
        | (some (e, _), s) => s.rowEnded r c e 0 false)
      | 3 => s.loadIssue r c
      | 4 => s.dropIssue r c
      | 5 =>
        let m : Move := { tenant := r, src := rdArg d 0x10 39 0, dst := rdArg d 0x18 39 0, len := rdArg d 0x20 31 0
                          rel := rdArg d 0x20 32 32 == 1, note := 0, origin := 16 + r, job := c.rseq }
        (match s.moveSubmit m with
        | (0, s) => s.setCmd r done
        | (0x10, s) => s
        | (e, s) => s.rowEnded r c e 0 false)
      | 6 =>
        (match s.cacheSubmit r ⟨rdArg d 0x10 1 0 + 1, rdArg d 0x18 39 0, rdArg d 0x20 31 0, 16 + r, c.rseq, 0⟩ with
        | (0, s) => (s.setCmd r done).rowStarted r done
        | (e, s) => s.rowEnded r c e 0 false)
      | 7 =>
        (match s.bncPut ⟨r, rdArg d 0x10 27 0 * 64, ringReq r, some (r, c.rseq)⟩ with
        | (true, s) => s.setCmd r done
        | (false, s) => s)
      | _ => s

/-! ### CANCEL (R418) -/

/-- Whether an engine stops an operation of an opcode. -/
def cancellable (op : Nat) : Bool := op == 1 || op == 3 || op == 5 || op == 7

/-- Ask the engine of an issued command to stop it. -/
def State.engineCancel (s : State) (r : Nat) (c : RCmd) : State :=
  let s := s.setCmd r { c with cancel := true }
  match rdOp c.d with
  | 1 =>
    (match s.openSlots.find? fun k => (s.job k).any fun j => j.ring == some (r, c.rseq) with
    | some k => ((s.job k).map fun j => s.dropSpill j).getD s |>.jobFrog k 0x15 0 0
    | none => s)
  | 5 => s.movesCancel fun m => m.origin == 16 + r && m.job == c.rseq
  | 7 => s.bncCancel fun j => j.ring == some (r, c.rseq)
  | _ => s

/-! ### Engine events reach the log (R416, R417) -/

/-- The data of a MODEL_LOAD is there for every bank: none where a wake is awaited, else whether all succeeded. -/
def State.loadWrite (r : Nat) (d : List Byte) : List (Nat × Nat × Nat) → State → Option Nat × State
  | [], s => (some 0, s)
  | (rank, t, b) :: l, s =>
    let n := rdArg d 0x10 29 20 * 64 * modeBytes (rdArg d 0x10 17 16)
    let src := rdArg d 0x20 39 0 + rank * n
    if s.bankState t b ≠ 1 then (none, s)
    else match s.memRead ⟨1, t, r⟩ src n with
      | (0x100, _, s) => (none, s.waitFor (memDomain src).1)
      | (0, bs, s) =>
        (match s.wgtWrite ⟨1, t, r⟩ (s.bankExtent t b).1 bs (fun _ => false) with
        | (0x100, s) => (none, s.waitFor (tileDom t))
        | (0, s) =>
          if word (crc32 bs) ≠ word (rdArg d 0x28 31 0) then (some 0x14, s.wgtPost t 0x14)
          else State.loadWrite r d l (s.sealEnd t b false)
        | (c, s) => (some c, s))
      | (c, _, s) => (some c, s)

/-- A MODEL_LOAD that fails or is cancelled discards every bank it declared. -/
def State.loadFail (s : State) (r : Nat) (c : RCmd) (code : Nat) : State :=
  (c.banks.foldl (fun s b => if s.bankState b.1 b.2 = 5 then s else s.discard b.1 b.2) s).rowEnded r c code 0 c.cancel

/-- MODEL_LOAD, steps 3 to 5. -/
def State.loadRun (s : State) (r : Nat) (c : RCmd) : State :=
  if c.cancel then s.loadFail r c 0
  else
    let ranked := List.zip (List.range c.banks.length) c.banks
    match State.loadWrite r c.d (ranked.map fun p => (p.1, p.2.1, p.2.2)) s with
    | (none, s') => { s with holds := s'.holds }
    | (some 0, s) =>
      if rdArg c.d 0x10 30 30 = 0 then s.rowEnded r c 0 0 false
      else (match (List.range 32).find? fun k => s.reg (SCH_MODEL k) = 0 with
        | none => s.loadFail r c 6
        | some k =>
          let w := rdArg c.d 0x10 15 0 + rdArg c.d 0x10 29 20 * 0x10000 + rdArg c.d 0x10 17 16 * 0x4000000 + rdArg c.d 0x10 18 18 * 0x10000000 + r * 0x20000000
          let s := (s.setReg (SCH_MODEL k) (word w)).setReg64 (SCH_MODEL_SRC_LO k) (SCH_MODEL_SRC_HI k) (rdArg c.d 0x20 39 0)
          s.rowEnded r c 0 0 false)
    | (some e, s) => s.loadFail r c e

/-- Whether the engine has begun to act on an issued command. -/
def State.cmdStarted (s : State) (r : Nat) (c : RCmd) : Bool :=
  match rdOp c.d with
  | 1 => s.openSlots.any fun k => (s.job k).any fun j => j.ring == some (r, c.rseq) && j.st != 1 && j.st != 2
  | 5 => s.mem.moving && (s.mem.moves.head?).any fun m => m.origin == 16 + r && m.job == c.rseq
  | 7 => s.link.bact.isSome && (s.link.bq.head?).any fun j => j.ring == some (r, c.rseq)
  | _ => false

/-- ROW_LOG_UPDATE: what its engine has done since moves a command's entry. -/
def rowLogUpdate (r rseq : Nat) (s : State) : State :=
  match (s.ring r).cmds.find? fun c => c.rseq == rseq && c.issued with
  | none => s
  | some c =>
    match s.mem.done.find? fun e => e.1 == 16 + r && e.2.1 == rseq with
    | some e =>
      let s : State := { s with mem.done := s.mem.done.erase e }
      let code := e.2.2 % 0x100
      let off := c.cancel && (code == 0x15 && rdOp c.d == 1 || code == 0x13 && rdOp c.d == 5 || code == 0xFF)
      let s := if off then s else s.rowStarted r c
      s.rowEnded r c code (e.2.2 / 0x100 % 0x100) off
    | none =>
      if rdOp c.d = 3 then s.loadRun r c
      else if rdOp c.d = 4 then
        (if c.banks.any fun b => s.wgt.zeroing.any fun z => z.1 == b.1 && z.2.1 == b.2 then s else s.rowEnded r c c.code 0 false)
      else if rdOp c.d = 2 then
        (if (s.ring r).cmds.any fun e => e.rseq == rdArg c.d 0x10 31 0 then s else s.rowEnded r c 0 0 false)
      else if s.cmdStarted r c then s.rowStarted r c
      else s

/-- RING_CANCEL: the oldest CANCEL not yet acted on. -/
def ringCancel (r : Nat) (s : State) : State :=
  match (s.ring r).cmds.find? fun c => !c.issued && rdOp c.d == 2 with
  | none => s
  | some c =>
    let done := { c with issued := true }
    let s := (s.setCmd r done).rowStarted r done
    let target := rdArg c.d 0x10 31 0
    match (s.ring r).cmds.find? fun e => e.rseq == target, s.rowFor r target with
    | some e, some _ =>
      if target = c.rseq then s.rowEnded r done 0x13 0 false
      else if !e.issued then (s.rowEnded r e 0 0 true).rowEnded r done 0 0 false
      else if cancellable (rdOp e.d) then rowLogUpdate r c.rseq (rowLogUpdate r e.rseq (s.engineCancel r e))
      else s
    | _, _ => s.rowEnded r done 0x13 0 false

/-! ### Teardown, warm cast-on, HOST (R424 to R426) -/

/-- Teardown step 1 of tenant `r`: its ring is disabled and what no engine has finishes STALE. -/
def State.ringOff (s : State) (r : Nat) : State :=
  let s := s.setFlag (RING_CFG r) 0 false
  let x := s.ring r
  let s := s.setRing r { x with fetched := none, cmds := x.cmds.map fun c => { c with stale := true } }
  ((s.ring r).cmds.filter fun c => !c.issued).foldl (fun s c => s.rowEnded r c 5 0 false) s

/-- Teardown step 4: every entry of the region is FREE. -/
def State.ringFree (s : State) (r : Nat) : State :=
  let b := s.fld (ROWLOG_PART r) 11 0
  let s := s.setRing r { s.ring r with cmds := [], mq := [] }
  { s with mem.done := s.mem.done.filter (fun e => e.1 != 16 + r)
           rlog.log := if s.regionLog r = 0 then s.rlog.log else s.rlog.log.clear fun k => b ≤ k && k < b + 2 ^ s.regionLog r }

/-- A warm cast-on at step 14 (R424): the epoch, and every open entry FINISHED with INTERRUPTED. -/
def State.ringWarm (s : State) : State :=
  let s : State := { s with rlog.epoch := (s.rlog.epoch + 1) % 256 }
  let s : State := { s with rlog.log := s.rlog.log.map fun e =>
    if e.2.isOpen then (e.1, { e.2 with st := 3, code := 0x14, space := 0, ts := s.now }) else e }
  (List.range 8).foldl (fun s r => s.setRing r { s.ring r with cmds := [] }) s

/-- HOST has left: what the RING page's block holds is at reset; open commands stay with the journal. -/
def State.ringLost (s : State) : State :=
  { s with rlog.rings := s.rlog.rings.foldl (fun t e => Tab.set (fun _ => {}) t e.1 { cmds := e.2.cmds }) [] }

/-- RING PAGE_STATUS.BUSY (R426). -/
def State.ringBusy (s : State) : Bool :=
  (List.range 8).any fun r => s.ringOn r && ((s.ring r).tail != s.rseqNext r || (s.region r).any (·.isOpen))

/-! ### Meanings -/

def execRingTDb (q : Req) (ten : Nat) (v : Word) (s : State) : Host.Outcome State Fault Refusal :=
  only (q.wf && decide (ten < 8)) s (s.writeVia q (RING_T_DB ten) v (ringDb q ten v))
def execRingFetch (r : Nat) (cpl : Option CplStatus) (data : List Byte) (s : State) : Host.Outcome State Fault Refusal :=
  only (decide (r < 8)) s (s.heldIdle 0x03A (ringFetch r cpl data s))
def execRingCheckEnd (r : Nat) (s : State) : Host.Outcome State Fault Refusal :=
  only (decide (r < 8)) s (s.heldIdle 0x03A (ringCheckEnd r s))
def execCommandIssue (r : Nat) (s : State) : Host.Outcome State Fault Refusal :=
  only (decide (r < 8)) s (s.heldIdle 0x03A (ringIssue r none s))
def execRingNop (r : Nat) (s : State) : Host.Outcome State Fault Refusal :=
  only (decide (r < 8)) s (s.heldIdle 0x03A (ringIssue r (some 0) s))
def execRingSubmit (r : Nat) (s : State) : Host.Outcome State Fault Refusal :=
  only (decide (r < 8)) s (s.heldIdle 0x03A (ringIssue r (some 1) s))
def execRingCancel (r : Nat) (s : State) : Host.Outcome State Fault Refusal :=
  only (decide (r < 8)) s (s.heldIdle 0x03A (ringCancel r s))
def execModelLoad (r : Nat) (s : State) : Host.Outcome State Fault Refusal :=
  only (decide (r < 8)) s (s.heldIdle 0x03A (ringIssue r (some 3) s))
def execModelDrop (r : Nat) (s : State) : Host.Outcome State Fault Refusal :=
  only (decide (r < 8)) s (s.heldIdle 0x03A (ringIssue r (some 4) s))
def execRingMove (r : Nat) (s : State) : Host.Outcome State Fault Refusal :=
  only (decide (r < 8)) s (s.heldIdle 0x03A (ringIssue r (some 5) s))
def execRingCache (r : Nat) (s : State) : Host.Outcome State Fault Refusal :=
  only (decide (r < 8)) s (s.heldIdle 0x03A (ringIssue r (some 6) s))
def execRingBounce (r : Nat) (s : State) : Host.Outcome State Fault Refusal :=
  only (decide (r < 8)) s (s.heldIdle 0x03A (ringIssue r (some 7) s))
def execRowLogUpdate (r rseq : Nat) (s : State) : Host.Outcome State Fault Refusal :=
  only (decide (r < 8)) s (s.heldIdle 0x03B (rowLogUpdate r rseq s))
def execRingTResync (q : Req) (ten : Nat) (v : Word) (s : State) : Host.Outcome State Fault Refusal :=
  only (q.wf && decide (ten < 8)) s (s.writeVia q (RING_T_RESYNC ten) (setBit v 0 true) (ringResyncWrite ten (setBit v 0 true)))
def execRingEnable (q : Req) (r : Nat) (v : Word) (s : State) : Host.Outcome State Fault Refusal :=
  only (q.wf && decide (r < 8)) s (s.writeVia q (RING_CFG r) (setBit v 0 true) (ringCfg q r (setBit v 0 true)))
def execRowlogPartWrite (q : Req) (r : Nat) (v : Word) (s : State) : Host.Outcome State Fault Refusal :=
  only (q.wf && decide (r < 8)) s (s.writeVia q (ROWLOG_PART r) v (rowlogPart q r v))

end Sys2Proof.Machine
end

