-- ==== Sys2Proof/Machine/Debug.lean ====
section
/-! DEFINITION. The DBG page (R435 to R446): halt and step, register access, trace writes, counters. -/

namespace Sys2Proof.Machine

/-- Ask for a halt of tile `t` (R435). -/
def State.haltAsk (s : State) (t : Nat) : State :=
  let x := s.tile t
  if s.tileSt t = 4 ∨ s.tileSt t = 3 ∨ x.frogDue then s
  else
    let s := s.setTile t { x with haltReq := true }
    let s := if s.domOn (tileDom t) ∨ s.absent (tileDom t) then s else s.hold 12 (0x300 + t) (tileDom t)
    if s.domOn (tileDom t) ∧ x.x.isNone ∧ x.await.isNone then s.boundary t else s

/-- The tiles a DBG_HALT_REQ or DBG_RESUME write names. -/
def dbgTiles (hi : Bool) (v : Word) : List Nat := (setPositions 32 v.toNat).map fun i => if hi then 32 + i else i

/-- Tile `t` runs on (R435); ignored where it is not halted. -/
def State.resume (s : State) (t : Nat) : State := if s.tileSt t = 4 then (s.tileUnhalt t).setTileSt t 1 else s

/-- DBG_STEP (R436). -/
def dbgStep (v : Word) (s : State) : State :=
  let t := bits v 5 0
  if s.tileSt t = 4 then ((s.tileUnhalt t).setTileSt t 1).setTile t { s.tile t with steps := max 1 (bits v 15 8) } else s

/-- The state DBG_REG_SEL selects. -/
def State.dbgReg (s : State) : Word :=
  let v := s.reg DBG_REG_SEL
  let t := bits v 5 0
  let i := bits v 12 8
  match bits v 7 6 with
  | 0 => (s.tile t).gr i
  | 1 => word (leNat (slice ((s.tile t).vr i) (4 * bits v 16 13) 4))
  | 2 => (s.csr t i).getD 0
  | _ => word (s.tilePc t)

/-- Write it: g0 and the CCRs that are not RW ignore the write. -/
def State.dbgRegWrite (s : State) (d : Word) : State :=
  let v := s.reg DBG_REG_SEL
  let t := bits v 5 0
  let i := bits v 12 8
  let x := s.tile t
  match bits v 7 6 with
  | 0 => s.setTile t (x.setGr i d)
  | 1 =>
    let o := 4 * bits v 16 13
    s.setTile t (x.setVr i ((x.vr i).take o ++ leBytes 4 d.toNat ++ (x.vr i).drop (o + 4)))
  | 2 => (s.csrWrite t i d).getD s
  | _ => s.setTilePc t (d.toNat % 0x10000 / 8 * 8)

/-- An access to DBG_REG_DATA (R438). -/
def dbgRegData (q : Req) (wr : Bool) (v : Word) (s : State) : State :=
  let t := s.fld DBG_REG_SEL 5 0
  if s.tileSt t ≠ 4 then s.fail q DBG_REG_DATA 0x10 wr
  else if wr then s.dbgRegWrite v
  else
    let r := s.dbgReg
    (if s.fld DBG_REG_SEL 7 6 = 2 then s.csrRead t (s.fld DBG_REG_SEL 12 8) else s).answer 0 [r]

/-! ### Trace (R439, R440) -/

/-- The bytes of a record. -/
def traceBytes (t : Nat) (r : TraceRec) : List Byte :=
  leBytes 8 r.ts ++ leBytes 4 (r.pc % 0x10000 + r.target % 0x10000 * 0x10000) ++ leBytes 4 (r.kind + t * 0x100 + r.job * 0x10000)

/-- The trace stops. -/
def State.traceStop (s : State) : State := s.setFlag DBG_TRACE_STAT 0 false

/-- DBG_TRACE_CFG: EN from 0 to 1 starts the trace at offset 0, EN = 0 stops it. -/
def traceCfg (v : Word) (s : State) : State :=
  let was := s.flag DBG_TRACE_CFG 0
  let s := s.setReg DBG_TRACE_CFG (s.written DBG_TRACE_CFG v)
  if !bit v 0 then s.traceStop
  else if was then s
  else (s.setReg DBG_TRACE_WPTR 0).setReg DBG_TRACE_STAT 1

/-- TRACE_RECORD: the oldest record that tile `t` has buffered is written to the ring. -/
def traceRecord (t : Nat) (s : State) : State :=
  let rest := s.dbg.bufs.get (fun _ => []) t
  match rest with
  | [] => s
  | r :: l =>
    if !s.flag DBG_TRACE_STAT 0 ∨ !s.domOn 2 then s
    else
      let n := s.dbg.lost.get (fun _ => 0) t
      let l := if n = 0 then l else l ++ [⟨s.now, 0, min n 0xFFFF, 7, r.job⟩]
      let p := (s.reg DBG_TRACE_WPTR).toNat
      let a := s.base64 DBG_TRACE_BASE_LO DBG_TRACE_BASE_HI + p
      match s.memWrite ⟨7, 0, 0⟩ a (traceBytes t r) with
      | (0x100, s) => s.waitFor (memDomain a).1
      | (0, s) =>
        let s : State := { s with dbg := { s.dbg with bufs := s.dbg.bufs.set (fun _ => []) t l, lost := s.dbg.lost.set (fun _ => 0) t 0 } }
        let e := p + 16
        if e < (s.reg DBG_TRACE_LEN).toNat then s.setReg DBG_TRACE_WPTR (word e)
        else if s.flag DBG_TRACE_CFG 1 then s.setReg DBG_TRACE_WPTR 0
        else (((s.setReg DBG_TRACE_WPTR (word e)).setFlag DBG_TRACE_STAT 1 true).irq 0x018 1).traceStop
      | (c, s) => (((s.setFlag DBG_TRACE_STAT 2 true).setFld DBG_TRACE_STAT 15 8 c).irq 0x018 2).traceStop

/-! ### Counters (R442, R444) -/

/-- DBG_PMC_SEL: the count clears. -/
def pmcSel (k : Nat) (v : Word) (s : State) : State :=
  (s.setReg (DBG_PMC_SEL k) (s.written (DBG_PMC_SEL k) v)).setReg64 (DBG_PMC_LO k) (DBG_PMC_HI k) 0

/-- The debug level has fallen (R444): halted tiles resume and the trace stops; what is counted follows R441. -/
def State.dbgFall (s : State) : State :=
  let s := (List.range 64).foldl (fun s t => (s.setTile t { s.tile t with haltReq := false, steps := 0 }).resume t) s
  let s : State := { s with dbg := { s.dbg with bufs := [], lost := [] } }
  s.traceStop

/-! ### Meanings -/

def execDbgHaltReq (q : Req) (hi : Bool) (v : Word) (s : State) : Host.Outcome State Fault Refusal :=
  only q.wf s (s.writeVia q (if hi then DBG_HALT_REQ_HI else DBG_HALT_REQ_LO) v (fun s => (dbgTiles hi v).foldl State.haltAsk s))
def execDbgResume (q : Req) (hi : Bool) (v : Word) (s : State) : Host.Outcome State Fault Refusal :=
  only q.wf s (s.writeVia q (if hi then DBG_RESUME_HI else DBG_RESUME_LO) v (fun s => (dbgTiles hi v).foldl State.resume s))
def execDbgStep (q : Req) (v : Word) (s : State) : Host.Outcome State Fault Refusal :=
  only q.wf s (s.writeVia q DBG_STEP v (dbgStep v))
def execDbgRegData (q : Req) (wr : Bool) (v : Word) (s : State) : Host.Outcome State Fault Refusal :=
  only q.wf s (s.regAccess q DBG_REG_DATA 4 wr v.toNat (fun s => dbgRegData q wr v (if wr then s.answer 0 else s)))
def execTraceRecord (t : Nat) (s : State) : Host.Outcome State Fault Refusal :=
  only (decide (t < 64)) s (s.heldIdle 0x018 (traceRecord t s))
def execPmcSelWrite (q : Req) (k : Nat) (v : Word) (s : State) : Host.Outcome State Fault Refusal :=
  only (q.wf && decide (k < 8)) s (s.writeVia q (DBG_PMC_SEL k) v (pmcSel k v))

end Sys2Proof.Machine
end

