-- ==== Sys2Proof/Machine/Display.lean ====
section
/-! DEFINITION. DSI-2 transmitters and the compositor (R172 to R177). -/

namespace Sys2Proof.Machine

/-- Layer `l` of transmitter `n`. -/
def State.layer (s : State) (n l : Nat) : DLayer := at' {} (s.display n).layers l

/-- `s` with a layer replaced. -/
def State.setLayer (s : State) (n l : Nat) (x : DLayer) : State :=
  let d := s.display n
  s.setDisplay n { d with layers := d.layers.set l x }

/-- Whether the transmitter's domain is ON. -/
def State.dsiOn (s : State) : Bool := s.domOn 8

/-- Read the newest pose record (R176): SEQ, body, SEQ; a read that fails leaves the previous pose. -/
def State.readPose (s : State) (n : Nat) : State :=
  let (c, bs, s) := s.unitRead (unitReq (s.pageOwner (0x04A + n))) (s.reg64 (DSI_POSE_LO n) (DSI_POSE_HI n)) 64
  if c = 0 then s.setDisplay n { s.display n with pose := bs } else s

/-- LAYER_SUBMIT (R175): a TAG older than DSI_FRAME, modulo 65,536, never becomes READY; else the slot is READY with
its TAG and the pose of the moment. -/
def layerSubmit (q : Req) (n l : Nat) (v : Word) (s : State) : State :=
  let tag := bits v 31 16
  let k := bits v 1 0
  if k = 3 then s
  else if 0x8000 ≤ (tag + 0x10000 - s.fld (DSI_FRAME n) 15 0) % 0x10000 then
    ((s.bumpSat (LAYER_STAT n l) 15 8).irq (0x04A + n) 3).fail q (LAYER_SUBMIT n l) 0x14
  else
    let s := s.readPose n
    let x := s.layer n l
    (s.setLayer n l { x with tags := x.tags.set k tag, poses := x.poses.set k (s.display n).pose }).setFlag (LAYER_STAT n l) k true

/-- The latch for one layer (R175): the READY slot tagged `f` is shown; else MISS selects. Older READY slots are
released. -/
def State.latchLayer (s : State) (n l f : Nat) : State :=
  let x := s.layer n l
  let en := s.flag (LAYER_CFG n l) 0
  let ready (k : Nat) : Bool := s.flag (LAYER_STAT n l) k
  let take := (List.range 3).find? fun k => ready k && at' 0 x.tags k == f
  let s := (List.range 3).foldl (fun s k =>
    if ready k ∧ (take = some k ∨ 0x8000 ≤ (at' 0 x.tags k + 0x10000 - f) % 0x10000) then s.setFlag (LAYER_STAT n l) k false else s) s
  match take with
  | some k => (s.setFld (LAYER_STAT n l) 5 4 k).setLayer n l { x with shown := en, hidden := !en }
  | none =>
    let s := if en then s.bumpSat (LAYER_STAT n l) 23 16 else s
    s.setLayer n l { x with hidden := !en || !x.shown || s.flag (LAYER_CFG n l) 4 }

/-- The three signed rates of a gyro sample, at GYRO_OFS in its payload (R176). -/
def gyroRate (ofs : Nat) (payload : List Byte) : Int × Int × Int :=
  let r (i : Nat) : Int := signed 16 (leNat (slice payload (ofs + 2 * i) 2))
  (r 0, r 1, r 2)

/-- The display pose (R176): the record's quaternion turned, where GYRO_EN is 1, through the samples after the record, oldest first, each
from the time before it; then on to `till` at the newest sample's rate. `gyro` holds the samples up to the latch, newest first. -/
def displayPose (record : List Byte) (gyro : List (Nat × List Byte)) (en : Bool) (ofs : Nat) (scale : Word) (till : Nat) : List Byte :=
  let ts := leNat (slice record 0 8)
  let after := if en then gyro.filter fun g => ts < g.1 else []
  let (q, t) := after.foldr (fun g (q, t) => (Config.gyroTurn q (gyroRate ofs g.2) scale ((g.1 : Int) - t), g.1)) (slice record 8 16, ts)
  match gyro with
  | g :: _ => Config.gyroTurn q (gyroRate ofs g.2) scale ((till : Int) - t)
  | [] => q

/-- The latch of frame DSI_FRAME, LATCH_LEAD before its vsync (R175, R176): every layer's slot, the display pose for
vsync + PHOTON_OFS, then DSI_FRAME goes up. -/
def dsiLatch (n : Nat) (s : State) : State :=
  if !s.dsiOn ∨ s.strmState (10 + n) = 0 then s
  else
    let f := s.fld (DSI_FRAME n) 15 0
    let s := s.readPose n
    let pose := (s.display n).pose
    let gyro := s.imu.filter fun g => g.1 ≤ s.now
    let photon := (s.fld (DSI_LATCH_LEAD n) 15 0 + s.fld (DSI_PHOTON_OFS n) 15 0) * 384 / 10
    let shown := displayPose pose gyro (s.flag (DSI_WARP_GYRO n) 8) (s.fld (DSI_WARP_GYRO n) 4 0) (s.reg (DSI_WARP_GYRO_SCALE n)) (s.now + photon)
    let s := s.setDisplay n { s.display n with display := shown }
    let s := (List.range 4).foldl (fun s l => s.latchLayer n l f) s
    (s.setFld (DSI_FRAME n) 15 0 (f + 1)).irq (0x04A + n) 1

/-- A DCS short write (R172): at once while the stream is stopped, else in the next vertical blanking. -/
def dsiDcs (n : Nat) (v : Word) (s : State) : State :=
  if s.strmState (10 + n) = 0 then s.emit (.bus (10 + n) (leBytes 3 v.toNat))
  else s.setDisplay n { s.display n with dcs := (s.display n).dcs ++ [v] }

/-- VSYNC, VBP, VACT and VFP. -/
def State.dsiV (s : State) (n : Nat) : Nat × Nat × Nat × Nat :=
  (s.fld (DSI_VSYNC_VBP n) 15 0, s.fld (DSI_VSYNC_VBP n) 31 16, s.fld (DSI_VACT_VFP n) 15 0, s.fld (DSI_VACT_VFP n) 31 16)

/-- Lines of a frame. -/
def State.dsiLines (s : State) (n : Nat) : Nat := let v := s.dsiV n; v.1 + v.2.1 + v.2.2.1 + v.2.2.2

/-- Vsync (R173), once the frame before is sent: the boundary of stream 10 or 11, stamped, and the start of the next frame. -/
def dsiVsync (n : Nat) (s : State) : State :=
  if !s.dsiOn ∨ (s.display n).line.any fun l => l < s.dsiLines n then s
  else
    let s := s.strmBoundary (10 + n)
    if s.strmState (10 + n) = 0 then (s.setDisplay n { s.display n with line := none }).dcsFlush n
    else
      let s := ((s.strmEvent (10 + n)).irq (0x04A + n) 0).setDisplay n { s.display n with late := false, line := some 0 }
      let s := if s.fld GPIO_FSYNC 24 24 = n then { s with fsync := true } else s
      s.dcsFlush n

/-! ### Pixels (R174): words A, R, G, B from the top byte down, premultiplied -/

/-- Byte `i` of a pixel. -/
def chan (v : Word) (i : Nat) : Nat := bits v (8 * i + 7) (8 * i)

/-- The pixel whose byte `i` is `f i`. -/
def pixelOf (f : Nat → Nat) : Word := word (leNat ((List.range 4).map fun i => byte (f i)))

/-- Bytes of a pixel in FMT. -/
def fmtBytes (f : Nat) : Nat := match f with
  | 0 => 4
  | 1 => 2
  | _ => 1

/-- A field of `hi` at most, brought to the scale of a byte. -/
def toByte (v hi : Nat) : Nat := (roundOpen 174 (255 * v : Nat) hi).toNat

/-- A stored pixel: ARGB8888, RGB565 (opaque), or an L8 byte, which scales LAYER_COLOUR.RGB and is the alpha. -/
def unpackPixel (fmt : Nat) (colour : Word) (v : Nat) : Word :=
  match fmt with
  | 0 => word v
  | 1 => pixelOf fun i => match i with
    | 0 => toByte (nbits v 4 0) 31
    | 1 => toByte (nbits v 10 5) 63
    | 2 => toByte (nbits v 15 11) 31
    | _ => 255
  | _ => pixelOf fun i => if i = 3 then v else (roundOpen 174 (chan colour i * v : Nat) 255).toNat

/-- Source-over of `top` times `alpha` / 255 on an opaque pixel. A premultiplied colour above its alpha may exceed the range: that byte
is open. -/
def blendPixel (alpha : Nat) (top below : Word) : Word :=
  pixelOf fun i =>
    if i = 3 then 0
    else
      let v := roundOpen 174 (255 * alpha * chan top i + (65025 - alpha * chan top 3) * chan below i : Nat) 65025
      (if 255 < v then Config.overBright v % 256 else v.toNat)

/-- The source pixels of layer `l`'s shown slot, line-major, and the state after the reads. -/
def State.layerPixels (s : State) (n l y lines : Nat) : List Word × State :=
  let k := s.fld (LAYER_STAT n l) 5 4
  let base := s.base64 (LAYER_SLOT_LO n l k) (LAYER_SLOT_HI n l k)
  let w := s.fld (LAYER_SIZE n l) 15 0
  let f := s.fld (LAYER_CFG n l) 2 1
  (List.range lines).foldl (fun (acc, s) i =>
    let (_, bs, s) := s.unitRead (unitReq (s.pageOwner (0x04A + n))) (base + (y + i) * s.fld64 (LAYER_STRIDE n l) 31) (w * fmtBytes f)
    (acc ++ (List.range w).map (fun x => unpackPixel f (s.reg (LAYER_COLOUR n l)) (leNat (slice bs (x * fmtBytes f) (fmtBytes f)))), s))
    ([], s)

/-! ### The warp (R176) -/

/-- An FP32 value times 2^149, subnormals kept; none where it is no number. -/
def poseInt (v : Nat) : Option Int := match Fmt.decode { fp32 with ftz := false } v with
  | .fin neg m e => some (scaledInt neg m e (-149))
  | _ => none

/-- The rotation of a quaternion (w, x, y, z, 16 bytes of FP32) times its squared length, by rows; none where it names no rotation. -/
def rotation (bs : List Byte) : Option (List (List Int)) :=
  match (List.range 4).map fun i => poseInt (leNat (slice bs (4 * i) 4)) with
  | [some w, some x, some y, some z] =>
    if w = 0 ∧ x = 0 ∧ y = 0 ∧ z = 0 then none
    else some [ [w * w + x * x - y * y - z * z, 2 * (x * y - w * z), 2 * (x * z + w * y)],
                [2 * (x * y + w * z), w * w - x * x + y * y - z * z, 2 * (y * z - w * x)],
                [2 * (x * z - w * y), 2 * (y * z + w * x), w * w - x * x - y * y + z * z] ]
  | _ => none

/-- The scalar product of two rows. -/
def dot (a b : List Int) : Int := ((a.zip b).map fun p => p.1 * p.2).foldl (· + ·) 0

/-- Column `j` of a matrix by rows. -/
def column (m : List (List Int)) (j : Nat) : List Int := m.map fun r => at' 0 r j

/-- Where display pixel (x, y) is sampled, in pixels as (numerator, numerator, denominator): the inverse of K·Rd·K⁻¹, with
Rd = (display)ᵀ·(render) and K from the focal lengths and the center in 1/16 pixel; open where K has no inverse or a pose is no
rotation. -/
def warpSource (render shown : List Byte) (fx fy cx cy : Int) (x y : Nat) : Int × Int × Int :=
  match rotation render, rotation shown with
  | some r, some d =>
    if fx * fy = 0 then Config.warpOpen x y
    else
      let v : List Int := [(16 * x - cx) * fy, (16 * y - cy) * fx, fx * fy]
      let world := d.map fun row => dot row v
      let c := (List.range 3).map fun j => dot (column r j) world
      (fx * at' 0 c 0 + cx * at' 0 c 2, fy * at' 0 c 1 + cy * at' 0 c 2, 16 * at' 0 c 2)
  | _, _ => Config.warpOpen x y

/-- The bilinear sample of a `w` by `h` source at a position as `warpSource` gives it: samples outside the source are transparent; none
where all four are, or the position lies behind the viewer. -/
def warpSample (w h : Nat) (src : List Word) (p : Int × Int × Int) : Option Word :=
  let d := p.2.2
  if d ≤ 0 then none
  else
    let x0 := p.1 / d
    let y0 := p.2.1 / d
    let tap (dx dy : Int) : Word :=
      let x := x0 + dx
      let y := y0 + dy
      if 0 ≤ x ∧ x < w ∧ 0 ≤ y ∧ y < h then at' 0 src (y.toNat * w + x.toNat) else 0
    let fx := p.1 % d
    let fy := p.2.1 % d
    if -1 ≤ x0 ∧ x0 < w ∧ -1 ≤ y0 ∧ y0 < h then
      some (pixelOf fun i => (roundOpen 176 ((chan (tap 0 0) i * (d - fx) + chan (tap 1 0) i * fx) * (d - fy) +
        (chan (tap 0 1) i * (d - fx) + chan (tap 1 1) i * fx) * fy) (d * d).toNat).toNat)
    else none

/-! ### Lines (R173, R174, R177) -/

/-- Layer `l`'s part of display line `y`: per column its pixel, none where it has none; and the state after its fetch. -/
def State.layerLine (s : State) (n l y width : Nat) : List (Option Word) × State :=
  let x := s.layer n l
  let px := s.fld (LAYER_POS n l) 15 0
  let py := s.fld (LAYER_POS n l) 31 16
  let w := s.fld (LAYER_SIZE n l) 15 0
  let h := s.fld (LAYER_SIZE n l) 31 16
  if x.hidden then (List.replicate width none, s)
  else if s.flag (LAYER_CFG n l) 3 then
    let (src, s) := s.layerPixels n l 0 h
    let pose := slice (at' [] x.poses (s.fld (LAYER_STAT n l) 5 4)) 8 16
    let f (hi lo : Nat) (k : Nat) : Int := s.fld k hi lo
    ((List.range width).map fun i =>
      let p := warpSource pose (s.display n).display (f 15 0 (DSI_WARP_FOCAL n)) (f 31 16 (DSI_WARP_FOCAL n))
        (f 15 0 (DSI_WARP_CENTER n)) (f 31 16 (DSI_WARP_CENTER n)) i y
      warpSample w h src (p.1 - px * p.2.2, p.2.1 - py * p.2.2, p.2.2), s)
  else if y < py ∨ py + h ≤ y then (List.replicate width none, s)
  else
    let (src, s) := s.layerPixels n l (y - py) 1
    ((List.range width).map fun i => if px ≤ i ∧ i < px + w then some (at' 0 src (i - px)) else none, s)

/-- The layers of display line `y`, bottom first, and the state after their fetches. -/
def State.layerLines (s : State) (n y width : Nat) : List (List (Option Word) × Nat) × State :=
  (List.range 4).foldl (fun (acc, s) l =>
    let (row, s) := s.layerLine n l y width
    (acc ++ [(row, s.fld (LAYER_COLOUR n l) 31 24)], s)) ([], s)

/-- Column `i` of a composited line: black where no layer covers it. -/
def compose (rows : List (List (Option Word) × Nat)) (i : Nat) : Word :=
  rows.foldl (fun below (row, alpha) => match at' none row i with
    | some top => blendPixel alpha top below
    | none => below) 0

/-- Whether a layer covers column `i`, so that its pixel is fetched. -/
def covered (rows : List (List (Option Word) × Nat)) (i : Nat) : Bool := rows.any fun r => (at' none r.1 i).isSome

/-- A transmitter sends the next line of its frame (R173, R174, R177): black outside the layers, while paused and during bind-off from
stage 2 (R108), and in the columns of `late`, whose layer fetch is late. HSYNC, HBP and HFP go with every line. -/
def dsiLine (n line : Nat) (late : List Nat) (s : State) : State :=
  if !s.dsiOn ∨ (s.display n).line ≠ some line ∨ s.dsiLines n ≤ line then s
  else
    let s := s.setDisplay n { s.display n with line := some (line + 1) }
    let v := s.dsiV n
    let blank := [s.fld (DSI_HSYNC_HBP n) 15 0, s.fld (DSI_HSYNC_HBP n) 31 16, s.fld (DSI_HACT_HFP n) 31 16]
    if line < v.1 + v.2.1 ∨ v.1 + v.2.1 + v.2.2.1 ≤ line then (s.emit (.pixels n line [] blank)).dcsFlush n
    else
      let width := s.fld (DSI_HACT_HFP n) 15 0
      let run := s.strmState (10 + n) == 1 && decide (s.life.bindStage < 2)
      let (rows, s) := if run then s.layerLines n (line - (v.1 + v.2.1)) width else ([], s)
      let px := (List.range width).map fun i => if late.contains i then 0 else compose rows i
      let s := s.emit (.pixels n line px blank)
      if late.any (fun i => i < width && covered rows i) ∧ !(s.display n).late then
        (((s.setDisplay n { s.display n with late := true }).bump (DSI_UNDERRUN n)).irq (0x04A + n) 2).strmUnderrun (10 + n)
      else s

/-- A write to a DSI page: the "stopped" fields only while the stream is STOPPED; a layer whose EN becomes set has
shown nothing (R175, R183). -/
def dsiWrite (q : Req) (k : Nat) (v : Word) (s : State) : State :=
  let n := keyPage k - 0x04A
  let off := keyOff k
  if off ≤ 0x118 then s.stoppedWrite q (10 + n) k v
  else if 0x200 ≤ off ∧ off < 0x300 ∧ off % 0x40 = 0 then
    let l := (off - 0x200) / 0x40
    let s' := s.plainWrite k v
    if bit v 0 ∧ !s.flag k 0 then s'.setLayer n l { s.layer n l with shown := false } else s'
  else s.plainWrite k v

/-- A transmitter stops at once (R183). -/
def State.displayKill (s : State) (n : Nat) : State := (s.strmKill (10 + n)).setDisplay n {}

/-! ### Meanings -/

def execDsiVsync (n : Nat) (s : State) : Host.Outcome State Fault Refusal :=
  only (decide (n < 2)) s (s.heldIdle (0x04A + n) (dsiVsync n s))
def execDsiLine (n line : Nat) (late : List Nat) (s : State) : Host.Outcome State Fault Refusal :=
  only (decide (n < 2)) s (s.heldIdle (0x04A + n) (dsiLine n line late s))
def execDsiLatch (n : Nat) (s : State) : Host.Outcome State Fault Refusal :=
  only (decide (n < 2)) s (s.heldIdle (0x04A + n) (dsiLatch n s))
def execLayerSubmit (q : Req) (n : Nat) (l : Nat) (v : Word) (s : State) : Host.Outcome State Fault Refusal :=
  only (q.wf && decide (n < 2) && decide (l < 4)) s (s.writeVia q (LAYER_SUBMIT n l) v (layerSubmit q n l v))
def execDsiDcs (q : Req) (n : Nat) (v : Word) (s : State) : Host.Outcome State Fault Refusal :=
  only (q.wf && decide (n < 2)) s (s.writeVia q (DSI_DCS n) v (dsiDcs n v))

end Sys2Proof.Machine
end

