-- ==== Sys2Proof/Machine/Rails.lean ====
section
/-! DEFINITION. Rails, measurement and current caps (R69 to R91): samples and their averages, stretch levels, HARD,
droop, the allowances that bound the operating points. -/

namespace Sys2Proof.Machine

/-- What an unlisted rail record holds. -/
def railReset : Nat → Rail := fun _ => {}

/-- The record of rail `i`. -/
def State.rail (s : State) (i : Nat) : Rail := s.cap.rails.get railReset i

/-- `s` with rail `i`'s record replaced. -/
def State.setRail (s : State) (i : Nat) (x : Rail) : State := { s with cap.rails := s.cap.rails.set railReset i x }

/-- The sample LSB of output `i` in uA (Table 4.1). -/
def railLsb (i : Nat) : Nat :=
  if i = 0 then 2000 else if i ≤ 5 then 4000 else if i = 6 then 2000 else if i ≤ 8 then 1000 else if i = 9 then 500
  else if i = 10 then 250 else 500

/-- The maximum current code of output `i` (Table 4.7): max current by LSB. -/
def railMax (i : Nat) : Nat := (regReset (CAP_HARD i)).toNat

/-- The outputs whose WARN stretches a clock or command slots (Table 4.2). -/
def railStretches (i : Nat) : Bool := i ≤ 7

/-- The stretch level after a sample, from AVG2 against WARN (R74). -/
def nextLevel (avg2 warn level : Nat) : Nat :=
  if warn < avg2 then min 4 (level + 1) else if avg2 + warn / 16 < warn then level - 1 else level

/-- Whether a rail is in HARD after a sample (R75). -/
def nextHard (avg50 hard : Nat) (was : Bool) : Bool :=
  if was then !(avg50 + hard / 10 < hard) else decide (hard < avg50)

/-- The HARD action of Table 4.2 as a rail enters HARD. -/
def State.hardAction (s : State) (i : Nat) : State :=
  if 1 ≤ i ∧ i ≤ 5 then s.setRail i { s.rail i with floor := 0 }
  else if i = 8 ∨ i = 9 then ((s.setFlag VR_FAULT i true).setFlag VR_STATUS (16 + i) true).irq 0x003 2
  else if i = 10 ∨ i = 11 then (((s.setFlag VR_FAULT i true).irq 0x003 2).ldoUpdate)
  else s

/-- The stretch level and HARD of rail `i` after a sample, from its averages (R74, R75, R78). WARN_ACTIVE shows any level that is not 0
(DESIGN CHOICE, log entry 83). -/
def State.railLimits (s : State) (i avg2 avg50 : Nat) : State :=
  let x := s.rail i
  let level := nextLevel avg2 (s.fld (CAP_WARN i) 9 0) x.warnLevel
  let was := s.flag (CAP_STATE i) 4
  let hard := nextHard avg50 (s.fld (CAP_HARD i) 9 0) was
  let enter := hard && !was
  let level := if enter then 4 else if hard && (i == 0 || i == 6 || i == 7) then 4 else level
  let leaves := x.warnLevel == 0 && level != 0
  let s := s.setRail i { x with warnLevel := level }
  let s := s.setReg (CAP_STATE i) (word (level + (level != 0).toNat * 8 + hard.toNat * 16))
  let s := if leaves then (s.bumpSat (CAP_EVT i) 15 0).irq 0x004 0 else s
  let s := s.setFlag (CAP_EVT i) 31 hard
  if enter then ((s.bumpSat (CAP_EVT i) 30 16).irq 0x004 1).hardAction i else s

/-- The totals over all rails (R73): of the rails' rounded averages, when the last rail's millisecond ends (DESIGN CHOICE, log entry
83). -/
def State.railTotals (s : State) : State :=
  let ms := (List.range 12).foldl (fun a i => a + s.fld (CAP_PWR i) 15 0) 0
  let acc := s.cap.total + ms
  let s := s.setFld CAP_TOTAL 15 0 ms
  if s.cap.totalN + 1 < 1000 then { s with cap.total := acc, cap.totalN := s.cap.totalN + 1 }
  else ({ s with cap.total := 0, cap.totalN := 0 } : State).setFld CAP_TOTAL 31 16 (acc / 1000)

/-- Power and energy of one sample (R73): the millisecond average of whole blocks of 1,000 samples, in mW. -/
def State.railPower (s : State) (i nw : Nat) : State :=
  let x := s.rail i
  let e := x.energy + nw
  let s := s.setReg64 (CAP_ENERGY_LO i) (CAP_ENERGY_HI i) (e / 1000000000)
  if x.n + 1 < 1000 then s.setRail i { x with acc := x.acc + nw, n := x.n + 1, energy := e }
  else
    let s := (s.setRail i { x with acc := 0, n := 0, energy := e }).setFld (CAP_PWR i) 15 0 ((x.acc + nw) / 1000000000)
    if i = 11 then s.railTotals else s

/-- A sample of VR_TQq is shared equally among the tiles of the quadrant that are ON, each share going to the tenant of the
tile's program, or to tenant 0 (R443); 720720 is a multiple of every count of tiles. -/
def State.shareEnergy (s : State) (q fj : Nat) : State :=
  let ts := (tilesOf q).filter fun t => (s.dom (32 + t)).st == .on
  let ten (t : Nat) : Nat := if s.fld (TILE_STATUS t) 2 0 = 0 then 0 else s.fld (TILE_STATUS t) 6 4
  { s with dbg := { s.dbg with energy := ts.foldl (fun l t => l.modify (ten t) (· + fj * (720720 / ts.length))) s.dbg.energy } }

/-- A sample of output `i` (R72): current code and millivolts; zero while the output is off; nothing while REFOSC is
stopped. -/
def meterSample (i code mv : Nat) (s : State) : State :=
  if !s.refoscOk then s
  else
    let on := s.flag VR_STATUS i
    let code := if on then code % 1024 else 0
    let mv := if on then mv % 4096 else 0
    let x := s.rail i
    let hist := (code :: x.hist).take 50
    let avg2 := (code + x.hist.headD 0) / 2
    let avg50 := hist.foldl (· + ·) 0 / 50
    let s := s.setReg (VR_OUT i) (word (code + mv * 0x10000 + on.toNat * 0x80000000))
    s.heldIdle 0x004 <|
    let s := s.setRail i { x with hist := hist }
    let s := (s.setReg (CAP_AVG2 i) (word avg2)).setReg (CAP_AVG50 i) (word avg50)
    let s := if 1 ≤ i ∧ i ≤ 4 then s.shareEnergy (i - 1) (code * railLsb i * mv) else s
    (s.railPower i (code * railLsb i * mv)).railLimits i avg2 avg50

/-- One lift of a rail's HARD floor after its HARD exit (R75); past OPP 7 it limits nothing. -/
def hardFloorLift (i : Nat) (s : State) : State :=
  let x := s.rail i
  if s.flag (CAP_STATE i) 4 ∨ 8 ≤ x.floor then s else s.setRail i { x with floor := x.floor + 1 }

/-- VR_TQq in millivolts at an OPP (Table 4.3). -/
def oppMv (o : Nat) : Nat := [500, 550, 600, 650, 700, 760, 810, 860].getD o 860

/-- The frequency of PLL_TQq in MHz at an OPP (Table 4.3). -/
def oppMhz (o : Nat) : Nat := [250, 400, 550, 700, 850, 1000, 1125, 1250].getD o 1250

/-- VR_WGT in millivolts for the highest OPP of a quadrant that is ON (Table 4.1). -/
def wgtMv (o : Nat) : Nat := if o ≤ 3 then 700 else if o ≤ 5 then 800 else 900

/-- CAP_DROOP_CFG.THRESH in millivolts. -/
def droopMv (t : Nat) : Nat := [25, 40, 60, 80].getD t 25

/-- The effective OPP of quadrant `q` (CAP_EFFECTIVE). -/
def State.effOpp (s : State) (q : Nat) : Nat := s.fld CAP_EFFECTIVE (4 * q + 2) (4 * q)

/-! ### Operating-point changes (R70, R81) -/

/-- A value on its way from `a` to `b` at `rate` a microsecond, `t` timestamp ticks after it left `a`. -/
def ramp (a b rate t : Nat) : Nat :=
  if a ≤ b then min b (a + rate * 10 * t / 384) else max b (a - rate * 10 * t / 384)

/-- The ticks such a way takes, rounded up. -/
def rampTicks (a b rate : Nat) : Nat := ceilDiv ((max a b - min a b) * 384) (rate * 10)

/-- The last change of quadrant `q`'s operating point. -/
def State.slewOf (s : State) (q : Nat) : Slew := s.cap.slew.get (fun _ => {}) q

/-- Millivolts of VR_WGT now: it moves at 10 mV/us. -/
def State.wgtNow (s : State) : Nat := ramp s.cap.wgtFrom s.cap.wgtTo 10 (s.now - s.cap.wgtAt)

/-- Timestamp at which VR_WGT arrives. -/
def State.wgtEnd (s : State) : Nat := s.cap.wgtAt + rampTicks s.cap.wgtFrom s.cap.wgtTo 10

/-- When quadrant `q`'s voltage and its frequency start to move, and when both have arrived: a rise moves VR_WGT, the voltage, the
frequency; a fall the frequency, then the voltage. -/
def State.slewTimes (s : State) (q : Nat) : Nat × Nat × Nat :=
  let x := s.slewOf q
  let dv := rampTicks x.tq (oppMv x.opp) 10
  let df := rampTicks x.mhz (oppMhz x.opp) 50
  if oppMhz x.opp < x.mhz ∨ oppMv x.opp < x.tq then (x.at_ + df, x.at_, x.at_ + df + dv)
  else
    let v := max x.at_ (if s.cap.wgtFrom < s.cap.wgtTo then s.wgtEnd else 0)
    (v, v + dv, v + dv + df)

/-- Millivolts of VR_TQq now. -/
def State.tqNow (s : State) (q : Nat) : Nat :=
  let x := s.slewOf q
  ramp x.tq (oppMv x.opp) 10 (s.now - (s.slewTimes q).1)

/-- Megahertz of PLL_TQq now. -/
def State.mhzNow (s : State) (q : Nat) : Nat :=
  let x := s.slewOf q
  ramp x.mhz (oppMhz x.opp) 50 (s.now - (s.slewTimes q).2.1)

/-- The highest effective OPP of a quadrant that is ON; 0 where none is. -/
def State.topOn (s : State) : Nat :=
  ([0, 1, 2, 3].map fun q => if (s.dom (17 + q)).st = .on then s.effOpp q else 0).foldl max 0

/-- VR_WGT goes to what the quadrants that are ON need, from the timestamp `t` on, by way of where it stands now. -/
def State.wgtMove (s : State) (t : Nat) : State :=
  if s.cap.wgtTo = wgtMv s.topOn then s
  else { s with cap := { s.cap with wgtFrom := s.wgtNow, wgtTo := wgtMv s.topOn, wgtAt := t } }

/-- Quadrant `q` goes from where it stands to its effective OPP: VR_WGT first where it must rise, last where it may fall. -/
def State.slewTo (s : State) (q : Nat) : State :=
  let x : Slew := ⟨s.tqNow q, s.mhzNow q, s.now, s.effOpp q⟩
  let s := if s.cap.wgtTo < wgtMv s.topOn then s.wgtMove s.now else s
  let s : State := { s with cap.slew := s.cap.slew.set (fun _ => {}) q x }
  if s.cap.wgtTo > wgtMv s.topOn then s.wgtMove (s.slewTimes q).2.2 else s

/-- Quadrant `q` locks its PLL directly at its effective OPP (R81): no change is in progress. -/
def State.slewLock (s : State) (q : Nat) : State :=
  let o := s.effOpp q
  let s : State := { s with cap.slew := s.cap.slew.set (fun _ => {}) q ⟨oppMv o, oppMhz o, s.now, o⟩ }
  s.setFlag CAP_EFFECTIVE (4 * q + 3) false

/-- The voltage of output `i` in millivolts (Table 4.1, R70), in its operating range: the rail's own in ON, its retention voltage,
or 0 while it is off. -/
def State.railMv (s : State) (i : Nat) : Nat :=
  let on := (railDoms i).any fun d => (s.dom d).st == .on || (s.dom d).st == .clockstop
  if !s.flag VR_STATUS i then 0
  else match i with
    | 0 => if on then 750 else 650
    | 5 => if [0, 1, 2, 3].any fun q => (s.dom (17 + q)).st == .on then s.wgtNow else 700
    | 6 => 1050
    | 7 => 500
    | 8 => 750
    | 9 => 1800
    | 10 => 2800
    | 11 => 1100
    | i => s.tqNow (i - 1)

/-- A droop at quadrant `q`'s rail (R77): its clocks go to level 4 until the last droop has ended; each event is counted. -/
def droopDetect (q mv : Nat) (s : State) : State :=
  if s.flag VR_STATUS (1 + q) ∧ mv + droopMv (s.fld CAP_DROOP_CFG 1 0) < oppMv (s.effOpp q) then
    (({ s with cap.droop := q :: s.cap.droop.filter (· != q) } : State).bump (CAP_DROOP_CNT q)).irq 0x004 6
  else s

/-- The end of a droop (R77). -/
def droopRelease (q : Nat) (s : State) : State := { s with cap.droop := s.cap.droop.filter (· != q) }

/-- The stretch level of quadrant `q`'s tile clocks (R78): the deepest of droop, VR_TQq and VR_WGT. -/
def State.quadStretch (s : State) (q : Nat) : Nat :=
  max (if s.cap.droop.contains q then 4 else 0) (max (s.rail (1 + q)).warnLevel (s.rail 5).warnLevel)

/-- A quadrant's operating-point change completes (R81), once its voltage and frequency, and VR_WGT, have arrived. -/
def oppSlewDone (q : Nat) (s : State) : State :=
  if s.now < max (s.slewTimes q).2.2 s.wgtEnd then s else s.setFlag CAP_EFFECTIVE (4 * q + 3) false

/-- An allowance one step down or up, within 0 to 7. -/
def stepAllowance (fall rise : Bool) (a : Nat) : Nat := if fall then a - 1 else if rise then min 7 (a + 1) else a

/-- A due step of the envelope allowance (R82). -/
def envelopeStep (s : State) : State :=
  let total := s.fld CAP_TOTAL 31 16
  let env := s.fld CAP_ENVELOPE 15 0
  let fall := s.flag CAP_CTRL 0 && decide (env < total)
  let new := stepAllowance fall (decide (total * 10 < env * 9)) s.cap.env
  let t : State := { s with cap.env := new }
  if s.cap.env = 7 ∧ new < 7 then t.irq 0x004 5 else t

/-- The skin estimate in 0.25 degree units (R83): AMBIENT + K * Pf. -/
def State.skinEst (s : State) (pf : Nat) : Nat :=
  s.fld CAP_SKIN_AMBIENT 7 0 * 4 + s.fld CAP_SKIN_CFG 7 0 * pf * 4 / 10000

/-- A due step of the skin allowance (R83). -/
def skinStep (s : State) : State :=
  let pf := Config.skinFilter s.cap.pf (s.fld CAP_TOTAL 15 0) (s.fld CAP_SKIN_CFG 15 8)
  let est := s.skinEst pf
  let limit := s.fld CAP_SKIN_CFG 23 16 * 4
  let new := stepAllowance (s.flag CAP_CTRL 1 && decide (limit < est)) (decide (est + 4 < limit)) s.cap.skin
  let t := ({ s with cap.skin := new, cap.pf := pf } : State).setReg CAP_SKIN_EST (word (est % 4096))
  if s.cap.skin = 7 ∧ new < 7 then t.irq 0x004 4 else t

/-- A thermal sensor's reading in 0.25 degree units (CAP_TS). -/
def State.tempOf (s : State) (i : Nat) : Int := signed 12 (s.fld (CAP_TS i) 11 0)

/-- A threshold of sensor `i` in 0.25 degree units: 0 THROTTLE, 1 CRITICAL, 2 SHUTDOWN, 3 HYST. -/
def State.tempThr (s : State) (i k : Nat) : Int := (s.fld (CAP_TS_THR i) (8 * k + 7) (8 * k) * 4 : Nat)

/-- Whether sensor `i` reads above THROTTLE. -/
def State.tempHigh (s : State) (i : Nat) : Bool := decide (s.tempThr i 0 < s.tempOf i)

/-- Whether sensor `i` reads below THROTTLE less HYST. -/
def State.tempCool (s : State) (i : Nat) : Bool := decide (s.tempOf i < s.tempThr i 0 - s.tempThr i 3)

/-- The sensors whose THROTTLE acts on quadrant `q` (Table 4.4). -/
def thermScope (q : Nat) : List Nat := [q, 4, 5, 7]

/-- A due step of quadrant `q`'s thermal allowance (R86): down where any sensor is hot, up where all are cool (DESIGN CHOICE, log
entry 83). -/
def thermalStep (q : Nat) (s : State) : State :=
  let old := s.cap.therm.getD q 7
  let new := stepAllowance ((thermScope q).any s.tempHigh) ((thermScope q).all s.tempCool && !s.cap.critical) old
  let t : State := { s with cap.therm := s.cap.therm.set q new }
  if old = 7 ∧ new < 7 then t.irq 0x004 2 else t

/-- A write of VR_FAULT (R90): a 1 clears the trip and re-arms the output (R71), and with it LIMITING ends (DESIGN CHOICE,
log entry 83). -/
def vrFaultClear (v : Word) (s : State) : State :=
  let t := s.plainWrite VR_FAULT v
  ((setPositions 12 v.toNat).foldl (fun t i => t.setFlag VR_STATUS (16 + i) false) t).ldoUpdate

/-- A write of VR_LDO_CTRL (R71). -/
def ldoCtrlWrite (v : Word) (s : State) : State := (s.plainWrite VR_LDO_CTRL v).ldoUpdate

/-- A write of CAP_HARD or CAP_WARN (R88): held to the maximum code, or to the stored HARD limit; ignored while the page
is locked (RWL). -/
def capLimitWrite (i : Nat) (hard : Bool) (v : Word) (s : State) : State :=
  if s.locked 0x004 then s
  else if hard then s.setReg (CAP_HARD i) (word (min (bits v 9 0) (railMax i)))
  else s.setReg (CAP_WARN i) (word (min (bits v 9 0) (s.fld (CAP_HARD i) 9 0)))

/-! ### Meanings -/

def execHardFloorLift (rail : Nat) (s : State) : Host.Outcome State Fault Refusal :=
  only (Instr.hardFloorLift rail).wf s (s.heldIdle 0x004 (hardFloorLift rail s))

def execDroopDetect (quad mv : Nat) (s : State) : Host.Outcome State Fault Refusal :=
  only (Instr.droopDetect quad mv).wf s (s.heldIdle 0x004 (droopDetect quad mv s))

def execDroopRelease (quad : Nat) (s : State) : Host.Outcome State Fault Refusal :=
  only (Instr.droopRelease quad).wf s (s.heldIdle 0x004 (droopRelease quad s))

def execOppSlewDone (quad : Nat) (s : State) : Host.Outcome State Fault Refusal :=
  only (Instr.oppSlewDone quad).wf s (oppSlewDone quad s)

def execEnvelopeAllowanceStep (s : State) : Host.Outcome State Fault Refusal :=
  only Instr.envelopeAllowanceStep.wf s (s.heldIdle 0x004 (envelopeStep s))

def execSkinAllowanceStep (s : State) : Host.Outcome State Fault Refusal :=
  only Instr.skinAllowanceStep.wf s (s.heldIdle 0x004 (skinStep s))

def execThermalAllowanceStep (quad : Nat) (s : State) : Host.Outcome State Fault Refusal :=
  only (Instr.thermalAllowanceStep quad).wf s (s.heldIdle 0x004 (thermalStep quad s))

def execVrFaultClear (q : Req) (v : Word) (s : State) : Host.Outcome State Fault Refusal :=
  only (Instr.vrFaultClear q v).wf s (s.writeVia q VR_FAULT v (vrFaultClear v))

def execLdoCtrlWrite (q : Req) (v : Word) (s : State) : Host.Outcome State Fault Refusal :=
  only (Instr.ldoCtrlWrite q v).wf s (s.writeVia q VR_LDO_CTRL v (ldoCtrlWrite v))

def execCapLimitWrite (q : Req) (rail : Nat) (hard : Bool) (v : Word) (s : State) : Host.Outcome State Fault Refusal :=
  only (Instr.capLimitWrite q rail hard v).wf s
    (s.writeVia q (if hard then CAP_HARD rail else CAP_WARN rail) v (capLimitWrite rail hard v))

end Sys2Proof.Machine
end

