-- ==== Sys2Proof/Machine/StreamCmd.lean ====
section
/-! DEFINITION. The stream commands (R180 to R182) with those that follow a stream: a line ring reader and a voxel step
that read it. -/

namespace Sys2Proof.Machine

/-- Readers of stream `st` end as it stops or pauses (R310, R340). -/
def State.readersStopped (s : State) (st : Nat) : State :=
  let s := s.ringStopped st
  if st = 5 then s.voxStopped else s

/-- PAUSE, with the readers that it stops. -/
def strmPauseAll (q : Req) (st : Nat) (s : State) : State :=
  if s.strmState st = 1 then strmPause q st (s.readersStopped st) else strmPause q st s

/-- STOP, with the readers that it stops; a receiver's frame in progress is discarded. -/
def strmStopAll (q : Req) (st : Nat) (s : State) : State :=
  if s.strmState st = 1 ∨ s.strmState st = 2 then
    let s := strmStop q st (s.readersStopped st)
    if st < 6 then s.setCamera st { frames := (s.camera st).frames } else s
  else strmStop q st s

/-- STRM_CMD (Table 8.5); another code ends with BAD_STATE. -/
def strmCommand (q : Req) (st : Nat) (v : Word) (s : State) : State :=
  match bits v 2 0 with
  | 1 => strmStart q st s
  | 2 => strmPauseAll q st s
  | 3 => strmResume q st s
  | 4 => strmStopAll q st s
  | _ => s.fail q (STRM_CMD st) 0x12

/-- A stop of stream `st` by a reset of its endpoint page (R183, R310). -/
def State.streamKill (s : State) (st : Nat) : State :=
  let s := s.readersStopped st
  if st < 6 then s.cameraKill st else s.strmKill st

/-- The device completes an input buffer (R179): a receiver's frame whose end has come, records that fill a buffer, or
what the host has moved into a buffer of streams 12 to 15. -/
def strmBufferComplete (st : Nat) (s : State) : State :=
  if s.strmOut st ∨ s.strmState st ≠ 1 ∧ s.strmState st ≠ 2 then s
  else if st < 6 then (if (s.camera st).done ∧ s.csiOn st then s.frameComplete st else s)
  else if st < 12 then (if (s.stream st).cap ∧ (s.stream st).ended then s.strmComplete st else s)
  else if s.strmState st = 2 then s
  else
    let s := s.strmOpen st s.now
    if (s.stream st).cap then
      let (n, s) := s.fresh
      s.setStream st { s.stream st with len := Config.hostLength n % 0x100000000 } |>.strmComplete st
    else s

/-- The device consumes an output buffer, or counts an underrun (R179, R181): stream 9's used-up buffer, or what the host
has taken from streams 12 to 15. -/
def strmBufferConsumed (st : Nat) (s : State) : State :=
  if !s.strmOut st ∨ s.strmState st ≠ 1 ∨ st = 10 ∨ st = 11 then s
  else if st = 9 ∧ (s.stream 9).cap ∧ !(s.stream 9).ended then s
  else s.strmConsumed st

/-! ### Meanings -/

def execStrmStart (q : Req) (st : Nat) (s : State) : Host.Outcome State Fault Refusal :=
  only (q.wf && decide (st < 16)) s (s.writeVia q (STRM_CMD st) 1 (strmCommand q st 1))
def execStrmPause (q : Req) (st : Nat) (s : State) : Host.Outcome State Fault Refusal :=
  only (q.wf && decide (st < 16)) s (s.writeVia q (STRM_CMD st) 2 (strmCommand q st 2))
def execStrmResume (q : Req) (st : Nat) (s : State) : Host.Outcome State Fault Refusal :=
  only (q.wf && decide (st < 16)) s (s.writeVia q (STRM_CMD st) 3 (strmCommand q st 3))
def execStrmStop (q : Req) (st : Nat) (s : State) : Host.Outcome State Fault Refusal :=
  only (q.wf && decide (st < 16)) s (s.writeVia q (STRM_CMD st) 4 (strmCommand q st 4))
def execStrmStopComplete (st : Nat) (s : State) : Host.Outcome State Fault Refusal :=
  only (decide (st < 16)) s (strmStopComplete st s)
def execStrmSwSeqWrite (q : Req) (st : Nat) (v : Word) (s : State) : Host.Outcome State Fault Refusal :=
  only (q.wf && decide (st < 16)) s (s.writeVia q (STRM_SW_SEQ st) v (strmSwSeqWrite q st v))
def execStreamBufferComplete (st : Nat) (s : State) : Host.Outcome State Fault Refusal :=
  only (decide (st < 16)) s (strmBufferComplete st s)
def execStreamBufferConsumed (st : Nat) (s : State) : Host.Outcome State Fault Refusal :=
  only (decide (st < 16)) s (strmBufferConsumed st s)

end Sys2Proof.Machine
end

