-- ==== Sys2Proof/Machine/Reset.lean ====
section
/-! DEFINITION. What acts on many blocks at once: whether a block is busy and a domain idle (R52), the frog of a tile
(R247), a domain that goes OFF or comes ON (R38, R42), a soft reset (R25), a teardown (R118), the frog of the scheduler
(R136). -/

namespace Sys2Proof.Machine

/-! ### Busy and idle (R52) -/

/-- The listed pages, rising. -/
def allPages : List Nat := pageFams.flatMap fun f => (List.range (f.last + 1 - f.first)).map (f.first + ·)

/-- The pages domain `d` powers. -/
def domPages (d : Nat) : List Nat :=
  if 32 ≤ d then [0x100 + (d - 32), 0x200 + 2 * (d - 32), 0x201 + 2 * (d - 32)] else allPages.filter fun p => pageDom p == d

/-- Whether tile `t` has work of its own: a program that runs, has faulted or is halted, or operations in flight. -/
def State.tileBusy (s : State) (t : Nat) : Bool :=
  let x := s.tile t
  s.tileSt t == 1 || s.tileSt t == 3 || s.tileSt t == 4 || x.frogDue || !x.dma.isEmpty || !x.cimQ.isEmpty || !x.out.isEmpty ||
    !x.stg.isEmpty || s.wgtBusy t

/-- PAGE_STATUS.BUSY of a page (Table 2.4; R312, R387, R407, R426, R437). -/
def State.pageBusy (s : State) (p : Nat) : Bool :=
  if 0x100 ≤ p ∧ p < 0x140 then s.tileBusy (p - 0x100)
  else if 0x044 ≤ p ∧ p ≤ 0x049 then s.strmState (p - 0x044) != 0
  else match p with
    | 0x001 => s.pwr.sleeping != 0 || allDoms.any fun d => (s.dom d).step != 0
    | 0x005 => s.life.booting || s.life.bindStage != 0 || !s.life.fuseQ.isEmpty
    | 0x008 => !s.aie.audioIn.isEmpty || !s.aie.visionIn.isEmpty
    | 0x010 => s.adsel.starting || !s.adsel.teardown.isEmpty || (List.range 8).any fun t => s.flag (ADSEL_T_STAT t) 0
    | 0x018 => s.dbg.bufs.any fun e => !e.2.isEmpty
    | 0x028 => !s.openSlots.isEmpty || s.flag RPT_CFG 0
    | 0x029 => s.flag RPT_CFG 0
    | 0x030 => !s.mem.moves.isEmpty || !s.mem.ops.isEmpty || !s.mem.wipe01.isEmpty || (s.domOn 10 && s.wiping true)
    | 0x031 => !s.mem.flushing.isEmpty
    | 0x032 => s.mem.moving || !s.mem.ops.isEmpty || !s.mem.flushing.isEmpty || s.wiping true
    | 0x038 => !s.link.bq.isEmpty || !s.link.reads.isEmpty || (s.linkUp && s.linkState != 4)
    | 0x03A => s.ringBusy
    | 0x040 => s.strmState 6 != 0 || s.strmState 7 != 0
    | 0x041 => s.strmState 9 != 0
    | 0x04A => s.strmState 10 != 0
    | 0x04B => s.strmState 11 != 0
    | 0x04C => [8, 12, 13, 14, 15].any fun st => s.strmState st != 0
    | 0x04D => s.flag (I3C_STAT 0) 0 || s.auto.any fun e => e.2.wait
    | 0x04E => s.flag (I3C_STAT 1) 0
    | 0x050 => s.flag SPI_STAT 0
    | 0x058 => !(s.hookOf 0).queue.isEmpty
    | 0x059 => !(s.hookOf 1).queue.isEmpty
    | 0x05A => !s.vox.queue.isEmpty
    | 0x05B => !s.su.queue.isEmpty || s.su.active.isSome || !s.su.ends.isEmpty
    | 0x060 => s.net.any fun m => m.kind != 5 && !m.atPort
    | _ => false

/-- Whether a message in the mesh is addressed to domain `d`. -/
def State.msgFor (s : State) (d : Nat) : Bool :=
  if d = 3 then s.net.any fun m => m.kind != 5 && !m.atPort
  else s.net.any fun m => (if m.resp then some m.home else m.tileOf).any fun t => tileDom t == d

/-- Whether a DMA transfer in flight reads from or writes to domain `d` (R52). -/
def State.dmaFor (s : State) (d : Nat) : Bool :=
  s.tiles.any fun (_, x) => x.dmaOn && x.dma.head?.any fun e => (memDomain (dmaSrc e.2)).1 == d || (memDomain (dmaDst e.2)).1 == d

/-- Whether work runs in the banks of a weight domain's quadrant. -/
def State.quadWgtBusy (s : State) (q : Nat) : Bool :=
  s.wgt.seals.any (fun e => quadOf e.1 == q) || s.wgt.flips.any (fun e => quadOf e.1 == q) ||
    s.wgt.zeroing.any fun e => quadOf e.1 == q

/-- Whether domain `d` is idle (R52): no page of it BUSY, no access accepted for it, no message to it, and for a tile no
program outside WAIT. -/
def State.domIdle (s : State) (d : Nat) : Bool :=
  d != 0 && (domPages d).all (fun p => !s.pageBusy p) && s.stalls.all (fun e => e.dom != d || e.behind) && !s.msgFor d && !s.dmaFor d &&
    (domQuad d).all fun q => !(13 ≤ d && d ≤ 16) || !s.quadWgtBusy q

/-! ### The frog of a tile (R9, R247) -/

/-- Whether a requester is tile `t`'s TCC or DMA engine. -/
def ofTile (t : Nat) (q : Req) : Bool := q.cls ≤ 1 && q.index == t

/-- The frog of tile `t`: its job ends FROGGED; the core is cleared; its port is fenced (R265), its counters are STALE
(R271), its mailboxes are emptied (R219); what it enqueued at an engine is cancelled (R311, R325, R341, R358, R407). -/
def State.frogTile (s : State) (t : Nat) : State :=
  let code := (s.tile t).code
  let s := match s.frogSlot t with
    | some k => s.jobFrog k 0x13 code t
    | none => s
  let s := (s.fence t).coreFrog t
  let s := (s.scFrog t).mbxFrogTile t
  let s := (s.hookCancelIf 0 (ofTile t)).hookCancelIf 1 (ofTile t)
  let s := (s.voxCancelIf (ofTile t)).stepsCancel fun _ q => ofTile t q
  (s.movesCancel fun m => m.tile == some t).bncCancel fun j => ofTile t j.q

/-- TILE_FROG: a frog that has been asked for; one of a tile whose domain is not ON holds a request on it (R65). -/
def tileFrog (t : Nat) (s : State) : State :=
  if !(s.tile t).frogDue then s
  else if !s.domOn (tileDom t) then s.hold 14 t (tileDom t)
  else (s.frogTile t).unhold 14 t (tileDom t)

/-! ### A page at reset (R25, R27, R38) -/

/-- What a page's registers keep through OFF of its domain: the bank records, which are in AON (R282), the GPIO wake
registers (R187), Adsel's tenant set and alias serial (R42, R138), the windows of streams 4 and 6 (R169). -/
def keepsOff (p off : Nat) : Bool :=
  (0x100 ≤ p && p < 0x140 && 0x320 ≤ off && off < 0x340 && off % 0x10 != 8) ||
  (p == 0x04F && (off == 0x110 || off == 0x114)) ||
  (p == 0x010 && (off == 0x104 || off == 0x108)) ||
  (p == 0x04C && 0x400 ≤ off && off < 0x800 && ((off - 0x400) / 0x40 == 4 || (off - 0x400) / 0x40 == 6))

/-- What a soft reset of a page leaves: state the page only shows (clocks, power-good, samples, the link, Adsel's status,
fences), the bank records, and the RTC (R62). -/
def keepsSoft (p off : Nat) : Bool :=
  (p == 0x002 && (off == 0x100 || off == 0x11C)) ||
  (p == 0x003 && (off == 0x100 || off == 0x104 || 0x200 ≤ off)) ||
  (p == 0x006 && (off == 0x100 || off == 0x104 || off == 0x180)) ||
  (p == 0x010 && (off < 0x10C || (0x140 ≤ off && off < 0x160) || (0x400 ≤ off && off % 0x40 == 0x18))) ||
  (p == 0x023 && ((0x8C0 ≤ off && off < 0x900) || (0x900 ≤ off && off < 0xC00 && off % 0x100 / 0x10 == 15))) ||
  (p == 0x038 && off == 0x100) ||
  (p == 0x060 && off < 0x108) ||
  (0x100 ≤ p && p < 0x140 && 0x314 ≤ off && off < 0x400)

/-- Registers of page `p` from 0x100 up at reset, but those `keep` names. -/
def State.resetRegs (s : State) (p : Nat) (keep : Nat → Bool) : State :=
  { s with regs := s.regs.clear fun k => keyPage k == p && 0x100 ≤ keyOff k && !keep (keyOff k) }

/-- The offsets of the registers of an array. -/
def dimOffs : List (Nat × Nat) → List Nat
  | [] => [0]
  | (c, st) :: l => (List.range c).flatMap fun i => (dimOffs l).map (i * st + ·)

/-- The keys of page `p` with RWL bits, and those bits. -/
def rwlKeys (p : Nat) : List (Nat × Nat) :=
  ((rowsOf (pageBase p)).filter fun r => r.rwl != 0).flatMap fun r => (dimOffs r.dims).map fun o => (regKey p (r.off + o), r.rwl)

/-- The page's registers take the fabric's copy of its RWL fields, where its lock holds (R27). -/
def State.rwlRestore (s : State) (p : Nat) : State :=
  if s.locked p then
    (rwlKeys p).foldl (fun s e =>
      let old := (s.reg e.1).toNat
      s.setReg e.1 (word (old - (old &&& e.2) + (s.rwl.get (fun _ => 0) e.1).toNat))) s
  else s

/-- The page loses power: its registers are at reset, its interrupt registers and its timeout latch clear. -/
def State.pageOff (s : State) (p : Nat) : State :=
  let s := (s.resetRegs p (keepsOff p)).rwlRestore p
  ((s.setReg (IRQ_RAW p) 0).setReg (IRQ_MASK p) 0).setReg (PAGE_STATUS p) 0

/-! ### The training copy (R107, R361) -/

/-- Where the AON copy of the training result stands. -/
def trainBase : Nat := 0x1003F000

/-- Whether the AON copy is valid. -/
def State.trainCopy (s : State) : Bool :=
  s.wordAt trainBase == 0x314E5254 && (s.wordAt (trainBase + 4)).toNat == crc32 (s.bytesAt (trainBase + 0x40) 1024)

/-- DRAMPHY_CH takes a 1,024-byte image; SOURCE and every channel's PASS say so, and every channel is ready. -/
def State.phyLoad (s : State) (img : List Byte) (source : Nat) : State :=
  let s := (List.range 256).foldl (fun s i => s.setReg (DRAMPHY_CH (i / 16) (i % 16)) (word (leNat (slice img (4 * i) 4)))) s
  ((s.setReg DRAMPHY_TRAIN 0xFFFF).setReg DRAMPHY_SOURCE (word source)).setFld DRAMC_STATUS 15 0 0xFFFF

/-- Adsel stores an image as the AON copy. -/
def State.trainStore (s : State) (img : List Byte) : State :=
  s.putBytes trainBase (leBytes 4 0x314E5254 ++ leBytes 4 (crc32 img) ++ List.replicate 0x38 0 ++ img)

/-- A training: settings that the DRAM's channels give, which nothing fixes. -/
def State.trained (s : State) : List Byte × State :=
  let (n, s) := s.fresh
  ((List.range 1024).map fun i => Config.training n i, s)

/-! ### A domain goes OFF (R38) -/

/-- A tile loses its scratchpad, instruction memory and core state; a frog that is due stays due, and its trace records have reached the
trace unit (R440). Its counters become FREE as
it wakes (R272). -/
def State.tileOff (s : State) (t : Nat) : State :=
  let x := s.tile t
  let s := s.readsDrop t
  let s : State := { s with
    imem := s.imem.clear fun k => k / 16384 == t
    mem := { s.mem with bytes := Tab.clear (α := Byte) (l := s.mem.bytes) fun a => spad t 0 ≤ a && a < spad t 0x80000
                        poison := s.mem.poison.clear fun g => spad t 0 ≤ 32 * g && 32 * g < spad t 0x80000 } }
  s.setTile t { frogDue := x.frogDue, code := x.code }

/-- SOC loses the register fabric of every page outside AON (R24, R27) and the blocks it holds. -/
def State.socOff (s : State) : State :=
  let s := [8, 12, 13, 14, 15].foldl State.streamKill s
  let s : State := { s with
    regs := s.regs.clear fun k => pageDom (keyPage k) != 0 &&
      (keyOff k == 0x008 || keyOff k == 0x020 || keyOff k == 0x024 || keyOff k == 0x028)
    rwl := s.rwl.clear fun k => pageDom (keyPage k) != 0
    i3c := [], auto := [], autoCur := none, imu := [], spi := 0, fsync := false
    sch := {}, rpt := {}
    holds := s.holds.filter fun h => h.src != 9
    ptrs := []
    dbg := { s.dbg with bufs := [], lost := [], energy := [0, 0, 0, 0, 0, 0, 0, 0] } }
  let s := (allPages.filter fun p => pageDom p != 0 && pageDom p != 2 && (s.dom (pageDom p)).st == .off).foldl
    (fun s p => s.resetRegs p (keepsOff p)) s
  s.stateLost.poolLost

/-- HOST goes OFF: the link, the function's configuration, the queues of bounce and outbound accesses. -/
def State.hostOff (s : State) : State :=
  let s := [12, 13, 14, 15].foldl State.streamKill s.dlDownCore
  let s := s.bncCancel fun _ => true
  { s.ringLost with pci := {}, link := { s.link with reads := [], doe := [], bq := [], bact := none, tdi := [], ide := [] } }

/-! ### Teardown (R118) -/

/-- Whether tenant `t` is active. -/
def State.tenantActive (s : State) (t : Nat) : Bool := s.flag ADSEL_TENANTS t

/-- The bytes of a T2 encryption region as an access sees them when the region begins (`on`), or ends (R122): each 256-byte
unit runs through XTS-AES-256 under the region's key, the tweak its address / 256. -/
def State.regionCrypt (s : State) (r : Region) (on : Bool) : State :=
  let id := (s.keySlot r.slot).id
  (List.range (4096 * (r.limit + 1 - r.base))).foldl (fun s i =>
    let a := 0x100000 * r.base + 256 * i
    let bs := s.bytesAt a 256
    s.pokeBytes a ((List.range 256).map fun j => if on then Config.xtsDec id (a / 256) bs j else Config.xtsEnc id (a / 256) bs j)) s

/-- Every region that is left ends with its key, as SEC goes OFF (R120). -/
def State.regionsEnd (s : State) : State :=
  let s := s.adsel.regions.foldl (fun s e => if e.2.valid then s.regionCrypt e.2 false else s) s
  { s with adsel.regions := [] }

/-- Tenant `t`'s key slots are zeroised and its regions invalid (step 3). -/
def State.keysTeardown (s : State) (t : Nat) : State :=
  let s := ((List.range 30).map (2 + ·)).foldl (fun s k => if (s.keySlot k).kind ≠ 0 ∧ (s.keySlot k).tenant = t then s.dropKey k else s) s
  { s with adsel.regions := s.adsel.regions.filter fun e => e.2.tenant != t }

/-- Whether a job of tenant `t` is admitted or one of its tiles waits for a frog. -/
def State.tenantRuns (s : State) (t : Nat) : Bool :=
  (s.openSlots.any fun k => (s.job k).any fun j => j.ten == t) || (List.range 64).any fun i => (s.tile i).frogDue && s.tileTen i == t

/-- Steps 2 to 4 for tenant `t`. -/
def State.teardownWipe (s : State) (t : Nat) : State :=
  let s := (s.slotEnd t).unbind t
  let s := (s.setTdi t 0).keysTeardown t
  let s := (s.cacheKill t).movesCancel fun m => m.tenant == t && m.origin != 8
  let s := (List.range 64).foldl (fun s k => if (s.skein k).valid ∧ (s.skein k).tenant = t then s.deleteSkein k else s) s
  let s := (s.stateFree t).wgtTeardown t
  let s := ((s.mbxTeardown t).segTeardown t).ringFree t
  let s := s.scFreeAll (s.scOwnedBy t)
  { s with adsel.wiping := s.adsel.wiping ++ [t] }

/-- The teardowns whose jobs have ended go on to steps 2 to 4. -/
def State.teardownRun (s : State) : State :=
  (s.adsel.teardown.filter fun t => !s.adsel.wiping.contains t).foldl (fun s t => if s.tenantRuns t then s else s.teardownWipe t) s

/-- The command of tenant `t`'s window that runs or waits to run ends with STALE, but for its own TEARDOWN (R139). -/
def State.adselStale (s : State) (t : Nat) : State :=
  { s with adsel.cmds := s.adsel.cmds.map fun (k, c) =>
      (k, c.map fun c => if k = t ∧ c.kind = 1 ∧ bits c.cmd 7 0 ≠ 0x11 then { c with kind := 4 } else c) }

/-- A teardown of tenant `t` begins: admission stops, its jobs are frogged, its rows, steps and ring stop (step 1). -/
def State.teardownStart (s : State) (t : Nat) : State :=
  if t = 0 ∨ !s.tenantActive t then s
  else
    let s := (s.setFlag ADSEL_TENANTS t false).setFlag ADSEL_TENANTS (8 + t) true
    let s := (({ s with adsel.teardown := s.adsel.teardown ++ [t] } : State)).adselStale t
    let s := (s.rptTeardown t).stepsCancel fun u _ => u == t
    let s := (s.ringOff t).bncCancel fun j => j.ten == t
    let s := s.openSlots.foldl (fun s k => if (s.job k).any (fun j => j.ten == t) then s.jobFrog k 0x13 0 0 else s) s
    s.teardownRun

/-- Whether the wipe of tenant `t`'s skeins is complete. -/
def State.tenantWiped (s : State) (t : Nat) : Bool :=
  s.adsel.wiping.contains t && (List.range 64).all fun k => !((s.skein k).deleting && (s.skein k).tenant == t)

/-- Tenants 1 to 7 are torn down. -/
def State.teardownAll (s : State) : State := ((List.range 7).map (1 + ·)).foldl State.teardownStart s

/-- SEC goes OFF (R42, R120, R130, R133, R134): sessions, keys, regions, the debug level, the challenge and the refusal log
are lost; the failed unlocks stay, in AON retention; tenants 1 to 7 are torn down. -/
def State.secOff (s : State) (keep : Word) : State :=
  let s := s.sessionsEnd.teardownAll.regionsEnd
  let s := if bits keep 5 4 = 0 then s else s.dbgFall
  let s := s.setReg ADSEL_STATUS (word (bits keep 14 12 * 0x1000 + bits keep 16 16 * 0x10000))
  { s with
    refusals := [], refusalsLost := 0
    life.fuseQ := s.life.fuseQ.filter fun j => j.2 == 1
    link := { s.link with conn := 0, doe := [] }
    adsel := { tenants := s.adsel.tenants, teardown := s.adsel.teardown, wiping := s.adsel.wiping, mbxResp := s.adsel.mbxResp
               tapResp := s.adsel.tapResp, tapChallenge := s.adsel.tapChallenge } }

/-- Domain `d` is OFF: its contents are lost and its registers are at reset. -/
def State.domainOff (s : State) (d : Nat) : State :=
  let st := s.reg ADSEL_STATUS
  let s :=
    if 32 ≤ d then s.tileOff (d - 32)
    else if 13 ≤ d ∧ d ≤ 16 then s.wgtSleep (d - 13) true
    else match d with
      | 1 => s
      | 2 => s.socOff
      | 3 => s.meshLost
      | 4 => { s.streamKill 6 with aud := { s.aud with lpBlk := 0 } }
      | 5 => (((s.streamKill 7).streamKill 9).audHqLost).spkLost
      | 6 => (s.streamKill 4).setCamera 4 {}
      | 7 => [0, 1, 2, 3, 5].foldl (fun s n => (s.streamKill n).setCamera n {}) s
      | 8 => ((s.streamKill 10).setDisplay 0 {}).streamKill 11 |>.setDisplay 1 {}
      | 9 => s.hostOff
      | 10 => s.dramLost
      | 11 => s.hookLost
      | 12 => s.voxLost
      | _ => s
  let s := (domPages d).foldl State.pageOff s
  if d = 1 then s.secOff st
  else if d = 4 then s.resetRegs 0x04C fun o => !(0x580 ≤ o && o < 0x5C0)
  else if d = 6 then s.resetRegs 0x04C fun o => !(0x500 ≤ o && o < 0x540)
  else s

/-- Domain `d` has reached a low state. -/
def State.domainLeft (s : State) (d : Nat) (goal : Pow) : State :=
  match goal with
  | .off => s.domainOff d
  | .retain => if 13 ≤ d ∧ d ≤ 16 then s.wgtSleep (d - 13) false else s
  | _ => s

/-- Domain `d` has reached ON: what waited for it goes on. -/
def State.domainWoke (s : State) (d : Nat) (fromOff : Bool) : State :=
  let s : State := { s with holds := s.holds.filter fun h => !(h.dom == d && h.src == 12 && 0x7D ≤ h.who && h.who ≤ 0x7F) }
  match d with
  | 1 => if s.adselUp then s.doeRun else s
  | 2 => if fromOff then s.poolWoke.stateWoke.gpioDrive else s.gpioDrive
  | 4 => if fromOff then s.audRestore else s
  | 9 => (List.range 8).foldl (fun s r => s.mirrorRun r (s.ring r).mq.length) s.mbxFlush
  | 10 =>
    if fromOff then
      let s := s.dramWoke
      if s.trainCopy then s.phyLoad (s.bytesAt (trainBase + 0x40) 1024) 2 else s
    else s
  | _ => if 32 ≤ d ∧ fromOff then s.scFreeAll fun i => i / 2048 == d - 32 else s

/-! ### Soft resets (R25) -/

/-- Abort the work of page `p`'s block. -/
def State.blockAbort (s : State) (p : Nat) : State :=
  if 0x100 ≤ p ∧ p < 0x140 then
    (if s.tileBusy (p - 0x100) ∨ s.tileSt (p - 0x100) ≠ 0 then s.frogTile (p - 0x100) else s)
  else if 0x020 ≤ p ∧ p ≤ 0x023 then s.mbxPageReset p
  else if 0x044 ≤ p ∧ p ≤ 0x049 then (s.streamKill (p - 0x044)).setCamera (p - 0x044) { frames := (s.camera (p - 0x044)).frames }
  else match p with
    | 0x001 => { s with pwr.sleeping := 0 }
    | 0x003 => (((s.setFld VR_STATUS 27 16 0).setReg VR_FAULT 0).setReg VR_LDO_CTRL (regReset VR_LDO_CTRL)).ldoUpdate
    | 0x004 => { s with cap := {} }
    | 0x005 => { s with life := { s.life with bindStage := 0, fuseQ := s.life.fuseQ.filter fun j => j.2 != 1 } }
    | 0x007 => s.cascReset
    | 0x008 => { s with aie := { model := s.aie.model, act := s.aie.act } }
    | 0x010 => { s with adsel := { s.adsel with cmds := [], serving := none } }
    | 0x018 => (List.range 64).foldl (fun s t => (s.setTile t { s.tile t with haltReq := false, steps := 0 }).resume t)
        { s with dbg := { s.dbg with bufs := [], lost := [], energy := [0, 0, 0, 0, 0, 0, 0, 0] } }
    | 0x028 => (s.openSlots.foldl (fun s k => s.jobFrog k 0x13 0 0) { s with sch := { s.sch with submits := [], cancels := [] } })
    | 0x029 => ({ s.rptStop with rpt := {} } : State)
    | 0x030 => (List.range 8).foldl (fun s t => { s with mem.ops := s.mem.ops.filter fun o => o.1 != t }) (s.movesCancel fun _ => true)
    | 0x031 => (List.range 8).foldl State.cacheKill s
    | 0x038 => { (s.bncCancel fun _ => true).dlDownCore with link.doe := [] }
    | 0x039 => { [0, 1, 2].foldl State.ideDrop s with link.tdi := [] }
    | 0x03A => s.ringLost
    | 0x040 => (((s.streamKill 6).streamKill 7).clearMagic).audHqLost
    | 0x041 => (s.streamKill 9).spkLost
    | 0x04A => (s.streamKill 10).setDisplay 0 {}
    | 0x04B => (s.streamKill 11).setDisplay 1 {}
    | 0x04C => (List.range 16).foldl State.streamKill s
    | 0x04D => ({ s.streamKill 8 with auto := [], autoCur := none } : State).setI3c 0 {}
    | 0x04E => s.setI3c 1 {}
    | 0x04F => { s with fsync := false }
    | 0x050 => { s with spi := 0 }
    | 0x058 => hookCancel 0 s
    | 0x059 => hookCancel 1 s
    | 0x05A => voxCancel s
    | 0x05B => s.stepsCancel fun _ _ => true
    | _ => s

/-- Whether page `p` is drained: no access that its fabric has accepted still waits. -/
def State.pageDrained (s : State) (p : Nat) : Bool :=
  !s.stalls.any fun e => !e.behind && (regAddr e.addr).any fun k => keyPage k == p

/-- Page `p` is reset: its block's work is aborted, its registers from 0x100 up, IRQ_RAW and ERR_CODE are at reset. -/
def State.pageReset (s : State) (p : Nat) : State :=
  let en := s.flag AON_WDT_CTRL 0
  let s := (s.blockAbort p).resetRegs p (keepsSoft p)
  let s := if p = 0x006 then s.setReg AON_WDT_CTRL (word en.toNat) else s
  let s := if p = 0x007 ∧ s.life.ready then s.setPlyState 0 2 else s
  let s := if p = 0x001 then s.setReg PWR_CHIP_STATE (word s.chipCode) else s
  let s := if p = 0x006 then (List.range 64).foldl State.mbxWake s else s
  let s := if p = 0x04F then s.gpioDrive else s
  ((s.setReg (IRQ_RAW p) 0).setReg (PAGE_STATUS p) 0).setReg (ERR_CODE p) 0

/-- PAGE_CTRL.SOFT_RESET: ignored while the page is locked. -/
def State.softReset (s : State) (p : Nat) : State := if s.locked p then s else s.pageReset p

/-- TEARDOWN_COMPLETE: the wipe is complete; the pages are reset and returned to tenant 0, and the bits clear (steps 5
and 6). They must have drained, and Adsel must be up: what remains when SEC goes OFF is part of its next start. -/
def teardownComplete (t : Nat) (s : State) : State :=
  let ps := allPages.filter fun p => s.pageOwner p == t
  if !s.adselUp ∨ !s.tenantWiped t ∨ !ps.all s.pageDrained then s
  else
    let s := ps.foldl (fun s p => (s.pageReset p).setFld (PAGE_OWNER p) 2 0 0) s
    let s := ((s.setFlag ADSEL_TENANTS (8 + t) false).setTenant t {})
    { s with adsel.teardown := s.adsel.teardown.filter (· != t), adsel.wiping := s.adsel.wiping.filter (· != t) }

/-! ### The frog of the scheduler (R136, R387) -/

/-- Every admitted job is frogged; SCH, RPT and DLM are reset; the rows come back from Adsel's copy and the table starts
again at the next lock event; admission restarts. -/
def State.schedFrog (s : State) (cause : Nat) : State :=
  let adm := s.flag SCH_CTRL 0
  let runs := s.rptRuns
  let keep := [RPT_CFG, RPT_PERIOD, RPT_CAPTURE] ++ (List.range 8).map RPT_RANGE
  let vals := keep.map fun k => (k, s.reg k)
  let s := s.openSlots.foldl (fun s k => s.jobFrog k 0x13 0 0) s
  let s := ((s.rptStop.resetRegs 0x028 fun _ => false).resetRegs 0x029 fun _ => false).resetRegs 0x02A fun _ => false
  let s : State := { s with sch := { jobs := s.sch.jobs, seqs := s.sch.seqs, beatAt := s.now }, rpt := {} }
  let s := (vals.foldl (fun s e => s.setReg e.1 e.2) s).setLive s.adsel.rptCopy
  let s := s.setFlag SCH_CTRL 0 adm
  let s := if runs then s.rptStart else s
  let s := (s.bumpSat ADSEL_SUPV_STAT 15 0).setFld ADSEL_SUPV_STAT 23 16 cause
  s.irq 0x010 1

/-! ### Meanings -/

def execTileFrog (t : Nat) (s : State) : Host.Outcome State Fault Refusal :=
  only (decide (t < 64)) s ((tileFrog t s).teardownRun)
def execJobEnd (slot : Nat) (s : State) : Host.Outcome State Fault Refusal :=
  only true s (s.heldIdle 0x028 ((jobEndStep slot s).teardownRun))
def execTeardownComplete (ten : Nat) (s : State) : Host.Outcome State Fault Refusal :=
  only (decide (ten < 8)) s (teardownComplete ten s)
def execTileStart (q : Req) (t : Nat) (v : Word) (s : State) : Host.Outcome State Fault Refusal :=
  only (q.wf && decide (t < 64)) s (s.writeVia q (TILE_CTRL t) (setBit v 0 true) (fun s => tileCtrl q t (setBit v 0 true) (s.holder t).isSome s))
def execTileFrogRequest (q : Req) (t : Nat) (v : Word) (s : State) : Host.Outcome State Fault Refusal :=
  only (q.wf && decide (t < 64)) s (s.writeVia q (TILE_CTRL t) (setBit v 1 true) (fun s => tileCtrl q t (setBit v 1 true) (s.holder t).isSome s))

end Sys2Proof.Machine
end

