-- ==== Sys2Proof/Machine/Power.lean ====
section
/-! DEFINITION. Domains, wakes and entries (R36 to R56), rails (R69), operating points (R80), the chip-state entry (R54). -/

namespace Sys2Proof.Machine

/-! ### Operating points (R80, R81) -/

/-- The phases of jobs with a tile ON in quadrant `q`, and of the CLIMBING and ACTIVE plies with one (R199). -/
def State.quadPhases (s : State) (q : Nat) : List Nat :=
  let here (ts : List Nat) : Bool := ts.any fun t => quadOf t == q && (s.dom (tileDom t)).st == .on
  (s.openSlots.filterMap fun k => match s.job k with
    | some j => if j.st = 3 ∧ here (jobTiles j.d) then some (jf j.d 0 19 16) else none
    | none => none) ++
  (([1, 2, 3].filter fun j => s.plyUp j && here ((s.plyDoms j).filterMap fun d => if 32 ≤ d then some (d - 32) else none)).map
    fun j => s.fld (DESC_CFG j) 15 12)

/-- The highest OPP of the grade: TH4-0950 has no OPP above 5 (R2). -/
def State.topOpp (s : State) : Nat := if s.fuses.grade = 2 then 5 else 7

/-- The preferred OPP of quadrant `q`; one that the grade does not have resolves to its highest (R2). -/
def State.preferredOpp (s : State) (q : Nat) : Nat :=
  let ps := s.quadPhases q
  min (((if ps.isEmpty then [0] else ps).map fun p => s.fld (CAP_PHASE_PREF p) 2 0).foldl max 0) s.topOpp

/-- The grade maximum (R2, R80, R105). -/
def State.gradeOpp (s : State) : Nat := min s.topOpp (s.fld LIFE_DEGRADE 6 4)

/-- The terms of R80 in the order of ties, with the CAP_LIMITER code of each. -/
def State.oppTerms (s : State) (q : Nat) : List (Nat × Nat) :=
  [(0, s.preferredOpp q), (1, s.gradeOpp), (2, s.cap.env), (3, s.cap.therm.getD q 7), (4, s.cap.skin),
   (5, min (s.rail (1 + q)).floor (s.rail 5).floor), (6, s.cap.vbat)]

/-- CAP resolves quadrant `q`'s operating point; a quadrant that is ON slews to a new one (R81). -/
def State.oppQuad (s : State) (q : Nat) : State :=
  let ts := s.oppTerms q
  let allowed := ((ts.drop 1).map (·.2)).foldl min 7
  let eff := min (s.preferredOpp q) allowed
  let why := ((ts.find? fun t => t.2 == eff).map (·.1)).getD 0
  let slew := eff != s.effOpp q && (s.dom (17 + q)).st == .on
  let s := (s.setFld CAP_ALLOWED (4 * q + 2) (4 * q) allowed).setFld CAP_LIMITER (4 * q + 3) (4 * q) why
  let s := s.setFld CAP_EFFECTIVE (4 * q + 2) (4 * q) eff
  if slew then (s.slewTo q).setFlag CAP_EFFECTIVE (4 * q + 3) true else s

/-- Every quadrant's operating point. -/
def oppResolve (s : State) : State := [0, 1, 2, 3].foldl State.oppQuad s

/-! ### Stalled accesses (R32, R33) -/

/-- Tell the requester of a stalled access how it ended: a tile's load or posted store, the TAP, or another agent. -/
def State.stallTell (s : State) (e : Stall) (code : Nat) (data : List Word) : State :=
  let s := s.answer code (if code = 0 then data else [0])
  let v := if code = 0 then data.headD 0 else 0
  if isDebug e.q then { s with dbg := { s.dbg with accData := if e.wr then s.dbg.accData else v, accCode := code } }
  else if e.q.cls = 0 then
    let x := s.tile e.q.index
    if e.wr then
      match x.stg with
      | [] => s
      | f :: rest => ((s.setTile e.q.index { x with stg := rest }).postedEnd e.q.index f.1 f.2 code).tileSleep e.q.index
    else match x.await with
      | some a => s.awaitEnd e.q.index a code v
      | none => s
  else s

/-- The requester's access request on a domain ends when none of its accesses waits there any more. -/
def State.stallRelease (s : State) (e : Stall) : State :=
  if s.stalls.any fun f => f.wake && f.dom == e.dom && f.q.cls == e.q.cls && f.q.index == e.q.index then s
  else s.unhold 12 (0x200 + 0x40 * e.q.cls + e.q.index) e.dom

/-- An access that waits for domain `e.dom` ends as the wake times out (R32, R51): WAKE_TIMEOUT, captured and latched, or
DOMAIN_OFF where its page does not wake on access. A tile's access that waits for MESH ends at its own port (R259), before any page. -/
def State.stallExpire (s : State) (e : Stall) : State :=
  let s := if e.dom = 3 ∧ errPage e.addr ≠ 0x060 then s
    else if e.wake then s.timedOut e.addr e.wr e.q else s.capture e.addr 2 e.wr e.q
  (s.stallTell e (if e.wake then 4 else 2) []).stallRelease e

/-- Every access that waits for `d` ends; so do the mesh requests that wait for it (R259). Those behind them, not yet checked,
stay: they are checked as they come to the head of their requester's accesses (STALLED_ACCESS_COMPLETE). -/
def State.stallsTimeout (s : State) (d : Nat) : State :=
  let mine := s.stalls.filter fun e => e.dom == d && !e.behind
  let s : State := { s with stalls := s.stalls.filter fun e => e.dom != d || e.behind }
  (mine.foldl State.stallExpire s).meshEnd d 4

/-! ### Rails and clocks (R53, R58, R69) -/

/-- The outputs that domain `d`'s REG step needs, VR_IO18 among them for its five domains. -/
def regRails (d : Nat) : List Nat := domRails d ++ (if io18Doms.contains d then [9] else [])

/-- Whether output `i` is up or ramping. -/
def State.railUp (s : State) (i : Nat) : Bool := s.pwr.rails.testBit i

/-- The numbers of a list as set bits. -/
def maskOf (l : List Nat) : Nat := l.foldl (fun m i => m ||| 2 ^ i) 0

/-- Whether domain `d` uses its clocks: ON or CLOCKSTOP and not on its way to RETAIN or OFF. -/
def State.clocks (s : State) (d : Nat) : Bool :=
  let x := s.dom d
  (x.st == .on || x.st == .clockstop) && !(x.step == 5 && 2 ≤ x.goal.code) || (2 ≤ x.step && x.step ≤ 4)

/-- A PLL that no domain uses any more stops, and REFOSC where none needs it and KEEP is 0 (R53, R58). -/
def State.clockStop (s : State) : State :=
  let used := maskOf ((allDoms.filter s.clocks).flatMap domPlls)
  let gone := s.pwr.pllRun - (s.pwr.pllRun &&& used)
  let s : State := { s with pwr := { s.pwr with pllRun := s.pwr.pllRun &&& used, pllHeld := s.pwr.pllHeld &&& used } }
  let s := (setPositions 9 gone).foldl (fun s b => s.setFlag CLK_STATUS b false) s
  if allDoms.any (fun d => needsRefosc d && s.clocks d) ∨ s.flag CLK_REFOSC_CTRL 0 ∨ !s.refoscOk then s
  else (s.setFlag CLK_STATUS 0 false).setFlag CLK_STATUS 9 true

/-- An output whose domains are all OFF is turned off (R53, R37); VR_TQq and VR_PHY, which Table 4.1 has off where no domain on them is
ON, also while domains on them are in RETAIN. A tile in RETAIN stands on VR_WGT. -/
def State.railsOff (s : State) : State :=
  (List.range 10).foldl (fun s i =>
    let drops := (1 ≤ i && i ≤ 4) || i == 8
    let off := (railDoms i).all fun d =>
      ((s.dom d).st == .off || (drops && (s.dom d).st == .retain)) && ((s.dom d).step == 0)
    let kept := i == 5 && (List.range 64).any fun t => (s.dom (tileDom t)).st == .retain
    if s.railUp i ∧ off ∧ !kept then
      ({ s with pwr.rails := s.pwr.rails - 2 ^ i } : State).setPgood i false
    else s) s

/-! ### Waking (R46 to R51) -/

/-- Whether the chip-state entry ignores software's and dependents' requests on `d` (R54): while it waits, for a domain
above its allowance; while it lowers, for the domains it lowers. -/
def State.sleepIgnores (s : State) (d : Nat) : Bool :=
  if s.pwr.sleeping = 1 then s.overAllowance (s.fld PWR_CHIP_SLEEP 2 0) d
  else s.pwr.sleeping == 2 && s.pwr.lowering.any fun e => e.1 == d

/-- The state domain `d` is asked for. -/
def State.asked (s : State) (d : Nat) : Pow :=
  if (s.dom d).tcc then .on else if s.sleepIgnores d then supported d (s.heldFloor d) else s.targetWith d (s.depWake d)

/-- Whether every domain that `d` needs is ON. -/
def State.needsMet (s : State) (d : Nat) : Bool := (needsOn d).all s.domOn

/-- The step of a wake for which there is nothing to do (Table 3.1, R46): it is ready at once in handshake mode. -/
def State.stepEmpty (s : State) (d k : Nat) : Bool :=
  match k with
  | 1 => d == 10 && !(s.dom d).fromOff && (regRails d).all fun i => s.flag VR_STATUS i
  | 2 => d != 8 && d != 9 && (!needsRefosc d || s.refoscOk) && (domPlls d).all fun b => s.flag CLK_STATUS b
  | 3 => d == 3 || d == 4 || (17 ≤ d && d ≤ 20)
  | _ => d == 10 || (13 ≤ d && d ≤ 20)

/-- Whether the ready signal of step `k` can be true: VR_IO18's power-good for AUD_LP (R37); REFOSC_OK and PLLs that have not
lost lock for OSC (R46, R59). -/
def State.stepCan (s : State) (d k : Nat) : Bool :=
  match k with
  | 1 => d != 4 || s.flag VR_STATUS 9
  | 2 => (!needsRefosc d || s.refoscOk) && !(domPlls d).any fun b => s.pwr.pllHeld.testBit b
  | _ => true

/-- The wake timeout of domain `d` in microseconds. -/
def State.wakeTmo (s : State) (d : Nat) : Nat :=
  let n := s.fld (PWR_DOM_TMO d) 31 20
  if n = 0 then 4095 else n

/-- The delay of step `k` in AON_WAKE_DELAY[d], in whole timestamp ticks rounded up (R48). -/
def State.stepDelay (s : State) (d k : Nat) : Nat :=
  let quarters := match k with
    | 1 => 4 * s.fld (AON_WAKE_DELAY d) 7 0
    | 2 => 4 * s.fld (AON_WAKE_DELAY d) 15 8
    | 3 => 2 * s.fld (AON_WAKE_DELAY d) 25 16
    | _ => s.fld (AON_WAKE_DELAY d) 31 26
  ceilDiv (quarters * 96) 10

/-- Step `k` of domain `d`'s wake starts. -/
def State.stepStart (s : State) (d k : Nat) : State :=
  let s : State := match k with
    | 1 => { s with pwr.rails := s.pwr.rails ||| maskOf (regRails d) }
    | 2 =>
      let s : State := { s with pwr.pllRun := s.pwr.pllRun ||| maskOf (domPlls d) }
      if 17 ≤ d ∧ d ≤ 20 then (s.oppQuad (d - 17)).slewLock (d - 17) else s
    | _ => s
  s.setDom d { s.dom d with step := k, stepAt := s.now }

/-- What step `k` leaves as it ends: power-good, lock, the record of lost weights (R292). -/
def State.stepEffect (s : State) (d k : Nat) : State :=
  match k with
  | 1 => (domRails d).foldl (fun s i => s.setPgood i true) s
  | 2 => if s.refoscOk then (domPlls d).foldl (fun s b => if s.pwr.pllHeld.testBit b then s else s.setFlag CLK_STATUS b true) s else s
  | 3 => if 13 ≤ d ∧ d ≤ 16 then s.wgtWoke (d - 13) else s
  | _ => s

/-- Domain `d` is ON (R46): what it held for the wake is over, the chip state follows. A domain that only software's
REQ_STATE of CLOCKSTOP or RETAIN woke enters that state (R39, R43, DEDUCED, log entry 35). -/
def State.reachOn (s : State) (d : Nat) : State :=
  let x := s.dom d
  let goal := s.asked d
  let sw := s.fld (PWR_DOM_CFG d) 1 0
  let drops := (sw == 1 || sw == 2) && s.heldFloor d == .off && !s.dependency d && x.st.code > goal.code && goal != .on
  let took := (s.now - x.t0) * 10 / 96
  let s := s.setDom d { st := .on, rest := .on, early := x.early, last := min 0xFFFF took }
  let s := (s.chipUpdate.ldoUpdate).domainWoke d x.fromOff
  if drops then s.startEntry d goal else s

/-- Step `k` of domain `d` ends and those after it that have nothing to do. -/
def State.stepEnd' : Nat → Nat → Nat → State → State
  | 0, _, _, s => s
  | n + 1, d, k, s =>
    let s := s.stepEffect d k
    if 4 ≤ k then s.reachOn d
    else
      let s := s.stepStart d (k + 1)
      if !(s.dom d).table && s.stepEmpty d (k + 1) then State.stepEnd' n d (k + 1) s else s

/-- Domain `d` begins the REG step of its wake. Table mode is decided here, as the first step of the wake starts (R49, DEDUCED, log
entry 81). -/
def State.regStart (s : State) (d : Nat) : State :=
  let x := s.dom d
  let s := s.setDom d { x with table := s.flag (PWR_DOM_CFG d) 2 && s.refoscOk, early := false, fromOff := x.st == .off, waiting := false
                               held := false, phase := 0 }
  let s : State := if 32 ≤ d then { s with pwr.slotBusy := s.pwr.slotBusy ++ [quadOf (d - 32)] } else s
  let s := if d = 9 ∧ x.st = .off then s.wakeAssert else s
  let s := s.stepStart d 1
  if !(s.dom d).table && s.stepEmpty d 1 then State.stepEnd' 4 d 1 s else s

/-- Whether a waiting domain may begin: what it needs is ON and, for a tile, its quadrant's slot is free and no lower tile
of the quadrant waits for it (R50). -/
def State.mayBegin (s : State) (d : Nat) : Bool :=
  (s.dom d).waiting && s.needsMet d &&
    (d < 32 || (!s.pwr.slotBusy.contains (quadOf (d - 32)) &&
      (tilesOf (quadOf (d - 32))).all fun t => (d - 32) ≤ t || !((s.dom (tileDom t)).waiting && s.needsMet (tileDom t))))

/-- Domains that wait begin as far as they may. -/
def State.beginWaiting (s : State) : State := allDoms.foldl (fun s d => if s.mayBegin d then s.regStart d else s) s

/-- The rest of a chip-state entry is abandoned (R55). -/
def State.sleepAbort (s : State) : State :=
  let s : State := { s with pwr := { s.pwr with sleeping := 0, lowering := [] } }
  ((s.setFlag PWR_CHIP_SLEEP 8 false).setFlag PWR_CHIP_SLEEP 9 true).irq 0x001 3

/-- A chip-state entry that is under way gives way to a request on a domain it has still to lower (R55, R56). -/
def State.sleepYield (s : State) : State :=
  if s.pwr.sleeping = 2 ∧ s.life.bindStage ≠ 6 ∧ s.pwr.lowering.any fun e =>
      (s.dom e.1).step == 0 && decide ((s.dom e.1).st.code < e.2.code) && (decide ((s.heldFloor e.1).code < e.2.code) || (s.dom e.1).tcc) then s.sleepAbort
  else s

/-- WAKE_START: a domain that is asked for a more awake state than it has, or goes to, starts its wake, waits for what it
needs or for its slot, or waits for the entry step in progress (R36, R46, R50, R55). From CLOCKSTOP it is ON with no step of a wake
(R38). -/
def wakeStart (d : Nat) (s : State) : State :=
  let s := s.sleepYield
  let x := s.dom d
  let goal := if x.step = 5 then x.goal else x.st
  if d = 0 ∨ s.absent d ∨ x.waiting ∨ x.held ∨ (x.step ≠ 0 ∧ x.step ≠ 5) ∨ goal.code ≤ (s.asked d).code then s
  else
    let s := if s.pwr.sleeping = 2 ∧ s.pwr.lowering.any (fun e => e.1 == d) then s.sleepAbort else s
    let s : State := if d = 2 then { s with pwr.socWait := false } else s
    let s := s.setDom d { x with timing := true, t0 := s.now }
    if x.step = 5 then s.setDom d { s.dom d with held := true }
    else if x.st = .clockstop then (s.setDom d { s.dom d with fromOff := false }).reachOn d |>.beginWaiting
    else (s.setDom d { s.dom d with waiting := true }).beginWaiting

/-- TILE_WAKE_SLOT: the slot is free again; the next waiting tile takes it. -/
def tileWakeSlot (q : Nat) (s : State) : State :=
  ({ s with pwr.slotBusy := s.pwr.slotBusy.filter (· != q) } : State).beginWaiting

/-- A step of a wake whose end has come. -/
def State.stepOver (s : State) (d : Nat) : State := (State.stepEnd' 4 d (s.dom d).step s).beginWaiting

/-- WAKE_STEP_READY in handshake mode (R47). -/
def wakeStepReady (d : Nat) (s : State) : State :=
  let x := s.dom d
  if x.step = 0 ∨ 5 ≤ x.step ∨ x.table ∨ !s.stepCan d x.step then s else s.stepOver d

/-- WAKE_STEP_DELAY_EXPIRY in table mode (R48); a step that is not ready raises WAKE_EARLY and ends the table mode. -/
def wakeDelay (d : Nat) (ready : Bool) (s : State) : State :=
  let x := s.dom d
  if x.step = 0 ∨ 5 ≤ x.step ∨ !x.table ∨ s.now < x.stepAt + s.stepDelay d x.step then s
  else if ready && s.stepCan d x.step then s.stepOver d
  else
    let s := s.setDom d { x with table := false, early := true }
    (s.setFlag (PWR_WAKE_EARLY (d / 32)) (d % 32) true).irq 0x001 1

/-- WAKE_TMO_EXPIRY (R51): the wake continues. -/
def wakeTmoExpiry (d : Nat) (s : State) : State :=
  let x := s.dom d
  if !x.timing ∨ 10 * (s.now - x.t0) < 384 * s.wakeTmo d then s
  else ((s.setDom d { x with timing := false }).irq 0x001 2).stallsTimeout d

/-! ### Entering low states (R52 to R55) -/

/-- Whether any request holds domain `d` (R43). One that is ON and asked for CLOCKSTOP or RETAIN by software alone stays ON (DESIGN
CHOICE, log entry 81). -/
def State.requested (s : State) (d : Nat) : Bool :=
  s.fld (PWR_DOM_CFG d) 1 0 != 3 || s.heldFloor d != .off || s.dependency d

/-- Entry of domain `d` to `goal`; SOC goes OFF only after the DRAM (R362). -/
def State.lower (s : State) (d : Nat) (goal : Pow) : State :=
  if d = 2 ∧ goal = .off ∧ (s.dom 10).st ≠ .off then ({ s with pwr.socWait := true } : State).startEntry 10 .off
  else s.startEntry d goal

/-- IDLE_TIMER_EXPIRY (R52): an idle domain that holds no request goes to IDLE_STATE. -/
def idleTimerExpiry (d : Nat) (s : State) : State :=
  let goal := Pow.ofCode (s.fld (PWR_DOM_CFG d) 4 3)
  if goal = .on ∨ s.absent d ∨ !s.domIdle d ∨ s.requested d ∨ (s.dom d).step ≠ 0 ∨ (s.dom d).waiting then s
  else s.lower d goal

/-- What of a chip-state entry is left: the domains it lowers that have not arrived. -/
def State.toLower (s : State) : List (Nat × Pow) :=
  s.pwr.lowering.filter fun e => (s.dom e.1).step != 0 || (s.dom e.1).st.code < e.2.code

/-- The chip-state entry goes on (R54): dependents before the domains they need; it is done when none is left. -/
def State.sleepRun (s : State) : State :=
  if s.pwr.sleeping ≠ 2 then s
  else if s.sleepYield.pwr.sleeping ≠ 2 then s.sleepYield
  else if s.toLower.isEmpty then
    let s : State := { s with pwr := { s.pwr with sleeping := 0, lowering := [], asleep := true } }
    (s.setFlag PWR_CHIP_SLEEP 8 false).irq 0x001 0
  else
    s.toLower.foldl (fun s e =>
      if (s.dom e.1).step = 0 ∧ s.toLower.all (fun f => !(needsOn f.1).contains e.1) then
        s.startEntry e.1 e.2
      else s) s

/-- Domain `d` has finished its entry. -/
def State.entryOver (s : State) (d : Nat) : State :=
  let x := s.dom d
  let s := s.setDom d { x with st := x.goal, rest := if 32 ≤ d then x.rest else x.goal, step := 0, phase := 0, isolated := false, held := false }
  let s := if x.goal = .off then s else s.domainLeft d x.goal
  let s := (s.railsOff.chipUpdate).ldoUpdate
  let s : State := if d = 10 ∧ s.pwr.socWait then ({ s with pwr.socWait := false } : State).startEntry 2 .off else s
  let s := s.sleepRun
  if !x.held then (if 32 ≤ d then s.restEntry d else s)
  else if x.goal = .clockstop then ((s.setDom d { s.dom d with fromOff := false }).reachOn d).beginWaiting
  else (s.setDom d { s.dom d with waiting := true }).beginWaiting

/-- ENTRY_STEP_DONE (R53): LOGIC, MEM, OSC, REG in turn; CLOCKSTOP needs the first only. A wake that is held takes over from
where the domain stands (R55). -/
def entryStepDone (d : Nat) (s : State) : State :=
  let x := s.dom d
  if x.step ≠ 5 then s
  else
    let s := s.setDom d { x with phase := x.phase + 1 }
    let s := if x.phase = 0 ∧ x.goal = .off then s.domainOff d else s
    let s := if x.phase = 2 then s.clockStop else s
    let last := if x.goal = .clockstop then 1 else 4
    if x.phase + 1 = last then s.entryOver d
    else if x.held then
      let table := s.flag (PWR_DOM_CFG d) 2 && s.refoscOk
      let s := s.setDom d { s.dom d with held := false, step := 0, phase := 0, fromOff := x.goal == .off, table := table, early := false }
      let s := s.stepStart d (4 - x.phase)
      if !(s.dom d).table && s.stepEmpty d (4 - x.phase) then (State.stepEnd' 4 d (4 - x.phase) s).beginWaiting else s
    else s

/-- Domain `d` goes OFF at once, without entry steps (R85, R92). -/
def State.forceOff (s : State) (d : Nat) : State :=
  if (s.dom d).st = .off ∧ (s.dom d).step = 0 then s.setDom d { s.dom d with waiting := false, timing := false }
  else (s.setDom d { early := (s.dom d).early, last := (s.dom d).last }).domainOff d

/-! ### The chip-state entry (R54) -/

/-- Whether a chip-state entry is accepted: after step 15 and not during bind-off (R95, R108). -/
def State.sleepOpen (s : State) : Bool := s.life.ready && s.life.bindStage == 0

/-- PWR_CHIP_SLEEP: ARM = 1 requests an entry to a TARGET of 1 to 5; ARM = 0 cancels it before any domain starts. -/
def chipSleep (v : Word) (s : State) : State :=
  let busy := s.pwr.sleeping
  let s := s.plainWrite PWR_CHIP_SLEEP v
  if busy = 2 then s.setFlag PWR_CHIP_SLEEP 8 true
  else if !bit v 8 then { s with pwr.sleeping := 0 }
  else if 1 ≤ s.fld PWR_CHIP_SLEEP 2 0 ∧ s.fld PWR_CHIP_SLEEP 2 0 ≤ 5 ∧ s.sleepOpen then { s with pwr.sleeping := 1 }
  else { s with pwr.sleeping := 0 }

/-- PWR_WGT_RETAIN: in a quadrant whose weight domain is in RETAIN, the banks of a tile whose bit is now 0 lose their contents
(R40). -/
def wgtRetain (k : Nat) (v : Word) (s : State) : State :=
  [0, 1, 2, 3].foldl (fun s q => if (s.dom (13 + q)).st = .retain then s.wgtSleep q false else s) (s.plainWrite k v)

/-- The state a chip-state entry to `code` takes domain `d` to. -/
def State.sleepGoal (s : State) (code d : Nat) : Pow :=
  if s.flag (PWR_DOM_CFG d) 5 then .off else supported d (allowance code d)

/-- CHIP_SLEEP_ENTRY_START: every domain above its allowance is idle and none holds another request. -/
def chipSleepStart (s : State) : State :=
  let code := s.fld PWR_CHIP_SLEEP 2 0
  let ovr := allDoms.filter (s.overAllowance code)
  if s.pwr.sleeping ≠ 1 ∨ !s.sleepOpen ∨ !(ovr.all fun d => s.domIdle d && s.heldFloor d == .off && (s.dom d).step == 0) ∨
      allDoms.any (fun d => (s.dom d).waiting) then s
  else
    let goals := ovr.map fun d => (d, s.sleepGoal code d)
    let goals := if goals.contains (2, Pow.off) ∧ (s.dom 10).st ≠ .off then (10, Pow.off) :: goals.filter (fun e => e.1 != 10) else goals
    ({ s with pwr := { s.pwr with sleeping := 2, lowering := goals } } : State).sleepRun

/-! ### Power-good -/

/-- IO18_POWER_GOOD (R37). -/
def io18Good (s : State) : State := if s.railUp 9 then s.setPgood 9 true else s

/-- A rail loses power-good while a domain on it is ON: every domain on the output goes OFF at once and the scheduler frogs the
jobs that use one, INFO 0x02 (R85). -/
def State.railLost (s : State) (i : Nat) : State :=
  let ds := (railDoms i ++ (if i = 5 then (List.range 64).map tileDom |>.filter (fun d => (s.dom d).st == .retain) else [])).filter
    fun d => (s.dom d).st != .off || (s.dom d).step != 0
  let s := s.irq 0x003 1
  let s := s.openSlots.foldl (fun s k =>
    if (s.job k).any fun j => (jobDoms j.d).any ds.contains then s.jobFrog k 0x13 2 0 else s) s
  let s := ds.foldl State.forceOff s
  let s : State := { s with pwr.rails := s.pwr.rails - (s.pwr.rails &&& 2 ^ i) }
  ((s.clockStop.railsOff).chipUpdate).ldoUpdate

/-- Whether a domain on output `i` is ON. -/
def State.railInUse (s : State) (i : Nat) : Bool := (railDoms i).any fun d => (s.dom d).st == .on

/-- PGOOD_LOSS (R85). -/
def pgoodLoss (i : Nat) (s : State) : State :=
  if !s.flag VR_STATUS i then s
  else
    let s := s.setPgood i false
    if s.railInUse i then s.railLost i else s

/-- A sample (R72); a camera supply that trips on it cuts the camera frames short (R71, R168). -/
def meterCut (i code mv : Nat) (s : State) : State :=
  let t := meterSample i code mv s
  if (i = 10 ∨ i = 11) ∧ t.flag VR_FAULT i ∧ !s.flag VR_FAULT i then t.cameraCut else t

/-! ### Meanings -/

def execMeterSample (rail : Nat) (code : Nat) (mv : Nat) (s : State) : Host.Outcome State Fault Refusal :=
  only (decide (rail < 12)) s (meterCut rail code mv s)

def execOppResolve (s : State) : Host.Outcome State Fault Refusal :=
  only true s (oppResolve s)
def execDomCfgWrite (q : Req) (dom : Nat) (v : Word) (s : State) : Host.Outcome State Fault Refusal :=
  only (q.wf && domListed dom) s (s.writeVia q (PWR_DOM_CFG dom) v (fun s => s.plainWrite (PWR_DOM_CFG dom) v))
def execTileWakeSlot (quad : Nat) (s : State) : Host.Outcome State Fault Refusal :=
  only (decide (quad < 4)) s (tileWakeSlot quad s)
def execWakeStepReady (dom : Nat) (s : State) : Host.Outcome State Fault Refusal :=
  only (domListed dom) s (wakeStepReady dom s)
def execWakeStepDelayExpiry (dom : Nat) (ready : Bool) (s : State) : Host.Outcome State Fault Refusal :=
  only (domListed dom) s (wakeDelay dom ready s)
def execWakeTmoExpiry (dom : Nat) (s : State) : Host.Outcome State Fault Refusal :=
  only (domListed dom) s (wakeTmoExpiry dom s)
def execIdleTimerExpiry (dom : Nat) (s : State) : Host.Outcome State Fault Refusal :=
  only (domListed dom) s (idleTimerExpiry dom s)
def execEntryStepDone (dom : Nat) (s : State) : Host.Outcome State Fault Refusal :=
  only (domListed dom) s (entryStepDone dom s)
def execChipSleepArm (q : Req) (v : Word) (s : State) : Host.Outcome State Fault Refusal :=
  only q.wf s (s.writeVia q PWR_CHIP_SLEEP (setBit v 8 true) (chipSleep (setBit v 8 true)))
def execChipSleepCancel (q : Req) (v : Word) (s : State) : Host.Outcome State Fault Refusal :=
  only q.wf s (s.writeVia q PWR_CHIP_SLEEP (setBit v 8 false) (chipSleep (setBit v 8 false)))
def execChipSleepEntryStart (s : State) : Host.Outcome State Fault Refusal :=
  only true s (chipSleepStart s)
def execPgoodLoss (rail : Nat) (s : State) : Host.Outcome State Fault Refusal :=
  only (decide (rail < 12)) s (pgoodLoss rail s)
def execIo18PowerGood (s : State) : Host.Outcome State Fault Refusal :=
  only true s (io18Good s)

end Sys2Proof.Machine
end

