-- ==== Sys2Proof/Machine/Image.lean ====
section
/-! DEFINITION. What cast-on reads: the fuses (R111, R112), the NOR and its calibration record (R96), the ZXC container of a
slot (R97, R98) and the loading of its sections (R191, R232, R294, R386). -/

namespace Sys2Proof.Machine

/-! ### Fuses (Table 6.1) -/

/-- Bits [hi:lo] of the fuse map. -/
def State.fuse (s : State) (hi lo : Nat) : Nat := nbits s.fuses.map hi lo

/-- Lifecycle copy `c`. -/
def State.lcCopy (s : State) (c : Nat) : Nat := s.fuse (387 + 4 * c) (384 + 4 * c)

/-- The lifecycle: the more advanced of the two copies (R112), as the code of ADSEL_STATUS. -/
def State.lifecycle (s : State) : Nat := (setPositions 4 (s.lcCopy 0 ||| s.lcCopy 1)).length

/-- The fused digest of signer key `k` (0 to 3). -/
def State.imgKey (s : State) (k : Nat) : List Byte := leBytes 48 (s.fuse (775 + 384 * k) (392 + 384 * k))

/-- Whether signer key `k` is revoked. -/
def State.keyRevoked (s : State) (k : Nat) : Bool := s.fuses.map.testBit (1928 + k)

/-- The fused digest of the service key (R128, KEY_ID 0) or the integrator key (KEY_ID 1). -/
def State.debugKey (s : State) (k : Nat) : List Byte := leBytes 48 (if k = 0 then s.fuse 2315 1932 else s.fuse 2699 2316)

/-- The value of the rollback counter of section type `t` (1 to 6): the number of its blown bits (R98). -/
def State.rollback (s : State) (t : Nat) : Nat := (setPositions 64 (s.fuse (2763 + 64 * (t - 1)) (2700 + 64 * (t - 1)))).length

/-- SERIAL. -/
def State.serial (s : State) : Nat := s.fuse 3531 3468

/-- `s` with one fuse bit blown. -/
def State.blow (s : State) (i : Nat) : State := { s with fuses.map := s.fuses.map ||| 2 ^ i }

/-! ### The NOR and the calibration record (R96) -/

/-- What an unlisted byte of the NOR reads as: the erased value (log entry 3). -/
def norReset : Nat → Byte := fun _ => 0xFF

/-- `n` bytes of the NOR. -/
def State.norBytes (s : State) (a n : Nat) : List Byte := Tab.getList norReset s.nor a n

/-- A little-endian number of `n` bytes in the NOR. -/
def State.norNum (s : State) (a n : Nat) : Nat := leNat (s.norBytes a n)

/-- Where calibration copy `c` stands. -/
def calBase (c : Nat) : Nat := 0x3F00000 + 0x80000 * c

/-- Whether calibration copy `c` is valid: MAGIC, a LENGTH inside the copy, and DIGEST. -/
def State.calValid (s : State) (c : Nat) : Bool :=
  let b := calBase c
  let len := s.norNum (b + 8) 4
  s.norNum b 4 == 0x314C4143 && decide (0x40 ≤ len ∧ len ≤ 0x80000) &&
    s.norBytes (b + 0x10) 48 == leBytes 48 (Config.sha384 (s.norBytes (b + 0x40) (len - 0x40))).toNat

/-- The valid copy with the higher SEQ. -/
def State.calCopy (s : State) : Option Nat :=
  match s.calValid 0, s.calValid 1 with
  | true, true => some (if s.norNum (calBase 0 + 4) 4 < s.norNum (calBase 1 + 4) 4 then 1 else 0)
  | true, false => some 0
  | false, true => some 1
  | false, false => none

/-- The data of the block with a tag in `len` bytes of blocks at `a`; at most `n` blocks are looked at. -/
def State.tagAt (s : State) (tag : Nat) : Nat → Nat → Nat → Option (List Byte)
  | 0, _, _ => none
  | n + 1, a, len =>
    if len < 8 then none
    else
      let l := s.norNum (a + 4) 4
      if len < 8 + l then none
      else if s.norNum a 4 = tag then some (s.norBytes (a + 8) l)
      else s.tagAt tag n (a + 8 + roundUp l 8) (len - (8 + roundUp l 8))

/-- The blocks in `len` bytes at `a`, each as tag and data. -/
def State.tagsAt (s : State) : Nat → Nat → Nat → List (Nat × List Byte)
  | 0, _, _ => []
  | n + 1, a, len =>
    if len < 8 then []
    else
      let l := s.norNum (a + 4) 4
      if len < 8 + l then []
      else (s.norNum a 4, s.norBytes (a + 8) l) :: s.tagsAt n (a + 8 + roundUp l 8) (len - (8 + roundUp l 8))

/-- The data of a tag in the calibration record. -/
def State.calRecord (s : State) (tag : Nat) : Option (List Byte) :=
  match s.calCopy with
  | none => none
  | some c => s.tagAt tag 0x10000 (calBase c + 0x40) (s.norNum (calBase c + 8) 4 - 0x40)

/-- Whether any valid copy of the calibration record holds a tag. -/
def State.calHas (s : State) (tag : Nat) : Bool :=
  [0, 1].any fun c => s.calValid c && (s.tagAt tag 0x10000 (calBase c + 0x40) (s.norNum (calBase c + 8) 4 - 0x40)).isSome

/-- Adsel writes a tag: the other copy takes every block of the valid one, this tag replaced, and SEQ + 1. -/
def State.calWrite (s : State) (tag : Nat) (data : List Byte) : State :=
  let old := match s.calCopy with
    | none => []
    | some c => s.tagsAt 0x10000 (calBase c + 0x40) (s.norNum (calBase c + 8) 4 - 0x40)
  let seq := match s.calCopy with
    | none => 1
    | some c => s.norNum (calBase c + 4) 4 + 1
  let dst := if s.calCopy = some 0 then 1 else 0
  let body := (old.filter (fun e => e.1 != tag) ++ [(tag, data)]).flatMap fun e =>
    leBytes 4 e.1 ++ leBytes 4 e.2.length ++ e.2 ++ List.replicate (roundUp e.2.length 8 - e.2.length) 0
  let copy := leBytes 4 0x314C4143 ++ leBytes 4 seq ++ leBytes 4 (0x40 + body.length) ++ leBytes 4 0 ++
    leBytes 48 (Config.sha384 body).toNat ++ body
  { s with nor := Tab.setList norReset s.nor (calBase dst) copy }

/-! ### The container (R97, Tables 5.4 and 5.5) -/

/-- A section entry. -/
structure Sec where
  type : Nat
  rollback : Nat
  off : Nat
  len : Nat
  dest : Nat
deriving DecidableEq, Repr

/-- Where slot `k` begins. -/
def slotBase (k : Nat) : Nat := 0x1000000 * k

/-- The sections slot `k`'s table lists. -/
def State.sections (s : State) (k : Nat) : List Sec :=
  let b := slotBase k
  (List.range (s.norNum (b + 6) 2)).map fun i =>
    let e := b + 0x100 + 96 * i
    ⟨s.norNum e 1, s.norNum (e + 2) 2, s.norNum (e + 4) 4, s.norNum (e + 8) 4, s.norNum (e + 0x10) 8⟩

/-- Whether slot `k`'s header is well formed (step 3). -/
def State.headerOk (s : State) (k : Nat) : Bool :=
  s.norNum (slotBase k) 4 == 0x3143585A && s.norNum (slotBase k + 4) 2 == 1

/-- The sections of one type. -/
def State.secsOf (s : State) (k type : Nat) : List Sec := (s.sections k).filter fun x => x.type == type

/-- The bytes of a section of slot `k`. -/
def State.secBytes (s : State) (k : Nat) (x : Sec) : List Byte := s.norBytes (slotBase k + x.off) x.len

/-- Whether the sections lie within `total` bytes, aligned, above the header, apart from each other, of known types and
in the numbers R97 allows. -/
def tableOk (secs : List Sec) (total : Nat) : Bool :=
  let count (t : Nat) : Nat := (secs.filter fun x => x.type == t).length
  (secs.all fun x => x.off + x.len ≤ total && x.off % 0x1000 == 0 && 0x2000 ≤ x.off && 1 ≤ x.type && x.type ≤ 6) &&
    (secs.zipIdx.all fun (x, i) => (secs.drop (i + 1)).all fun y => x.off + x.len ≤ y.off || y.off + y.len ≤ x.off) &&
    count 1 == 1 && count 4 ≤ 1 && count 5 ≤ 1 && (secs.all fun x => x.type != 5 || x.len ≤ 0x8000)

/-- Whether every section of slot `k` that `p` picks hashes to its DIGEST (R97). -/
def State.digestsOk (s : State) (k : Nat) (p : Nat → Bool) : Bool :=
  (s.sections k).zipIdx.all fun (x, i) => !p x.type ||
    leBytes 48 (Config.sha384 (s.secBytes k x)).toNat == s.norBytes (slotBase k + 0x100 + 96 * i + 0x20) 48

/-- Whether SHA-384 of the signer's key is the fused digest that KEY_INDEX names (R97). -/
def State.signerOk (s : State) (k : Nat) : Bool :=
  leBytes 48 (Config.sha384 (s.norBytes (slotBase k + 0x20) 96)).toNat == s.imgKey (s.norNum (slotBase k + 0x14) 1)

/-- Whether the signature over the header and section table verifies (R97). -/
def State.signatureOk (s : State) (k : Nat) : Bool :=
  let b := slotBase k
  let n := 0x100 + 96 * s.norNum (b + 6) 2
  Config.ecdsaVerify (s.norBytes (b + 0x20) 96) (s.norBytes b n) (s.norBytes (b + n) 96)

/-- The checks of step 4 in R97's order: the code of Table 5.8 of the first that fails. -/
def State.imageCheck (s : State) (k : Nat) : Option Nat :=
  let b := slotBase k
  let secs := s.sections k
  let n := s.norNum (b + 6) 2
  let key := s.norNum (b + 0x14) 1
  if !s.headerOk k then some 0x11
  else if s.norNum (b + 0xD) 3 ≠ 0x5404B0 ∨ !(s.norNum (b + 0xC) 1).testBit (s.fuses.grade - 1) ∨ s.fuses.grade = 0 then some 0x12
  else if n = 0 ∨ 64 < n ∨ 0x1000000 < s.norNum (b + 8) 4 then some 0x17
  else if 4 ≤ key ∨ !s.signerOk k ∨ s.keyRevoked key then some 0x13
  else if !s.signatureOk k then some 0x14
  else if !tableOk secs (s.norNum (b + 8) 4) then some 0x17
  else if !s.digestsOk k (fun _ => true) then some 0x15
  else if secs.any fun x => 64 < x.rollback || x.rollback < s.rollback x.type then some 0x16
  else none

/-- The data of a calibration block: the record's, else the active slot's CAL section's (R96). -/
def State.calBlock (s : State) (slot tag : Nat) : Option (List Byte) :=
  match s.calRecord tag with
  | some d => some d
  | none => match s.secsOf slot 6 with
    | [] => none
    | x :: _ => s.tagAt tag 0x10000 (slotBase slot + x.off + 0x40) (x.len - 0x40)

/-! ### Loading (steps 10 and 11) -/

/-- Little-endian words of a byte string, the last one filled with zeros. -/
def leWords (bs : List Byte) : List Word := (List.range (ceilDiv bs.length 4)).map fun i => word (leNat (slice bs (4 * i) 4))

/-- Step 10: each TCC_FW section goes to instruction memory from offset 0 of the tiles of its mask that are present. -/
def State.loadTccFw (s : State) (k : Nat) : State :=
  (s.secsOf k 2).foldl (fun s x =>
    let ws := leWords ((s.secBytes k x).take 0x10000)
    (setPositions 64 x.dest).foldl (fun s t => if s.absent (tileDom t) then s else s.imemPut t 0 ws) s) s

/-- A CIM_WEIGHTS section as its DEST and header say (R294): tile, bank, DECLARE word, MODEL_ID, CRC and weights; none
where it is malformed. -/
def cimHeader (x : Sec) (bs : List Byte) : Option (Nat × Nat × Word × Word × Word × List Byte) :=
  let n (o l : Nat) : Nat := leNat (slice bs o l)
  let rows := 64 * n 6 2
  let mode := n 4 1
  let joined := n 5 1
  let a := x.dest - 0x60000000
  if n 0 4 ≠ 0x314D4943 ∨ 2 < mode ∨ 1 < joined ∨ n 6 2 = 0 ∨ 512 < n 6 2 ∨ n 0xA 2 ≠ 0 ∨ n 0x10 48 ≠ 0 ∨
      x.len ≠ 0x40 + rows * modeBytes mode ∨ !isCimWin x.dest ∨ 2 ^ 40 ≤ x.dest ∨ a % 0x80000 ≠ 0 ∨
      (joined = 1 ∧ a % 0x100000 ≠ 0) then none
  else some (a / 0x100000, a % 0x100000 / 0x80000, word (mode + joined * 4 + n 6 2 * 0x100), word (n 8 2), word (n 0xC 4), bs.drop 0x40)

/-- Load one model into its bank and seal it with VERIFY; its code. -/
def State.loadBank (s : State) (m : Nat × Nat × Word × Word × Word × List Byte) : Nat × State :=
  let (t, b, decl, id, crc, ws) := m
  let (c, s) := s.declare t b decl id false
  if c ≠ 0 then (c, s)
  else
    let s := if s.wgt.zeroing.any fun z => z.1 == t then s.zeroEnd t else s
    let (c, s) := s.wgtWrite ⟨6, 0, 0⟩ (bankBase t b) (ws ++ List.replicate (roundUp ws.length 32 - ws.length) 0) fun _ => false
    if c ≠ 0 then (c, s)
    else
      let s := (s.setReg (TILE_WGT_EXPECT t) crc).sealEnd t b true
      (if s.bankState t b = 2 then 0 else 0x14, s)

/-- Step 11, CIM_WEIGHTS: every section dry first, then each for OWNER 0 (R285): 0, BAD_TABLE or NOT_RESIDENT. Sections for
absent quadrants are left out. -/
def State.loadWeights (s : State) (k : Nat) : Nat × State :=
  let ms := (s.secsOf k 3).map fun x => cimHeader x (s.secBytes k x)
  if ms.any Option.isNone then (0x17, s)
  else
    let ms := (ms.filterMap id).filter fun m => !s.absent (tileDom m.1)
    if ms.any fun m => (s.declare m.1 m.2.1 m.2.2.1 m.2.2.2.1 true).1 != 0 then (0x07, s)
    else ms.foldl (fun (c, s) m =>
      if c ≠ 0 then (c, s)
      else
        let (c, s) := s.loadBank m
        (if c = 0 then 0 else if c = 0x14 then 0x17 else 0x07, s)) (0, s)

/-- Step 11, AIE_MODEL: a model that fails R191's checks ends with BAD_MODEL in the AIE page, and fails the step as a malformed section
(DEDUCED, log entry 44). -/
def State.loadAie (s : State) (k : Nat) : Nat × State :=
  match s.secsOf k 5 with
  | [] => (0, s)
  | x :: _ =>
    let (ok, s) := s.takeModel (s.secBytes k x)
    if ok then (0, s) else (0x17, s.err 0x008 0x118 0x10 true ⟨6, 0, 0⟩)

/-- Whether a range lies in tenant 0's skeins of Table 17.3. -/
def inBootSkeins (a n : Nat) : Bool :=
  (0x40000000 ≤ a && a + n ≤ 0x40080000) || (0x10000000 ≤ a && a + n ≤ 0x1003F000) || (0x100000000 ≤ a && a + n ≤ 0x104000000)

/-- Step 11, REPEAT_TABLE (R386): its descriptors go to DEST, its rows and configuration wait for step 14. -/
def State.loadRpt (s : State) (k : Nat) : Nat × State :=
  match s.secsOf k 4 with
  | [] => (0, { s with life.rptCfg := none })
  | x :: _ =>
    let bs := s.secBytes k x
    let n (o l : Nat) : Nat := leNat (slice bs o l)
    let rows := n 4 4
    let descs := n 0x10 4
    let dest := n 0x18 8
    if n 0 4 ≠ 0x31545052 ∨ 256 < rows ∨ 0x10000 ≤ descs ∨ n 0x14 4 ≠ 0 ∨ n 0x20 32 ≠ 0 ∨ 2 ^ 40 ≤ dest ∨
        x.len ≠ 64 + 16 * rows + 64 * descs ∨ (descs ≠ 0 ∧ !inBootSkeins dest (64 * descs)) then (0x17, s)
    else
      let s := if descs = 0 then s else s.putBytes dest (slice bs (64 + 16 * rows) (64 * descs))
      let row (i : Nat) : List Word := (List.range 4).map fun w => word (n (64 + 16 * i + 4 * w) 4)
      (0, { s with life.rptCfg := some (word (n 8 4), word (n 12 4), (List.range rows).map row) })

/-- Step 11, the microphone calibration (R151): tag 0x20 into the restore block, with CAL_VALID; zeros where there is none. -/
def State.loadAudCal (s : State) (k : Nat) : State :=
  match s.calBlock k 0x20 with
  | some d =>
    let s := (List.range 8).foldl (fun s c => s.restorePut (0x140 + 4 * c) (word (leNat (slice d (4 * c) 4)))) s
    s.restorePut 4 1
  | none =>
    let s := (List.range 8).foldl (fun s c => s.restorePut (0x140 + 4 * c) 0) s
    s.restorePut 4 0

end Sys2Proof.Machine
end

