-- ==== Sys2Proof/Machine/AdselCmd.lean ====
section
/-! DEFINITION. The commands of Adsel's windows (R135, R138, R139): their acceptance, the rights they need, their turn, and how
one is posted. -/

namespace Sys2Proof.Machine

/-- The opcodes of Table 6.9. -/
def adselOps : List Nat := [0x01, 0x02, 0x03, 0x10, 0x11, 0x20, 0x21, 0x30]

/-- The bytes of its buffer that a command uses at least. -/
def adselNeeds (op : Nat) : Nat := match op with
  | 0x01 => 32
  | 0x02 => 16
  | 0x10 => 128
  | 0x30 => 208
  | _ => 0

/-- Region `i`. -/
def State.xtsRegion (s : State) (i : Nat) : Region := s.adsel.regions.get (fun _ => {}) i

/-- The command window `t` holds. -/
def State.adselCmd (s : State) (t : Nat) : Option AdselCmd := s.adsel.cmds.get (fun _ => none) t

/-- `s` with the command of window `t` replaced. -/
def State.setAdselCmd (s : State) (t : Nat) (c : Option AdselCmd) : State :=
  { s with adsel.cmds := s.adsel.cmds.set (fun _ => none) t c }

/-- Whether every byte of a range is in granules OWNED by tenant `t`. -/
def State.ownsRange (s : State) (t a n : Nat) : Bool := (granulesOf a n).any fun gs => gs.all fun g => ownedBy (s.ownOf g) t

/-- Whether base and end of a REGION_ADD are 1 MiB-aligned and name a range of T2 (R123). -/
def regionWf (base last : Nat) : Bool :=
  base % 0x100000 == 0 && last % 0x100000 == 0 && decide (0x100000000 ≤ base ∧ base < last ∧ last ≤ 0x300000000)

/-- Whether a range of T2 lies in a T2 skein of tenant `t` (R123). -/
def State.inT2Skein (s : State) (t base last : Nat) : Bool :=
  (List.range 64).any fun k =>
    let x := s.skein k
    x.valid && !x.deleting && x.tenant == t && x.tier == 2 && 0x100000000 + 0x10000 * x.base ≤ base &&
      last ≤ 0x100000000 + 0x10000 * (x.limit + 1)

/-- The reason of R134 for which a command of window `t` is refused (R135); none where it is permitted. -/
def State.adselRight (s : State) (t : Nat) (c : AdselCmd) : Option Nat :=
  let op := bits c.cmd 7 0
  let param := bits c.cmd 15 8
  let lc := s.fld ADSEL_STATUS 2 0
  let base := leNat (slice c.range 0 8)
  let last := leNat (slice c.range 8 8)
  if [0x10, 0x20, 0x21, 0x30].contains op ∧ t ≠ 0 then some 3
  else if (op = 1 ∨ op = 2) ∧ !s.tenantActive t then some 3
  else if op = 0x11 ∧ t ≠ 0 ∧ param ≠ t then some 1
  else if op = 3 ∧ !((s.xtsRegion param).valid ∧ (s.xtsRegion param).tenant = t) then some 1
  else if bit c.cmd 27 ∧ s.fld (MBX_CFG (bits c.cmd 21 16)) 18 16 ≠ t then some 1
  else if adselNeeds op ≠ 0 ∧ !s.ownsRange t c.addr (max c.len (adselNeeds op)) then some 4
  else if op = 2 ∧ regionWf base last ∧ !s.inT2Skein t base last then some 4
  else if (op = 1 ∨ op = 0x20 ∨ op = 0x21) ∧ (lc = 0 ∨ lc = 4) then some 5
  else if op = 0x20 ∧ s.flag ADSEL_STATUS 16 then some 12
  else none

/-- The TEARDOWN of window `t`'s command begins as the command is served. -/
def State.adselBegin (s : State) (t : Nat) : State :=
  match s.adselCmd t with
  | some c => if bits c.cmd 7 0 = 0x11 ∧ bits c.cmd 15 8 < 8 then s.teardownStart (bits c.cmd 15 8) else s
  | none => s

/-- With no command served, the next window that waits takes its turn (R35, R139). -/
def State.adselServe (s : State) : State :=
  if s.adsel.serving.isSome ∨ !s.adselUp then s
  else match s.arbitrate 9 8 ((List.range 8).filter fun t => (s.adselCmd t).any fun c => c.kind == 1 || c.kind == 4) false with
    | (some t, s) => ({ s with adsel.serving := some t } : State).adselBegin t
    | (none, s) => s

/-- The firmware takes window `t`'s command: refused, or accepted and served in its turn. -/
def State.adselTake (s : State) (t : Nat) : State :=
  match s.adselCmd t with
  | some c =>
    if c.kind ≠ 0 then s
    else match s.adselRight t c with
      | some r => (s.logRefusal { c.q with tenant := t } 0 true r).setAdselCmd t (some { c with kind := 2 })
      | none => (s.setAdselCmd t (some { c with kind := 1 })).adselServe
  | none => s

/-- The firmware is up: it takes the commands that waited for it (R137). -/
def State.adselTakeAll (s : State) : State := (List.range 8).foldl State.adselTake s

/-- A command `v` that `q` writes to window `t` is recorded with its buffer's address, length and region, BUSY and the next SEQ
are set; an opcode that Table 6.9 does not define is checked for nothing (R139). -/
def State.adselPlace (s : State) (q : Req) (t : Nat) (v : Word) : State :=
  let a := s.reg (ADSEL_T_ADDR_LO t) |>.toNat
  let a := a + 0x100000000 * s.fld (ADSEL_T_ADDR_HI t) 7 0
  let s := s.setReg (ADSEL_T_STAT t) (word (1 + (s.fld (ADSEL_T_STAT t) 31 16 + 1) % 0x10000 * 0x10000))
  s.setAdselCmd t (some { q := q, cmd := v, kind := if adselOps.contains (bits v 7 0) then 0 else 3, addr := a
                          len := (s.reg (ADSEL_T_LEN t)).toNat, range := if bits v 7 0 = 2 then s.bytesAt a 16 else [] })

/-- A write of ADSEL_T_CMD: ignored while BUSY. -/
def adselCommand (q : Req) (t : Nat) (v : Word) (s : State) : State :=
  if s.flag (ADSEL_T_STAT t) 0 then s
  else
    let s := s.adselPlace q t v
    if s.adselUp then s.adselTake t else s

/-- Post window `t`'s command: BUSY clears, STATUS and where there is one RESULT hold the outcome. -/
def State.adselPost (s : State) (t code : Nat) (result : Option Nat) : State :=
  let s := s.setFld (ADSEL_T_STAT t) 15 0 (code * 0x100)
  let s := match result with
    | some r => s.setReg (ADSEL_T_RESULT t) (word r)
    | none => s
  s.setAdselCmd t none

/-- A served command ends: it is posted, NOTIFY rings its doorbell, the next window takes its turn. -/
def State.adselEnd (s : State) (t : Nat) (c : AdselCmd) (code : Nat) (result : Option Nat) : State :=
  let s := s.adselPost t code result
  let s := if bit c.cmd 27 then s.bell t (bits c.cmd 21 16) (bits c.cmd 26 22) else s
  ({ s with adsel.serving := none } : State).adselServe

/-- ADSEL_REFUSAL_POST: a refused command, or one with an undefined opcode, is posted after 4,096 SOCCLK cycles. -/
def adselRefusalPost (t : Nat) (s : State) : State :=
  match s.adselCmd t with
  | some c =>
    if !s.adselUp then s
    else if c.kind = 2 then s.adselPost t 0x01 none
    else if c.kind = 3 then s.adselPost t 0x1C none
    else s
  | none => s

/-! ### Meanings -/

/-- A row of Table 6.9: ADSEL_T_CMD of the requester's window with the row's opcode. -/
def State.adselRow (s : State) (q : Req) (v : Word) (op : Nat) : State :=
  let v := setBits v 7 0 op
  s.writeVia q (ADSEL_T_CMD q.tenant) v (adselCommand q q.tenant v)

def execGetCert (q : Req) (v : Word) (s : State) : Host.Outcome State Fault Refusal :=
  only q.wf s (s.adselRow q v 0x01)
def execRegionAdd (q : Req) (v : Word) (s : State) : Host.Outcome State Fault Refusal :=
  only q.wf s (s.adselRow q v 0x02)
def execRegionDel (q : Req) (v : Word) (s : State) : Host.Outcome State Fault Refusal :=
  only q.wf s (s.adselRow q v 0x03)
def execInstantiate (q : Req) (v : Word) (s : State) : Host.Outcome State Fault Refusal :=
  only q.wf s (s.adselRow q v 0x10)
def execTeardown (q : Req) (v : Word) (s : State) : Host.Outcome State Fault Refusal :=
  only q.wf s (s.adselRow q v 0x11)
def execDbgChallenge (q : Req) (v : Word) (s : State) : Host.Outcome State Fault Refusal :=
  only q.wf s (s.adselRow q v 0x20)
def execDbgRelock (q : Req) (v : Word) (s : State) : Host.Outcome State Fault Refusal :=
  only q.wf s (s.adselRow q v 0x21)
def execLcAdvance (q : Req) (v : Word) (s : State) : Host.Outcome State Fault Refusal :=
  only q.wf s (s.adselRow q v 0x30)
def execAdselBadOpcode (q : Req) (v : Word) (s : State) : Host.Outcome State Fault Refusal :=
  only q.wf s (s.adselRow q v (if adselOps.contains (bits v 7 0) then 0 else bits v 7 0))
def execAdselRefusalPost (ten : Nat) (s : State) : Host.Outcome State Fault Refusal :=
  only (decide (ten < 8)) s (adselRefusalPost ten s)

end Sys2Proof.Machine
end

