-- ==== Sys2Proof/Machine/CastOn.lean ====
section
/-! DEFINITION. Cast-on, bind-off and the lifeline (R92 to R109): resets, the steps and their paths, failures, halts, the
stages of bind-off, LIFE_CMD. -/

namespace Sys2Proof.Machine

/-! ### The lifeline (R100, Table 5.8) -/

/-- F[k]. -/
def State.fails (s : State) (k : Nat) : Nat := s.fld (if k < 8 then LIFE_FAILCNT0 else LIFE_FAILCNT1) (4 * (k % 8) + 3) (4 * (k % 8))

/-- The step entered. -/
def State.stepNow (s : State) : Nat := s.fld LIFE_LINE 3 0

/-- The slot in use (LIFE_BOOT_STATUS.ACTIVE_SLOT). -/
def State.slot (s : State) : Nat := s.fld LIFE_BOOT_STATUS 0 0

/-- A step's path (R103): 0 normal, 1 SKIP, 2 ALTERNATE, 3 HALT. -/
def State.stepPath (s : State) (k : Nat) : Nat :=
  let r := s.fld (LIFE_POLICY k) 4 2
  if s.fails k ≤ r then 0
  else if s.fails k ≤ r + 2 then
    (match s.fld (LIFE_POLICY k) 1 0 with
      | 1 => 1
      | 2 => 2
      | _ => 3)
  else 3

/-- Record a failure of step `k` (R101). -/
def State.stepRecord (s : State) (k code detail : Nat) : State :=
  let s := s.bumpSat (if k < 8 then LIFE_FAILCNT0 else LIFE_FAILCNT1) (4 * (k % 8) + 3) (4 * (k % 8))
  let s := (s.setFlag LIFE_FAILMAP k true).setReg LIFE_FAIL_INFO (word (k + code % 256 * 0x100 + detail % 0x10000 * 0x10000))
  { s with life.detail := s.life.detail.set (fun _ => 0) k (detail % 0x10000) }

/-- Clear every F[s]. -/
def State.failsClear (s : State) : State := (s.setReg LIFE_FAILCNT0 0).setReg LIFE_FAILCNT1 0

/-! ### Resets (R92) -/

/-- Every domain but AON goes OFF without entry steps, with all that runs in them and every request on them. PWR_CHIP_SLEEP is a
register of an AON page: an entry it has armed waits for step 15 (R95). -/
def State.downAll (s : State) : State :=
  let s := (s.stalls.filter fun e => isDebug e.q).foldl (fun s e => s.stallTell e 2 []) s
  let s : State := { s with sch := {}, rpt := {}, tiles := [], net := [], stalls := [] }
  let s := (allDoms.drop 1).foldl State.forceOff s
  let s : State := { s with
    holds := [], sc := {}, tiles := [], net := [], ptrs := []
    pwr := { s.pwr with slotBusy := [], sleeping := (s.flag PWR_CHIP_SLEEP 8).toNat, lowering := [], socWait := false, asleep := false, rails := 0
                        pllRun := 0, pllHeld := 0, refBad := false } }
  let s := (List.range 10).foldl (fun s i => s.setPgood i false) s
  let s := s.cascReset.setFld LIFE_BINDOFF_STAT 3 0 0
  ((s.setReg CLK_STATUS 0x200).chipUpdate).ldoUpdate

/-- What a warm cast-on resets: every domain but AON, and the attempt or bind-off in progress. -/
def State.warmReset (s : State) : State :=
  let s := s.downAll
  { s with life := { s.life with booting := false, ready := false, ended := false, bindStage := 0, parked := false, bound := false
                                 rptCfg := none, fuseQ := [] } }

/-- What a cold cast-on leaves: the fuses and the NOR, and beside the device the commands that wait and the record of outputs. -/
def State.coldReset (s : State) : State :=
  let r : State := State.reset
  ({ r with pending := s.pending, out := s.out, free := s.free, fuses := s.fuses, nor := s.nor }).setReg PWR_CHIP_STATE 5

/-! ### Bringing domains up -/

/-- Domain `d` is ON, brought up by cast-on; its PLLs are locked from step 6 on. -/
def State.forceOn (s : State) (d : Nat) : State :=
  if s.absent d then s
  else
    let s : State := { s with pwr := { s.pwr with rails := s.pwr.rails ||| maskOf (regRails d), pllRun := s.pwr.pllRun ||| maskOf (domPlls d) } }
    let s := s.stepEffect d 1
    let s := if 6 ≤ s.stepNow then s.stepEffect d 2 else s
    let s := s.stepEffect d 3
    let s := s.setDom d { st := .on, rest := .on, early := (s.dom d).early, last := (s.dom d).last }
    ((s.chipUpdate).ldoUpdate).domainWoke d true

/-- REFOSC runs: the timestamp counts on it from its integer value plus one (R60). -/
def State.refoscOn (s : State) : State :=
  if s.refoscOk then s
  else
    let s := (s.setFlag CLK_STATUS 0 true).setFlag CLK_STATUS 9 false
    { s with pwr := { s.pwr with ts := (s.pwr.ts / 0x100000 + 1) * 0x100000, refBad := false } }

/-- The quadrants of a mask become absent; their domains go OFF (R105). -/
def State.makeAbsent (s : State) (mask : Nat) : State :=
  let s := s.setFld LIFE_DEGRADE 3 0 (s.fld LIFE_DEGRADE 3 0 ||| mask % 16)
  ((allDoms.filter fun d => (domQuad d).any fun q => mask.testBit q).foldl State.forceOff s).chipUpdate

/-! ### What Adsel does at its start (R121, R124 to R126, R137) -/

/-- The Adsel ROM runs: lifecycle, default debug level, TRNG (R112, R119, R132). -/
def State.romStart (s : State) : State :=
  let c := s.lifecycle
  ((s.setFld ADSEL_STATUS 2 0 c).setFld ADSEL_STATUS 5 4 (if c = 0 then 2 else 0)).setFlag ADSEL_STATUS 9 true

/-- The measurements of the alias certificate (R126): kind, rollback and the bytes measured. -/
def State.measurements (s : State) : List (Nat × Nat × List Byte) :=
  let b := slotBase s.slot
  let digest (bs : List Byte) : List Byte := leBytes 48 (Config.sha384 bs).toNat
  let secs := s.sections s.slot
  (0x80, 0, digest (s.norBytes b (0x100 + 96 * secs.length))) ::
    (secs.zipIdx.map fun (x, i) => (x.type, x.rollback, s.norBytes (b + 0x100 + 96 * i + 0x20) 48)) ++
    [(0x81, 0, digest (leBytes 393 (s.fuse 3531 392)))]

/-- The alias certificate (R124), issued by the DeviceID key of slot 0 for the alias key of slot 1. -/
def State.aliasCert (s : State) : List Byte :=
  signedCert (s.keySlot 0).id (tbsCert (s.serial * 2 ^ 32 + (s.reg ADSEL_ALIAS_SERIAL).toNat) 0 1 (publicKey (s.keySlot 1).id) true
    (s.measured s.measurements))

/-- A new alias key and certificate: the serial one up, the chain from the DeviceID certificate (calibration tag 0x10) to it (R124,
R125, R131). -/
def State.aliasIssue (s : State) : State :=
  let s := (s.newKey 1 2 0).bump ADSEL_ALIAS_SERIAL
  ({ s with adsel.chain := (s.calRecord 0x10).getD [] ++ s.aliasCert } : State).setFlag ADSEL_STATUS 10 true

/-- The Adsel firmware runs: the DeviceID and alias keys exist, FW_READY is set, and requests that waited are served.
Tiles with granules still to be wiped are asked for (R118, R352). -/
def State.adselReady (s : State) : State :=
  let line := s.reg LIFE_LINE
  let s : State := { s with adsel := { s.adsel with
    castOn := [bits line 19 16, bits line 15 12, (s.reg LIFE_DEGRADE).toNat, s.slot], starting := false } }
  let s := ((s.setKeySlot 0 { kind := 1, tenant := 0, id := Config.deviceKeyName (s.fuse 383 0) }).aliasIssue).setFlag ADSEL_STATUS 8 true
  let s := s.mem.wipe01.foldl (fun s g => if g / 0x40000 = 0 then s.hold 12 0x80 (32 + g / 128) else s) s
  (s.irq 0x010 0).doeRun.adselTakeAll

/-! ### The steps (R93, Table 5.2) -/

/-- Step `k` is done: STEP_DONE, and the time since the attempt's start in microseconds. -/
def State.stepMark (s : State) (k : Nat) : State :=
  let us := min 0xFFFFFF ((s.now - s.life.start) * 10 / 384)
  ((s.setFld LIFE_LINE 7 4 k).setFlag LIFE_LINE 8 true).setReg (LIFE_STEP_TIME k) (word us)

/-- Step `k` starts. -/
def State.stepOpen (s : State) (k : Nat) : State :=
  ({ s with life.stepAt := s.now } : State).setFld LIFE_LINE 3 0 k

/-- The chip halts (R106). -/
def State.halt (s : State) : State :=
  let s := s.warmReset.setFlag LIFE_LINE 9 true
  { s with life.parked := true }

/-- Step 15 (R102, R192, R95): the record of failures moves on, wake sources and requests act again; the chip is in TRIM,
the DRAM in self-refresh. -/
def State.castReady (s : State) : State :=
  let s := (s.stepOpen 15).stepMark 15
  let s := (s.setReg LIFE_FAILMAP (word (s.fld LIFE_FAILMAP 15 0 * 0x10000))).failsClear
  let s : State := { s with life := { s.life with booting := false, ready := true, fresh := true, detail := [] } }
  let s := if (s.dom 10).st = .on then ((s.setDom 10 { s.dom 10 with st := .retain, rest := .retain }).clockStop).chipUpdate else s
  let s := (s.setPlyState 0 2).irq 0x005 0
  ((List.range 64).foldl State.mbxWake s).scoresRelease

/-- What a step does as it starts: the domains it brings up, and on the ALTERNATE path the variations of Table 5.6. -/
def State.stepBegin (s : State) (k : Nat) (alt : Bool) : State :=
  let p := s.fld (LIFE_POLICY k) 23 16
  let mask := s.life.detail.get (fun _ => 0) k
  match k with
  | 2 => (s.forceOn 1).forceOn 2
  | 6 => if alt then s.setFld LIFE_DEGRADE 6 4 p else s
  | 7 => if alt then s.makeAbsent mask else s
  | 8 => (if alt then s.setFlag LIFE_DEGRADE 8 true else s).forceOn 10
  | 9 => if alt then s.makeAbsent mask else s
  | 12 => (if alt then s.setFlag LIFE_DEGRADE 10 true else s).forceOn 9
  | 14 => if alt then s.setFlag LIFE_DEGRADE 12 true else s
  | _ => s

/-- A bank's record after the SKIP path of step 9: what was loaded is LOST, no bank is FAILED, A COMPUTE, B LOAD. -/
def State.bankSkip (s : State) (t b : Nat) : State :=
  let st := s.bankState t b
  if 1 ≤ st ∧ st ≤ 3 then (s.setFld (TILE_WGT_STAT t b) 2 0 3).setFlag (TILE_WGT_STAT t b) 3 (b == 1)
  else (s.setReg (TILE_WGT_STAT t b) (word (8 * b))).setReg (TILE_WGT_ID t b) 0

/-- The weight banks after the SKIP path of step 9 (R282, R292, R293): the maps of tag 0x30, none without it. -/
def State.wgtSkip (s : State) : State :=
  let s : State := { s with wgt := {} }
  let maps := s.calBlock s.slot 0x30
  (List.range 128).foldl (fun s i =>
    (s.bankSkip (i / 2) (i % 2)).setReg (TILE_WGT_REPAIR (i / 2) (i % 2))
      (match maps with
        | some d => word (leNat (slice d (4 * i) 4))
        | none => 0xFFFFFFFF)) s

/-- A step that is marked done without running (R103). -/
def State.stepSkip (s : State) (k : Nat) : State :=
  let s := (s.stepOpen k).stepMark k
  match k with
  | 9 => (s.setFlag LIFE_DEGRADE 13 true).wgtSkip
  | 11 => s.setFlag LIFE_DEGRADE 14 true
  | 12 => ((s.setFlag LIFE_DEGRADE 11 true).stepOpen 13).stepMark 13
  | 13 => s.setFlag LIFE_DEGRADE 11 true
  | _ => s

/-- Step `k` starts on its path; `n` bounds the steps that may be skipped on the way. -/
def State.stepEnter : Nat → Nat → State → State
  | 0, _, s => s
  | n + 1, k, s =>
    if 15 ≤ k then s.castReady
    else match s.stepPath k with
      | 0 => (s.stepOpen k).stepBegin k false
      | 1 => State.stepEnter n (if k = 12 then 14 else k + 1) (s.stepSkip k)
      | 2 => (({ s with life.alt := s.life.alt ++ [k] } : State).stepOpen k).stepBegin k true
      | _ => s.halt

/-- Step `k` is done and the next one starts. -/
def State.stepNext (s : State) (k : Nat) : State := State.stepEnter 16 (k + 1) (s.stepMark k)

/-- An attempt starts (R93, R102, R106); one that would exceed MAX_ATTEMPTS halts. A warm one marks step 0 done at once. -/
def State.attempt (s : State) (cause : Nat) (warm : Bool) : State :=
  let n := if s.life.fresh then 1 else s.life.tries + 1
  let most := if s.fld LIFE_CTRL 7 4 = 0 then 16 else s.fld LIFE_CTRL 7 4
  if most < n then s.halt
  else
    let s : State := { s with life := { s.life with booting := true, tries := n, fresh := false, start := s.now, stepAt := s.now
                                                    alt := [], parked := false } }
    let s := s.setReg LIFE_LINE (word (min 15 n * 0x1000 + cause % 16 * 0x10000 + warm.toNat * 0x100000))
    let s := s.setReg LIFE_DEGRADE (s.reg LIFE_DEGRADE &&& 0x7F)
    let s := (List.range 16).foldl (fun s k => s.setReg (LIFE_STEP_TIME k) 0) s
    if warm then s.stepNext 0 else s

/-- A warm cast-on. -/
def State.castWarm (s : State) (cause : Nat) : State := s.warmReset.attempt cause true

/-- A cold cast-on. -/
def State.castCold (s : State) (cause : Nat) : State := s.coldReset.attempt cause false

/-- A step fails (R101). -/
def State.stepFail (s : State) (k code detail : Nat) : State := (s.stepRecord k code detail).castWarm 5

/-! ### What a step has done when it ends -/

/-- Step 2's end: the ROM's self-check has passed, and a lagging lifecycle copy is completed (R112). -/
def State.workRom (s : State) : State :=
  let lc := s.lcCopy 0 ||| s.lcCopy 1
  let s := (setPositions 4 lc).foldl (fun s i => (s.blow (384 + i)).blow (388 + i)) s
  s.romStart

/-- Step 3 (R104): the slot, which of the two hold a well-formed header, and the code where the chosen one does not. -/
def State.workSlot (s : State) : Nat × State :=
  let other := [3, 4, 10, 11].any fun k => s.stepPath k == 2
  let k := (s.fld LIFE_CTRL 0 0 + other.toNat) % 2
  let s := if other then s.setFlag LIFE_DEGRADE 9 true else s
  let s := s.setReg LIFE_BOOT_STATUS (word (k + (s.headerOk 0).toNat * 2 + (s.headerOk 1).toNat * 4))
  (if s.headerOk k then 0 else if s.headerOk 0 || s.headerOk 1 then 0x11 else 0x21, s)

/-- Step 8 (R107): trained, restored from the AON copy, or on the ALTERNATE path restored from tag 0x01. -/
def State.workDram (s : State) : Nat × State :=
  if s.life.alt.contains 8 then
    match s.calBlock s.slot 0x01 with
    | some img => (0, (s.phyLoad img 3).trainStore (slice (img ++ List.replicate 1024 0) 0 1024))
    | none => (0x1C, s)
  else if s.trainCopy then (0, s.phyLoad (s.bytesAt (trainBase + 0x40) 1024) 2)
  else
    let (img, s) := s.trained
    let s := (s.phyLoad img 1).trainStore img
    (0, if s.calHas 0x01 then s else s.calWrite 0x01 img)

/-- The quadrants with more than four FAILED banks that are not absent (R293). -/
def State.failedQuads (s : State) : Nat :=
  maskOf ((List.range 4).filter fun q => !s.flag LIFE_DEGRADE q &&
    decide (4 < ((tilesOf q).flatMap fun t => [0, 1].filter fun b => s.bankState t b == 4).length))

/-- Step 9 (R293): the self-test's maps and FAILED banks; after a normal pass, tag 0x30 takes maps that differ from it. -/
def State.workSelftest (s : State) : Nat × State :=
  let s := s.wgtCastOn
  if s.failedQuads ≠ 0 then (0x1D, s)
  else
    let maps := (List.range 128).flatMap fun i => leBytes 4 (s.reg (TILE_WGT_REPAIR (i / 2) (i % 2))).toNat
    (0, if s.life.alt.contains 9 ∨ s.calRecord 0x30 = some maps then s else s.calWrite 0x30 maps)

/-- Step 11: the sections are read again and hashed, then loaded. -/
def State.workLoads (s : State) : Nat × State :=
  let k := s.slot
  let (c, s) := if s.digestsOk k (fun t => 3 ≤ t && t ≤ 5) then s.loadWeights k else (0x15, s)
  if c ≠ 0 then (c, s)
  else
    let (c, s) := s.loadAie k
    if c ≠ 0 then (c, s)
    else
      let (c, s) := s.loadRpt k
      if c ≠ 0 then (c, s) else (0, s.loadAudCal k)

/-- One of tenant 0's initial skeins (Table 17.3), where its record does not exist yet; a granule still to be wiped follows
when it is FREE. -/
def State.bootSkein (s : State) (k tier base limit : Nat) : State :=
  if (s.skein k).valid then s
  else
    let s := s.setSkein k { valid := true, tier := tier, base := base, limit := limit, quota := limit + 1 - base }
    (List.range (limit + 1 - base)).foldl (fun s i =>
      if s.ownOf (gran tier (base + i)) % 4 = 0 then s.assign (gran tier (base + i)) k else s) s

/-- Step 14 (R115, R220, R351, R386, R424). -/
def State.workSched (s : State) : Nat × State :=
  let s := s.setFlag ADSEL_TENANTS 0 true
  let s := if s.flag LIFE_LINE 20 then ((List.range 7).foldl (fun s t => s.mbxTeardown (t + 1)) s).ringWarm else s
  let s := ((s.bootSkein 0 0 0 127).bootSkein 1 1 4096 4158).bootSkein 2 2 0 1023
  let s := s.setFlag SCH_CTRL 0 true
  match s.life.rptCfg with
  | none => (0, s)
  | some (cfg, period, rows) =>
    if s.life.alt.contains 14 then (0, s)
    else match s.rptSection cfg period rows with
      | some s => (0, s)
      | none => (0x17, s)

/-- Whether the done condition of step `k` that the model itself holds is met. -/
def State.stepMay (s : State) (k : Nat) : Bool :=
  match k with
  | 6 => s.refoscOk
  | 12 => s.linkUp && s.linkState == 2
  | 13 => s.flag HOST_HS 16
  | _ => true

/-- The work of step `k` at its end: a code of Table 5.8 (0 where the step is done), DETAIL and the state. -/
def State.stepWork (s : State) (k : Nat) : Nat × Nat × State :=
  match k with
  | 2 => (0, 0, s.workRom)
  | 3 => let (c, s) := s.workSlot; (c, s.slot, s)
  | 4 => match s.imageCheck s.slot with
    | some c => (c, s.slot, s)
    | none => (0, 0, s.adselReady)
  | 5 => (0, 0, s.refoscOn)
  | 6 =>
    let bs := ([1, 2, 3, 4].filter fun b => !s.flag LIFE_DEGRADE (b - 1)) ++ [5, 6, 7, 8]
    let s := bs.foldl (fun s b => s.setFlag CLK_STATUS b true) { s with pwr.pllRun := maskOf bs }
    (0, 0, s.forceOn 3)
  | 7 => (0, 0, (((List.range 8).map (13 + ·)) ++ (List.range 64).map (32 + ·)).foldl State.forceOn (oppResolve s))
  | 8 => let (c, s) := s.workDram; (c, 0xFFFF, s)
  | 9 => let (c, s) := s.workSelftest; (c, s.failedQuads, s)
  | 10 => if s.digestsOk s.slot (· == 2) then (0, 0, s.loadTccFw s.slot) else (0x15, s.slot, s)
  | 11 => let (c, s) := s.workLoads; (c, s.slot, s)
  | 14 => let (c, s) := s.workSched; (c, 0, s)
  | _ => (0, 0, s)

/-- CAST_ON_STEP_DONE: the step entered ends, done or failed; in BLANK and SCRAPPED cast-on ends after step 2 (R114). -/
def stepDone (r : StepResult) (s : State) : State :=
  let k := s.stepNow
  if !s.life.booting then s
  else match r with
    | .failed c d => s.stepFail k c d
    | .done =>
      if !s.stepMay k then s
      else match s.stepWork k with
        | (0, _, s) =>
          if k = 2 ∧ (s.lifecycle = 0 ∨ s.lifecycle = 4) then
            let s := s.stepMark 2
            { s with life := { s.life with booting := false, ended := true } }
          else s.stepNext k
        | (c, d, s) => s.stepFail k c d

/-- A step's timeout in milliseconds (R101); 10 ms for a high-drive start of REFOSC (Table 5.6). -/
def State.stepTmo (s : State) (k : Nat) : Nat :=
  if k = 5 ∧ s.life.alt.contains 5 then 10
  else (if s.fld (LIFE_POLICY k) 15 8 = 0 then 256 else s.fld (LIFE_POLICY k) 15 8) * 2 ^ min (s.fails k) 2

/-- STEP_TIMEOUT: DETAIL names the slot in the steps that use one. -/
def stepTimeout (s : State) : State :=
  let k := s.stepNow
  if !s.life.booting ∨ k = 0 ∨ s.now < s.life.stepAt + 38400 * s.stepTmo k then s
  else s.stepFail k 0x10 (if [3, 4, 10, 11].contains k then s.slot else 0)

/-! ### Reset sources (Table 5.1) -/

/-- A watchdog or thermal reset fails the step it meets, and keeps its own cause (R101). -/
def State.resetMeetsStep (s : State) : State := if s.life.booting then s.stepRecord s.stepNow 0x20 0 else s

/-- POWER_ON: VBAT rises above brown-out; nothing where the device already runs. -/
def powerOn (s : State) : State := if s.pwr.chipOff ∨ s.fld LIFE_LINE 15 12 = 0 then s.castCold 0 else s

/-- A low pulse of `ns` on SYS_RST_N; `taken` decides for one between 0.7 and 1 us (R92). A warm reset ends a halt with
every F[s] cleared (R106), and acts in the hold of a thermal shutdown too. -/
def sysRst (ns : Nat) (taken : Bool) (s : State) : State :=
  if ns < 700 ∨ (ns < 1000 ∧ !taken) then s
  else if 10000000 ≤ ns then s.castCold 1
  else
    let s : State := { s with cap.hot := false }
    if s.flag LIFE_LINE 9 then (({ s with life.fresh := true } : State).failsClear).castWarm 2
    else s.castWarm 2

/-- A wake source fires (R57): RTC 0, GPIO 1 or HOST_WAKE_IN 2. It requests ON for SEC, SOC and HOST; after bind-off it starts
a warm cast-on. The request is an access' (DESIGN CHOICE, log entry 81). -/
def State.wakeFires (s : State) (b : Nat) : State :=
  if !s.flag AON_WAKE_EN b ∨ !s.life.ready ∨ s.life.bindStage ≠ 0 ∨ s.life.parked then s
  else if s.life.bound then s.castWarm 7
  else
    let s := s.wakeSource b
    [1, 2, 9].foldl (fun s d => if (s.dom d).st = .on ∧ (s.dom d).step = 0 then s else s.waitFor d) s

/-- HOST_WAKE_IN: ends a halt or a parked bind-off (R106, R108), else it is the third wake source. No rule names the cause
of the cast-on that ends a halt. -/
def hostWakeIn (s : State) : State :=
  if s.cap.hot then s
  else if s.life.parked then
    if s.flag LIFE_LINE 9 then
      let (n, s) := s.fresh
      (({ s with life.fresh := true } : State).failsClear).castWarm (Config.haltWakeCause n)
    else s.castWarm 7
  else s.wakeFires 2

/-- WAKE_START after bind-off: the wake is a warm cast-on (R108). A halted, parked or held chip wakes nothing (R106, R86), and
before step 15 cast-on alone brings domains up. During bind-off neither mailboxes nor the cascade wake a domain, and its last stage
nothing does (R108). -/
def wakeOrCast (d : Nat) (s : State) : State :=
  let quiet : State := { s with holds := s.holds.filter fun h => h.src != 10 && h.src != 11 }
  if s.life.booting ∨ s.life.parked ∨ s.cap.hot ∨ s.life.bindStage = 6 then s
  else if s.life.bindStage ≠ 0 ∧ (s.dom d).st.code ≤ (quiet.asked d).code then s
  else
    let t := wakeStart d s
    if s.life.bound ∧ t.dom d ≠ s.dom d then s.castWarm 7 else t

/-! ### Bind-off (R108, Table 5.7) -/

/-- Stage `n` starts. -/
def State.bindStep (s : State) (n : Nat) : State :=
  let s : State := { s with life := { s.life with bindStage := n, stageAt := s.now } }
  (s.setFld LIFE_BINDOFF_STAT 3 0 n).irq 0x005 2

/-- What stage `n` does as it starts. -/
def State.stageBegin (s : State) (n : Nat) : State :=
  let s := s.bindStep n
  match n with
  | 1 => s.setFlag SCH_CTRL 0 false
  | 3 => (List.range 16).foldl (fun s st => if s.strmState st = 0 then s else strmCommand ⟨6, 0, 0⟩ st 4 s) s
  | 4 => s.sessionsEnd.teardownAll
  | 5 =>
    let s := if s.flag HOST_NOTICE 8 then s.msixRaise (s.fld HOST_NOTICE 4 0) else s
    if s.linkUp then s.setFld HOST_LINK_STATUS 14 12 4 else s
  | 6 =>
    let s := s.setFlag LIFE_BINDOFF_STAT 8 true
    let ds := (allDoms.drop 1).filter fun d => (s.dom d).st != .off
    ({ s with pwr := { s.pwr with sleeping := 2, lowering := ds.map fun d => (d, .off) } } : State).sleepRun
  | _ => s

/-- Whether the stage in progress has met its end condition. -/
def State.stageEnded (s : State) : Bool :=
  match s.life.bindStage with
  | 1 => true
  | 2 => s.openSlots.isEmpty && !s.rptRuns
  | 3 => (List.range 16).all fun st => s.strmState st == 0
  | 4 => s.adsel.teardown.isEmpty
  | 5 => allDoms.all fun d => (s.dom d).step == 0 && !(s.dom d).waiting
  | 6 => s.fld PWR_CHIP_STATE 2 0 == 5
  | _ => false

/-- BIND_OFF_STAGE_DONE: the next stage, or the end: DORMANT until the next wake, or parked. -/
def bindNext (s : State) : State :=
  if !s.stageEnded then s
  else if s.life.bindStage < 6 then s.stageBegin (s.life.bindStage + 1)
  else
    let park := s.flag LIFE_BINDOFF_CFG 0
    let s : State := { s with life := { s.life with bindStage := 0, parked := park, bound := !park } }
    let s := s.setFld LIFE_BINDOFF_STAT 3 0 0
    (List.range 64).foldl State.mbxWake s

/-- BINDOFF_GRACE_EXPIRY in stage 2: the jobs that remain are frogged and the Repeat Table stops. -/
def graceExpiry (s : State) : State :=
  if s.life.bindStage ≠ 2 ∨ s.now < s.life.stageAt + 38400 * s.fld LIFE_BINDOFF_CFG 15 8 then s
  else
    let s := if s.openSlots.isEmpty then s else s.setFlag LIFE_BINDOFF_STAT 9 true
    (s.openSlots.foldl (fun s k => s.jobFrog k 0x13 0 0) s).rptStop

/-! ### LIFE_CMD and the LIFE page -/

/-- The fuse bits COMMIT_ROLLBACK blows (R99): each counter rises to the highest ROLLBACK of its type in the active slot. -/
def State.commitBits (s : State) : List Nat :=
  ((List.range 6).map (1 + ·)).flatMap fun t =>
    let top := (((s.secsOf s.slot t).map (·.rollback)).foldl max 0)
    let base := 2700 + 64 * (t - 1)
    (((List.range 64).filter fun i => !s.fuses.map.testBit (base + i)).take (min 64 top - s.rollback t)).map (base + ·)

/-- COMMIT_ROLLBACK; a second one while it runs changes nothing. -/
def State.commitRollback (s : State) : State :=
  if s.life.fuseQ.any fun j => j.2 == 1 then s
  else if s.commitBits.isEmpty then s.irq 0x005 1
  else { s with life.fuseQ := s.life.fuseQ ++ s.commitBits.map fun i => (i, 1) }

/-- A write of LIFE_CMD (Table 5.8). -/
def lifeCmd (q : Req) (v : Word) (s : State) : State :=
  if bits v 31 16 ≠ 0x4C46 then s.fail q LIFE_CMD 0x23
  else match bits v 3 0 with
    | 1 => s.castWarm 6
    | 2 =>
      if !s.life.ready then s.fail q LIFE_CMD 0x22
      else if s.life.bindStage ≠ 0 ∨ s.life.bound ∨ s.life.parked then s
      else (s.setReg LIFE_BINDOFF_STAT 0).stageBegin 1
    | 3 => if s.life.ready then s.commitRollback else s.fail q LIFE_CMD 0x22
    | 4 => s.setFld LIFE_DEGRADE 6 0 0x70
    | _ => s.fail q LIFE_CMD 0x23

/-- The fallbacks Table 5.6 permits a step beside HALT. -/
def permitted (k f : Nat) : Bool :=
  (f == 1 && [9, 11, 12, 13].contains k) || (f == 2 && [3, 4, 5, 6, 7, 8, 9, 10, 11, 12, 14].contains k)

/-- A write to the LIFE page: a FALLBACK that is not permitted is stored as HALT, steps 0 and 15 have no policy (R103). -/
def lifeWrite (q : Req) (k : Nat) (v : Word) (s : State) : State :=
  let off := keyOff k
  if off = 0x124 then lifeCmd q v s
  else if 0x140 ≤ off ∧ off < 0x180 then
    let i := (off - 0x140) / 4
    if i = 0 ∨ i = 15 ∨ s.locked 0x005 then s
    else s.setReg k (s.written k (if permitted i (bits v 1 0) then v else setBits v 1 0 0))
  else s.plainWrite k v

/-- A LIFE_CMD row: the key is the row's own, the opcode too. -/
def State.lifeRow (s : State) (q : Req) (v : Word) (op : Nat) : State :=
  let v := setBits v 3 0 op
  s.writeVia q LIFE_CMD v (lifeCmd q v)

/-! ### Meanings -/

/-- POWER_ON acts on a device that is OFF too. -/
def execPowerOn (s : State) : Host.Outcome State Fault Refusal := .next (powerOn s)

def execSysRstNPulse (ns : Nat) (taken : Bool) (s : State) : Host.Outcome State Fault Refusal :=
  only true s (sysRst ns taken s)
def execCastOnStepDone (r : StepResult) (s : State) : Host.Outcome State Fault Refusal :=
  only true s (stepDone r s)
def execStepTimeout (s : State) : Host.Outcome State Fault Refusal :=
  only true s (stepTimeout s)
def execRestartWarm (q : Req) (v : Word) (s : State) : Host.Outcome State Fault Refusal :=
  only q.wf s (s.lifeRow q v 1)
def execBindOff (q : Req) (v : Word) (s : State) : Host.Outcome State Fault Refusal :=
  only q.wf s (s.lifeRow q v 2)
def execBindOffStageDone (s : State) : Host.Outcome State Fault Refusal :=
  only true s (bindNext s)
def execBindoffGraceExpiry (s : State) : Host.Outcome State Fault Refusal :=
  only true s (graceExpiry s)
def execCommitRollback (q : Req) (v : Word) (s : State) : Host.Outcome State Fault Refusal :=
  only q.wf s (s.lifeRow q v 3)
def execClearDegrade (q : Req) (v : Word) (s : State) : Host.Outcome State Fault Refusal :=
  only q.wf s (s.lifeRow q v 4)
def execHostWakeIn (s : State) : Host.Outcome State Fault Refusal :=
  only true s (hostWakeIn s)
def execWakeStart (dom : Nat) (s : State) : Host.Outcome State Fault Refusal :=
  only (domListed dom) s (wakeOrCast dom s)

end Sys2Proof.Machine
end

