-- ==== Sys2Proof/Machine/Clocks.lean ====
section
/-! DEFINITION. Clocks and wake sources (R57 to R63), the watchdog, the VBAT monitor (R84) and the thermal sensors (R86, R360). -/

namespace Sys2Proof.Machine

/-! ### Clocks (R58 to R61) -/

/-- What waited for a domain that kept its state while its clock was held goes on. -/
def State.unwait (s : State) (p : Nat → Bool) : State :=
  { s with holds := s.holds.filter fun h => !(p h.dom && (s.dom h.dom).st == .on && h.src == 12 && 0x7D ≤ h.who && h.who ≤ 0x7F) }

/-- PLL `pll` (0 to 7, CLK_STATUS bits 1 to 8) loses lock after its first. -/
def pllUnlock (pll : Nat) (s : State) : State :=
  let b := 1 + pll
  if !s.pwr.pllRun.testBit b ∨ !s.flag CLK_STATUS b then s
  else (({ s with pwr.pllHeld := s.pwr.pllHeld ||| 2 ^ b } : State).setFlag CLK_STATUS b false).irq 0x002 1

/-- A PLL regains lock. -/
def pllRelock (pll : Nat) (s : State) : State :=
  let b := 1 + pll
  if !s.pwr.pllHeld.testBit b ∨ !s.refoscOk then s
  else (({ s with pwr.pllHeld := s.pwr.pllHeld - 2 ^ b } : State).setFlag CLK_STATUS b true).unwait fun d => (domPlls d).contains b

/-- REFOSC fails while it runs. -/
def refoscFail (s : State) : State :=
  if !s.refoscOk then s
  else ((({ s with pwr.refBad := true } : State).setFlag CLK_STATUS 0 false).setFlag CLK_STATUS 9 true).irq 0x002 0

/-- Whether REFOSC is asked to run (R58); before step 5 of a cast-on it is not (R94), so neither where cast-on has ended after step
2 (R114), nor in a halt or a thermal hold. -/
def State.refoscAsked (s : State) : Bool :=
  (s.pwr.refBad || s.flag CLK_REFOSC_CTRL 0 || allDoms.any fun d => needsRefosc d && s.clocks d) &&
    (s.life.ready || (s.life.booting && 5 ≤ s.stepNow))

/-- REFOSC becomes OK. -/
def refoscResume (s : State) : State :=
  if s.refoscOk ∨ !s.refoscAsked then s else s.refoscOn.unwait needsRefosc

/-- The measured ratio of 1,024 AONCLK ticks (R61). -/
def tsRatio (ratio : Word) (s : State) : State := if s.refoscOk then s.setReg CLK_TS_RATIO ratio else s

/-- CLK_REFOSC_CTRL: without KEEP, REFOSC stops where no domain needs it. -/
def refoscCtrl (v : Word) (s : State) : State := (s.plainWrite CLK_REFOSC_CTRL v).clockStop

/-! ### Real-time counter, wake pins, watchdog (R57, R62, R63) -/

/-- RTC_ALARM. -/
def rtcAlarm (s : State) : State :=
  if s.reg64 AON_RTC_LO AON_RTC_HI = s.reg64 AON_RTC_ALARM_LO AON_RTC_ALARM_HI then (s.irq 0x006 0).wakeFires 0 else s

/-- A GPIO changes to its active level. -/
def gpioWake (edge : PinLevel) (s : State) : State :=
  if s.flag GPIO_WAKE_EN edge.pin ∧ s.flag GPIO_WAKE_POL edge.pin = edge.high then s.wakeFires 1 else s

/-- AON_WDT_CTRL: EN can only be set. -/
def wdtCtrl (v : Word) (s : State) : State :=
  s.setReg AON_WDT_CTRL (s.written AON_WDT_CTRL (setBit v 0 (bit v 0 || s.flag AON_WDT_CTRL 0)))

/-- AON_WDT_KICK. -/
def wdtKick (v : Word) (s : State) : State := if v = 0x4B1C then s.setReg AON_WDT_COUNT 0 else s

/-- The count passes half of its period. -/
def wdtHalf (s : State) : State :=
  if s.fld AON_WDT_CTRL 31 16 * 16 < (s.reg AON_WDT_COUNT).toNat then s.irq 0x006 1 else s

/-- The count reaches its period: Adsel is frogged by a warm cast-on (R63, R101); the count starts again. -/
def wdtExpiry (s : State) : State :=
  if !s.flag AON_WDT_CTRL 0 ∨ (s.dom 1).st ≠ .on ∨ (s.reg AON_WDT_COUNT).toNat < s.fld AON_WDT_CTRL 31 16 * 32 then s
  else (s.resetMeetsStep.setReg AON_WDT_COUNT 0).castWarm 3

/-! ### VBAT (R84) -/

/-- A VBAT sample; the second below 2.7 V takes the device to OFF. -/
def vbatSample (mv : Nat) (s : State) : State :=
  let low := decide (mv < s.fld VR_VBAT_LOW 12 0)
  let s := (s.setReg VR_VBAT (word (min mv 0x1FFF))).setFlag VR_STATUS 28 low
  let n := if mv < 2700 then s.cap.brown + 1 else 0
  let s : State := { s with cap := { s.cap with vbat := if low then 4 else 7, brown := n } }
  let s := if low then s.irq 0x003 0 else s
  if 2 ≤ n then { s with pwr.chipOff := true } else s

/-! ### Thermal sensors (R86) -/

/-- The DRAM's refresh factor (R360): up at a step, down HYST below it; temperatures in 0.25 degree units. -/
def refreshFactor (t s1 s2 hyst : Int) (was : Nat) : Nat :=
  if s2 ≤ t ∨ (was = 2 ∧ s2 - hyst < t) then 2 else if s1 ≤ t ∨ (1 ≤ was ∧ s1 - hyst < t) then 1 else 0

/-- TS_DRAM sets the factor while the DRAM is ON. -/
def State.dramRefresh (s : State) (t : Int) : State :=
  if (s.dom 10).st ≠ .on then s
  else
    let c (hi lo : Nat) : Int := (4 * s.fld DRAMC_REFRESH_CFG hi lo : Nat)
    let was := s.fld DRAMC_STATUS 17 16
    let new := refreshFactor t (c 7 0) (c 15 8) (c 19 16) was
    if new = was then s else (s.setFld DRAMC_STATUS 17 16 new).irq 0x032 1

/-- A thermal shutdown: every domain but AON is reset, the cause is recorded, the chip is held in DORMANT. -/
def State.thermalOff (s : State) : State :=
  let s := (s.resetMeetsStep.warmReset).setFld LIFE_LINE 19 16 4
  { s with cap := { s.cap with hot := true, ovr := List.replicate 9 0 } }

/-- A sensor's sample, in 0.25 degree units (R86). Sensors 6 and 8 set IRQ_RAW bit 2 at each crossing (DESIGN CHOICE, log entry 83). -/
def thermalSample (i : Nat) (temp : Int) (s : State) : State :=
  let t := clampS 12 temp
  let was := s.tempHigh i
  let s := s.setFld (CAP_TS i) 11 0 (ofInt t).toNat
  let s := if !s.cap.seen.contains i || decide (signed 12 (s.fld (CAP_TS_MAX i) 11 0) < t) then
      (({ s with cap.seen := i :: s.cap.seen.filter (· != i) } : State)).setFld (CAP_TS_MAX i) 11 0 (ofInt t).toNat
    else s
  let s := if (i = 6 ∨ i = 8) ∧ !was ∧ s.tempHigh i then s.irq 0x004 2 else s
  let s := if i = 5 then s.dramRefresh t else s
  let s := if s.tempThr i 1 < t then
      ({ s with cap := { s.cap with therm := [0, 0, 0, 0], critical := true } } : State).irq 0x004 3
    else if (List.range 9).all s.tempCool then { s with cap.critical := false }
    else s
  let n := if s.tempThr i 2 < t then s.cap.ovr.getD i 0 + 1 else 0
  let s : State := { s with cap.ovr := s.cap.ovr.set i n }
  if 2 ≤ n ∧ !s.cap.hot then s.thermalOff else s

/-- THERMAL_RESTART: TS_AON is cool again. -/
def thermalRestart (s : State) : State :=
  if !s.cap.hot ∨ !s.tempCool 8 then s else ({ s with cap.hot := false } : State).attempt 4 true

/-! ### Meanings -/

def execPllUnlock (pll : Nat) (s : State) : Host.Outcome State Fault Refusal :=
  only (decide (pll < 8)) s (pllUnlock pll s)
def execPllRelock (pll : Nat) (s : State) : Host.Outcome State Fault Refusal :=
  only (decide (pll < 8)) s (pllRelock pll s)
def execRefoscFail (s : State) : Host.Outcome State Fault Refusal :=
  only true s (refoscFail s)
def execRefoscResume (s : State) : Host.Outcome State Fault Refusal :=
  only true s (refoscResume s)
def execTsRatioUpdate (ratio : Word) (s : State) : Host.Outcome State Fault Refusal :=
  only true s (tsRatio ratio s)
def execRtcAlarm (s : State) : Host.Outcome State Fault Refusal :=
  only true s (rtcAlarm s)
def execGpioWake (edge : PinLevel) (s : State) : Host.Outcome State Fault Refusal :=
  only (decide (edge.pin < 24)) s (gpioWake edge s)
def execWdtKick (q : Req) (v : Word) (s : State) : Host.Outcome State Fault Refusal :=
  only q.wf s (s.writeVia q AON_WDT_KICK v (wdtKick v))
def execWdtHalf (s : State) : Host.Outcome State Fault Refusal :=
  only true s (wdtHalf s)
def execWdtExpiry (s : State) : Host.Outcome State Fault Refusal :=
  only true s (wdtExpiry s)
def execVbatSample (mv : Nat) (s : State) : Host.Outcome State Fault Refusal :=
  only true s (vbatSample mv s)
def execThermalSample (sensor : Nat) (temp : Int) (s : State) : Host.Outcome State Fault Refusal :=
  only (decide (sensor < 9)) s (s.heldIdle 0x004 (thermalSample sensor temp s))
def execThermalRestart (s : State) : Host.Outcome State Fault Refusal :=
  only true s (thermalRestart s)

end Sys2Proof.Machine
end

