-- ==== Sys2Proof/Machine/Adsel.lean ====
section
/-! DEFINITION. What Adsel does (R110 to R137): its commands' effects, tenants, T2 regions, the lifecycle and its fuses, debug
levels and unlock, the supervision of the scheduler, its start outside cast-on. -/

namespace Sys2Proof.Machine

/-- How a command's work stands: none while it goes on, else STATUS and, where Table 6.9 gives one, RESULT. -/
abbrev AdselEnd := Option (Nat × Option Nat)

/-- Adsel reads a buffer (none while a wake is awaited): the code and the bytes. -/
def State.adselRead (s : State) (a n : Nat) : Option (Nat × List Byte) × State :=
  match s.memRead ⟨6, 0, 0⟩ a n with
  | (0x100, _, s) => (none, s.hold 12 0x7E (memDomain a).1)
  | (c, bs, s) => (some (c, bs), s)

/-! ### Challenges and debug levels (R127, R131) -/

/-- The default debug level of a lifecycle (Table 6.6). -/
def defaultLevel (lc : Nat) : Nat := if lc = 0 then 2 else 0

/-- Capability K (Table 6.6): challenges and responses, in PROVISIONED, FIELD and RETURNED. -/
def State.capK (s : State) : Bool := decide (1 ≤ s.lifecycle ∧ s.lifecycle ≤ 3)

/-- Capability B (Table 6.6): boundary scan, at level OPEN and in BLANK and SCRAPPED. -/
def State.capB (s : State) : Bool := s.debugLevel == 2 || s.lifecycle == 0 || s.lifecycle == 4

/-- The live nonce is gone. -/
def State.challengeClear (s : State) : State :=
  ((List.range 8).foldl (fun s i => s.setReg (ADSEL_DBG_NONCE i) 0) s).setFlag ADSEL_STATUS 17 false

/-- A new nonce is live. -/
def State.challengeNew (s : State) : State :=
  let (n, s) := s.fresh
  let s := (List.range 8).foldl (fun s i =>
    s.setReg (ADSEL_DBG_NONCE i) (word (leNat ((List.range 4).map fun j => Config.challengeNonce n (4 * i + j))))) s
  ({ s with adsel.challengeAt := s.now } : State).setFlag ADSEL_STATUS 17 true

/-- CHALLENGE_EXPIRY: 10 s after the nonce was drawn. -/
def challengeExpiry (s : State) : State :=
  if !s.flag ADSEL_STATUS 17 ∨ s.now < s.adsel.challengeAt + 384000000 then s else s.challengeClear

/-- The live nonce. -/
def State.nonce (s : State) : List Byte := (List.range 8).flatMap fun i => leBytes 4 (s.reg (ADSEL_DBG_NONCE i)).toNat

/-- The debug level becomes `l`; what a lower level does not allow ends (R444). -/
def State.setLevel (s : State) (l : Nat) : State :=
  let old := s.debugLevel
  let s := s.setFld ADSEL_STATUS 5 4 l
  if l < old then s.dbgFall else s

/-! ### Tokens (R127, R128) -/

/-- The fused digest a KEY_ID names: for an unlock, or for a lifecycle token. -/
def State.tokenKey (s : State) (unlock : Bool) (key : Nat) : Option (List Byte) :=
  if key = 0 then some (s.debugKey 0)
  else if unlock then (if key = 1 ∧ s.fuse 2699 2316 ≠ 0 then some (s.debugKey 1) else none)
  else if 4 ≤ key ∧ key ≤ 7 ∧ !s.keyRevoked (key - 4) then some (s.imgKey (key - 4)) else none

/-- Whether a 208-byte image holds a token of its type, well formed, whose key and signature are good for the live nonce. -/
def State.tokenOk (s : State) (unlock : Bool) (img : List Byte) : Bool :=
  let key := slice img 112 96
  let text : List Byte := [0x54, 0x48, 0x34, if unlock then 0x55 else 0x4C]
  slice img 0 1 == [if unlock then 0xD1 else 0xD3] &&
    s.tokenKey unlock (leNat (slice img 2 1)) == some (leBytes 48 (Config.sha384 key).toNat) &&
    Config.ecdsaVerify key (text ++ leBytes 8 s.serial ++ s.nonce ++ slice img 1 2) (slice img 0x10 96)

/-- Whether the lifecycle allows an unlock's TARGET for its key (Table 6.6). -/
def levelAllowed (lc target key : Nat) : Bool :=
  (target == 1 || target == 2) &&
    (match lc with
      | 1 => true
      | 2 => target == 1 || key == 0
      | 3 => key == 0
      | _ => false)

/-! ### Certificates (R124) -/

/-- GET_CERT. -/
def State.getCert (s : State) (t : Nat) (c : AdselCmd) : AdselEnd × State :=
  match s.adselRead c.addr 32 with
  | (none, s) => (none, s)
  | (some (0, nonce), s) =>
    let chain := s.adsel.chain ++ s.tenantCert t (some nonce)
    if c.len < 0x20 + chain.length then (some (0x15, some (0x20 + chain.length)), s)
    else
      let (code, s) := s.unitWrite ⟨6, 0, 0⟩ (c.addr + 0x20) chain
      (some (code, if code = 0 then some chain.length else none), s)
  | (some (code, _), s) => (some (code, none), s)

/-! ### T2 regions (R122, R123) -/

/-- REGION_ADD, of the range as it was judged. -/
def State.regionAdd (s : State) (t : Nat) (c : AdselCmd) : AdselEnd × State :=
  let base := leNat (slice c.range 0 8)
  let last := leNat (slice c.range 8 8)
  let first := base / 0x100000
  let limit := last / 0x100000 - 1
  if s.poisonIn c.addr 16 then (some (8, none), s)
  else if !regionWf base last then (some (0x10, none), s)
  else if s.adsel.regions.any fun e => e.2.valid && decide (e.2.base ≤ limit ∧ first ≤ e.2.limit) then (some (0x12, none), s)
  else match (List.range 16).find? fun i => !(s.xtsRegion i).valid with
    | none => (some (0x13, none), s)
    | some i => match s.freeKey with
      | none => (some (0x14, none), s)
      | some k =>
        if !s.flag ADSEL_STATUS 9 then (some (0x19, none), s)
        else
          let r : Region := ⟨first, limit, k, t, true, s.fld (ADSEL_T_INFO t) 15 0⟩
          let s := (s.newKey k 3 t).regionCrypt r true
          (some (0, some i), { s with adsel.regions := s.adsel.regions.set (fun _ => {}) i r })

/-- REGION_DEL: the owner then reads the stored ciphertext. -/
def State.regionDel (s : State) (c : AdselCmd) : AdselEnd × State :=
  let i := bits c.cmd 15 8
  let r := s.xtsRegion i
  let s := (s.regionCrypt r false).dropKey r.slot
  (some (0, none), { s with adsel.regions := s.adsel.regions.set (fun _ => {}) i {} })

/-! ### Tenants (R115 to R117, R348) -/

/-- The lowest run of `n` FREE granules of a tier that a grant may take. -/
def State.grantRun (s : State) (tier n : Nat) : Option Nat :=
  let size := if tier = 1 then 4096 else tierSize tier
  (List.range (size + 1 - n)).find? fun b => s.rangeFree tier b (b + n - 1)

/-- Grant the skeins of a list of tiers and granule counts; none where one cannot be met. -/
def State.grant (t : Nat) : List (Nat × Nat) → State → Option State
  | [], s => some s
  | (tier, n) :: l, s =>
    if n = 0 then State.grant t l s
    else match s.grantRun tier n, s.freeSkein with
      | some b, some k => State.grant t l (s.createSkein k { tenant := t, tier := tier, base := b, limit := b + n - 1 })
      | _, _ => none

/-- The page numbers a descriptor lists. -/
def descPages (d : List Byte) : List Nat := (List.range (leNat (slice d 2 1))).map fun i => leNat (slice d (8 + 2 * i) 2)

/-- Whether a tenant descriptor is well formed: reserved bytes zero, pages that INSTANTIATE may assign (R116). -/
def tenantDescOk (d : List Byte) : Bool :=
  let zero (o n : Nat) : Bool := leNat (slice d o n) == 0
  let count := leNat (slice d 2 1)
  decide (count ≤ 16) && zero 3 5 && zero 0x34 12 && zero 0x70 16 && zero (8 + 2 * count) (32 - 2 * count) &&
    (descPages d).all fun p => (0x040 ≤ p && p ≤ 0x05A && p != 0x04C) && pageListed p

/-- INSTANTIATE; its end waits until the pages it lists have drained (R117). -/
def State.instantiate (s : State) (c : AdselCmd) : AdselEnd × State :=
  match s.adselRead c.addr 128 with
  | (none, s) => (none, s)
  | (some (0, d), s) =>
    let lc := s.fld ADSEL_STATUS 2 0
    let t := leNat (slice d 0 1)
    if lc = 0 ∨ lc = 3 ∨ lc = 4 then (some (0x18, none), s)
    else if s.debugLevel = 2 then (some (0x1B, none), s)
    else if t = 0 ∨ 7 < t ∨ c.addr % 64 ≠ 0 ∨ c.len < 128 then (some (0x10, none), s)
    else if s.tenantActive t ∨ s.flag ADSEL_TENANTS (8 + t) then (some (0x11, none), s)
    else if !tenantDescOk d then (some (0x10, none), s)
    else if (descPages d).any fun p => s.pageOwner p != 0 then (some (0x1A, none), s)
    else if !(descPages d).all s.pageDrained then (none, s)
    else match State.grant t [(0, ceilDiv (leNat (slice d 0x28 4)) 4), (1, ceilDiv (leNat (slice d 0x2C 4)) 4),
        (2, 16 * leNat (slice d 0x30 4))] s with
      | none => (some (6, none), s)
      | some s =>
        let s := (descPages d).foldl (fun s p => (s.pageReset p).setFld (PAGE_OWNER p) 2 0 t) s
        let gen := (s.fld (ADSEL_T_INFO t) 15 0 + 1) % 0x10000
        let flags := leNat (slice d 1 1)
        let s := (s.setFld (ADSEL_T_INFO t) 15 0 gen).setTenant t
          { consent := flags.testBit 0, hostBound := flags.testBit 1, measurement := leBytes 48 (Config.sha384 d).toNat
            pages := descPages d, codeDigest := slice d 0x40 48 }
        (some (0, some gen), s.setFlag ADSEL_TENANTS t true)
  | (some (code, _), s) => (some (code, none), s)

/-! ### The lifecycle (R112, R113) -/

/-- Whether Table 6.2 has the transition, and whether a signer key (not the service key) authorises it. -/
def lcTransition (lc target : Nat) : Option Bool :=
  if lc = 1 ∧ target = 2 then some true
  else if lc = 2 ∧ target = 3 then some false
  else if 1 ≤ lc ∧ lc ≤ 3 ∧ target = 4 then some false
  else none

/-- The fuse bits of an advance to a lifecycle: for SCRAPPED every UDS bit, then copy 1, then copy 0 (R112). -/
def State.lcBits (s : State) (target : Nat) : List Nat :=
  ((if target = 4 then List.range 384 else []) ++ (List.range target).map (388 + ·) ++ (List.range target).map (384 + ·)).filter
    fun i => !s.fuses.map.testBit i

/-- `s` with fuse bits of an Adsel command waiting to be blown. -/
def State.burn (s : State) (is : List Nat) : State := { s with life.fuseQ := s.life.fuseQ ++ is.map fun i => (i, 2) }

/-- LC_ADVANCE: the token is evaluated against the live nonce, which it consumes; then the fuses blow. -/
def State.lcAdvance (s : State) (t : Nat) (c : AdselCmd) : AdselEnd × State :=
  match s.adselRead c.addr 208 with
  | (none, s) => (none, s)
  | (some (0, img), s) =>
    let target := bits c.cmd 15 8
    let key := leNat (slice img 2 1)
    match lcTransition (s.fld ADSEL_STATUS 2 0) target with
    | none => (some (0x18, none), s)
    | some signer =>
      let ok := s.flag ADSEL_STATUS 17 && s.tokenOk false img && leNat (slice img 1 1) == target && (signer == decide (4 ≤ key))
      let s := s.challengeClear
      if !ok then (some (0x16, none), s)
      else
        let s := if 3 ≤ target then s.teardownAll else s
        (none, (s.burn (s.lcBits target)).setAdselCmd t (some { c with kind := 5 }))
  | (some (code, _), s) => (some (code, none), s)

/-- The last fuse bit of an Adsel command has blown: the lifecycle is what the copies say, and the level what it allows; a
LC_ADVANCE ends. -/
def State.lcDone (s : State) : State :=
  let old := s.fld ADSEL_STATUS 2 0
  let lc := s.lifecycle
  let s := if lc = old then s else (s.setFld ADSEL_STATUS 2 0 lc).irq 0x010 3
  let s := if lc ≠ old ∧ (old = 0 ∨ lc = 4) then s.setLevel 0 else s
  let s := if lc = 4 then ({ (s.dropKey 0).dropKey 1 with adsel.chain := [] } : State).setFlag ADSEL_STATUS 10 false else s
  match s.adsel.serving with
  | none => s
  | some t => match s.adselCmd t with
    | some c => if c.kind = 5 then s.adselEnd t c 0 none else s
    | none => s

/-- FUSE_BLOW_DONE: the next bit follows, or what waited for the last: COMMIT_ROLLBACK, or an Adsel command. -/
def fuseBlowDone (s : State) : State :=
  match s.life.fuseQ with
  | [] => s
  | (i, k) :: rest =>
    if !s.domOn 1 then s
    else
      let s : State := { s.blow i with life.fuseQ := rest }
      if rest.any fun e => e.2 == k then s
      else if k = 1 then s.irq 0x005 1
      else s.lcDone

/-- The positions of the ones of a number, from a fuse bit up. -/
def fuseBits (lo n v : Nat) : List Nat := (setPositions n v).map (lo + ·)

/-- PROVISION, in BLANK once cast-on has ended (R113, R114): UDS from the TRNG (kept where an earlier PROVISION has blown it),
the key digests and SERIAL are blown, the DeviceID public key leaves by the TAP; where the certificate's key matches it, the
certificate becomes calibration tag 0x10, and DEVID_DIGEST and the lifecycle are blown. -/
def provision (p : Provision) (s : State) : State :=
  if s.lifecycle ≠ 0 ∨ !s.life.ended ∨ !s.domOn 1 ∨ s.life.fuseQ.any (fun e => e.2 == 2) ∨
      !(p.imgKeys.map List.length == [48, 48, 48, 48] && p.svc.length == 48 && p.integ.length == 48) then s
  else
    let (uds, s) := if s.fuse 383 0 ≠ 0 then (BitVec.ofNat 384 (s.fuse 383 0), s) else
      let (n, s) := s.fresh
      (Config.deviceSecret n, s)
    let s := s.burn (fuseBits 0 384 uds.toNat ++ (p.imgKeys.zipIdx.flatMap fun (k, i) => fuseBits (392 + 384 * i) 384 (leNat k)) ++
      fuseBits 1932 384 (leNat p.svc) ++ fuseBits 2316 384 (leNat p.integ) ++ fuseBits 3468 64 p.serial)
    let s := s.emit (.bus 0x10 (Config.deviceKey uds.toNat))
    if Config.certificateKey p.certificate ≠ Config.deviceKey uds.toNat then s
    else (s.calWrite 0x10 p.certificate).burn (fuseBits 3084 384 (Config.sha384 p.certificate).toNat ++ s.lcBits 1)

/-! ### The commands' ends (R139) -/

/-- What the work of window `t`'s command does when it ends. -/
def State.adselWork (s : State) (t : Nat) (c : AdselCmd) : AdselEnd × State :=
  let param := bits c.cmd 15 8
  match bits c.cmd 7 0 with
  | 0x01 => s.getCert t c
  | 0x02 => s.regionAdd t c
  | 0x03 => s.regionDel c
  | 0x10 => s.instantiate c
  | 0x11 =>
    if param = 0 ∨ 7 < param then (some (0x10, none), s)
    else if s.adsel.teardown.contains param then (none, s) else (some (0, none), s)
  | 0x20 => (some (0, none), s.challengeNew)
  | 0x21 =>
    if !s.flag ADSEL_STATUS 9 then (some (0x19, none), s)
    else (some (0, none), (s.setLevel (defaultLevel (s.fld ADSEL_STATUS 2 0))).aliasIssue)
  | 0x30 => s.lcAdvance t c
  | _ => (none, s)

/-- ADSEL_COMMAND_DONE of window `t`: the served command's work ends. -/
def adselDone (t : Nat) (s : State) : State :=
  if s.adsel.serving ≠ some t ∨ !s.adselUp then s
  else match s.adselCmd t with
    | none => s
    | some c =>
      if c.kind = 4 then s.adselEnd t c 5 none
      else if c.kind ≠ 1 then s
      else match s.adselWork t c with
        | (none, s) => s
        | (some (code, result), s) => s.adselEnd t c code result

/-- TRNG_HEALTH_FAIL (R119). -/
def trngFail (s : State) : State := if s.domOn 1 then (s.setFlag ADSEL_STATUS 9 false).irq 0x010 4 else s

/-! ### Unlock (R127 to R130) -/

/-- UNLOCK_MESSAGE: Adsel takes the message in mailbox 63's slot; its read of word 15 frees the slot. -/
def unlockMessage (s : State) : State :=
  if !s.adselUp ∨ !s.flag (MBX_RX_STAT 63) 0 then s
  else
    let m := (List.range 16).flatMap fun w => leBytes 4 (s.reg (MBX_SLOT 63 w)).toNat
    let s : State := { mbxSlotRead 63 s with resp := s.resp }
    let k := leNat (slice m 1 1)
    let data := m.drop 4
    let set (img : List Byte) (n : Nat) : State := { s with adsel := { s.adsel with image := img, next := n } }
    if slice m 0 1 ≠ [0xD5] ∨ slice m 2 2 ≠ [0, 0] then set [] 0
    else if k ≠ s.adsel.next then (if k = 0 then set data 1 else set [] 0)
    else if k < 3 then set (s.adsel.image ++ data) (k + 1)
    else { set [] 0 with adsel.mbxResp := some ((s.adsel.image ++ data).take 208) }

/-- A challenge the TAP has asked for: refused while unlock is locked (R130). -/
def State.tapServe (s : State) : State :=
  if !s.adsel.tapChallenge ∨ !s.adselUp then s
  else
    let s : State := { s with adsel.tapChallenge := false }
    if s.flag ADSEL_STATUS 16 then s.logRefusal ⟨6, 0x3F, 0⟩ 0 true 12 else s.challengeNew

/-- Why the response completed in a tick is refused (R129, R134); none where it unlocks. -/
def State.unlockReason (s : State) (both : Bool) (img : List Byte) : Option Nat :=
  if both then some 11
  else if s.flag ADSEL_STATUS 16 then some 12
  else if !s.flag ADSEL_STATUS 17 then some 9
  else if !s.tokenOk true img then some 8
  else if !levelAllowed (s.fld ADSEL_STATUS 2 0) (leNat (slice img 1 1)) (leNat (slice img 2 1)) then some 10
  else none

/-- A tick with a refused response adds one to UNLOCK_FAILS; at 5 unlock is locked (R130). -/
def State.unlockFail (s : State) : State :=
  let n := s.fld ADSEL_STATUS 14 12
  let s := s.setFld ADSEL_STATUS 14 12 (min 7 (n + 1))
  if 5 ≤ n + 1 then s.setFlag ADSEL_STATUS 16 true else s

/-- UNLOCK_SAMPLE_TICK: both inputs are sampled; what they hold is evaluated and consumes the challenge. -/
def unlockSample (s : State) : State :=
  if !s.adselUp then s
  else
    let s := s.tapServe
    let rs := [s.adsel.mbxResp, s.adsel.tapResp].filterMap id
    match rs with
    | [] => s
    | img :: more =>
      let s : State := { s with adsel := { s.adsel with mbxResp := none, tapResp := none } }
      match s.unlockReason (!more.isEmpty) img with
      | some r =>
        let s := (((rs.foldl (fun s _ => s.logRefusal ⟨6, 0x3F, 0⟩ 0 true r) s).challengeClear).unlockFail)
        { s with adsel.posts := s.adsel.posts ++ [(s.now, none)] }
      | none =>
        let l := leNat (slice img 1 1)
        let s := s.challengeClear
        let s := if l = 2 then s.teardownAll else s
        { s with adsel.posts := s.adsel.posts ++ [(s.now, some l)] }

/-- Whether an outcome is due, 8 ms after its tick. -/
def State.postDue (s : State) (p : Nat × Option Nat) : Bool := decide (p.1 + 307200 ≤ s.now)

/-- UNLOCK_RESULT_POST: the oldest outcome that is due; OPEN waits until tenants 1 to 7 are gone, and holds up no other. -/
def unlockPost (s : State) : State :=
  if !s.adselUp then s
  else
    let s := if s.adsel.posts.any fun p => s.postDue p && p.2 == some 2 then s.teardownAll else s
    match s.adsel.posts.find? fun p => s.postDue p && (p.2 != some 2 || s.adsel.teardown.isEmpty) with
    | none => s
    | some p =>
      let s : State := { s with adsel.posts := s.adsel.posts.erase p }
      match p.2 with
      | none => (s.setFld (ADSEL_T_STAT 0) 15 8 0x17).irq 0x010 2
      | some l =>
        let s := if l = 2 then s.sessionsEnd else s
        let s := if l = s.debugLevel then s else (s.setLevel l).aliasIssue
        s.irq 0x010 2

/-! ### Supervision (R136) -/

/-- Whether Adsel supervises the scheduler now. -/
def State.supervised (s : State) : Bool := s.adselUp && s.flag ADSEL_SUPV 16 && s.domOn 2

/-- SCH_HEARTBEAT_TIMEOUT: SCH_TMO microseconds without a heartbeat while a job is admitted. -/
def heartbeatTimeout (s : State) : State :=
  if !s.supervised ∨ s.openSlots.isEmpty ∨ 10 * (s.now - s.sch.beatAt) < 384 * s.fld ADSEL_SUPV 15 0 then s else s.schedFrog 1

/-- SCH_INTERNAL_FAULT. -/
def internalFault (s : State) : State := if s.supervised then s.schedFrog 2 else s

/-! ### Start outside cast-on (R137) -/

/-- ADSEL_START: SEC is ON again after OFF, and the ROM runs. -/
def adselStart (s : State) : State :=
  if !s.domOn 1 ∨ !s.life.ready ∨ s.flag ADSEL_STATUS 8 ∨ s.adsel.starting then s
  else ({ s with adsel.starting := true } : State).romStart

/-- ADSEL_START_DONE: the ROM has verified the active slot (R97, R98): a check that fails, like a failure `r` reports, is a failure
of step 4; else the firmware runs. -/
def adselStartDone (r : StepResult) (s : State) : State :=
  if !s.adsel.starting ∨ !s.domOn 1 then s
  else match s.imageCheck s.slot, r with
    | some c, _ => s.stepFail 4 c s.slot
    | none, .failed c d => s.stepFail 4 c d
    | none, .done => s.adselReady.teardownRun

/-! ### Meanings -/

def execFuseBlowDone (s : State) : Host.Outcome State Fault Refusal :=
  only true s (fuseBlowDone s)
def execProvision (p : Provision) (s : State) : Host.Outcome State Fault Refusal :=
  only true s (provision p s)
def execAdselCommandDone (ten : Nat) (s : State) : Host.Outcome State Fault Refusal :=
  only (decide (ten < 8)) s (adselDone ten s)
def execTrngHealthFail (s : State) : Host.Outcome State Fault Refusal :=
  only true s (trngFail s)
def execChallengeExpiry (s : State) : Host.Outcome State Fault Refusal :=
  only true s (challengeExpiry s)
def execUnlockMessage (s : State) : Host.Outcome State Fault Refusal :=
  only true s (unlockMessage s)
def execUnlockSampleTick (s : State) : Host.Outcome State Fault Refusal :=
  only true s (unlockSample s)
def execUnlockResultPost (s : State) : Host.Outcome State Fault Refusal :=
  only true s (unlockPost s)
def execSchHeartbeatTimeout (s : State) : Host.Outcome State Fault Refusal :=
  only true s (heartbeatTimeout s)
def execSchInternalFault (s : State) : Host.Outcome State Fault Refusal :=
  only true s (internalFault s)
def execAdselStart (s : State) : Host.Outcome State Fault Refusal :=
  only true s (adselStart s)
def execAdselStartDone (r : StepResult) (s : State) : Host.Outcome State Fault Refusal :=
  only true s (adselStartDone r s)

end Sys2Proof.Machine
end

