-- ==== Sys2Proof/Machine/Bus.lean ====
section
/-! DEFINITION. The register fabric (R24 to R33): what a read of a register returns, what a write of one does, and the accesses
that use them: a plain write, the rows of the common block, stalled accesses, the host's BAR0, a tile's global loads and stores. -/

namespace Sys2Proof.Machine

/-! ### Reads -/

/-- The high and low words of a 64-bit value. -/
def half (v : Nat) (hi : Bool) : Word := word (if hi then v / 0x100000000 else v)

/-- A register of the common block (Tables 2.3 and 2.4). -/
def State.commonView (s : State) (p off : Nat) : Word :=
  match off with
  | 0x000 => pageId p
  | 0x004 => 1
  | 0x008 => s.reg (PAGE_CTRL p) &&& 5
  | 0x00C => word ((s.pageBusy p).toNat + 2 * s.pageDomCode (pageDom p) + 8 * s.fld (PAGE_STATUS p) 3 3 + 0x10 * (s.locked p).toNat)
  | 0x010 => s.reg (IRQ_RAW p)
  | 0x014 => s.reg (IRQ_MASK p)
  | 0x018 => s.reg (IRQ_RAW p) &&& s.reg (IRQ_MASK p)
  | 0x020 => s.reg (ERR_CODE p)
  | 0x024 => s.reg (ERR_INFO p)
  | 0x028 => s.reg (PAGE_LOCK p)
  | 0x02C => s.reg (PAGE_OWNER p)
  | _ => 0

/-- A MEM page register that shows other state (Table 17.5). -/
def State.memView (s : State) (off : Nat) : Option Word :=
  let t := (off - 0x400) / 0x40
  let o := (off - 0x400) % 0x40
  match off with
  | 0x100 => some s.memStatus
  | 0x104 => some (word (s.freeCount 0))
  | 0x108 => some (word (s.freeCount 1))
  | 0x10C => some (word (s.freeCount 2))
  | 0x110 => some (word s.wipePend)
  | 0x144 => some (word (s.ownOf (gran (s.fld MEM_OWN_SEL 19 18) (s.fld MEM_OWN_SEL 17 0))))
  | _ =>
    if 0x124 ≤ off ∧ off < 0x134 then some (skeinWord (s.skein (s.fld MEM_SKEIN_SEL 5 0)) ((off - 0x124) / 4))
    else if 0x400 ≤ off ∧ off < 0x600 ∧ 0x20 ≤ o ∧ o < 0x2C then some (word (s.tenHeld t ((o - 0x20) / 4)).1)
    else if 0x400 ≤ off ∧ off < 0x600 ∧ 0x2C ≤ o ∧ o < 0x38 then some (word (s.tenHeld t ((o - 0x2C) / 4)).2)
    else none

/-- A SCH page register that shows other state (Table 18.4). -/
def State.schView (s : State) (off : Nat) : Option Word :=
  let t := (off - 0x400) / 0x40
  match off with
  | 0x104 => some s.schStatus
  | 0x10C => some (half s.schTiles false)
  | 0x110 => some (half s.schTiles true)
  | 0x114 => some (setBits (s.reg SCH_SB) 8 0 s.sch.sb.length)
  | _ =>
    if 0x400 ≤ off ∧ off < 0x600 ∧ off % 0x40 = 0x14 then some (s.jobStat t)
    else if 0x400 ≤ off ∧ off < 0x600 ∧ off % 0x40 = 0x18 then some (s.jobProj t)
    else none

/-- A RING page register that shows other state (Table 20.4). -/
def State.ringView (s : State) (off : Nat) : Option Word :=
  let t := (off - 0x400) / 0x40
  if 0x200 ≤ off ∧ off < 0x300 ∧ off % 0x20 = 0x14 then some (s.ringStat ((off - 0x200) / 0x20))
  else if 0x400 ≤ off ∧ off < 0x600 then
    match off % 0x40 with
    | 0x08 => some (word (s.rseqNext t))
    | 0x0C => some (s.ringStat t)
    | 0x10 => some (word (s.rlog.mseq.getD t 0))
    | _ => none
  else none

/-- A HOST page register that shows other state (Table 19.7). -/
def State.hostView (s : State) (off : Nat) : Option Word :=
  let t := (off - 0x400) / 0x40
  if 0x400 ≤ off ∧ off < 0x600 then
    match off % 0x40 with
    | 0x04 => some (s.bncStat t)
    | 0x08 => some (word ((s.binding t).map (·.seqIn) |>.getD 0))
    | 0x0C => some (word ((s.binding t).map (·.seqOut) |>.getD 0))
    | _ => none
  else none

/-- An ADSEL_PUB register that shows other state (Tables 6.7 and 6.8). -/
def State.adselView (s : State) (off : Nat) : Option Word :=
  let t := (off - 0x400) / 0x40
  if off = 0x10C then some (word s.keysFree)
  else if 0x400 ≤ off ∧ off < 0x600 ∧ off % 0x40 = 0x18 then
    let held := ((List.range 30).filter fun k => (s.keySlot (2 + k)).kind != 0 && (s.keySlot (2 + k)).tenant == t).length
    some (setBits (setBit (s.reg (ADSEL_T_INFO t)) 16 (s.tenantActive t)) 28 24 held)
  else none

/-- A DBG page register that shows other state (Table 21.4): the energy of a tenant that is not visible reads zero. -/
def State.dbgView (s : State) (off : Nat) : Option Word :=
  if off = 0x100 then some (word (s.debugLevel + 4 * (s.dbg.scan && s.capB).toNat))
  else if 0x200 ≤ off ∧ off < 0x240 then
    let t := (off - 0x200) / 8
    some (if s.dbgSees t then half (s.dbg.energy.getD t 0 / 720720000000000) (off % 8 == 4) else 0)
  else none

/-- A tile page register that shows other state (Tables 11.8 and 12.6). -/
def State.tileView (s : State) (t off : Nat) : Option Word :=
  match off with
  | 0x118 => some (word (s.evt t))
  | 0x120 => some (s.dmaStat t)
  | 0x404 => some (s.meshStat t)
  | _ => none

/-- A mailbox page register that shows other state (Table 10.3). -/
def State.mbxView (s : State) (q : Req) (p off : Nat) : Option Word :=
  if 0x900 ≤ off ∧ off < 0xA00 ∧ off % 0x10 = 4 then some (s.mbxTxStat q (16 * (p - 0x020) + (off - 0x900) / 0x10))
  else if 0xA00 ≤ off ∧ off < 0xB00 ∧ off % 0x10 = 8 then some (s.mbxRxStat (16 * (p - 0x020) + (off - 0xA00) / 0x10))
  else none

/-- Registers of the AON pages that show other state: GLB, PWR and CLK. Unused indices show 0b11 (DESIGN CHOICE, log entry 81). -/
def State.aonView (s : State) (p off : Nat) : Option Word :=
  match p, off with
  | 0x000, 0x100 => some (setBits (s.reg GLB_CHIP_ID) 7 0 s.fuses.grade)
  | 0x002, 0x110 => some (half s.now false)
  | 0x002, 0x114 => some (half s.now true)
  | 0x002, 0x11C => some (word (s.fuses.aonTrim % 256))
  | _, _ =>
    if p = 0x001 ∧ 0x110 ≤ off ∧ off < 0x128 then
      some (word ((List.range 16).foldl (fun a i =>
        let d := 16 * ((off - 0x110) / 4) + i
        a + (if domListed d then s.domCode d else 3) * 4 ^ i) 0))
    else if p = 0x001 ∧ 0x800 ≤ off ∧ off < 0x980 ∧ domListed ((off - 0x800) / 4) then some (s.domStat ((off - 0x800) / 4))
    else none

/-- A register from 0x100 up that shows state kept elsewhere; none where the register holds its own value. -/
def State.shown (s : State) (q : Req) (p off : Nat) : Option Word :=
  if p < 0x010 then s.aonView p off
  else if 0x020 ≤ p ∧ p ≤ 0x023 then s.mbxView q p off
  else if 0x100 ≤ p ∧ p < 0x140 then s.tileView (p - 0x100) off
  else if 0x200 ≤ p then
    (match off with
      | 0x104 => some (s.scValue (s.scSel (p - 0x200)))
      | 0x108 => some (s.scConfig (s.scSel (p - 0x200)))
      | _ => none)
  else match p with
    | 0x010 => s.adselView off
    | 0x018 => s.dbgView off
    | 0x028 => s.schView off
    | 0x029 =>
      let t := (off - 0x400) / 0x40
      let o := (off - 0x400) % 0x40
      if off < 0x400 then none
      else if 4 ≤ o ∧ o < 0x14 then some (s.rowView t ((o - 4) / 4))
      else if o = 0x1C then some (s.rowStat t)
      else none
    | 0x030 => s.memView off
    | 0x031 => if off = 0x100 then
        some (word ((List.range 8).foldl (fun a t => a + if s.cacheOn t then 2 ^ t else 0) 0 + 0x100 * (!s.mem.flushing.isEmpty).toNat))
      else none
    | 0x038 => s.hostView off
    | 0x040 => if off = 0x104 then some s.audStatus else none
    | 0x03A => s.ringView off
    | 0x03B =>
      if off = 0x100 then some (word s.rlog.epoch)
      else if 0x400 ≤ off ∧ 4 ≤ off % 0x40 ∧ off % 0x40 < 0x24 then some (s.rowView' ((off - 0x400) / 0x40) ((off % 0x40 - 4) / 4))
      else none
    | 0x04D => if off = 0x10C then some (s.i3cStat 0) else none
    | 0x04E => if off = 0x10C then some (s.i3cStat 1) else none
    | 0x058 => if off = 0x104 then some (s.hookStatus 0) else none
    | 0x059 => if off = 0x104 then some (s.hookStatus 1) else none
    | 0x05A => if off = 0x104 then some s.voxStatus else none
    | 0x05B => if off = 0x100 then some s.stateStatus else none
    | _ => none

/-- Whether a register counts clock cycles or flits, which the model leaves open: TILE_CYCLE, MESH_PERF_STALL, and a DBG_PMC whose
selector names such an event. -/
def State.openReg (s : State) (p off : Nat) : Bool :=
  (0x100 ≤ p && p < 0x140 && off == 0x11C) || (p == 0x060 && off == 0x118) ||
    (p == 0x018 && 0x180 ≤ off && off < 0x200 && (off % 0x10 == 4 || off % 0x10 == 8) &&
      [0x01, 0x03, 0x04, 0x05, 0x0B].contains (s.fld (DBG_PMC_SEL ((off - 0x180) / 0x10)) 7 0))

/-- Whether a block refuses the read of a register that its window shows: a row outside the tenant's range (R381), a counter a
tenant owns (R276). -/
def State.readRefused (s : State) (q : Req) (p off : Nat) : Bool :=
  (p == 0x029 && 0x404 ≤ off && ((4 ≤ off % 0x40 && off % 0x40 < 0x14) || off % 0x40 == 0x1C) && s.rowRefused ((off - 0x400) / 0x40)) ||
    (0x200 ≤ p && (off == 0x104 || off == 0x108) && q.cls != 6 && scOwner (s.scConfig (s.scSel (p - 0x200))) != 0)

/-- A read that the checks of R29 have let through: its value, and what reading does. -/
def regRead (q : Req) (k : Nat) (s : State) : State :=
  let p := keyPage k
  let off := keyOff k
  if off < 0x100 then
    let s' := s.answer 0 [s.commonView p off]
    if off = 0x020 then s'.setReg (ERR_CODE p) 0 else s'
  else if s.readRefused q p off then s.refuse q (regBase + k) false 1
  else if s.openReg p off then
    let (n, s) := s.fresh
    s.answer 0 [Config.cycles n]
  else if 0x020 ≤ p ∧ p ≤ 0x023 ∧ 0x500 ≤ off ∧ off < 0x900 ∧ off % 0x40 = 0x3C then mbxSlotRead (16 * (p - 0x020) + (off - 0x500) / 0x40) s
  else if k = DBG_REG_DATA then dbgRegData q false 0 s
  else if k = I3C_FIFO 0 then i3cFifoRead 0 s
  else if k = I3C_FIFO 1 then i3cFifoRead 1 s
  else
    let s := (s.answer 0 [(s.shown q p off).getD (s.reg k)]).readClear k
    if p = 0x004 ∧ 0x208 ≤ off ∧ off < 0x298 ∧ off % 0x10 = 8 then { s with cap.seen := s.cap.seen.filter (· != (off - 0x208) / 0x10) } else s

/-! ### Writes -/

/-- PAGE_LOCK: the page is locked, and the fabric keeps a copy of its RWL fields (R27). -/
def State.pageLock (s : State) (p : Nat) : State :=
  let s := s.setFlag (PAGE_LOCK p) 0 true
  (rwlKeys p).foldl (fun s e => { s with rwl := s.rwl.set (fun _ => 0) e.1 (s.reg e.1 &&& word e.2) }) s

/-- IRQ_CLR: a 1 clears its bit of IRQ_RAW; bit 31 the timeout's latch with it (R25), and a cascade's bit 3 the suppression it
shows. -/
def State.irqClear (s : State) (p : Nat) (v : Word) : State :=
  let s := s.setReg (IRQ_RAW p) (s.reg (IRQ_RAW p) &&& ~~~v)
  let s := if bit v 31 then s.setFlag (PAGE_STATUS p) 3 false else s
  if p = 0x007 ∧ bit v 3 then s.setReg CASC_STATUS (setBit (s.reg CASC_STATUS) 8 false) else s

/-- PAGE_CTRL: ENABLE and WAKE_ON_ACCESS unless the page is locked, and SOFT_RESET. -/
def State.pageCtrl (s : State) (p : Nat) (v : Word) : State :=
  if s.locked p then s
  else
    let s := (s.setReg (PAGE_CTRL p) (v &&& 5)).mbxEnabled p
    if bit v 1 then s.softReset p else s

/-- A write to the common block by `q`; PAGE_OWNER.TENANT takes Adsel's writes only (Table 2.4). -/
def State.commonWrite (s : State) (q : Req) (p off : Nat) (v : Word) : State :=
  match off with
  | 0x008 => s.pageCtrl p v
  | 0x014 => s.setReg (IRQ_MASK p) v
  | 0x01C => s.irqClear p v
  | 0x028 => if bit v 0 then s.pageLock p else s
  | 0x02C => if q.cls = 6 ∧ !isDebug q then s.setFld (PAGE_OWNER p) 2 0 v.toNat else s
  | _ => s

/-- Writes to the pages of the AON controller, the rails and the cascade. -/
def aonWrite (q : Req) (k : Nat) (v : Word) (s : State) : State :=
  let p := keyPage k
  let off := keyOff k
  if p = 0x005 then lifeWrite q k v s
  else if p = 0x004 ∧ 0x400 ≤ off ∧ off < 0x580 ∧ (off % 0x20 = 0 ∨ off % 0x20 = 4) then
    capLimitWrite ((off - 0x400) / 0x20) (off % 0x20 == 4) v s
  else if p = 0x007 ∧ 0x120 ≤ off ∧ off < 0x140 then cascScoreIn ((off - 0x120) / 4) v s
  else if p = 0x007 ∧ 0x200 ≤ off ∧ off < 0x280 then descWrite q k v s
  else match p, off with
    | 0x001, 0x104 => chipSleep v s
    | 0x001, 0x140 => wgtRetain k v s
    | 0x001, 0x144 => wgtRetain k v s
    | 0x002, 0x104 => refoscCtrl v s
    | 0x003, 0x10C => vrFaultClear v s
    | 0x003, 0x110 => ldoCtrlWrite v s
    | 0x006, 0x110 => (List.range 64).foldl State.mbxWake (s.plainWrite k v)
    | 0x006, 0x180 => wdtCtrl v s
    | 0x006, 0x184 => wdtKick v s
    | 0x007, 0x108 => cascCommand v s
    | 0x008, 0x118 => aieLoad v s
    | _, _ => s.plainWrite k v

/-- Writes to the mailbox pages. -/
def mbxWrite (q : Req) (k : Nat) (v : Word) (s : State) : State :=
  let off := keyOff k
  let i := 16 * (keyPage k - 0x020)
  if 0x100 ≤ off ∧ off < 0x500 then mbxSend q (i + (off - 0x100) / 0x40) (off % 0x40 / 4) v s
  else if 0x900 ≤ off ∧ off < 0xA00 ∧ off % 0x10 = 0 then mbxRing (i + (off - 0x900) / 0x10) v s
  else if 0xA00 ≤ off ∧ off < 0xB00 ∧ off % 0x10 = 0 then mbxPendClear (i + (off - 0xA00) / 0x10) v s
  else if 0xA00 ≤ off ∧ off < 0xB00 ∧ off % 0x10 = 4 then mbxMask (i + (off - 0xA00) / 0x10) v s
  else if 0xB00 ≤ off ∧ off < 0xC00 ∧ off % 0x10 = 0 then mbxCfgWrite (i + (off - 0xB00) / 0x10) v s
  else if 0xB00 ≤ off ∧ off < 0xC00 ∧ off % 0x10 = 4 then mbxSendersWrite (i + (off - 0xB00) / 0x10) v s
  else s.plainWrite k v

/-- Writes to the DBG page. -/
def dbgWrite (q : Req) (k : Nat) (v : Word) (s : State) : State :=
  let off := keyOff k
  if 0x180 ≤ off ∧ off < 0x200 ∧ off % 0x10 = 0 then pmcSel ((off - 0x180) / 0x10) v s
  else match off with
    | 0x104 => (dbgTiles false v).foldl State.haltAsk s
    | 0x108 => (dbgTiles true v).foldl State.haltAsk s
    | 0x10C => (dbgTiles false v).foldl State.resume s
    | 0x110 => (dbgTiles true v).foldl State.resume s
    | 0x114 => dbgStep v s
    | 0x124 => dbgRegData q true v s
    | 0x140 => traceCfg v s
    | _ => s.plainWrite k v

/-- Writes to the pages of the scheduler, memory, the host link and the rings. -/
def coreWrite (q : Req) (k : Nat) (v : Word) (s : State) : State :=
  let p := keyPage k
  let off := keyOff k
  let t := (off - 0x400) / 0x40
  let o := if 0x400 ≤ off ∧ off < 0x600 then some (off % 0x40) else none
  match p with
  | 0x028 =>
    if off = 0x128 then schFlipCmd v s
    else if o = some 0 then schSubmit t v s
    else if o = some 0xC then schCancel t v s
    else s.plainWrite k v
  | 0x029 =>
    if off = 0x100 then rptCfg v s
    else if off = 0x104 then rptPeriodWrite q v s
    else if 0x140 ≤ off ∧ off < 0x160 then rptRange q ((off - 0x140) / 4) v s
    else if o.any fun o => 4 ≤ o && o < 0x14 then rptRowWrite q t ((off % 0x40 - 4) / 4) v s
    else if o = some 0x14 then rptCommit t v s
    else s.plainWrite k v
  | 0x030 =>
    if off = 0x134 then skeinCmd v s
    else if o = some 0 then memCommand q t v s
    else s.plainWrite k v
  | 0x031 => if 0x140 ≤ off ∧ off < 0x180 then poolConfig q ((off - 0x140) / 8) (off % 8 == 4) v s else s.plainWrite k v
  | 0x038 =>
    if off = 0x108 then hostHs v s
    else if o = some 0 then bncSubmit q t v s
    else if 0x800 ≤ off ∧ off < 0xA00 then (s.plainWrite k v).msixFlush
    else s.plainWrite k v
  | 0x03A =>
    if 0x200 ≤ off ∧ off < 0x300 ∧ off % 0x20 = 0 then ringCfg q ((off - 0x200) / 0x20) v s
    else if o = some 0 then ringDb q t v s
    else if o = some 4 then ringResyncWrite t v s
    else s.plainWrite k v
  | 0x03B => if 0x140 ≤ off ∧ off < 0x160 then rowlogPart q ((off - 0x140) / 4) v s else s.plainWrite k v
  | _ => s.plainWrite k v

/-- Writes to the STRM page: the "stopped" fields of a window only while its stream is STOPPED (R183). -/
def strmWrite (q : Req) (k : Nat) (v : Word) (s : State) : State :=
  let off := keyOff k
  let st := (off - 0x400) / 0x40
  if off = 0x104 then strmHvOwner v s
  else if 0x400 ≤ off ∧ off < 0x800 then
    match off % 0x40 with
    | 0x00 => strmCommand q st v s
    | 0x08 => s.stoppedWrite q st k v
    | 0x0C => s.stoppedWrite q st k v
    | 0x10 => s.stoppedWrite q st k v
    | 0x14 => strmBufCfg q st v s
    | 0x18 => strmSwSeqWrite q st v s
    | _ => s.plainWrite k v
  else s.plainWrite k v

/-- Writes to the pages of audio, cameras, displays, streams, buses and engines. -/
def mediaWrite (q : Req) (k : Nat) (v : Word) (s : State) : State :=
  let p := keyPage k
  let off := keyOff k
  if 0x044 ≤ p ∧ p ≤ 0x049 then csiWrite q k v s
  else match p with
    | 0x040 => audWrite q k v s
    | 0x04C => strmWrite q k v s
    | 0x050 => if off = 0x100 then spiCfg v s else if off = 0x104 then spiXfer v s else s.plainWrite k v
    | 0x05A =>
      if off = 0x100 then voxQueue q v s else if off = 0x114 then (if bit v 0 then voxCancel s else s) else s.plainWrite k v
    | 0x05B =>
      if 0x400 ≤ off ∧ off < 0x800 ∧ off % 0x80 = 0 then stateCommand ((off - 0x400) / 0x80) v s
      else if 0x400 ≤ off ∧ off < 0x800 ∧ off % 0x80 = 0x1C then stateSubmit q ((off - 0x400) / 0x80) v s
      else s.plainWrite k v
    | _ =>
      if p = 0x04A ∨ p = 0x04B then
        (if 0x200 ≤ off ∧ off < 0x300 ∧ off % 0x40 = 0x38 then layerSubmit q (p - 0x04A) ((off - 0x200) / 0x40) v s
        else if off = 0x12C then dsiDcs (p - 0x04A) v s
        else dsiWrite q k v s)
      else if p = 0x04F then gpioWrite k v s
      else if p = 0x04E ∧ 0x140 ≤ off then s
      else if p = 0x04D ∨ p = 0x04E then
        (if off = 0x104 then i3cCommand (p - 0x04D) v s else if off = 0x108 then i3cFifoWrite (p - 0x04D) v s else s.plainWrite k v)
      else if p = 0x058 ∨ p = 0x059 then
        (if off = 0x100 then hookQueue q (p - 0x058) v s
        else if off = 0x114 then (if bit v 0 then hookCancel (p - 0x058) s else s)
        else s.plainWrite k v)
      else s.plainWrite k v

/-- Writes to a tile's page or its counter pages. -/
def tileWrite (q : Req) (k : Nat) (v : Word) (s : State) : State :=
  let p := keyPage k
  let off := keyOff k
  if 0x200 ≤ p then (if off = 0x10C then scPage q (p - 0x200) v s else s.plainWrite k v)
  else match off with
    | 0x128 => tileCtrl q (p - 0x100) v (s.holder (p - 0x100)).isSome s
    | 0x12C => imemSegWrite (p - 0x100) v s
    | 0x300 => wgtCommand q (p - 0x100) v s
    | _ => s.plainWrite k v

/-- A write that the checks of R29 have let through. -/
def regWrite (q : Req) (k : Nat) (v : Word) (s : State) : State :=
  let p := keyPage k
  let off := keyOff k
  if off < 0x100 then s.commonWrite q p off v
  else if p < 0x010 then aonWrite q k v s
  else if p = 0x010 then (if 0x400 ≤ off ∧ off < 0x600 ∧ off % 0x40 = 0 then adselCommand q ((off - 0x400) / 0x40) v s else s.plainWrite k v)
  else if p = 0x018 then dbgWrite q k v s
  else if p < 0x024 then mbxWrite q k v s
  else if p < 0x040 then coreWrite q k v s
  else if p < 0x060 then mediaWrite q k v s
  else if 0x100 ≤ p then tileWrite q k v s
  else s.plainWrite k v

/-! ### Accesses -/

/-- Whether `q` may access a range outside the register pages (R19, R22, R346, R393); none where a byte of it is unmapped. -/
def State.mayAccess (s : State) (q : Req) (a n : Nat) (wr : Bool) : Option Bool :=
  if isRom a ∧ isRom (a + n - 1) then some (!wr && (q.cls == 6 || q.tenant == 0))
  else if isCimWin a ∧ isCimWin (a + n - 1) then some (!wr || s.wgtOk q a n)
  else if isOutbound a ∧ isOutbound (a + n - 1) then some (s.outPermitted q.tenant a n)
  else if (granulesOf a n).isNone then none
  else if barred q a n then some false
  else s.rangeOk q wr a n

/-- An access outside the register pages: decode, permission, alignment, the accesses that wait for its domain (R29, R33), then
`act`. A host TLP may have any length and alignment (R391). -/
def State.memAccess (s : State) (own : Option Nat) (q : Req) (a n : Nat) (wr : Bool) (v : Nat) (act : State → State) : State :=
  match s.mayAccess q a (max n 1) wr with
  | none => s.refuse q a wr 0
  | some false => s.refuse q a wr (if isRom a ∨ isOutbound a ∨ barred q a (max n 1) then 1 else 4)
  | some true =>
    if !naturallyAligned a n && q.cls != 2 then s.answer 3 [0]
    else
      let (d, p) := s.memNeeds q a n
      if s.queued own d then s.turnedAway own q a n wr v p d (fun c => (s.powerFail a c wr q).answer c [0]) else act s

/-- What a read of memory answers. -/
def memLoad (q : Req) (a n : Nat) (s : State) : State :=
  if isOutbound a then
    match s.hostRead q (if isDebug q then 2 else 0) q.index a n with
    | (0x100, s) => s.stallAt q a n false 0 9
    | (c, s) => s.answer c [0]
  else match s.memRead q a n with
    | (0x100, _, s) => s.stallAt q a n false 0 (s.memNeeds q a n).1
    | (0, d, s) => s.answer 0 ((List.range (ceilDiv n 4)).map fun i => word (leNat (slice d (4 * i) 4)))
    | (c, _, s) => s.answer c [0]

/-- What a write of memory answers. -/
def memSave (q : Req) (a n : Nat) (v : Nat) (s : State) : State :=
  let bs := leBytes n v
  if isOutbound a then
    match s.hostWrite q a bs with
    | (0x100, s) => s.stallAt q a n true v 9
    | (c, s) => s.answer c
  else match s.store q a bs with
    | (0x100, s) => s.stallAt q a n true v (s.memNeeds q a n).1
    | (c, s) => s.answer c

/-- Whether an access leaves its tile by the AON side path (R260): to an AON page or to AON SRAM. -/
def bySidePath (a : Nat) : Bool :=
  (match regAddr a with
    | some k => pageDom (keyPage k) == 0
    | none => false) || (0x10000000 ≤ a && a < 0x10040000)

/-- Whether an access of a tile crosses the mesh (R259): its target is neither on the side path nor its own memory. -/
def viaMesh (q : Req) (a : Nat) : Bool :=
  decide (q.cls ≤ 1) && !bySidePath a && !ownSpad q.index a && !(isCimWin a && (a - 0x60000000) / 0x100000 == q.index)

/-- A read of `n` bytes at any address; one that has waited for domain `own` is at the head of its queue. -/
def State.busReadNow (s : State) (own : Option Nat) (q : Req) (a n : Nat) : State :=
  if viaMesh q a && !s.domOn 3 then (if s.lapsed 3 then s.answer 4 [0] else s.stallAt q a n false 0 3)
  else match regAddr a with
  | some k => s.regAccessNow own q k n false 0 (regRead q k)
  | none => s.memAccess own q a n false 0 (memLoad q a n)

/-- A write of `n` bytes at any address. -/
def State.busWriteNow (s : State) (own : Option Nat) (q : Req) (a n v : Nat) : State :=
  if viaMesh q a && !s.domOn 3 then (if s.lapsed 3 then s.answer 4 [0] else s.stallAt q a n true v 3)
  else match regAddr a with
  | some k => s.regAccessNow own q k n true v fun s => regWrite q k (word v) (s.answer 0)
  | none => s.memAccess own q a n true v (memSave q a n v)

/-- A read behind an earlier access of its requester that is stalled (R33), or now. -/
def State.busRead (s : State) (q : Req) (a n : Nat) : State :=
  match s.heldBack q with
  | some e => s.standBehind q a n false 0 e
  | none => s.busReadNow none q a n

/-- A write behind an earlier access of its requester that is stalled (R33), or now. -/
def State.busWrite (s : State) (q : Req) (a n v : Nat) : State :=
  match s.heldBack q with
  | some e => s.standBehind q a n true v e
  | none => s.busWriteNow none q a n v

/-- Whether a waiting access may go on: one that waits for a domain once the domain is ON, one that stood behind another of its
requester once that has ended. -/
def State.stallReady (s : State) (e : Stall) : Bool :=
  if e.behind then s.stalls.find? (fun f => sameReq f.q e.q) == some e else s.domOn e.dom

/-- An access that has to wait again, newest in the list, comes before what stands behind it. -/
def stallsReplace (l : List Stall) : List Stall :=
  match l.getLast? with
  | none => l
  | some x =>
    let rest := l.dropLast
    rest.takeWhile (fun f => !sameReq f.q x.q) ++ x :: rest.dropWhile fun f => !sameReq f.q x.q

/-- A BAR2 write as it is checked (R29, R391): the bytes its enables name, all or none. -/
def State.bar2Write (s : State) (own : Option Nat) (q : Req) (h : HostTlp) : State :=
  let a := 0x100000000 + h.offset
  let runs := byteRuns a h.data
  match runs with
  | [] => s.answer 0
  | (lo, _) :: _ =>
    let n := (runs.getLast?.map fun r => r.1 + r.2.length).getD lo - lo
    let wait (wake : Bool) : State :=
      let t := s.stallAt q a h.data.length true 0 10 wake
      { t with stalls := t.stalls.dropLast ++ (t.stalls.getLast?.map fun e => { e with tlp := some h }).toList }
    let (d, p) := s.memNeeds q lo n
    if s.rangeOk q true lo n ≠ some true then s.refuse q a true 4
    else if s.memServed d && !s.queued own d then
      (match s.takeGrans q true ((granulesOf lo n).getD []) with
        | .error c => s.answer c
        | .ok s => (runs.foldl (fun s r => s.deposit q r.1 r.2 h.ep) s).answer 0)
    else if s.flag (PAGE_CTRL p) 2 then (if s.lapsed d then (s.powerFail a 4 true q).answer 4 else wait true)
    else if s.queued own d then wait false
    else (s.capture a 2 true q).answer 2

/-- STALLED_ACCESS_COMPLETE: the oldest access that waits on domain `d` and may go on completes (R33). One that waited for the domain
completes there; one that stood behind another access of its requester is checked now (R29). -/
def stalledComplete (d : Nat) (s : State) : State :=
  match s.stalls.find? fun e => e.dom == d && s.stallReady e with
  | none => s
  | some e =>
    let s : State := { s with stalls := s.stalls.erase e }
    let own := if e.behind then none else some d
    let s := match e.tlp with
      | some h => s.bar2Write own e.q h
      | none => if e.wr then s.busWriteNow own e.q e.addr e.size e.data else s.busReadNow own e.q e.addr e.size
    if s.resp.code = 0x100 then { s with stalls := stallsReplace s.stalls }
    else if s.resp.code = 0x102 then s.stallRelease e
    else (s.stallTell e s.resp.code s.resp.data).stallRelease e

/-! ### The host (R391, R392) -/

/-- HOST_BAR0_REQUEST: a single-DW request with all four byte enables; anything else is BAD_ALIGN. -/
def hostBar0 (h : HostTlp) (s : State) : State :=
  let a := 0x80000000 + h.offset
  if !s.linkUp ∨ 0x1000000 ≤ h.offset then s
  else match s.hostTenant h true with
    | none => s.refuse (hostReq 0) a h.write 1
    | some t =>
      let q := hostReq t
      let n := if h.write then h.data.length else h.len
      if n ≠ 4 ∨ h.offset % 4 ≠ 0 ∨ (h.write ∧ h.data.any Option.isNone) then
        (if h.write then s.busWrite q a 0 0 else s.busRead q a 0)
      else if h.write then s.busWrite q a 4 (leNat (h.data.map (·.getD 0)))
      else s.busRead q a 4

/-- A BAR2 TLP: one access to the DRAM (R391), behind earlier ones of the host that wait (R33). -/
def hostBar2 (h : HostTlp) (s : State) : State :=
  let n := if h.write then h.data.length else h.len
  let a := 0x100000000 + h.offset
  if !s.linkUp ∨ n = 0 ∨ 0x200000000 < h.offset + n then s
  else match s.hostTenant h false with
    | none => s.refuse (hostReq 0) a h.write 1
    | some t =>
      let q := hostReq t
      if h.write then
        match s.heldBack q with
        | some e =>
          let t := s.standBehind q a n true 0 e
          { t with stalls := t.stalls.dropLast ++ (t.stalls.getLast?.map fun e => { e with tlp := some h }).toList }
        | none => s.bar2Write none q h
      else s.busRead q a n

/-! ### Refused accesses (R31) -/

/-- REFUSED_COMPLETION: an access of one word that is refused completes; nothing where it is not refused. -/
def refusedCompletion (q : Req) (a : Nat) (wr : Bool) (s : State) : State :=
  let t := if wr then s.busWrite q a 4 0 else s.busRead q a 4
  if t.resp.code = 1 then t else s

/-! ### Global loads and stores (R231) -/

/-- Where an LDG or STG goes: 40 bits from g(a) and g(a + 1), plus the signed offset. -/
def State.globalAddr (s : State) (t : Nat) (w : Word) : Nat :=
  let x := s.tile t
  let base := (x.gr (fa w)).toNat + 0x100000000 * ((x.gr (fa w + 1)).toNat % 256)
  (((base : Int) + signed 15 (bits w 14 0)) % 2 ^ 40).toNat

/-- Whether format G's a is even and not zero. -/
def globalOk (w : Word) : Bool := fa w != 0 && fa w % 2 == 0

/-- The side path has granted tile `t` an access (R260): the turn goes to the next tile number (R35). -/
def State.sideTurn (s : State) (t a : Nat) : State :=
  if bySidePath a then { s with ptrs := s.ptrs.set (fun _ => 0) 0x102 ((t + 1) % 64) } else s

/-- Whether an LDG or STG must wait at its port (R258, R259). -/
def State.globalWaits (s : State) (t a : Nat) : Bool := viaMesh (s.tileReq t) a && (s.fenced t || s.portBehind t a)

/-- LDG: with its code at once, or the S slot waits for it. -/
def sLdg (t : Nat) (w : Word) (s : State) : SRes :=
  let f := bit w 15
  if !globalOk w then .illegal s
  else if s.globalWaits t (s.globalAddr t w) then { s := s, stall := true }
  else
    let s := (s.busRead (s.tileReq t) (s.globalAddr t w) 4).sideTurn t (s.globalAddr t w)
    match s.resp.code with
    | 0x101 => { s := s, stall := true }
    | 0x100 => { s := s, dst := some (fd w), await := some ⟨0, fd w, f⟩ }
    | 0x102 => { s := s, dst := some (fd w), await := some ⟨0, fd w, f⟩ }
    | c =>
      if f ∧ c = 8 then .bad s 0x08
      else if f ∧ c ≠ 0 then .bad s 0x13 c
      else
        let s := if f then s else s.setTile t ((s.tile t).lastCode c)
        .reg s (fd w) (if c = 0 then s.resp.data.headD 0 else 0)

/-- STG: posted; its code comes later. -/
def sStg (t : Nat) (w : Word) (s : State) : SRes :=
  let f := bit w 15
  let pc := s.tilePc t / 8 * 8
  if !globalOk w then .illegal s
  else if s.globalWaits t (s.globalAddr t w) then { s := s, stall := true }
  else
    let s := (s.busWrite (s.tileReq t) (s.globalAddr t w) 4 ((s.tile t).gr (fd w)).toNat).sideTurn t (s.globalAddr t w)
    if s.resp.code = 0x100 then { s := s.setTile t { s.tile t with stg := (s.tile t).stg ++ [(f, pc)] } }
    else { s := s, posted := some (f, s.resp.code) }

/-! ### Meanings -/

def execRegisterWrite (q : Req) (addr : Nat) (size : Nat) (v : Word) (s : State) : Host.Outcome State Fault Refusal :=
  only q.wf s (s.busWrite q addr size v.toNat)
def execErrCodeRead (q : Req) (page : Nat) (s : State) : Host.Outcome State Fault Refusal :=
  only (q.wf && pageListed page) s (s.readVia q (ERR_CODE page) (regRead q (ERR_CODE page)))
def execIrqClr (q : Req) (page : Nat) (v : Word) (s : State) : Host.Outcome State Fault Refusal :=
  only (q.wf && pageListed page) s (s.writeVia q (IRQ_CLR page) v (regWrite q (IRQ_CLR page) v))
def execSoftReset (q : Req) (page : Nat) (v : Word) (s : State) : Host.Outcome State Fault Refusal :=
  only (q.wf && pageListed page) s (s.writeVia q (PAGE_CTRL page) (setBit v 1 true) (regWrite q (PAGE_CTRL page) (setBit v 1 true)))
def execPageLock (q : Req) (page : Nat) (v : Word) (s : State) : Host.Outcome State Fault Refusal :=
  only (q.wf && pageListed page) s (s.writeVia q (PAGE_LOCK page) (setBit v 0 true) (regWrite q (PAGE_LOCK page) (setBit v 0 true)))
def execStalledAccessComplete (dom : Nat) (s : State) : Host.Outcome State Fault Refusal :=
  only (domListed dom) s (stalledComplete dom s)
def execRefusedCompletion (q : Req) (addr : Nat) (wr : Bool) (s : State) : Host.Outcome State Fault Refusal :=
  only q.wf s (refusedCompletion q addr wr s)
def execHostBar0Request (h : HostTlp) (s : State) : Host.Outcome State Fault Refusal :=
  only true s (hostBar0 h s)
def execHostBar2Request (h : HostTlp) (s : State) : Host.Outcome State Fault Refusal :=
  only true s (hostBar2 h s)
def execLdg (t : Nat) (w : Word) (s : State) : Host.Outcome State Fault Refusal :=
  only (decide (t < 64)) s (s.issueS t w (opc w == 0x0C) (sLdg t w))
def execStg (t : Nat) (w : Word) (s : State) : Host.Outcome State Fault Refusal :=
  only (decide (t < 64)) s (s.issueS t w (opc w == 0x0D) (sStg t w))

end Sys2Proof.Machine
end

