-- ==== Sys2Proof/Machine/Tap.lean ====
section
/-! DEFINITION. The test access port (R429 to R434): its instructions, each with the data register access it is for, and reset. -/

namespace Sys2Proof.Machine

/-- IDCODE's value (R430): version 2, part 0x5404, manufacturer 0x3FC, bit 0 set. -/
def idcode : Nat := 0x254047F9

/-- Update-IR of `code`: the chain keeps the pads only where `scan` says that the new instruction controls them (R432); what
the selected data register captures. -/
def State.tapIr (s : State) (code : Nat) (scan highz : Bool) (captured : Nat) : State :=
  { s with dbg := { s.dbg with ir := code, scan := scan, highz := highz, shift := captured } }

/-- An instruction that selects the 1-bit bypass register and has no other effect (R431). -/
def State.tapBypass (s : State) (code : Nat) : State := s.tapIr code false false 0

/-- A list of bits as a number, the first lowest. -/
def bitsNat (l : List Bool) : Nat := l.foldr (fun b a => b.toNat + 2 * a) 0

/-- TAP_RESET: IDCODE is the current instruction, the pads return to their blocks. -/
def tapReset (s : State) : State := s.tapIr 0x02 false false 0

/-- EXTEST: at capability B the boundary chain controls the pads. -/
def tapExtest (s : State) : State := if s.capB then s.tapIr 0x00 true false s.dbg.shift else s.tapBypass 0x00

/-- CLAMP or HIGHZ: at capability B the boundary chain controls the pads. -/
def tapScan (code : Nat) (highz : Bool) (s : State) : State :=
  if s.capB then s.tapIr code true highz 0 else s.tapBypass code

/-- A scan of the boundary chain, which captures the pads and whose update stage takes what is shifted in: under SAMPLE/PRELOAD, or
under the EXTEST that is current, which goes on controlling the pads. -/
def tapSample (pads : List Bool) (scan : BoundaryScan) (s : State) : State :=
  if s.capB then
    let s := if scan.extest ∧ s.dbg.scan ∧ s.dbg.ir = 0x00 then s.tapIr 0x00 true false (bitsNat pads) else s.tapIr 0x01 false false (bitsNat pads)
    { s with dbg.chain := scan.bits }
  else s.tapBypass 0x01

/-- DBG_CHALLENGE: Capture-DR returns the nonce, byte 0 first, and Update-DR requests a challenge, which wakes SEC (R133). -/
def tapChallenge (s : State) : State :=
  if s.capK then
    let s := s.tapIr 0x10 false false (leNat s.nonce)
    ({ s with adsel.tapChallenge := true } : State).requestSec.tapServe
  else s.tapBypass 0x10

/-- DBG_RESPONSE: Update-DR completes a response of 208 bytes, sampled in Adsel's tick (R129). -/
def tapResponse (image : List Byte) (s : State) : State :=
  if s.capK then
    let s := s.tapIr 0x11 false false 0
    let image := (image ++ List.replicate 208 0).take 208
    ({ s with adsel.tapResp := some image } : State).requestSec
  else s.tapBypass 0x11

/-- The debug port's requester (R434). -/
abbrev debugReq : Req := ⟨6, 0x3F, 0⟩

/-- The access of Update-DR (R434): its code, or 0xFF while it is in progress; a read's data stays for the next Capture-DR. -/
def tapAccessIssue (s : State) (a : Nat) (wr : Bool) (v : Nat) : State :=
  let s := if wr then s.busWrite debugReq a 4 v else s.busRead debugReq a 4
  if 0x100 ≤ s.resp.code then { s with dbg.accCode := 0xFF }
  else
    let data := if wr then s.dbg.accData else s.resp.data.headD 0
    { s with dbg := { s.dbg with accData := data, accCode := s.resp.code } }

/-- DBG_ACCESS: Capture-DR returns the last data and code, then Update-DR issues the access that was shifted in. -/
def tapAccess (v : BitVec 80) (s : State) : State :=
  if s.capH then
    let n := v.toNat
    let s := s.tapIr 0x20 false false (s.dbg.accData.toNat * 0x10000000000 + s.dbg.accCode * 0x1000000000000000000)
    if 2 ^ 73 ≤ n then s else tapAccessIssue s (n % 2 ^ 40) (n.testBit 72) (n / 2 ^ 40 % 2 ^ 32)
  else s.tapBypass 0x20

/-- Whether Table 21.1 gives a code a data register of its own at the present lifecycle and level. -/
def State.tapAllows (s : State) (code : Nat) : Bool :=
  match code with
  | 0x00 => s.capB
  | 0x01 => s.capB
  | 0x02 => true
  | 0x03 => s.capB
  | 0x04 => s.capB
  | 0x10 => s.capK
  | 0x11 => s.capK
  | 0x12 => true
  | 0x20 => s.capH
  | _ => false

/-- BYPASS: a code that Table 21.1 does not list, or one that is not allowed, selects the bypass register. -/
def tapOther (code : Nat) (s : State) : State := if s.tapAllows code then s else s.tapBypass code

/-! ### Meanings -/

def execTapReset (s : State) : Host.Outcome State Fault Refusal :=
  only true s (tapReset s)
def execExtest (s : State) : Host.Outcome State Fault Refusal :=
  only true s (tapExtest s)
def execSamplePreload (pads : List Bool) (scan : BoundaryScan) (s : State) : Host.Outcome State Fault Refusal :=
  only true s (tapSample pads scan s)
def execIdcode (s : State) : Host.Outcome State Fault Refusal :=
  only true s (s.tapIr 0x02 false false idcode)
def execClamp (s : State) : Host.Outcome State Fault Refusal :=
  only true s (tapScan 0x03 false s)
def execHighz (s : State) : Host.Outcome State Fault Refusal :=
  only true s (tapScan 0x04 true s)
def execTapDbgChallenge (s : State) : Host.Outcome State Fault Refusal :=
  only true s (tapChallenge s)
def execDbgResponse (image : List Byte) (s : State) : Host.Outcome State Fault Refusal :=
  only true s (tapResponse image s)
def execDbgStatus (s : State) : Host.Outcome State Fault Refusal :=
  only true s (s.tapIr 0x12 false false (s.reg ADSEL_STATUS).toNat)
def execDbgAccess (shift : BitVec 80) (s : State) : Host.Outcome State Fault Refusal :=
  only true s (tapAccess shift s)
def execBypass (code : Nat) (s : State) : Host.Outcome State Fault Refusal :=
  only true s (tapOther code s)

end Sys2Proof.Machine
end

