-- ==== Sys2Proof/Machine/Dispatch.lean ====
section
/-! DEFINITION. One arm per command: a direct call of its meaning. -/

namespace Sys2Proof.Machine

def exec (i : Instr) (s : State) : Host.Outcome State Fault Refusal :=
  match i with
  | .registerWrite q addr size v => Sys2Proof.Machine.execRegisterWrite q addr size v s
  | .errCodeRead q page => Sys2Proof.Machine.execErrCodeRead q page s
  | .irqClr q page v => Sys2Proof.Machine.execIrqClr q page v s
  | .softReset q page v => Sys2Proof.Machine.execSoftReset q page v s
  | .pageLock q page v => Sys2Proof.Machine.execPageLock q page v s
  | .refusedCompletion q addr wr => Sys2Proof.Machine.execRefusedCompletion q addr wr s
  | .stalledAccessComplete dom => Sys2Proof.Machine.execStalledAccessComplete dom s
  | .domCfgWrite q dom v => Sys2Proof.Machine.execDomCfgWrite q dom v s
  | .wakeStart dom => Sys2Proof.Machine.execWakeStart dom s
  | .tileWakeSlot quad => Sys2Proof.Machine.execTileWakeSlot quad s
  | .wakeStepReady dom => Sys2Proof.Machine.execWakeStepReady dom s
  | .wakeStepDelayExpiry dom ready => Sys2Proof.Machine.execWakeStepDelayExpiry dom ready s
  | .wakeTmoExpiry dom => Sys2Proof.Machine.execWakeTmoExpiry dom s
  | .idleTimerExpiry dom => Sys2Proof.Machine.execIdleTimerExpiry dom s
  | .entryStepDone dom => Sys2Proof.Machine.execEntryStepDone dom s
  | .chipSleepArm q v => Sys2Proof.Machine.execChipSleepArm q v s
  | .chipSleepCancel q v => Sys2Proof.Machine.execChipSleepCancel q v s
  | .chipSleepEntryStart => Sys2Proof.Machine.execChipSleepEntryStart s
  | .pllUnlock pll => Sys2Proof.Machine.execPllUnlock pll s
  | .pllRelock pll => Sys2Proof.Machine.execPllRelock pll s
  | .refoscFail => Sys2Proof.Machine.execRefoscFail s
  | .refoscResume => Sys2Proof.Machine.execRefoscResume s
  | .tsRatioUpdate ratio => Sys2Proof.Machine.execTsRatioUpdate ratio s
  | .rtcAlarm => Sys2Proof.Machine.execRtcAlarm s
  | .wdtKick q v => Sys2Proof.Machine.execWdtKick q v s
  | .wdtHalf => Sys2Proof.Machine.execWdtHalf s
  | .wdtExpiry => Sys2Proof.Machine.execWdtExpiry s
  | .gpioWake edge => Sys2Proof.Machine.execGpioWake edge s
  | .hostWakeIn => Sys2Proof.Machine.execHostWakeIn s
  | .meterSample rail code mv => Sys2Proof.Machine.execMeterSample rail code mv s
  | .hardFloorLift rail => Sys2Proof.Machine.execHardFloorLift rail s
  | .droopDetect quad mv => Sys2Proof.Machine.execDroopDetect quad mv s
  | .droopRelease quad => Sys2Proof.Machine.execDroopRelease quad s
  | .oppResolve => Sys2Proof.Machine.execOppResolve s
  | .oppSlewDone quad => Sys2Proof.Machine.execOppSlewDone quad s
  | .envelopeAllowanceStep => Sys2Proof.Machine.execEnvelopeAllowanceStep s
  | .skinAllowanceStep => Sys2Proof.Machine.execSkinAllowanceStep s
  | .vbatSample mv => Sys2Proof.Machine.execVbatSample mv s
  | .pgoodLoss rail => Sys2Proof.Machine.execPgoodLoss rail s
  | .thermalSample sensor temp => Sys2Proof.Machine.execThermalSample sensor temp s
  | .thermalAllowanceStep quad => Sys2Proof.Machine.execThermalAllowanceStep quad s
  | .thermalRestart => Sys2Proof.Machine.execThermalRestart s
  | .vrFaultClear q v => Sys2Proof.Machine.execVrFaultClear q v s
  | .ldoCtrlWrite q v => Sys2Proof.Machine.execLdoCtrlWrite q v s
  | .capLimitWrite q rail hard v => Sys2Proof.Machine.execCapLimitWrite q rail hard v s
  | .powerOn => Sys2Proof.Machine.execPowerOn s
  | .sysRstNPulse ns taken => Sys2Proof.Machine.execSysRstNPulse ns taken s
  | .castOnStepDone r => Sys2Proof.Machine.execCastOnStepDone r s
  | .stepTimeout => Sys2Proof.Machine.execStepTimeout s
  | .restartWarm q v => Sys2Proof.Machine.execRestartWarm q v s
  | .bindOff q v => Sys2Proof.Machine.execBindOff q v s
  | .bindOffStageDone => Sys2Proof.Machine.execBindOffStageDone s
  | .bindoffGraceExpiry => Sys2Proof.Machine.execBindoffGraceExpiry s
  | .commitRollback q v => Sys2Proof.Machine.execCommitRollback q v s
  | .fuseBlowDone => Sys2Proof.Machine.execFuseBlowDone s
  | .clearDegrade q v => Sys2Proof.Machine.execClearDegrade q v s
  | .provision p => Sys2Proof.Machine.execProvision p s
  | .getCert q v => Sys2Proof.Machine.execGetCert q v s
  | .regionAdd q v => Sys2Proof.Machine.execRegionAdd q v s
  | .regionDel q v => Sys2Proof.Machine.execRegionDel q v s
  | .instantiate q v => Sys2Proof.Machine.execInstantiate q v s
  | .teardown q v => Sys2Proof.Machine.execTeardown q v s
  | .teardownComplete ten => Sys2Proof.Machine.execTeardownComplete ten s
  | .dbgChallenge q v => Sys2Proof.Machine.execDbgChallenge q v s
  | .dbgRelock q v => Sys2Proof.Machine.execDbgRelock q v s
  | .lcAdvance q v => Sys2Proof.Machine.execLcAdvance q v s
  | .adselBadOpcode q v => Sys2Proof.Machine.execAdselBadOpcode q v s
  | .adselRefusalPost ten => Sys2Proof.Machine.execAdselRefusalPost ten s
  | .adselCommandDone ten => Sys2Proof.Machine.execAdselCommandDone ten s
  | .trngHealthFail => Sys2Proof.Machine.execTrngHealthFail s
  | .challengeExpiry => Sys2Proof.Machine.execChallengeExpiry s
  | .unlockMessage => Sys2Proof.Machine.execUnlockMessage s
  | .unlockSampleTick => Sys2Proof.Machine.execUnlockSampleTick s
  | .unlockResultPost => Sys2Proof.Machine.execUnlockResultPost s
  | .schHeartbeatTimeout => Sys2Proof.Machine.execSchHeartbeatTimeout s
  | .schInternalFault => Sys2Proof.Machine.execSchInternalFault s
  | .adselStart => Sys2Proof.Machine.execAdselStart s
  | .adselStartDone r => Sys2Proof.Machine.execAdselStartDone r s
  | .lpSample pdm => Sys2Proof.Machine.execLpSample pdm s
  | .hqFrame pdm => Sys2Proof.Machine.execHqFrame pdm s
  | .pdmRateChange => Sys2Proof.Machine.execPdmRateChange s
  | .settleEnd => Sys2Proof.Machine.execSettleEnd s
  | .audBeamCommit q v => Sys2Proof.Machine.execAudBeamCommit q v s
  | .save q v => Sys2Proof.Machine.execSave q v s
  | .calReload q v => Sys2Proof.Machine.execCalReload q v s
  | .spkSample i0 v0 i1 v1 => Sys2Proof.Machine.execSpkSample i0 v0 i1 v1 s
  | .spkMuteExpiry drv => Sys2Proof.Machine.execSpkMuteExpiry drv s
  | .spkPlimStep drv mw => Sys2Proof.Machine.execSpkPlimStep drv mw s
  | .spkThermal temp => Sys2Proof.Machine.execSpkThermal temp s
  | .csiLongPacket n vc dt ecc crcOk payload => Sys2Proof.Machine.execCsiLongPacket n vc dt ecc crcOk payload s
  | .csiFrameStart p => Sys2Proof.Machine.execCsiFrameStart p s
  | .csiFrameEnd p => Sys2Proof.Machine.execCsiFrameEnd p s
  | .ispLineDone n => Sys2Proof.Machine.execIspLineDone n s
  | .csiFrameTmo n => Sys2Proof.Machine.execCsiFrameTmo n s
  | .entdaa q n v => Sys2Proof.Machine.execEntdaa q n v s
  | .i3cWrite q n v => Sys2Proof.Machine.execI3cWrite q n v s
  | .i3cRead q n v => Sys2Proof.Machine.execI3cRead q n v s
  | .i3cCcc q n v => Sys2Proof.Machine.execI3cCcc q n v s
  | .i3cTransferDone n nack data => Sys2Proof.Machine.execI3cTransferDone n nack data s
  | .i3cIbi ibi => Sys2Proof.Machine.execI3cIbi ibi s
  | .i3cAutoPeriod k => Sys2Proof.Machine.execI3cAutoPeriod k s
  | .i3cAutoReadDone k data => Sys2Proof.Machine.execI3cAutoReadDone k data s
  | .gpioEdge pin rising => Sys2Proof.Machine.execGpioEdge pin rising s
  | .gpioFsyncPulse => Sys2Proof.Machine.execGpioFsyncPulse s
  | .spiXfer q v => Sys2Proof.Machine.execSpiXfer q v s
  | .spiDone data => Sys2Proof.Machine.execSpiDone data s
  | .dsiVsync n => Sys2Proof.Machine.execDsiVsync n s
  | .dsiLine n line late => Sys2Proof.Machine.execDsiLine n line late s
  | .dsiLatch n => Sys2Proof.Machine.execDsiLatch n s
  | .layerSubmit q n l v => Sys2Proof.Machine.execLayerSubmit q n l v s
  | .dsiDcs q n v => Sys2Proof.Machine.execDsiDcs q n v s
  | .strmStart q st => Sys2Proof.Machine.execStrmStart q st s
  | .strmPause q st => Sys2Proof.Machine.execStrmPause q st s
  | .strmResume q st => Sys2Proof.Machine.execStrmResume q st s
  | .strmStop q st => Sys2Proof.Machine.execStrmStop q st s
  | .strmStopComplete st => Sys2Proof.Machine.execStrmStopComplete st s
  | .strmSwSeqWrite q st v => Sys2Proof.Machine.execStrmSwSeqWrite q st v s
  | .streamBufferComplete st => Sys2Proof.Machine.execStreamBufferComplete st s
  | .streamBufferConsumed st => Sys2Proof.Machine.execStreamBufferConsumed st s
  | .aieProgramStart vision => Sys2Proof.Machine.execAieProgramStart vision s
  | .aieProgramDone vision => Sys2Proof.Machine.execAieProgramDone vision s
  | .aieLoadCmd q v => Sys2Proof.Machine.execAieLoadCmd q v s
  | .aieLoadDone => Sys2Proof.Machine.execAieLoadDone s
  | .cascScoreIn q j v => Sys2Proof.Machine.execCascScoreIn q j v s
  | .plyActive ply => Sys2Proof.Machine.execPlyActive ply s
  | .plySleepTimerExpiry ply => Sys2Proof.Machine.execPlySleepTimerExpiry ply s
  | .descendAll q v => Sys2Proof.Machine.execDescendAll q v s
  | .keep q v => Sys2Proof.Machine.execKeep q v s
  | .descCfgWrite q ply word v => Sys2Proof.Machine.execDescCfgWrite q ply word v s
  | .mbxSend q m w v => Sys2Proof.Machine.execMbxSend q m w v s
  | .mbxPublish q m v => Sys2Proof.Machine.execMbxPublish q m v s
  | .mbxSlotRead q m => Sys2Proof.Machine.execMbxSlotRead q m s
  | .mbxRing q m v => Sys2Proof.Machine.execMbxRing q m v s
  | .mbxPendClear q m v => Sys2Proof.Machine.execMbxPendClear q m v s
  | .mbxClaimTmo m => Sys2Proof.Machine.execMbxClaimTmo m s
  | .mbxCfgWrite q m v => Sys2Proof.Machine.execMbxCfgWrite q m v s
  | .alu t w => Sys2Proof.Machine.execAlu t w s
  | .addi t w => Sys2Proof.Machine.execAddi t w s
  | .lui t w => Sys2Proof.Machine.execLui t w s
  | .ori t w => Sys2Proof.Machine.execOri t w s
  | .ldl t w => Sys2Proof.Machine.execLdl t w s
  | .stl t w => Sys2Proof.Machine.execStl t w s
  | .ldg t w => Sys2Proof.Machine.execLdg t w s
  | .stg t w => Sys2Proof.Machine.execStg t w s
  | .branch t w => Sys2Proof.Machine.execBranch t w s
  | .jal t w => Sys2Proof.Machine.execJal t w s
  | .jr t w => Sys2Proof.Machine.execJr t w s
  | .wait t w => Sys2Proof.Machine.execWait t w s
  | .waitM t w => Sys2Proof.Machine.execWaitM t w s
  | .waitRelease t => Sys2Proof.Machine.execWaitRelease t s
  | .csrr t w => Sys2Proof.Machine.execCsrr t w s
  | .csrw t w => Sys2Proof.Machine.execCsrw t w s
  | .endBundle t w => Sys2Proof.Machine.execEndBundle t w s
  | .yieldBundle t w => Sys2Proof.Machine.execYieldBundle t w s
  | .fence t w => Sys2Proof.Machine.execFence t w s
  | .chkpt t w => Sys2Proof.Machine.execChkpt t w s
  | .fault t w => Sys2Proof.Machine.execFault t w s
  | .msg t w => Sys2Proof.Machine.execMsg t w s
  | .stitchRead t w => Sys2Proof.Machine.execStitchRead t w s
  | .stitchSet t w => Sys2Proof.Machine.execStitchSet t w s
  | .stitchAdd t w => Sys2Proof.Machine.execStitchAdd t w s
  | .stitchArm t w => Sys2Proof.Machine.execStitchArm t w s
  | .stitchInit t w => Sys2Proof.Machine.execStitchInit t w s
  | .stitchFree t w => Sys2Proof.Machine.execStitchFree t w s
  | .nextn t w => Sys2Proof.Machine.execNextn t w s
  | .stitchMessageArrive k => Sys2Proof.Machine.execStitchMessageArrive k s
  | .recv t w => Sys2Proof.Machine.execRecv t w s
  | .dma t w => Sys2Proof.Machine.execDma t w s
  | .dmaTransferStart t => Sys2Proof.Machine.execDmaTransferStart t s
  | .dmaTransferDone t => Sys2Proof.Machine.execDmaTransferDone t s
  | .vop t w => Sys2Proof.Machine.execVop t w s
  | .vld t w => Sys2Proof.Machine.execVld t w s
  | .vst t w => Sys2Proof.Machine.execVst t w s
  | .vbc t w => Sys2Proof.Machine.execVbc t w s
  | .vext t w => Sys2Proof.Machine.execVext t w s
  | .mma t w => Sys2Proof.Machine.execMma t w s
  | .mmr t w => Sys2Proof.Machine.execMmr t w s
  | .mmz t w => Sys2Proof.Machine.execMmz t w s
  | .cimMac t w => Sys2Proof.Machine.execCimMac t w s
  | .cimMacDone t => Sys2Proof.Machine.execCimMacDone t s
  | .cimRd t w => Sys2Proof.Machine.execCimRd t w s
  | .cimClr t w => Sys2Proof.Machine.execCimClr t w s
  | .nop t x w => Sys2Proof.Machine.execNop t x w s
  | .tileStart q t v => Sys2Proof.Machine.execTileStart q t v s
  | .tileFrogRequest q t v => Sys2Proof.Machine.execTileFrogRequest q t v s
  | .tileFrog t => Sys2Proof.Machine.execTileFrog t s
  | .meshFenceLift t => Sys2Proof.Machine.execMeshFenceLift t s
  | .putArrive k => Sys2Proof.Machine.execPutArrive k s
  | .getArrive k => Sys2Proof.Machine.execGetArrive k s
  | .sendArrive k => Sys2Proof.Machine.execSendArrive k s
  | .doorbellMessage k => Sys2Proof.Machine.execDoorbellMessage k s
  | .meshResponse k => Sys2Proof.Machine.execMeshResponse k s
  | .scSet q page v => Sys2Proof.Machine.execScSet q page v s
  | .scAdd q page v => Sys2Proof.Machine.execScAdd q page v s
  | .scArm q page v => Sys2Proof.Machine.execScArm q page v s
  | .scInit q page v => Sys2Proof.Machine.execScInit q page v s
  | .scFree q page v => Sys2Proof.Machine.execScFree q page v s
  | .declare q t v => Sys2Proof.Machine.execDeclare q t v s
  | .seal q t v => Sys2Proof.Machine.execSeal q t v s
  | .sealDone t => Sys2Proof.Machine.execSealDone t s
  | .flip q t v => Sys2Proof.Machine.execFlip q t v s
  | .flipDone t => Sys2Proof.Machine.execFlipDone t s
  | .discard q t v => Sys2Proof.Machine.execDiscard q t v s
  | .discardDone t => Sys2Proof.Machine.execDiscardDone t s
  | .broadcastFlip mask => Sys2Proof.Machine.execBroadcastFlip mask s
  | .hookQueue q e v => Sys2Proof.Machine.execHookQueue q e v s
  | .hookDescActivate e => Sys2Proof.Machine.execHookDescActivate e s
  | .hookRowStart e => Sys2Proof.Machine.execHookRowStart e s
  | .hookDescEnd e => Sys2Proof.Machine.execHookDescEnd e s
  | .hookCancel q e v => Sys2Proof.Machine.execHookCancel q e v s
  | .stateStart q ten v => Sys2Proof.Machine.execStateStart q ten v s
  | .statePause q ten v => Sys2Proof.Machine.execStatePause q ten v s
  | .stateResume q ten v => Sys2Proof.Machine.execStateResume q ten v s
  | .stateReset q ten v => Sys2Proof.Machine.execStateReset q ten v s
  | .stateEnd q ten v => Sys2Proof.Machine.execStateEnd q ten v s
  | .stateRead q ten v => Sys2Proof.Machine.execStateRead q ten v s
  | .stateTSubmit q ten v => Sys2Proof.Machine.execStateTSubmit q ten v s
  | .stateStepActivate => Sys2Proof.Machine.execStateStepActivate s
  | .stateStepCommit => Sys2Proof.Machine.execStateStepCommit s
  | .voxQueue q v => Sys2Proof.Machine.execVoxQueue q v s
  | .voxelise => Sys2Proof.Machine.execVoxelise s
  | .voxeliseStreamRead => Sys2Proof.Machine.execVoxeliseStreamRead s
  | .spconv => Sys2Proof.Machine.execSpconv s
  | .bev => Sys2Proof.Machine.execBev s
  | .voxStepEnd => Sys2Proof.Machine.execVoxStepEnd s
  | .voxCancel q v => Sys2Proof.Machine.execVoxCancel q v s
  | .skeinAdd q v => Sys2Proof.Machine.execSkeinAdd q v s
  | .skeinDel q v => Sys2Proof.Machine.execSkeinDel q v s
  | .wipeGranuleDone t2 => Sys2Proof.Machine.execWipeGranuleDone t2 s
  | .move q ten v => Sys2Proof.Machine.execMove q ten v s
  | .moveStart => Sys2Proof.Machine.execMoveStart s
  | .moveDone => Sys2Proof.Machine.execMoveDone s
  | .clean q ten v => Sys2Proof.Machine.execClean q ten v s
  | .flush q ten v => Sys2Proof.Machine.execFlush q ten v s
  | .invalidate q ten v => Sys2Proof.Machine.execInvalidate q ten v s
  | .cacheOpDone ten => Sys2Proof.Machine.execCacheOpDone ten s
  | .release q ten v => Sys2Proof.Machine.execRelease q ten v s
  | .poolWbConfig q ten win v => Sys2Proof.Machine.execPoolWbConfig q ten win v s
  | .poolFlushDone ten => Sys2Proof.Machine.execPoolFlushDone ten s
  | .schJobSubmit q ten v => Sys2Proof.Machine.execSchJobSubmit q ten v s
  | .admissionPost ten => Sys2Proof.Machine.execAdmissionPost ten s
  | .schedulerEvaluate => Sys2Proof.Machine.execSchedulerEvaluate s
  | .switchDone slot => Sys2Proof.Machine.execSwitchDone slot s
  | .spillYielded slot => Sys2Proof.Machine.execSpillYielded slot s
  | .spillDrained slot => Sys2Proof.Machine.execSpillDrained slot s
  | .spillMoved slot => Sys2Proof.Machine.execSpillMoved slot s
  | .spillRestoreDone slot => Sys2Proof.Machine.execSpillRestoreDone slot s
  | .dlmEvaluate => Sys2Proof.Machine.execDlmEvaluate s
  | .swatchDispatch slot => Sys2Proof.Machine.execSwatchDispatch slot s
  | .jobEnd slot => Sys2Proof.Machine.execJobEnd slot s
  | .schTCancel q ten v => Sys2Proof.Machine.execSchTCancel q ten v s
  | .schCancelPost ten => Sys2Proof.Machine.execSchCancelPost ten s
  | .schFlipCmd q v => Sys2Proof.Machine.execSchFlipCmd q v s
  | .rptTCommit q ten v => Sys2Proof.Machine.execRptTCommit q ten v s
  | .rptCommitPost ten => Sys2Proof.Machine.execRptCommitPost ten s
  | .rptCfgWrite q v => Sys2Proof.Machine.execRptCfgWrite q v s
  | .rptPeriodWrite q v => Sys2Proof.Machine.execRptPeriodWrite q v s
  | .rptRangeWrite q ten v => Sys2Proof.Machine.execRptRangeWrite q ten v s
  | .rptLockEvent stamp => Sys2Proof.Machine.execRptLockEvent stamp s
  | .rptCaptureMiss => Sys2Proof.Machine.execRptCaptureMiss s
  | .rptPeriodStart => Sys2Proof.Machine.execRptPeriodStart s
  | .rowLead row => Sys2Proof.Machine.execRowLead row s
  | .rowRelease row => Sys2Proof.Machine.execRowRelease row s
  | .hostBar0Request h => Sys2Proof.Machine.execHostBar0Request h s
  | .hostBar2Request h => Sys2Proof.Machine.execHostBar2Request h s
  | .outboundCompletion tag status data => Sys2Proof.Machine.execOutboundCompletion tag status data s
  | .cplTimeout tag => Sys2Proof.Machine.execCplTimeout tag s
  | .linkUp gen width => Sys2Proof.Machine.execLinkUp gen width s
  | .dlDown => Sys2Proof.Machine.execDlDown s
  | .linkReset => Sys2Proof.Machine.execLinkReset s
  | .flr => Sys2Proof.Machine.execFlr s
  | .linkL12Entry => Sys2Proof.Machine.execLinkL12Entry s
  | .linkL1Exit => Sys2Proof.Machine.execLinkL1Exit s
  | .pcieWakeTimeout => Sys2Proof.Machine.execPcieWakeTimeout s
  | .hostHandshake q v => Sys2Proof.Machine.execHostHandshake q v s
  | .getVersion => Sys2Proof.Machine.execGetVersion s
  | .getCapabilities => Sys2Proof.Machine.execGetCapabilities s
  | .negotiateAlgorithms ok => Sys2Proof.Machine.execNegotiateAlgorithms ok s
  | .getDigests => Sys2Proof.Machine.execGetDigests s
  | .getCertificate slot offset len => Sys2Proof.Machine.execGetCertificate slot offset len s
  | .challenge slot nonce => Sys2Proof.Machine.execChallenge slot nonce s
  | .keyExchange slot session pub => Sys2Proof.Machine.execKeyExchange slot session pub s
  | .finish session ok => Sys2Proof.Machine.execFinish session ok s
  | .keyUpdate session => Sys2Proof.Machine.execKeyUpdate session s
  | .heartbeat session => Sys2Proof.Machine.execHeartbeat session s
  | .heartbeatMissed session => Sys2Proof.Machine.execHeartbeatMissed session s
  | .endSession session => Sys2Proof.Machine.execEndSession session s
  | .bounceBind session => Sys2Proof.Machine.execBounceBind session s
  | .bounceUnbind session => Sys2Proof.Machine.execBounceUnbind session s
  | .keyProg session stream rx => Sys2Proof.Machine.execKeyProg session stream rx s
  | .kSetGo session stream rx => Sys2Proof.Machine.execKSetGo session stream rx s
  | .idePacketRx stream newSet ok => Sys2Proof.Machine.execIdePacketRx stream newSet ok s
  | .lockInterface session stream => Sys2Proof.Machine.execLockInterface session stream s
  | .startInterface session => Sys2Proof.Machine.execStartInterface session s
  | .stopInterface session => Sys2Proof.Machine.execStopInterface session s
  | .getDeviceInterfaceReport session => Sys2Proof.Machine.execGetDeviceInterfaceReport session s
  | .bncTSubmit q ten v => Sys2Proof.Machine.execBncTSubmit q ten v s
  | .bounceDescActivate cpl data => Sys2Proof.Machine.execBounceDescActivate cpl data s
  | .bounceDescEnd => Sys2Proof.Machine.execBounceDescEnd s
  | .ringTDb q ten v => Sys2Proof.Machine.execRingTDb q ten v s
  | .ringFetch r cpl data => Sys2Proof.Machine.execRingFetch r cpl data s
  | .ringCheckEnd r => Sys2Proof.Machine.execRingCheckEnd r s
  | .commandIssue r => Sys2Proof.Machine.execCommandIssue r s
  | .ringNop r => Sys2Proof.Machine.execRingNop r s
  | .ringSubmit r => Sys2Proof.Machine.execRingSubmit r s
  | .ringCancel r => Sys2Proof.Machine.execRingCancel r s
  | .modelLoad r => Sys2Proof.Machine.execModelLoad r s
  | .modelDrop r => Sys2Proof.Machine.execModelDrop r s
  | .ringMove r => Sys2Proof.Machine.execRingMove r s
  | .ringCache r => Sys2Proof.Machine.execRingCache r s
  | .ringBounce r => Sys2Proof.Machine.execRingBounce r s
  | .rowLogUpdate r rseq => Sys2Proof.Machine.execRowLogUpdate r rseq s
  | .ringTResync q ten v => Sys2Proof.Machine.execRingTResync q ten v s
  | .ringEnable q r v => Sys2Proof.Machine.execRingEnable q r v s
  | .rowlogPartWrite q r v => Sys2Proof.Machine.execRowlogPartWrite q r v s
  | .tapReset => Sys2Proof.Machine.execTapReset s
  | .extest => Sys2Proof.Machine.execExtest s
  | .samplePreload pads scan => Sys2Proof.Machine.execSamplePreload pads scan s
  | .idcode => Sys2Proof.Machine.execIdcode s
  | .clamp => Sys2Proof.Machine.execClamp s
  | .highz => Sys2Proof.Machine.execHighz s
  | .tapDbgChallenge => Sys2Proof.Machine.execTapDbgChallenge s
  | .dbgResponse image => Sys2Proof.Machine.execDbgResponse image s
  | .dbgStatus => Sys2Proof.Machine.execDbgStatus s
  | .dbgAccess shift => Sys2Proof.Machine.execDbgAccess shift s
  | .bypass code => Sys2Proof.Machine.execBypass code s
  | .dbgHaltReq q hi v => Sys2Proof.Machine.execDbgHaltReq q hi v s
  | .dbgResume q hi v => Sys2Proof.Machine.execDbgResume q hi v s
  | .dbgStep q v => Sys2Proof.Machine.execDbgStep q v s
  | .dbgRegData q wr v => Sys2Proof.Machine.execDbgRegData q wr v s
  | .traceRecord t => Sys2Proof.Machine.execTraceRecord t s
  | .pmcSelWrite q k v => Sys2Proof.Machine.execPmcSelWrite q k v s
  | .io18PowerGood => Sys2Proof.Machine.execIo18PowerGood s
  | .pcieConfigRequest c => Sys2Proof.Machine.execPcieConfigRequest c s

end Sys2Proof.Machine
end

