-- ==== Sys2Proof/Machine/Tick.lean ====
section
/-! DEFINITION. The time base (R60 to R63): what one tick changes, a REFOSC cycle while REFOSC runs and an AONCLK tick
while it is stopped. -/

namespace Sys2Proof.Machine

/-- An AONCLK tick: the RTC counts (R62), and the watchdog once enabled while SEC is ON (R63). -/
def State.aonEdge (s : State) : State :=
  let s := s.setReg64 AON_RTC_LO AON_RTC_HI (s.reg64 AON_RTC_LO AON_RTC_HI + 1)
  if s.flag AON_WDT_CTRL 0 ∧ (s.dom 1).st = .on then s.bump AON_WDT_COUNT else s

/-- One tick of the running time base: the timestamp counts REFOSC cycles, or takes CLK_TS_RATIO at each AONCLK tick. -/
def State.tick (s : State) : State :=
  let ratio := (s.reg CLK_TS_RATIO).toNat
  if s.pwr.chipOff then s
  else if s.refoscOk then
    let div := s.pwr.rtcDiv + 0x100000
    let s : State := { s with pwr := { s.pwr with ts := s.pwr.ts + 0x100000, rtcDiv := if ratio ≤ div then div - ratio else div } }
    if ratio ≤ div then s.aonEdge else s
  else ({ s with pwr := { s.pwr with ts := s.pwr.ts + ratio, rtcDiv := 0 } } : State).aonEdge

end Sys2Proof.Machine
end

