-- ==== Sys2Proof/Safety.lean ====
section
/-! DEFINITION. The terms in which claims name the states and operands they speak of, and a safe outcome. -/

namespace Sys2Proof.Machine

/-- The outcome is a next state. -/
def runs (o : Host.Outcome State Fault Refusal) : Bool :=
  match o with
  | .next _ => true
  | _ => false

/-- An aligned word access of requester `q` at register key `k` reaches the block (R29): the device is not OFF, no earlier
access of `q` is stalled, `q` is permitted, no lock turns a write away, and the domains of the fabric and of the block take
accesses, with none waiting for them. -/
def State.lands (s : State) (q : Req) (k : Nat) (wr : Bool) : Bool :=
  !s.pwr.chipOff && q.wf && (s.heldBack q).isNone && (s.permission q (keyPage k) (keyOff k) wr).isNone && k % 4 == 0 &&
    !(wr && s.lockHolds k) &&
    (!needsFabric (keyPage k) (keyOff k) || s.receives none 2) && (!domChecked (keyOff k) || s.receives none (pageDom (keyPage k)))

/-- Word `w` issues now from the S slot of tile `t`, and neither a fault of the X slot nor a second write of its register
stops the bundle (R226, R227). -/
def State.readyS (s : State) (t : Nat) (w : Word) : Bool :=
  !s.pwr.chipOff && decide (t < 64) && s.slotOf t w == some false && ((s.tile t).x.getD {}).fault.isNone &&
    (fd w == 0 || !(((s.tile t).x.getD {}).g.any fun g => g.1 == fd w))

/-- Word `w` issues now from the X slot of tile `t`, whose program owns the segment it fetches from. -/
def State.readyX (s : State) (t : Nat) (w : Word) : Bool :=
  !s.pwr.chipOff && decide (t < 64) && s.slotOf t w == some true && s.fetchOk t

/-- Whether an access ends because the quota of every SHARED skein that could take a granule is spent (R349), which is no
refusal. -/
def State.quotaSpent (s : State) (q : Req) (wr : Bool) (a n : Nat) : Bool :=
  match s.checkRange q wr a n with
  | .error 6 => true
  | _ => false

end Sys2Proof.Machine
end

