-- ==== Sys2Proof/Certificates/Slice0/Obligations.lean ====
section
/-! DEFINITION. The statements for the provers, one for every group of commands and every kind of state. A clause that
ends in `= .next …` says where its command completes and with what. -/

open Sys2Proof Sys2Proof.Machine

/-- Every command answers a next state exactly where its operands name units of the device -/
def Obligations.CommandCompletesWhereItsOperandsNameUnits : Prop :=
  ∀ (c : Instr) (s : State), runs (exec c s) = c.wf

/-- With an empty queue a step is one tick of the running time base -/
def Obligations.EmptyQueueTicks : Prop :=
  ∀ (s : State), s.pending = [] →
    step s = .next s.tick ∧
    (s.pwr.chipOff = true → s.tick = s) ∧
    (s.pwr.chipOff = false → s.refoscOk = true → s.tick.pwr.ts = s.pwr.ts + 2 ^ 20) ∧
    (s.pwr.chipOff = false → s.refoscOk = false → s.tick.pwr.ts = s.pwr.ts + (s.reg CLK_TS_RATIO).toNat)

/-- Reset: only the AON domain is ON, registers read their table values, memory and queues are empty -/
def Obligations.ResetState : Prop :=
  (∀ d, State.reset.dom d = if d = 0 then { st := .on, rest := .on } else {}) ∧
  (∀ k, State.reset.reg k = regReset k) ∧
  (∀ p, State.reset.reg (IRQ_RAW p) = 0) ∧
  State.reset.reg CLK_TS_RATIO = 0x493E0000 ∧ State.reset.reg VR_VBAT_LOW = 3200 ∧ State.reset.reg PWR_CHIP_SLEEP = 0 ∧
  State.reset.reg CAP_ENVELOPE = 1400 ∧
  State.reset.pending = [] ∧ State.reset.stalls = [] ∧ State.reset.net = [] ∧ State.reset.holds = [] ∧
  State.reset.refusals = [] ∧ State.reset.mem.bytes = [] ∧ State.reset.resp = ⟨0, []⟩

/-- The checks of a register access: permission, alignment, lock, domain, block, the first failure deciding -/
def Obligations.AccessChecksRunInOrder : Prop :=
  ∀ (s : State) (q : Req) (p o n : Nat) (v : Word), s.pwr.chipOff = false → q.wf = true → s.heldBack q = none →
    pageListed p = true → o < 0x1000 → (viaMesh q (regBase + (p * 0x1000 + o)) && !s.domOn 3) = false →
    let k := p * 0x1000 + o
    let out := exec (.registerWrite q (regBase + k) n v) s
    (∀ r, s.accessPerm q k n true = some r → r ≠ 0x100 → out = .next (s.refuse q (regBase + k) true r)) ∧
    (s.accessPerm q k n true = none → n ≠ 4 ∨ o % 4 ≠ 0 → out = .next ((s.err p o 0x03 true q).answer 0x03 [0])) ∧
    (s.permission q p o true = none → n = 4 → o % 4 = 0 → s.lockHolds k = true → out = .next (s.answer 0)) ∧
    (s.permission q p o true = none → n = 4 → o % 4 = 0 → s.lockHolds k = false → needsFabric p o = true →
      s.receives none 2 = false →
      out = .next (if s.lapsed 2 then s.powerEnd p o true q 4 else s.stallAt q (regBase + k) 4 true v.toNat 2)) ∧
    (s.permission q p o true = none → n = 4 → o % 4 = 0 → s.lockHolds k = false → needsFabric p o = false → domChecked o = true →
      s.receives none (pageDom p) = false →
      out = .next (if s.flag (PAGE_CTRL p) 2 ∧ s.absent (pageDom p) = false then
          (if s.lapsed (pageDom p) then s.powerEnd p o true q 4 else s.stallAt q (regBase + k) 4 true v.toNat (pageDom p))
        else if s.queued none (pageDom p) then s.stallAt q (regBase + k) 4 true v.toNat (pageDom p) false
        else s.powerEnd p o true q 2)) ∧
    (s.lands q k true = true → n = 4 → out = .next (regWrite q k v (s.answer 0)))

/-- A step runs the command at the front of the queue on the state with the rest of the queue -/
def Obligations.FrontCommandRuns : Prop :=
  ∀ (c : Instr) (rest : List Instr) (s : State), s.pending = c :: rest → step s = exec c { s with pending := rest }

/-- Common register block: ERR_CODE read, IRQ_CLR, PAGE_LOCK, soft reset and a plain write complete. Completion of: errCodeRead, irqClr,
pageLock, softReset, registerWrite. -/
def Obligations.CommonBlockCommands : Prop :=
  (∀ (q : Req) (p : Nat) (s : State), s.lands q (ERR_CODE p) false = true → pageListed p = true →
    exec (.errCodeRead q p) s = .next ((s.answer 0 [s.reg (ERR_CODE p)]).setReg (ERR_CODE p) 0)) ∧
  (∀ (q : Req) (p : Nat) (v : Word) (s : State), s.lands q (IRQ_CLR p) true = true → pageListed p = true →
    ∃ t, exec (.irqClr q p v) s = .next t ∧ t.reg (IRQ_RAW p) = s.reg (IRQ_RAW p) &&& ~~~v ∧ t.resp = ⟨0, []⟩ ∧
      ∀ k, k ≠ IRQ_RAW p → k ≠ PAGE_STATUS p → k ≠ CASC_STATUS → t.reg k = s.reg k) ∧
  (∀ (q : Req) (p : Nat) (v : Word) (s : State), s.lands q (PAGE_LOCK p) true = true → pageListed p = true →
    ∃ t, exec (.pageLock q p v) s = .next t ∧ t.locked p = true ∧ t.resp = ⟨0, []⟩ ∧
      ∀ k, k ≠ PAGE_LOCK p → t.reg k = s.reg k) ∧
  (∀ (q : Req) (p : Nat) (v : Word) (s : State), s.lands q (PAGE_CTRL p) true = true → pageListed p = true →
    s.locked p = false → (p < 0x020 ∨ 0x023 < p) →
    exec (.softReset q p v) s =
      .next (((s.answer 0).setReg (PAGE_CTRL p) (setBit v 1 true &&& 5)).pageReset p)) ∧
  (∀ (q : Req) (p : Nat) (v : Word) (s : State), s.lands q (PAGE_CTRL p) true = true → 0x020 ≤ p → p ≤ 0x023 →
    let u := ((s.answer 0).setReg (PAGE_CTRL p) (setBit v 1 true &&& 5)).mbxEnabled p
    s.locked p = false → u.locked p = false → exec (.softReset q p v) s = .next (u.pageReset p)) ∧
  (∀ (q : Req) (p : Nat) (v : Word) (s : State), s.lands q (IRQ_MASK p) true = true → pageListed p = true →
    (viaMesh q (regBase + IRQ_MASK p) && !s.domOn 3) = false →
    exec (.registerWrite q (regBase + IRQ_MASK p) 4 v) s = .next ((s.answer 0).setReg (IRQ_MASK p) v))

/-- A refused access completes with REFUSED, leaves ERR_CODE and ERR_INFO as they are and sets no IRQ_RAW bit. Completion of:
refusedCompletion, registerWrite. -/
def Obligations.RefusedAccessLeavesNoTrace : Prop :=
  ∀ (s : State) (q : Req) (a n : Nat) (v : Word) (wr : Bool), s.pwr.chipOff = false → q.wf = true → s.heldBack q = none →
    (viaMesh q a && !s.domOn 3) = false →
    ((∃ k r, regAddr a = some k ∧ s.accessPerm q k n wr = some r ∧ r ≠ 0x100) ∨
      (regAddr a = none ∧ (s.mayAccess q a (max n 1) wr = none ∨ s.mayAccess q a (max n 1) wr = some false))) →
    ∃ r t, t = s.refuse q a wr r ∧
      (n = 4 → exec (.refusedCompletion q a wr) s = .next t) ∧
      (wr = true → exec (.registerWrite q a n v) s = .next t) ∧
      t.resp = ⟨0x01, [0]⟩ ∧
      (∀ p, t.reg (ERR_CODE p) = s.reg (ERR_CODE p) ∧ t.reg (ERR_INFO p) = s.reg (ERR_INFO p) ∧
        t.reg (IRQ_RAW p) = s.reg (IRQ_RAW p)) ∧
      (∀ j, j ≠ ADSEL_T_REFUSED (q.tenant % 8) → t.reg j = s.reg j) ∧
      t = { s with regs := t.regs, resp := t.resp, refusals := t.refusals, refusalsLost := t.refusalsLost }

/-- A misaligned memory access completes with BAD_ALIGN, changes nothing else and reads zero; an aligned one reaches the memory. Completion
of: registerWrite. -/
def Obligations.MisalignedAccessIsBadAlign : Prop :=
  ∀ (s : State) (q : Req) (a n : Nat) (v : Word), s.pwr.chipOff = false → q.wf = true → q.cls ≠ 2 → s.heldBack q = none →
    (viaMesh q a && !s.domOn 3) = false → regAddr a = none → n ∈ [1, 2, 4, 8, 16, 32, 64] →
    (a % n ≠ 0 →
      (s.mayAccess q a n true = some true → exec (.registerWrite q a n v) s = .next { s with resp := ⟨0x03, [0]⟩ }) ∧
      (s.mayAccess q a n false = some true → s.busRead q a n = { s with resp := ⟨0x03, [0]⟩ })) ∧
    (a % n = 0 → s.queued none (s.memNeeds q a n).1 = false →
      (s.mayAccess q a n true = some true → exec (.registerWrite q a n v) s = .next (memSave q a n v.toNat s)) ∧
      (s.mayAccess q a n false = some true → s.busRead q a n = memLoad q a n s))

/-- An access to a sleeping domain stalls and holds a request; the oldest one completes when the domain takes accesses. Completion of:
stalledAccessComplete. -/
def Obligations.StalledAccessCompletes : Prop :=
  (∀ (s : State) (q : Req) (addr size : Nat) (wr wake : Bool) (data d : Nat),
    (s.stallAt q addr size wr data d wake).stalls =
      s.stalls ++ [{ q := q, addr := addr, size := size, wr := wr, data := data, dom := d, wake := wake }] ∧
    (wake = true → (s.stallAt q addr size wr data d wake).heldBy d 12 = true) ∧
    (s.stallAt q addr size wr data d wake).resp = ⟨0x100, []⟩ ∧ (s.stallAt q addr size wr data d wake).regs = s.regs) ∧
  (∀ (s : State) (d : Nat), domListed d = true → s.stalls.all (fun e => e.dom != d) = true →
    exec (.stalledAccessComplete d) s = .next s) ∧
  (∀ (s : State) (d p data : Nat) (q : Req), domListed d = true → pageListed p = true → q.cls ≠ 0 → isDebug q = false →
    s.stalls = [{ q := q, addr := regBase + IRQ_MASK p, size := 4, wr := true, data := data, dom := d }] → s.domOn d = true →
    (viaMesh q (regBase + IRQ_MASK p) && !s.domOn 3) = false →
    ({ s with stalls := [] } : State).lands q (IRQ_MASK p) true = true →
    exec (.stalledAccessComplete d) s = .next ((({ s with stalls := [] } : State).setReg (IRQ_MASK p) (word data)).answer 0 []
      |>.unhold 12 (0x200 + 0x40 * q.cls + q.index) d))

/-- Arbitration: the requester at or next above the pointer wins and the pointer moves to one past it -/
def Obligations.RotatingArbitration : Prop :=
  (∀ (s : State) (a n w : Nat) (reqs : List Nat) (t : State), s.ptrs.get (fun _ => 0) a < n →
    s.arbitrate a n reqs false = (some w, t) →
    w ∈ reqs ∧ (∃ i, i < n ∧ w = (s.ptrs.get (fun _ => 0) a + i) % n ∧
      ∀ j, j < i → (s.ptrs.get (fun _ => 0) a + j) % n ∉ reqs) ∧
    t.ptrs.get (fun _ => 0) a = (w + 1) % n ∧ t = { s with ptrs := t.ptrs } ∧
    ∀ b, b ≠ a → t.ptrs.get (fun _ => 0) b = s.ptrs.get (fun _ => 0) b) ∧
  (∀ (s t : State) (a n : Nat) (reqs : List Nat), s.ptrs.get (fun _ => 0) a < n →
    (s.arbitrate a n reqs false = (none, t) ↔ (t = s ∧ ∀ i, i < n → i ∉ reqs))) ∧
  (∀ (s : State) (a n : Nat) (reqs : List Nat), s.arbitrate a n reqs true = (none, s)) ∧
  (∀ a, State.reset.ptrs.get (fun _ => 0) a = 0)

/-- A domain's configuration, wake, wake steps and wake timeout. Completion of: domCfgWrite, wakeStart, tileWakeSlot, wakeStepReady,
wakeStepDelayExpiry, wakeTmoExpiry. -/
def Obligations.DomainWakeCommands : Prop :=
  (∀ (q : Req) (d : Nat) (v : Word) (s : State), domListed d = true → s.lands q (PWR_DOM_CFG d) true = true →
    exec (.domCfgWrite q d v) s =
      .next ((s.answer 0).setReg (PWR_DOM_CFG d) (setBits (s.reg (PWR_DOM_CFG d)) 5 0 v.toNat))) ∧
  (∀ (d : Nat) (s : State), domListed d = true → s.pwr.chipOff = false → s.life.booting = false → s.life.parked = false →
    s.cap.hot = false → s.life.bound = false → s.life.bindStage = 0 → d ≠ 0 → s.absent d = false → (s.dom d).waiting = false →
    (s.dom d).held = false → (s.dom d).step = 0 → (s.asked d).code < (s.dom d).st.code → s.pwr.sleeping ≠ 2 →
    s.pwr.socWait = false →
    exec (.wakeStart d) s = .next (
      if (s.dom d).st = .clockstop then
        ((s.setDom d { s.dom d with timing := true, t0 := s.now, fromOff := false }).reachOn d).beginWaiting
      else (s.setDom d { s.dom d with timing := true, t0 := s.now, waiting := true }).beginWaiting)) ∧
  (∀ (quad : Nat) (s : State), quad < 4 → s.pwr.chipOff = false →
    exec (.tileWakeSlot quad) s =
      .next ({ s with pwr := { s.pwr with slotBusy := s.pwr.slotBusy.filter (· != quad) } } : State).beginWaiting) ∧
  (∀ (d : Nat) (s : State), domListed d = true → s.pwr.chipOff = false → 1 ≤ (s.dom d).step → (s.dom d).step ≤ 4 →
    (s.dom d).table = false → s.stepCan d (s.dom d).step = true →
    exec (.wakeStepReady d) s = .next (s.stepOver d)) ∧
  (∀ (d : Nat) (ready : Bool) (s : State), domListed d = true → s.pwr.chipOff = false → 1 ≤ (s.dom d).step →
    (s.dom d).step ≤ 4 → (s.dom d).table = true → (s.dom d).stepAt + s.stepDelay d (s.dom d).step ≤ s.now →
    exec (.wakeStepDelayExpiry d ready) s = .next (
      if ready = true ∧ s.stepCan d (s.dom d).step = true then s.stepOver d
      else ((s.setDom d { s.dom d with table := false, early := true }).setFlag (PWR_WAKE_EARLY (d / 32)) (d % 32) true).irq 0x001 1)) ∧
  (∀ (d : Nat) (s : State), domListed d = true → s.pwr.chipOff = false → (s.dom d).timing = true →
    384 * s.wakeTmo d ≤ 10 * (s.now - (s.dom d).t0) →
    exec (.wakeTmoExpiry d) s = .next (((s.setDom d { s.dom d with timing := false }).irq 0x001 2).stallsTimeout d))

/-- Idle expiry, entry steps, the chip-state entry and power-good. Completion of: idleTimerExpiry, entryStepDone, chipSleepArm,
chipSleepCancel, chipSleepEntryStart, pgoodLoss, io18PowerGood. -/
def Obligations.DomainEntryCommands : Prop :=
  (∀ (d : Nat) (s : State), domListed d = true → s.pwr.chipOff = false → s.absent d = false → s.domIdle d = true →
    s.requested d = false → (s.dom d).step = 0 → (s.dom d).waiting = false →
    (s.dom d).st.code < (supported d (Pow.ofCode (s.fld (PWR_DOM_CFG d) 4 3))).code →
    (d = 2 → (s.dom 10).st = .off) →
    exec (.idleTimerExpiry d) s = .next (s.setDom d { s.dom d with
      step := 5, phase := 0, goal := supported d (Pow.ofCode (s.fld (PWR_DOM_CFG d) 4 3))
      rest := supported d (Pow.ofCode (s.fld (PWR_DOM_CFG d) 4 3)), isolated := true, held := false })) ∧
  (∀ (d : Nat) (s : State), domListed d = true → s.pwr.chipOff = false → (s.dom d).step = 5 → (s.dom d).phase = 0 →
    (s.dom d).goal = .clockstop →
    exec (.entryStepDone d) s = .next ((s.setDom d { s.dom d with phase := 1 }).entryOver d)) ∧
  (∀ (d : Nat) (s : State), domListed d = true → s.pwr.chipOff = false → (s.dom d).step = 5 → (s.dom d).phase = 0 →
    (s.dom d).goal = .off → (s.dom d).held = false →
    exec (.entryStepDone d) s = .next ((s.setDom d { s.dom d with phase := 1 }).domainOff d)) ∧
  (∀ (d : Nat) (s : State), domListed d = true → s.pwr.chipOff = false → (s.dom d).step = 5 → (s.dom d).phase = 1 →
    (s.dom d).goal ≠ .clockstop → (s.dom d).held = false →
    exec (.entryStepDone d) s = .next (s.setDom d { s.dom d with phase := 2 })) ∧
  (∀ (q : Req) (v : Word) (s : State), s.lands q PWR_CHIP_SLEEP true = true → s.pwr.sleeping ≠ 2 → 1 ≤ bits v 2 0 →
    bits v 2 0 ≤ 5 → s.sleepOpen = true →
    exec (.chipSleepArm q v) s =
      .next (let t := (s.answer 0).plainWrite PWR_CHIP_SLEEP (setBit v 8 true); { t with pwr := { t.pwr with sleeping := 1 } })) ∧
  (∀ (q : Req) (v : Word) (s : State), s.lands q PWR_CHIP_SLEEP true = true → s.pwr.sleeping ≠ 2 →
    exec (.chipSleepCancel q v) s =
      .next (let t := (s.answer 0).plainWrite PWR_CHIP_SLEEP (setBit v 8 false); { t with pwr := { t.pwr with sleeping := 0 } })) ∧
  (∀ (s : State), s.pwr.chipOff = false → s.pwr.sleeping = 1 → s.sleepOpen = true → (∀ d ∈ allDoms, (s.dom d).waiting = false) →
    (∀ d ∈ allDoms, s.overAllowance (s.fld PWR_CHIP_SLEEP 2 0) d = true →
      s.domIdle d = true ∧ s.heldFloor d = .off ∧ (s.dom d).step = 0) →
    ∃ goals : List (Nat × Pow),
      exec .chipSleepEntryStart s = .next ({ s with pwr := { s.pwr with sleeping := 2, lowering := goals } } : State).sleepRun ∧
      ∀ d ∈ allDoms, d ≠ 10 → s.overAllowance (s.fld PWR_CHIP_SLEEP 2 0) d = true → (d, s.sleepGoal (s.fld PWR_CHIP_SLEEP 2 0) d) ∈ goals) ∧
  (∀ (i : Nat) (s : State), i < 12 → s.pwr.chipOff = false → s.flag VR_STATUS i = true →
    exec (.pgoodLoss i) s = .next (if s.railInUse i = true then (s.setPgood i false).railLost i else s.setPgood i false)) ∧
  (∀ (s : State), s.pwr.chipOff = false → s.railUp 9 = true → exec .io18PowerGood s = .next (s.setPgood 9 true))

/-- PLL lock, REFOSC, the timestamp ratio and the real-time alarm. Completion of: pllUnlock, pllRelock, refoscFail, refoscResume,
tsRatioUpdate, rtcAlarm. -/
def Obligations.ClockCommands : Prop :=
  (∀ (pll : Nat) (s : State), pll < 8 → s.pwr.chipOff = false → s.pwr.pllRun.testBit (1 + pll) = true →
    s.flag CLK_STATUS (1 + pll) = true →
    ∃ t, exec (.pllUnlock pll) s = .next t ∧ t.flag CLK_STATUS (1 + pll) = false ∧ t.flag (IRQ_RAW 0x002) 1 = true ∧
      t.pwr = { s.pwr with pllHeld := s.pwr.pllHeld ||| 2 ^ (1 + pll) } ∧ t = { s with regs := t.regs, pwr := t.pwr } ∧
      ∀ k, k ≠ CLK_STATUS → k ≠ IRQ_RAW 0x002 → t.reg k = s.reg k) ∧
  (∀ (pll : Nat) (s : State), pll < 8 → s.pwr.chipOff = false → s.pwr.pllHeld.testBit (1 + pll) = true → s.refoscOk = true →
    ∃ t, exec (.pllRelock pll) s = .next t ∧ t.flag CLK_STATUS (1 + pll) = true ∧
      t.pwr = { s.pwr with pllHeld := s.pwr.pllHeld - 2 ^ (1 + pll) } ∧
      t = { s with regs := t.regs, pwr := t.pwr, holds := t.holds } ∧ ∀ k, k ≠ CLK_STATUS → t.reg k = s.reg k) ∧
  (∀ (s : State), s.pwr.chipOff = false → s.refoscOk = true →
    ∃ t, exec .refoscFail s = .next t ∧ t.refoscOk = false ∧ t.flag CLK_STATUS 9 = true ∧ t.flag (IRQ_RAW 0x002) 0 = true ∧
      t.pwr = { s.pwr with refBad := true } ∧ t = { s with regs := t.regs, pwr := t.pwr }) ∧
  (∀ (s : State), s.pwr.chipOff = false → s.refoscOk = false → s.refoscAsked = true →
    ∃ t, exec .refoscResume s = .next t ∧ t.refoscOk = true ∧ t.flag CLK_STATUS 9 = false ∧
      t.pwr.ts = (s.pwr.ts / 0x100000 + 1) * 0x100000 ∧ t = { s with regs := t.regs, pwr := t.pwr, holds := t.holds }) ∧
  (∀ (ratio : Word) (s : State), s.pwr.chipOff = false → s.refoscOk = true →
    exec (.tsRatioUpdate ratio) s = .next (s.setReg CLK_TS_RATIO ratio)) ∧
  (∀ (s : State), s.pwr.chipOff = false →
    s.reg64 AON_RTC_LO AON_RTC_HI = s.reg64 AON_RTC_ALARM_LO AON_RTC_ALARM_HI →
    exec .rtcAlarm s = .next ((s.irq 0x006 0).wakeFires 0))

/-- Wake sources, the watchdog and the VBAT monitor. Completion of: gpioWake, hostWakeIn, wdtKick, wdtHalf, wdtExpiry, vbatSample. -/
def Obligations.WakeAndWatchdogCommands : Prop :=
  (∀ (pin : Nat) (high : Bool) (s : State), pin < 24 → s.pwr.chipOff = false → s.flag GPIO_WAKE_EN pin = true →
    s.flag GPIO_WAKE_POL pin = high → exec (.gpioWake ⟨pin, high⟩) s = .next (s.wakeFires 1)) ∧
  (∀ (s : State), s.pwr.chipOff = false → s.cap.hot = false → s.life.parked = false →
    exec .hostWakeIn s = .next (s.wakeFires 2)) ∧
  (∀ (s : State) (b : Nat), s.flag AON_WAKE_EN b = true → s.life.ready = true → s.life.bindStage = 0 → s.life.parked = false →
    s.wakeFires b = if s.life.bound = true then s.castWarm 7
      else [1, 2, 9].foldl (fun s d => if (s.dom d).st = .on ∧ (s.dom d).step = 0 then s else s.waitFor d) (s.wakeSource b)) ∧
  (∀ (q : Req) (v : Word) (s : State), s.lands q AON_WDT_KICK true = true →
    exec (.wdtKick q v) s = .next (if v = 0x4B1C then (s.answer 0).setReg AON_WDT_COUNT 0 else s.answer 0)) ∧
  (∀ (s : State), s.pwr.chipOff = false → s.fld AON_WDT_CTRL 31 16 * 16 < (s.reg AON_WDT_COUNT).toNat →
    exec .wdtHalf s = .next (s.irq 0x006 1)) ∧
  (∀ (s : State), s.pwr.chipOff = false → s.flag AON_WDT_CTRL 0 = true → (s.dom 1).st = .on →
    s.fld AON_WDT_CTRL 31 16 * 32 ≤ (s.reg AON_WDT_COUNT).toNat →
    exec .wdtExpiry s = .next ((s.resetMeetsStep.setReg AON_WDT_COUNT 0).castWarm 3)) ∧
  (∀ (mv : Nat) (s : State), s.pwr.chipOff = false →
    ∃ t, exec (.vbatSample mv) s = .next t ∧ t.reg VR_VBAT = word (min mv 0x1FFF) ∧
      t.flag VR_STATUS 28 = decide (mv < s.fld VR_VBAT_LOW 12 0) ∧
      t.cap = { s.cap with vbat := (if mv < s.fld VR_VBAT_LOW 12 0 then 4 else 7), brown := (if mv < 2700 then s.cap.brown + 1 else 0) } ∧
      t.pwr = { s.pwr with chipOff := (decide (mv < 2700) && decide (1 ≤ s.cap.brown)) } ∧
      t = { s with regs := t.regs, cap := t.cap, pwr := t.pwr } ∧
      ∀ k, k ≠ VR_VBAT → k ≠ VR_STATUS → k ≠ IRQ_RAW 0x003 → t.reg k = s.reg k)

/-- Rail samples, HARD floors, droop, VR_FAULT, the camera LDOs and the cap limits. Completion of: meterSample, hardFloorLift, droopDetect,
droopRelease, vrFaultClear, ldoCtrlWrite, capLimitWrite. -/
def Obligations.RailAndCapCommands : Prop :=
  (∀ (i code mv : Nat) (s : State), i < 12 → s.pwr.chipOff = false → s.refoscOk = true →
    (Instr.meterSample i code mv).wf = true →
    let on := s.flag VR_STATUS i
    let c := if on then code % 1024 else 0
    let m := if on then mv % 4096 else 0
    let hist := (c :: (s.rail i).hist).take 50
    let avg2 := (c + (s.rail i).hist.headD 0) / 2
    let avg50 := hist.foldl (· + ·) 0 / 50
    let o := s.setReg (VR_OUT i) (word (c + m * 0x10000 + on.toNat * 0x80000000))
    let a := ((o.setRail i { s.rail i with hist := hist }).setReg (CAP_AVG2 i) (word avg2)).setReg (CAP_AVG50 i) (word avg50)
    let b := if 1 ≤ i ∧ i ≤ 4 then a.shareEnergy (i - 1) (c * railLsb i * m) else a
    let t := (b.railPower i (c * railLsb i * m)).railLimits i avg2 avg50
    (s.flag (PAGE_CTRL 0x004) 0 = false → exec (.meterSample i code mv) s = .next o) ∧
    (s.flag (PAGE_CTRL 0x004) 0 = true → exec (.meterSample i code mv) s = .next
      (if (i = 10 ∨ i = 11) ∧ t.flag VR_FAULT i = true ∧ s.flag VR_FAULT i = false then t.cameraCut else t))) ∧
  (∀ (i : Nat) (s : State), (Instr.hardFloorLift i).wf = true → s.pwr.chipOff = false → s.flag (PAGE_CTRL 0x004) 0 = true → s.flag (CAP_STATE i) 4 = false →
    (s.rail i).floor < 8 →
    exec (.hardFloorLift i) s = .next (s.setRail i { s.rail i with floor := (s.rail i).floor + 1 })) ∧
  (∀ (q mv : Nat) (s : State), q < 4 → s.pwr.chipOff = false → s.flag (PAGE_CTRL 0x004) 0 = true → s.flag VR_STATUS (1 + q) = true →
    mv + droopMv (s.fld CAP_DROOP_CFG 1 0) < oppMv (s.effOpp q) →
    exec (.droopDetect q mv) s =
      .next ((({ s with cap := { s.cap with droop := q :: s.cap.droop.filter (· != q) } } : State).bump (CAP_DROOP_CNT q)).irq 0x004 6)) ∧
  (∀ (q : Nat) (s : State), q < 4 → s.pwr.chipOff = false → s.flag (PAGE_CTRL 0x004) 0 = true →
    exec (.droopRelease q) s = .next { s with cap := { s.cap with droop := s.cap.droop.filter (· != q) } }) ∧
  (∀ (q : Req) (v : Word) (s : State), s.lands q VR_FAULT true = true →
    exec (.vrFaultClear q v) s = .next (((setPositions 12 v.toNat).foldl (fun t i => t.setFlag VR_STATUS (16 + i) false)
      ((s.answer 0).plainWrite VR_FAULT v)).ldoUpdate)) ∧
  (∀ (q : Req) (v : Word) (s : State), s.lands q VR_LDO_CTRL true = true →
    exec (.ldoCtrlWrite q v) s = .next (((s.answer 0).plainWrite VR_LDO_CTRL v).ldoUpdate)) ∧
  (∀ (q : Req) (i : Nat) (v : Word) (s : State), i < 12 → s.lands q (CAP_HARD i) true = true → s.locked 0x004 = false →
    exec (.capLimitWrite q i true v) s = .next ((s.answer 0).setReg (CAP_HARD i) (word (min (bits v 9 0) (railMax i))))) ∧
  (∀ (q : Req) (i : Nat) (v : Word) (s : State), i < 12 → s.lands q (CAP_WARN i) true = true → s.locked 0x004 = false →
    exec (.capLimitWrite q i false v) s = .next ((s.answer 0).setReg (CAP_WARN i) (word (min (bits v 9 0) (s.fld (CAP_HARD i) 9 0)))))

/-- Operating points, allowances, thermal samples and the thermal restart. Completion of: oppResolve, oppSlewDone, envelopeAllowanceStep,
skinAllowanceStep, thermalSample, thermalAllowanceStep, thermalRestart. -/
def Obligations.OperatingPointCommands : Prop :=
  (∀ (s : State), s.pwr.chipOff = false → exec .oppResolve s = .next ([0, 1, 2, 3].foldl State.oppQuad s)) ∧
  (∀ (s : State) (q : Nat), q < 4 → (s.oppQuad q).effOpp q = ((s.oppTerms q).map (·.2)).foldl min 7) ∧
  (∀ (q : Nat) (s : State), q < 4 → s.pwr.chipOff = false → max (s.slewTimes q).2.2 s.wgtEnd ≤ s.now →
    exec (.oppSlewDone q) s = .next (s.setFlag CAP_EFFECTIVE (4 * q + 3) false)) ∧
  (∀ (s : State), s.pwr.chipOff = false → s.flag (PAGE_CTRL 0x004) 0 = true →
    let total := s.fld CAP_TOTAL 31 16
    let env := s.fld CAP_ENVELOPE 15 0
    let new := if s.flag CAP_CTRL 0 = true ∧ env < total then s.cap.env - 1
      else if total * 10 < env * 9 then min 7 (s.cap.env + 1) else s.cap.env
    let t : State := { s with cap := { s.cap with env := new } }
    exec .envelopeAllowanceStep s = .next (if s.cap.env = 7 ∧ new < 7 then t.irq 0x004 5 else t)) ∧
  (∀ (s : State), s.pwr.chipOff = false → s.flag (PAGE_CTRL 0x004) 0 = true →
    let pf := Config.skinFilter s.cap.pf (s.fld CAP_TOTAL 15 0) (s.fld CAP_SKIN_CFG 15 8)
    let est := s.fld CAP_SKIN_AMBIENT 7 0 * 4 + s.fld CAP_SKIN_CFG 7 0 * pf * 4 / 10000
    let limit := s.fld CAP_SKIN_CFG 23 16 * 4
    let new := if s.flag CAP_CTRL 1 = true ∧ limit < est then s.cap.skin - 1
      else if est + 4 < limit then min 7 (s.cap.skin + 1) else s.cap.skin
    let t := ({ s with cap := { s.cap with skin := new, pf := pf } } : State).setReg CAP_SKIN_EST (word (est % 4096))
    exec .skinAllowanceStep s = .next (if s.cap.skin = 7 ∧ new < 7 then t.irq 0x004 4 else t)) ∧
  (∀ (i : Nat) (temp : Int) (s : State), i < 9 → s.pwr.chipOff = false → s.flag (PAGE_CTRL 0x004) 0 = true →
    (clampS 12 temp ≤ s.tempThr i 2 ∨ s.cap.ovr.getD i 0 = 0 ∨ s.cap.hot = true) →
    ∃ t, exec (.thermalSample i temp) s = .next t ∧ t.tempOf i = clampS 12 temp ∧ t.cap.hot = s.cap.hot ∧
      t.pwr = s.pwr ∧ t.mem = s.mem ∧ t.tiles = s.tiles) ∧
  (∀ (i : Nat) (temp : Int) (s : State), i < 9 → s.pwr.chipOff = false → s.flag (PAGE_CTRL 0x004) 0 = true →
    s.tempThr i 2 < clampS 12 temp → i < s.cap.ovr.length → 1 ≤ s.cap.ovr.getD i 0 → s.cap.hot = false →
    ∃ u t : State, exec (.thermalSample i temp) s = .next t ∧ t = u.thermalOff ∧ u.tempOf i = clampS 12 temp ∧
      u.pwr = s.pwr ∧ u.mem = s.mem ∧ u.tiles = s.tiles ∧ t.cap.hot = true) ∧
  (∀ (q : Nat) (s : State), q < 4 → s.pwr.chipOff = false → s.flag (PAGE_CTRL 0x004) 0 = true →
    let old := s.cap.therm.getD q 7
    let new := if (thermScope q).any s.tempHigh = true then old - 1
      else if (thermScope q).all s.tempCool = true ∧ s.cap.critical = false then min 7 (old + 1) else old
    let t : State := { s with cap := { s.cap with therm := s.cap.therm.set q new } }
    exec (.thermalAllowanceStep q) s = .next (if old = 7 ∧ new < 7 then t.irq 0x004 2 else t)) ∧
  (∀ (s : State), s.pwr.chipOff = false → s.cap.hot = true → s.tempCool 8 = true →
    exec .thermalRestart s = .next (({ s with cap := { s.cap with hot := false } } : State).attempt 4 true))

/-- Reset sources and the steps of a cast-on. Completion of: powerOn, sysRstNPulse, castOnStepDone, stepTimeout, restartWarm. -/
def Obligations.CastOnCommands : Prop :=
  (∀ (s : State), s.pwr.chipOff = true ∨ s.fld LIFE_LINE 15 12 = 0 → exec .powerOn s = .next (s.coldReset.attempt 0 false)) ∧
  (∀ (s : State), s.coldReset.fuses = s.fuses ∧ s.coldReset.nor = s.nor ∧ s.coldReset.pending = s.pending ∧
    s.coldReset.out = s.out ∧ s.coldReset.free = s.free ∧ s.coldReset.mem = {} ∧ s.coldReset.tiles = [] ∧ s.coldReset.pwr = State.reset.pwr ∧
    ∀ k, k ≠ PWR_CHIP_STATE → s.coldReset.reg k = regReset k) ∧
  (∀ (ns : Nat) (taken : Bool) (s : State), s.pwr.chipOff = false →
    (ns < 700 → exec (.sysRstNPulse ns taken) s = .next s) ∧
    (10000000 ≤ ns → exec (.sysRstNPulse ns taken) s = .next (s.castCold 1)) ∧
    (700 ≤ ns → (1000 ≤ ns ∨ taken = true) → ns < 10000000 → s.flag LIFE_LINE 9 = false →
      exec (.sysRstNPulse ns taken) s = .next (({ s with cap := { s.cap with hot := false } } : State).castWarm 2)) ∧
    (700 ≤ ns → (1000 ≤ ns ∨ taken = true) → ns < 10000000 → s.flag LIFE_LINE 9 = true →
      exec (.sysRstNPulse ns taken) s = .next ((({ s with cap := { s.cap with hot := false }, life := { s.life with fresh := true } } : State).failsClear).castWarm 2)) ∧
    (700 ≤ ns → ns < 1000 → taken = false → exec (.sysRstNPulse ns taken) s = .next s)) ∧
  (∀ (s u : State) (d : Nat), s.pwr.chipOff = false → s.life.booting = true → s.stepMay s.stepNow = true →
    s.stepWork s.stepNow = (0, d, u) → ¬(s.stepNow = 2 ∧ (u.lifecycle = 0 ∨ u.lifecycle = 4)) →
    exec (.castOnStepDone .done) s = .next (u.stepNext s.stepNow)) ∧
  (∀ (s u : State) (d : Nat), s.pwr.chipOff = false → s.life.booting = true → s.stepMay s.stepNow = true → s.stepNow = 2 →
    s.stepWork 2 = (0, d, u) → (u.lifecycle = 0 ∨ u.lifecycle = 4) →
    exec (.castOnStepDone .done) s =
      .next { u.stepMark 2 with life := { (u.stepMark 2).life with booting := false, ended := true } }) ∧
  (∀ (s u : State) (c d : Nat), s.pwr.chipOff = false → s.life.booting = true → s.stepMay s.stepNow = true →
    s.stepWork s.stepNow = (c, d, u) → c ≠ 0 →
    exec (.castOnStepDone .done) s = .next (u.stepFail s.stepNow c d)) ∧
  (∀ (s : State) (c d : Nat), s.pwr.chipOff = false → s.life.booting = true →
    exec (.castOnStepDone (.failed c d)) s = .next ((s.stepRecord s.stepNow c d).castWarm 5)) ∧
  (∀ (s : State), s.pwr.chipOff = false → s.life.booting = true → s.stepNow ≠ 0 →
    s.life.stepAt + 38400 * s.stepTmo s.stepNow ≤ s.now →
    exec .stepTimeout s = .next ((s.stepRecord s.stepNow 0x10
      (if [3, 4, 10, 11].contains s.stepNow then s.slot else 0)).castWarm 5)) ∧
  (∀ (q : Req) (v : Word) (s : State), s.lands q LIFE_CMD true = true → bits v 31 16 = 0x4C46 →
    exec (.restartWarm q v) s = .next ((s.answer 0).castWarm 6))

/-- Bind-off, its stages, the rollback commit, fuses and CLEAR_DEGRADE. Completion of: bindOff, commitRollback, clearDegrade,
bindOffStageDone, bindoffGraceExpiry, fuseBlowDone. -/
def Obligations.BindOffAndFuseCommands : Prop :=
  (∀ (q : Req) (v : Word) (s : State), s.lands q LIFE_CMD true = true → bits v 31 16 = 0x4C46 → s.life.ready = true →
    s.life.bindStage = 0 → s.life.bound = false → s.life.parked = false →
    exec (.bindOff q v) s = .next (((s.answer 0).setReg LIFE_BINDOFF_STAT 0).stageBegin 1)) ∧
  (∀ (q : Req) (v : Word) (s : State), s.lands q LIFE_CMD true = true → bits v 31 16 = 0x4C46 → s.life.ready = true →
    (∀ j ∈ s.life.fuseQ, j.2 ≠ 1) →
    exec (.commitRollback q v) s = .next (if s.commitBits = [] then (s.answer 0).irq 0x005 1
      else { s.answer 0 with life := { s.life with fuseQ := s.life.fuseQ ++ s.commitBits.map fun i => (i, 1) } })) ∧
  (∀ (q : Req) (v : Word) (s : State), s.lands q LIFE_CMD true = true → bits v 31 16 = 0x4C46 →
    exec (.clearDegrade q v) s = .next ((s.answer 0).setFld LIFE_DEGRADE 6 0 0x70)) ∧
  (∀ (s : State), s.pwr.chipOff = false → s.stageEnded = true → s.life.bindStage < 6 →
    exec .bindOffStageDone s = .next (s.stageBegin (s.life.bindStage + 1))) ∧
  (∀ (s : State), s.pwr.chipOff = false → s.life.bindStage = 6 → s.stageEnded = true →
    exec .bindOffStageDone s = .next ((List.range 64).foldl State.mbxWake (({ s with life := { s.life with
      bindStage := 0, parked := s.flag LIFE_BINDOFF_CFG 0, bound := !s.flag LIFE_BINDOFF_CFG 0 } } : State).setFld LIFE_BINDOFF_STAT 3 0 0))) ∧
  (∀ (s : State), s.pwr.chipOff = false → s.life.bindStage = 2 →
    s.life.stageAt + 38400 * s.fld LIFE_BINDOFF_CFG 15 8 ≤ s.now → s.openSlots = [] →
    exec .bindoffGraceExpiry s = .next s.rptStop) ∧
  (∀ (s : State), s.pwr.chipOff = false → s.life.bindStage = 2 →
    s.life.stageAt + 38400 * s.fld LIFE_BINDOFF_CFG 15 8 ≤ s.now → s.openSlots ≠ [] →
    exec .bindoffGraceExpiry s = .next ((s.openSlots.foldl (fun s k => s.jobFrog k 0x13 0 0)
      (s.setFlag LIFE_BINDOFF_STAT 9 true)).rptStop)) ∧
  (∀ (s : State) (i k : Nat) (rest : List (Nat × Nat)), s.pwr.chipOff = false → s.life.fuseQ = (i, k) :: rest → s.domOn 1 = true →
    exec .fuseBlowDone s = .next (
      let t : State := { s.blow i with life := { (s.blow i).life with fuseQ := rest } }
      if rest.any (fun e => e.2 == k) then t else if k = 1 then t.irq 0x005 1 else t.lcDone)) ∧
  (∀ (s : State) (i : Nat), (s.blow i).fuses.map.testBit i = true ∧
    ∀ j, j ≠ i → (s.blow i).fuses.map.testBit j = s.fuses.map.testBit j)

/-- The commands of an Adsel window: placed, judged, served in turn, or posted as refused. Completion of: getCert, regionAdd, regionDel,
instantiate, teardown, dbgChallenge, dbgRelock, lcAdvance, adselBadOpcode, adselRefusalPost. -/
def Obligations.AdselWindowCommands : Prop :=
  (∀ (q : Req) (v : Word) (s : State), s.lands q (ADSEL_T_CMD q.tenant) true = true → s.flag (ADSEL_T_STAT q.tenant) 0 = false →
    let placed := fun op => (s.answer 0).adselPlace q q.tenant (setBits v 7 0 op)
    let after := fun op => if s.adselUp = true then (placed op).adselTake q.tenant else placed op
    exec (.getCert q v) s = .next (after 0x01) ∧
    exec (.regionAdd q v) s = .next (after 0x02) ∧
    exec (.regionDel q v) s = .next (after 0x03) ∧
    exec (.instantiate q v) s = .next (after 0x10) ∧
    exec (.teardown q v) s = .next (after 0x11) ∧
    exec (.dbgChallenge q v) s = .next (after 0x20) ∧
    exec (.dbgRelock q v) s = .next (after 0x21) ∧
    exec (.lcAdvance q v) s = .next (after 0x30)) ∧
  (∀ (q : Req) (v : Word) (s : State), s.lands q (ADSEL_T_CMD q.tenant) true = true → s.flag (ADSEL_T_STAT q.tenant) 0 = false →
    bits v 7 0 ∉ adselOps →
    ∃ t, exec (.adselBadOpcode q v) s = .next t ∧ t.flag (ADSEL_T_STAT q.tenant) 0 = true ∧ t.resp = ⟨0, []⟩ ∧
      (∃ c, t.adselCmd q.tenant = some c ∧ c.kind = 3 ∧ c.cmd = v) ∧ t = { s with regs := t.regs, resp := t.resp, adsel := t.adsel }) ∧
  (∀ (q : Req) (v : Word) (s : State) (t : Nat), t < 8 → bits v 7 0 ∈ adselOps →
    (s.adselPlace q t v).flag (ADSEL_T_STAT t) 0 = true ∧
    (s.adselPlace q t v).fld (ADSEL_T_STAT t) 31 16 = (s.fld (ADSEL_T_STAT t) 31 16 + 1) % 0x10000 ∧
    (∃ c, (s.adselPlace q t v).adselCmd t = some c ∧ c.kind = 0 ∧ c.cmd = v ∧ c.q = q ∧
      c.addr = (s.reg (ADSEL_T_ADDR_LO t)).toNat + 0x100000000 * s.fld (ADSEL_T_ADDR_HI t) 7 0 ∧ c.len = (s.reg (ADSEL_T_LEN t)).toNat) ∧
    ∀ k, k ≠ ADSEL_T_STAT t → (s.adselPlace q t v).reg k = s.reg k) ∧
  (∀ (s : State) (t r : Nat) (c : AdselCmd), s.adselCmd t = some c → c.kind = 0 → s.adselRight t c = some r →
    s.adselTake t = (s.logRefusal { c.q with tenant := t } 0 true r).setAdselCmd t (some { c with kind := 2 })) ∧
  (∀ (s : State) (t : Nat) (c : AdselCmd), s.adselCmd t = some c → c.kind = 0 → s.adselRight t c = none →
    s.adselTake t = (s.setAdselCmd t (some { c with kind := 1 })).adselServe) ∧
  (∀ (s : State) (t : Nat) (c : AdselCmd), t < 8 → s.pwr.chipOff = false → s.adselUp = true → s.adselCmd t = some c →
    c.kind = 2 ∨ c.kind = 3 →
    exec (.adselRefusalPost t) s = .next ((s.setFld (ADSEL_T_STAT t) 15 0 (if c.kind = 2 then 0x100 else 0x1C00)).setAdselCmd t none))

/-- A served Adsel command ends: its work, its status, the next window's turn; provisioning, teardown, TRNG and challenge events. Completion
of: adselCommandDone, teardownComplete, provision, trngHealthFail, challengeExpiry. -/
def Obligations.AdselServedCommands : Prop :=
  (∀ (s u : State) (t code : Nat) (c : AdselCmd) (r : Option Nat), t < 8 → s.pwr.chipOff = false → s.adselUp = true →
    s.adsel.serving = some t → s.adselCmd t = some c → c.kind = 1 → s.adselWork t c = (some (code, r), u) →
    exec (.adselCommandDone t) s = .next (u.adselEnd t c code r)) ∧
  (∀ (s : State) (t : Nat) (c : AdselCmd),
    (bits c.cmd 7 0 = 0x20 → s.adselWork t c = (some (0, none), s.challengeNew)) ∧
    (bits c.cmd 7 0 = 0x03 → ∃ u, s.adselWork t c = (some (0, none), u) ∧ (u.xtsRegion (bits c.cmd 15 8)).valid = false) ∧
    (bits c.cmd 7 0 = 0x11 → 1 ≤ bits c.cmd 15 8 → bits c.cmd 15 8 ≤ 7 → bits c.cmd 15 8 ∉ s.adsel.teardown →
      s.adselWork t c = (some (0, none), s)) ∧
    (bits c.cmd 7 0 = 0x21 → s.flag ADSEL_STATUS 9 = true →
      s.adselWork t c = (some (0, none), (s.setLevel (defaultLevel (s.fld ADSEL_STATUS 2 0))).aliasIssue))) ∧
  (∀ (s : State) (t code : Nat) (r : Option Nat), t < 8 → code < 0x100 →
    (s.adselPost t code r).flag (ADSEL_T_STAT t) 0 = false ∧ (s.adselPost t code r).fld (ADSEL_T_STAT t) 15 8 = code ∧
    (s.adselPost t code r).adselCmd t = none) ∧
  (∀ (t : Nat) (s : State), t < 8 → s.pwr.chipOff = false → s.adselUp = true → s.tenantWiped t = true →
    let ps := allPages.filter fun p => s.pageOwner p == t
    ps.all s.pageDrained = true →
    let a := ps.foldl (fun s p => (s.pageReset p).setFld (PAGE_OWNER p) 2 0 0) s
    let b := (a.setFlag ADSEL_TENANTS (8 + t) false).setTenant t {}
    exec (.teardownComplete t) s = .next { b with adsel := { b.adsel with
      teardown := b.adsel.teardown.filter (· != t), wiping := b.adsel.wiping.filter (· != t) } }) ∧
  (∀ (p : Provision) (s : State), s.pwr.chipOff = false → s.lifecycle = 0 → s.life.ended = true → s.domOn 1 = true →
    (∀ e ∈ s.life.fuseQ, e.2 ≠ 2) → p.imgKeys.map List.length = [48, 48, 48, 48] → p.svc.length = 48 → p.integ.length = 48 →
    ∃ u key, exec (.provision p) s = .next u ∧ u.out = .bus 0x10 key :: s.out ∧ u.fuses = s.fuses ∧
      (∀ j k i, p.imgKeys[j]? = some k → i < 384 → (leNat k).testBit i = true → (392 + 384 * j + i, 2) ∈ u.life.fuseQ) ∧
      (∀ i, i < 384 → (leNat p.svc).testBit i = true → (1932 + i, 2) ∈ u.life.fuseQ) ∧
      (∀ i, i < 384 → (leNat p.integ).testBit i = true → (2316 + i, 2) ∈ u.life.fuseQ) ∧
      (∀ i, i < 64 → p.serial.testBit i = true → (3468 + i, 2) ∈ u.life.fuseQ) ∧ s.life.fuseQ <+: u.life.fuseQ) ∧
  (∀ (s : State), s.pwr.chipOff = false → s.domOn 1 = true →
    exec .trngHealthFail s = .next ((s.setFlag ADSEL_STATUS 9 false).irq 0x010 4)) ∧
  (∀ (s : State), s.pwr.chipOff = false → s.flag ADSEL_STATUS 17 = true → s.adsel.challengeAt + 384000000 ≤ s.now →
    ∃ t, exec .challengeExpiry s = .next t ∧ t.flag ADSEL_STATUS 17 = false ∧ (∀ i, i < 8 → t.reg (ADSEL_DBG_NONCE i) = 0) ∧
      t = { s with regs := t.regs })

/-- Unlock messages, the sampling tick, the posted outcome; heartbeat supervision and the start of Adsel. Completion of: unlockMessage,
unlockSampleTick, unlockResultPost, schHeartbeatTimeout, schInternalFault, adselStart, adselStartDone. -/
def Obligations.UnlockAndSupervisionCommands : Prop :=
  (∀ (s : State), s.pwr.chipOff = false → s.adselUp = true → s.flag (MBX_RX_STAT 63) 0 = true →
    let m := (List.range 16).flatMap fun w => leBytes 4 (s.reg (MBX_SLOT 63 w)).toNat
    let k := leNat (slice m 1 1)
    let u : State := { mbxSlotRead 63 s with resp := s.resp }
    slice m 0 1 = [0xD5] → slice m 2 2 = [0, 0] →
    (k = 0 → u.adsel.next ≠ 0 → exec .unlockMessage s = .next { u with adsel := { u.adsel with image := m.drop 4, next := 1 } }) ∧
    (k = u.adsel.next → k < 3 →
      exec .unlockMessage s = .next { u with adsel := { u.adsel with image := u.adsel.image ++ m.drop 4, next := k + 1 } }) ∧
    (k = u.adsel.next → k = 3 →
      exec .unlockMessage s = .next { u with adsel := { u.adsel with image := [], next := 0, mbxResp := some ((u.adsel.image ++ m.drop 4).take 208) } })) ∧
  (∀ (s : State) (img : List Byte), s.pwr.chipOff = false → s.adselUp = true → s.adsel.tapChallenge = false →
    s.adsel.mbxResp = some img → s.adsel.tapResp = none →
    let u : State := { s with adsel := { s.adsel with mbxResp := none, tapResp := none } }
    let level := leNat (slice img 1 1)
    exec .unlockSampleTick s = .next (match u.unlockReason false img with
      | some r =>
        let w := ((u.logRefusal ⟨6, 0x3F, 0⟩ 0 true r).challengeClear).unlockFail
        { w with adsel := { w.adsel with posts := w.adsel.posts ++ [(w.now, none)] } }
      | none =>
        let w := if level = 2 then u.challengeClear.teardownAll else u.challengeClear
        { w with adsel := { w.adsel with posts := w.adsel.posts ++ [(w.now, some level)] } })) ∧
  (∀ (s : State) (at0 : Nat) (rest : List (Nat × Option Nat)), s.pwr.chipOff = false → s.adselUp = true →
    s.adsel.posts = (at0, none) :: rest → at0 + 307200 ≤ s.now → (∀ p ∈ rest, p.2 ≠ some 2 ∨ s.postDue p = false) →
    exec .unlockResultPost s = .next ((({ s with adsel := { s.adsel with posts := rest } } : State).setFld (ADSEL_T_STAT 0) 15 8 0x17).irq 0x010 2)) ∧
  (∀ (s : State) (at0 l : Nat) (rest : List (Nat × Option Nat)), s.pwr.chipOff = false → s.adselUp = true →
    s.adsel.posts = (at0, some l) :: rest → l ≠ 2 → at0 + 307200 ≤ s.now → (∀ p ∈ rest, p.2 ≠ some 2 ∨ s.postDue p = false) →
    s.debugLevel ≠ l →
    exec .unlockResultPost s = .next (((({ s with adsel := { s.adsel with posts := rest } } : State).setLevel l).aliasIssue).irq 0x010 2)) ∧
  (∀ (s : State), s.pwr.chipOff = false → s.supervised = true → s.openSlots ≠ [] →
    384 * s.fld ADSEL_SUPV 15 0 ≤ 10 * (s.now - s.sch.beatAt) → exec .schHeartbeatTimeout s = .next (s.schedFrog 1)) ∧
  (∀ (s : State), s.pwr.chipOff = false → s.supervised = true → exec .schInternalFault s = .next (s.schedFrog 2)) ∧
  (∀ (s : State), s.pwr.chipOff = false → s.domOn 1 = true → s.life.ready = true → s.flag ADSEL_STATUS 8 = false →
    s.adsel.starting = false →
    exec .adselStart s = .next ({ s with adsel := { s.adsel with starting := true } } : State).romStart) ∧
  (∀ (s : State) (c d : Nat), s.pwr.chipOff = false → s.domOn 1 = true → s.adsel.starting = true →
    exec (.adselStartDone .done) s = .next ((s.imageCheck s.slot).elim s.adselReady.teardownRun fun e => s.stepFail 4 e s.slot) ∧
    exec (.adselStartDone (.failed c d)) s = .next ((s.imageCheck s.slot).elim (s.stepFail 4 c d) fun e => s.stepFail 4 e s.slot))

/-- The microphone paths: samples, frames, rate change, settling, beams, SAVE and the calibration reload. Completion of: lpSample, hqFrame,
pdmRateChange, settleEnd, audBeamCommit, save, calReload. -/
def Obligations.MicrophoneCommands : Prop :=
  (∀ (pdm : List Byte) (y : Int) (s u : State), s.pwr.chipOff = false → s.flag (PAGE_CTRL 0x040) 0 = true → s.lpSample pdm = (some y, u) →
    exec (.lpSample pdm) s = .next (u.aieSample (if u.lpTapped = true then y else 0))) ∧
  (∀ (pdm : List Byte) (s : State), s.domOn 4 = true → s.strmState 6 = 1 → (s.stream 6).next = 0 →
    (s.lpSample pdm).1 = some (if s.flag AUD_STATUS 2 = true then 0
      else clampS 16 (gained 1 (s.audGain (s.fld AUD_LP_CFG 2 0)) (s.lpFilter pdm).1))) ∧
  (∀ (pdm : List Byte) (s : State), s.pwr.chipOff = false → s.flag (PAGE_CTRL 0x040) 0 = true → s.domOn 5 = true →
    let f := ((s.strmBoundary 7).beamLatch).hqFilter pdm
    let u := f.2
    let frame := (List.range 8).map fun c => if u.micEn c then clampS 24 (gained 1 (u.audGain c) (at' 0 f.1 c)) else 0
    let w : State := { u with aud := { u.aud with hist := (frame :: u.aud.hist).take 112 } }
    let r := w.strmRecord 7 (w.hqWords.flatMap fun x => leBytes 4 (ofInt x).toNat)
    (u.strmState 7 ≠ 1 ∨ u.flag AUD_STATUS 3 = true → exec (.hqFrame pdm) s = .next w) ∧
    (u.strmState 7 = 1 → u.flag AUD_STATUS 3 = false →
      exec (.hqFrame pdm) s = .next (
        if r.aud.hqBlk + 1 < [48, 96, 192, 480].getD (r.fld AUD_HQ_CFG 17 16) 48 then { r with aud := { r.aud with hqBlk := r.aud.hqBlk + 1 } }
        else (({ r with aud := { r.aud with hqBlk := 0 } } : State).strmEvent 7).irq 0x040 1))) ∧
  (∀ (s : State), s.pwr.chipOff = false → s.flag (PAGE_CTRL 0x040) 0 = true → s.domOn 4 = true →
    let want := if s.hqRuns then 2 else 1
    let ch := [0, 1].filter fun g => s.pdmRate g != 0 && s.pdmRate g != want
    ch ≠ [] → exec .pdmRateChange s = .next (({ s with aud := { s.aud with clk := ch.foldl (fun l g => l.set g want) s.aud.clk } } : State).audSettle
      (s.fld AUD_HQ_CFG 25 20) (s.fld AUD_HQ_CFG 25 20))) ∧
  (∀ (s : State) (lp hq : Nat),
    (s.audSettle lp hq).flag AUD_STATUS 2 = (s.lpRuns || s.flag AUD_STATUS 2) ∧
    (s.audSettle lp hq).flag AUD_STATUS 3 = (s.hqRuns || s.flag AUD_STATUS 3) ∧
    ∀ k, k ≠ AUD_STATUS → (s.audSettle lp hq).reg k = s.reg k) ∧
  (∀ (s : State), s.pwr.chipOff = false → s.flag (PAGE_CTRL 0x040) 0 = true →
    exec .settleEnd s = .next (
      let t := if s.aud.lpTill ≤ s.now then s.setFlag AUD_STATUS 2 false else s
      if s.aud.hqTill ≤ s.now then t.setFlag AUD_STATUS 3 false else t)) ∧
  (∀ (q : Req) (v : Word) (s : State), s.lands q AUD_BEAM_COMMIT true = true →
    ∃ t, exec (.audBeamCommit q v) s = .next t ∧ t.resp = ⟨0, []⟩ ∧ t = { s with regs := t.regs, resp := t.resp } ∧
      (∀ b, b < 4 → t.flag (AUD_BEAM_CTRL b) 31 = (bit v b || s.flag (AUD_BEAM_CTRL b) 31)) ∧
      ∀ k, (∀ b, b < 4 → k ≠ AUD_BEAM_CTRL b) → t.reg k = s.reg k) ∧
  (∀ (q : Req) (v : Word) (s : State), s.lands q AUD_CTRL true = true → bit v 1 = false →
    ∃ t, exec (.save q v) s = .next t ∧ t = audSave (s.answer 0) ∧ t.flag (IRQ_RAW 0x040) 4 = true ∧ t.resp = ⟨0, []⟩) ∧
  (∀ (q : Req) (v : Word) (s : State), s.lands q AUD_CTRL true = true → bit v 0 = false →
    ∃ t, exec (.calReload q v) s = .next t ∧ t.flag AUD_STATUS 6 = !bit (s.wordAt (restoreBase + 4)) 0 ∧
      t = { s with regs := t.regs, resp := t.resp })

/-- Speaker samples, the current limit, the power limit and the temperature. Completion of: spkSample, spkMuteExpiry, spkPlimStep,
spkThermal. -/
def Obligations.SpeakerCommands : Prop :=
  (∀ (i0 v0 i1 v1 a b : Int) (s z : State), s.pwr.chipOff = false → s.flag (PAGE_CTRL 0x041) 0 = true → s.domOn 5 = true →
    let p := s.strmBoundary 9
    let cut := [p.spkOver i0, p.spkOver i1]
    let w := ((p.senseWrite [i0, v0, i1, v1]).spkLimit 0 i0).spkLimit 1 i1
    w.strmState 9 = 1 → w.spkPair = (some (a, b), z) →
    let y : State := if z.aud.silent then { z with aud := { z.aud with silent := false, fade := 0 } } else z
    exec (.spkSample i0 v0 i1 v1) s = .next (y.spkOut [a, if z.flag SPK_CTRL 8 then a else b] cut)) ∧
  (∀ (i0 v0 i1 v1 : Int) (s z : State), s.pwr.chipOff = false → s.flag (PAGE_CTRL 0x041) 0 = true → s.domOn 5 = true →
    let p := s.strmBoundary 9
    let cut := [p.spkOver i0, p.spkOver i1]
    let w := ((p.senseWrite [i0, v0, i1, v1]).spkLimit 0 i0).spkLimit 1 i1
    w.strmState 9 = 1 → w.spkPair = (none, z) →
    let y := (({ z with aud := { z.aud with silent := true, fade := 0 } } : State).strmUnderrun 9).irq 0x041 3
    exec (.spkSample i0 v0 i1 v1) s = .next ((if z.aud.silent then z else y).spkFade cut) ∧ y.flag (IRQ_RAW 0x041) 3 = true) ∧
  (∀ (d : Nat) (s : State), d < 2 → s.pwr.chipOff = false → s.flag (PAGE_CTRL 0x041) 0 = true → (s.spkOf d).muted = true →
    (s.spkOf d).mutedAt + 3840000 ≤ s.now →
    exec (.spkMuteExpiry d) s =
      .next (((s.setSpk d { s.spkOf d with muted := false, ramp := 0 }).setFlag SPK_STATUS (2 + d) false).spkMuted)) ∧
  (∀ (d mw : Nat) (s : State), d < 2 → s.pwr.chipOff = false → s.flag (PAGE_CTRL 0x041) 0 = true → s.domOn 5 = true →
    (s.fld SPK_PLIM 11 0 < mw → s.flag SPK_STATUS (4 + d) = true →
      exec (.spkPlimStep d mw) s = .next (s.setSpk d { s.spkOf d with atten := (s.spkOf d).atten + 1 })) ∧
    (s.fld SPK_PLIM 11 0 < mw → s.flag SPK_STATUS (4 + d) = false →
      exec (.spkPlimStep d mw) s = .next ((((s.setSpk d { s.spkOf d with atten := (s.spkOf d).atten + 1 }).setFlag
        SPK_STATUS (4 + d) true).bumpSat SPK_EVT 31 16).irq 0x041 1)) ∧
    (mw < s.fld SPK_PLIM 11 0 → 1 < (s.spkOf d).atten →
      exec (.spkPlimStep d mw) s = .next (s.setSpk d { s.spkOf d with atten := (s.spkOf d).atten - 1 })) ∧
    (mw < s.fld SPK_PLIM 11 0 → (s.spkOf d).atten = 1 →
      exec (.spkPlimStep d mw) s = .next ((s.setSpk d { s.spkOf d with atten := 0 }).setFlag SPK_STATUS (4 + d) false))) ∧
  (∀ (temp : Int) (s : State), s.pwr.chipOff = false → s.flag (PAGE_CTRL 0x041) 0 = true → s.domOn 5 = true → 150 < temp →
    ∃ t, exec (.spkThermal temp) s = .next t ∧ t.flag SPK_STATUS 6 = true ∧ t.flag SPK_STATUS 0 = true ∧
      t.flag SPK_STATUS 1 = true ∧ t = { s with regs := t.regs } ∧ ∀ k, k ≠ SPK_STATUS → t.reg k = s.reg k)

/-- The always-on engine: program start and end, the model load. Completion of: aieProgramStart, aieProgramDone, aieLoadCmd, aieLoadDone. -/
def Obligations.AlwaysOnEngineCommands : Prop :=
  (∀ (vision : Bool) (s : State), s.pwr.chipOff = false → s.flag (PAGE_CTRL 0x008) 0 = true →
    (if vision then s.aie.vision.isSome else s.aie.audioReady) = true → s.aieRuns vision = true →
    s.flag AIE_STATUS 1 = false → s.flag AIE_STATUS 2 = false → (s.arbitrate 0x100 2 s.aieReady false).1 = some vision.toNat →
    ∃ t, exec (.aieProgramStart vision) s = .next t ∧ t.flag AIE_STATUS (1 + vision.toNat) = true ∧
      (vision = true → t.aie = { s.aie with vision := none, visionIn := s.aie.vision.getD [] }) ∧
      (vision = false → t.aie = { s.aie with audioReady := false, audioIn := (s.aie.frames.take (leNat (slice s.aie.model 11 1))).reverse.flatten }) ∧
      t = { s with regs := t.regs, aie := t.aie, ptrs := (s.arbitrate 0x100 2 s.aieReady false).2.ptrs } ∧
      ∀ k, k ≠ AIE_STATUS → t.reg k = s.reg k) ∧
  (∀ (vision : Bool) (s : State), s.pwr.chipOff = false → s.flag (PAGE_CTRL 0x008) 0 = true →
    (if vision then s.aie.vision.isSome else s.aie.audioReady) = true →
    (s.aieRuns vision = true → s.flag AIE_STATUS 1 = true ∨ s.flag AIE_STATUS 2 = true → exec (.aieProgramStart vision) s = .next s) ∧
    (s.aieRuns vision = false → exec (.aieProgramStart vision) s =
      .next { s with aie := if vision then { s.aie with vision := none } else { s.aie with audioReady := false } })) ∧
  (∀ (vision : Bool) (s : State), s.pwr.chipOff = false → s.flag (PAGE_CTRL 0x008) 0 = true →
    s.flag AIE_STATUS (1 + vision.toNat) = true → s.refoscOk = true →
    exec (.aieProgramDone vision) s =
      .next (((s.runProgram vision (if vision then s.aie.visionIn else s.aie.audioIn)).setFlag AIE_STATUS (1 + vision.toNat) false).irq
        0x008 vision.toNat)) ∧
  (∀ (q : Req) (v : Word) (s : State), s.lands q AIE_LOAD_CMD true = true → bit v 0 = true → s.flag AIE_STATUS 3 = false →
    ∃ t, exec (.aieLoadCmd q v) s = .next t ∧ t.flag AIE_STATUS 3 = true ∧ t.flag AIE_STATUS 1 = false ∧
      t.flag AIE_STATUS 2 = false ∧ t.resp = ⟨0, []⟩ ∧ t = { s with regs := t.regs, resp := t.resp } ∧
      ∀ k, k ≠ AIE_STATUS → t.reg k = s.reg k) ∧
  (∀ (s u w : State) (h m : List Byte), s.pwr.chipOff = false → s.flag (PAGE_CTRL 0x008) 0 = true → s.flag AIE_STATUS 3 = true →
    s.unitRead (unitReq 0) (s.base64 AIE_LOAD_ADDR_LO AIE_LOAD_ADDR_HI) 64 = (0, h, u) → leNat (slice h 4 4) ≤ 32768 →
    u.unitRead (unitReq 0) (s.base64 AIE_LOAD_ADDR_LO AIE_LOAD_ADDR_HI) (leNat (slice h 4 4)) = (0, m, w) →
    ∃ t, exec .aieLoadDone s = .next t ∧ t.flag AIE_STATUS 3 = false ∧ t.flag AIE_STATUS 0 = modelOk m ∧ t.flag (IRQ_RAW 0x008) 2 = true ∧
      (modelOk m = true → t.aie = { w.aie with model := m.take 32768 }))

/-- The ply cascade: scores, climbs, descents and descriptors. Completion of: cascScoreIn, plyActive, plySleepTimerExpiry, descendAll, keep,
descCfgWrite. -/
def Obligations.CascadeCommands : Prop :=
  (∀ (q : Req) (j : Nat) (v : Word) (s : State), j < 8 → s.lands q (CASC_SCORE_IN j) true = true →
    exec (.cascScoreIn q j v) s = .next (((s.answer 0).setReg (CASC_SCORE_IN j) (v &&& 0xFFFF)).cascUpdate (8 + j) (bits v 15 0))) ∧
  (∀ (j : Nat) (s : State), j < 4 → s.pwr.chipOff = false → s.flag (PAGE_CTRL 0x007) 0 = true → s.plyState j = 1 → (s.plyDoms j).all s.domOn = true →
    let time := min 65535 ((s.now - (s.plyOf j).t0) * 10 / 96)
    let a := ((s.setPlyState j 2).setFld (DESC_STAT j) 15 0 time).cascLog j 1 time
    let u := (a.setPly j { a.plyOf j with timer := a.now }).irq 0x007 0
    exec (.plyActive j) s = .next u.cascNotify ∧ u.plyState j = 2 ∧ u.fld (DESC_STAT j) 15 0 = time) ∧
  (∀ (j : Nat) (s : State), 1 ≤ j → j < 4 → s.pwr.chipOff = false → s.flag (PAGE_CTRL 0x007) 0 = true → s.plyState j = 2 →
    s.fld (DESC_SLEEP j) 15 0 ≠ 0 → (s.plyOf j).timer + 38400 * s.fld (DESC_SLEEP j) 15 0 ≤ s.now →
    exec (.plySleepTimerExpiry j) s = .next (State.plySettle 3 (s.setPly j { s.plyOf j with due := true }))) ∧
  (∀ (q : Req) (v : Word) (s : State), s.lands q CASC_CMD true = true → s.flag (PAGE_CTRL 0x007) 0 = true → (∀ j, 1 ≤ j → j ≤ 3 → bit v (4 + j) = false) →
    exec (.descendAll q v) s = .next ([3, 2, 1].foldl (fun s j => if s.plyUp j && !(s.plyState j == 1 && (s.plyOf j).t0 == s.now) then s.plyDescend j else s) (s.answer 0))) ∧
  (∀ (q : Req) (v : Word) (s : State), s.lands q CASC_CMD true = true → s.flag (PAGE_CTRL 0x007) 0 = true → bit v 0 = false →
    ∃ t, exec (.keep q v) s = .next t ∧ t = { s with ply := t.ply, resp := ⟨0, []⟩ } ∧
      ∀ j, t.plyOf j = if 1 ≤ j ∧ j ≤ 3 ∧ bit v (4 + j) = true then { s.plyOf j with due := false, timer := s.now } else s.plyOf j) ∧
  (∀ (q : Req) (j : Nat) (v : Word) (s : State), j < 4 → s.lands q (DESC_CFG j) true = true → bits v 5 4 = s.fld (DESC_CFG j) 5 4 →
    s.plyState j ≠ 3 →
    exec (.descCfgWrite q j 0 v) s =
      .next ((s.answer 0).setReg (DESC_CFG j) ((s.reg (DESC_CFG j) &&& 0xFF0000) ||| (v &&& 0xFFBF)))) ∧
  (∀ (q : Req) (j : Nat) (v : Word) (s : State), j < 4 → s.lands q (DESC_CFG j) true = true → bits v 5 4 ≠ s.fld (DESC_CFG j) 5 4 →
    s.plyState j ≠ 3 →
    let u := ((s.answer 0).setReg (DESC_CFG j) ((s.reg (DESC_CFG j) &&& 0xFF0000) ||| (v &&& 0xFFBF)))
    (s.plyUp j = true →
      exec (.descCfgWrite q j 0 v) s = .next ((u.setFld (DESC_CFG j) 5 4 (s.fld (DESC_CFG j) 5 4)).fail q (DESC_CFG j) 0x10)) ∧
    (s.plyUp j = false → bits v 5 4 ≠ 0 → bits v 5 4 ≤ j →
      exec (.descCfgWrite q j 0 v) s = .next ((u.setFld (DESC_CFG j) 5 4 (s.fld (DESC_CFG j) 5 4)).fail q (DESC_CFG j) 0x11))) ∧
  (∀ (q : Req) (j w : Nat) (v : Word) (s : State), j < 4 → 1 ≤ w → w < 8 → s.lands q (DESC_CFG j + 4 * w) true = true →
    s.plyUp j = false →
    exec (.descCfgWrite q j w v) s = .next ((s.answer 0).plainWrite (DESC_CFG j + 4 * w) v))

/-- START, PAUSE, RESUME and STOP of a stream complete from the states that allow them and end with BAD_STATE from the others; STOPPING
ends. Completion of: strmStart, strmPause, strmResume, strmStop, strmStopComplete. -/
def Obligations.StreamStateCommands : Prop :=
  (∀ (q : Req) (st : Nat) (s : State), st < 16 → s.lands q (STRM_CMD st) true = true → s.strmState st = 0 →
    (st < 6 → s.ispConfigOk st = true) → (st = 10 ∨ st = 11 → s.dsiRateOk (st - 10) = true) →
    ∃ t, exec (.strmStart q st) s = .next t ∧ t.resp = ⟨0, []⟩ ∧ t.reg (STRM_SW_SEQ st) = 0 ∧ t.reg (STRM_HW_SEQ st) = 0 ∧
      t.heldBy (strmDomain st) 13 = true ∧ t.strmState st = (if 12 ≤ st then 1 else 0) ∧
      (t.stream st).next = (if 12 ≤ st then 0 else 1) ∧
      t = { s with regs := t.regs, strm := t.strm, holds := t.holds, dsi := t.dsi, cam := t.cam, aud := t.aud, resp := t.resp } ∧
      ∀ j, j ≠ st → t.stream j = s.stream j) ∧
  (∀ (q : Req) (st : Nat) (s : State), st < 16 → s.lands q (STRM_CMD st) true = true → s.strmState st = 0 →
    (st < 6 ∧ s.ispConfigOk st = false) ∨ ((st = 10 ∨ st = 11) ∧ s.dsiRateOk (st - 10) = false) →
    exec (.strmStart q st) s = .next ((s.answer 0).fail q (STRM_CMD st) 0x13)) ∧
  (∀ (q : Req) (st : Nat) (s : State), st < 16 → s.lands q (STRM_CMD st) true = true → s.strmState st = 1 →
    let u := (s.answer 0).readersStopped st
    u.strmState st = 1 →
    exec (.strmPause q st) s = .next (let t := u.setStream st { u.stream st with next := 2 }
      if 12 ≤ st then t.strmBoundary st else t)) ∧
  (∀ (q : Req) (st : Nat) (s : State), st < 16 → s.lands q (STRM_CMD st) true = true → s.strmState st = 2 →
    exec (.strmResume q st) s = .next (let t := (s.answer 0).setStream st { s.stream st with next := 3 }
      if 12 ≤ st then t.strmBoundary st else t)) ∧
  (∀ (q : Req) (st : Nat) (s : State), st < 16 → s.lands q (STRM_CMD st) true = true → s.strmState st = 1 ∨ s.strmState st = 2 →
    let u := (s.answer 0).readersStopped st
    u.strmState st = 1 ∨ u.strmState st = 2 →
    exec (.strmStop q st) s = .next (let t := (u.setStrmState st 3).setStream st {}
      if st < 6 then t.setCamera st { frames := (t.camera st).frames } else if 12 ≤ st then t.strmBoundary st else t)) ∧
  (∀ (q : Req) (st : Nat) (s : State), st < 16 → s.lands q (STRM_CMD st) true = true →
    let bad : Host.Outcome State Fault Refusal := .next ((s.answer 0).fail q (STRM_CMD st) 0x12)
    (s.strmState st ≠ 0 → exec (.strmStart q st) s = bad) ∧ (s.strmState st ≠ 1 → exec (.strmPause q st) s = bad) ∧
    (s.strmState st ≠ 2 → exec (.strmResume q st) s = bad) ∧
    (s.strmState st = 0 ∨ s.strmState st = 3 → exec (.strmStop q st) s = bad)) ∧
  (∀ (st : Nat) (s : State), st < 16 → st ≠ 10 → st ≠ 11 → s.pwr.chipOff = false → s.strmState st = 3 →
    ∃ t, exec (.strmStopComplete st) s = .next t ∧ t.strmState st = 0 ∧ (t.stream st).cap = false ∧
      (⟨13, st, strmDomain st⟩ ∈ t.holds → False) ∧ t = { s with regs := t.regs, strm := t.strm, holds := t.holds } ∧
      ∀ k, k ≠ STRM_STAT st → k ≠ STRM_RUNNING → t.reg k = s.reg k) ∧
  (∀ (n : Nat) (s : State), n < 2 → s.pwr.chipOff = false → s.strmState (10 + n) = 3 →
    let u := s.strmBoundary (10 + n)
    exec (.strmStopComplete (10 + n)) s = .next ((u.setDisplay n { u.display n with line := none }).dcsFlush n))

/-- Buffers of a stream: the device's sequence, the software's, completion and consumption. Completion of: strmSwSeqWrite,
streamBufferComplete, streamBufferConsumed. -/
def Obligations.StreamBufferCommands : Prop :=
  (∀ (q : Req) (st : Nat) (v : Word) (s : State), st < 16 → s.lands q (STRM_SW_SEQ st) true = true →
    let n := (bits v 15 0 + 0x10000 - s.fld (STRM_SW_SEQ st) 15 0) % 0x10000
    let room := if s.strmOut st then s.strmCount st - s.strmAhead st else s.strmAhead st
    (n ≤ room → ∃ t, exec (.strmSwSeqWrite q st v) s = .next t ∧ t.resp = ⟨0, []⟩ ∧
      t.fld (STRM_SW_SEQ st) 15 0 = bits v 15 0 ∧
      t.fld (STRM_SW_SEQ st) 19 16 = (s.fld (STRM_SW_SEQ st) 19 16 + n) % s.strmCount st ∧
      t = { s with regs := t.regs, resp := t.resp } ∧ ∀ k, k ≠ STRM_SW_SEQ st → t.reg k = s.reg k) ∧
    (room < n → exec (.strmSwSeqWrite q st v) s = .next ((s.answer 0).fail q (STRM_SW_SEQ st) 0x11))) ∧
  (∀ (st : Nat) (s : State), 6 ≤ st → st < 12 → s.strmOut st = false → s.pwr.chipOff = false →
    s.strmState st = 1 ∨ s.strmState st = 2 → (s.stream st).cap = true → (s.stream st).ended = true →
    exec (.streamBufferComplete st) s = .next (s.strmComplete st)) ∧
  (∀ (st : Nat) (s : State), st < 6 → s.strmOut st = false → s.pwr.chipOff = false →
    s.strmState st = 1 ∨ s.strmState st = 2 → (s.camera st).done = true → s.csiOn st = true →
    exec (.streamBufferComplete st) s = .next (s.frameComplete st)) ∧
  (∀ (st : Nat) (s : State), 12 ≤ st → st < 16 → s.strmOut st = false → s.pwr.chipOff = false → s.strmState st = 1 →
    let u := s.strmOpen st s.now
    (u.stream st).cap = true →
    exec (.streamBufferComplete st) s =
      .next ((u.fresh.2.setStream st { u.stream st with len := Config.hostLength u.free % 0x100000000 }).strmComplete st)) ∧
  (∀ (st : Nat) (s : State), st < 16 → s.strmOut st = true → s.pwr.chipOff = false → s.strmState st = 1 → st ≠ 10 → st ≠ 11 →
    ¬ (st = 9 ∧ (s.stream 9).cap = true ∧ (s.stream 9).ended = false) →
    (s.strmAhead st = 0 → exec (.streamBufferConsumed st) s = .next (s.strmUnderrun st)) ∧
    (s.strmAhead st ≠ 0 → ∃ t, exec (.streamBufferConsumed st) s = .next t ∧
      t.fld (STRM_HW_SEQ st) 15 0 = (s.fld (STRM_HW_SEQ st) 15 0 + 1) % 0x10000 ∧
      t.fld (STRM_HW_SEQ st) 19 16 = (s.fld (STRM_HW_SEQ st) 19 16 + 1) % s.strmCount st ∧
      (t.stream st).cap = false ∧ t = { s with regs := t.regs, strm := t.strm } ∧
      ∀ k, k ≠ STRM_HW_SEQ st → t.reg k = s.reg k)) ∧
  (∀ (st : Nat) (s : State), st < 16 → s.pwr.chipOff = false → s.strmState st = 0 →
    exec (.streamBufferComplete st) s = .next s ∧ exec (.streamBufferConsumed st) s = .next s)

/-- A receiver's frame: start, lines, payload errors, end and timeout. Completion of: csiFrameStart, csiFrameEnd, csiLongPacket,
ispLineDone, csiFrameTmo. -/
def Obligations.CameraCommands : Prop :=
  (∀ (n : Nat) (s : State), n < 6 → s.pwr.chipOff = false → s.flag (PAGE_CTRL (0x044 + n)) 0 = true → s.csiOn n = true →
    s.strmState n = 1 → (s.stream n).next = 0 → (s.camera n).frame = false → (s.camera n).done = false → s.ringLapped n = s →
    exec (.csiFrameStart ⟨n, 0⟩) s = .next (let u := (s.strmBoundary n).strmEvent n |>.irq (0x044 + n) 0
      ((u.setCamera n { frame := true, frames := (u.camera n).frames + 1, fsAt := u.now }).setReg (CSI_LINE_CNT n) 0).strmOpen n u.now)) ∧
  (∀ (n ecc : Nat) (s : State), n < 6 → s.pwr.chipOff = false → s.flag (PAGE_CTRL (0x044 + n)) 0 = true → s.csiOn n = true →
    s.strmState n ≠ 0 → 2 ≤ ecc →
    exec (.csiFrameStart ⟨n, ecc⟩) s = .next (s.csiError n 8) ∧ exec (.csiFrameEnd ⟨n, ecc⟩) s = .next (s.csiError n 8)) ∧
  (∀ (n : Nat) (payload : List Byte) (s : State), n < 6 → s.pwr.chipOff = false → s.flag (PAGE_CTRL (0x044 + n)) 0 = true →
    s.csiOn n = true → s.strmState n ≠ 0 → (s.camera n).frame = true → (s.camera n).lines.length < s.csiH n →
    payload.length = dtBytes (s.csiDt n) (s.csiW n) →
    ∃ t, exec (.csiLongPacket n (s.fld (CSI_CFG n) 5 4) (s.csiDt n) 0 true payload) s = .next t ∧
      (t.camera n).lines = (s.camera n).lines ++ [fitTo (if s.csiDt n = 0x1E then 2 * s.csiW n else s.csiW n) (unpackLine (s.csiDt n) payload)] ∧
      (t.camera n).frame = true ∧ t = { s with cam := t.cam } ∧ ∀ j, j ≠ n → t.camera j = s.camera j) ∧
  (∀ (n vc dt ecc : Nat) (ok : Bool) (payload : List Byte) (s : State), n < 6 → s.pwr.chipOff = false →
    s.flag (PAGE_CTRL (0x044 + n)) 0 = true → s.csiOn n = true → s.strmState n ≠ 0 →
    (2 ≤ ecc → exec (.csiLongPacket n vc dt ecc ok payload) s = .next (s.csiError n 8)) ∧
    (ecc = 0 → vc ≠ s.fld (CSI_CFG n) 5 4 ∨ dt ≠ s.csiDt n → exec (.csiLongPacket n vc dt ecc ok payload) s = .next s)) ∧
  (∀ (n : Nat) (s : State), n < 6 → s.pwr.chipOff = false → s.flag (PAGE_CTRL (0x044 + n)) 0 = true → s.csiOn n = true →
    s.strmState n ≠ 0 → (n = 4 → s.flag (CSI_AO 4) 0 = false) →
    ∃ t, exec (.csiFrameEnd ⟨n, 0⟩) s = .next t ∧ t.flag (IRQ_RAW (0x044 + n)) 1 = true ∧
      ((s.camera n).frame = false → t = (s.strmStamp n).irq (0x044 + n) 1) ∧
      ((s.camera n).frame = true → t = ((s.strmStamp n).irq (0x044 + n) 1).frameEnd n ∧ (t.camera n).frame = false ∧ (t.camera n).done = true)) ∧
  (∀ (s : State), s.pwr.chipOff = false → s.flag (PAGE_CTRL 0x048) 0 = true → s.csiOn 4 = true → s.strmState 4 ≠ 0 →
    (s.camera 4).frame = true → s.flag (CSI_AO 4) 0 = true → (s.stream 4).cap = true → s.pageOwner 0x048 = 0 →
    let u := ((s.strmStamp 4).irq 0x048 1).frameEnd 4
    u.ispMode 4 ≠ 0 → 64 ≤ u.ispW 4 → 48 ≤ u.ispH 4 →
    let w := u.setFlag AIE_STATUS 4 false
    exec (.csiFrameEnd ⟨4, 0⟩) s = .next (if w.flag AIE_STATUS 2 = true then w.bumpSat AIE_OVERRUN 31 16
      else { w with aie := { w.aie with vision := some (w.visionInput (s.camera 4).lines) } })) ∧
  (∀ (n : Nat) (s : State), n < 6 → s.pwr.chipOff = false → s.flag (PAGE_CTRL (0x044 + n)) 0 = true →
    (s.camera n).frame = true ∨ (s.camera n).done = true → s.fld (CSI_LINE_CNT n) 15 0 < s.ispH n →
    s.ispReady n (s.camera n) (s.fld (CSI_LINE_CNT n) 15 0) = true →
    exec (.ispLineDone n) s = .next (
      let y := s.fld (CSI_LINE_CNT n) 15 0
      let line := s.ispLine n (s.camera n).lines y
      let t := s.setCamera n { s.camera n with ring := ((y, line) :: (s.camera n).ring).take 16 }
      ((t.ispWrite n y line).setReg (CSI_LINE_CNT n) (word (y + 1))).ringOver n)) ∧
  (∀ (n : Nat) (s : State), n < 6 → s.pwr.chipOff = false → s.flag (PAGE_CTRL (0x044 + n)) 0 = true → s.csiOn n = true →
    s.strmState n ≠ 0 ∨ (s.stream n).next = 1 → s.fld (CSI_FRAME_TMO n) 15 0 ≠ 0 →
    (s.camera n).fsAt + 38400 * s.fld (CSI_FRAME_TMO n) 15 0 ≤ s.now →
    exec (.csiFrameTmo n) s = .next ((s.irq (0x044 + n) 2).setCamera n { s.camera n with fsAt := s.now }))

/-- I3C: commands on the bus, their end, in-band interrupts and auto-reads. Completion of: entdaa, i3cWrite, i3cRead, i3cCcc,
i3cTransferDone, i3cIbi, i3cAutoPeriod, i3cAutoReadDone. -/
def Obligations.SerialBusCommands : Prop :=
  (∀ (q : Req) (n : Nat) (v : Word) (s : State), n < 2 → s.lands q (I3C_CMD n) true = true → s.flag (I3C_STAT n) 0 = false →
    let u := s.answer 0
    let x := s.i3cOf n
    let len := bits v 23 16
    let a := byte (bits v 10 4 * 2)
    exec (.entdaa q n v) s = .next (u.i3cStart n (setBits v 2 0 1) [0xFC, 0x07]) ∧
    exec (.i3cWrite q n v) s = .next ((u.setI3c n { x with fifo := x.fifo.drop (ceilDiv len 4) }).i3cStart n (setBits v 2 0 2)
      (a :: ((x.fifo.take (ceilDiv len 4)).flatMap fun w => leBytes 4 w.toNat).take len)) ∧
    exec (.i3cRead q n v) s = .next (u.i3cStart n (setBits v 2 0 3) [a + 1]) ∧
    exec (.i3cCcc q n v) s = .next (u.i3cStart n (setBits v 2 0 4) ([0xFC, byte len] ++ if 0x80 ≤ len then [a] else []))) ∧
  (∀ (q : Req) (n : Nat) (v : Word) (s : State), n < 2 → s.lands q (I3C_CMD n) true = true → s.flag (I3C_STAT n) 0 = true →
    exec (.entdaa q n v) s = .next (s.answer 0) ∧ exec (.i3cWrite q n v) s = .next (s.answer 0) ∧
    exec (.i3cRead q n v) s = .next (s.answer 0) ∧ exec (.i3cCcc q n v) s = .next (s.answer 0)) ∧
  (∀ (s : State) (n : Nat) (v : Word) (bytes : List Byte), n < 2 → (s.i3cStart n v bytes).flag (I3C_STAT n) 0 = true) ∧
  (∀ (n : Nat) (nack : Bool) (data : List Byte) (s : State), n < 2 → s.pwr.chipOff = false →
    s.flag (PAGE_CTRL (0x04D + n)) 0 = true → s.flag (I3C_STAT n) 0 = true → (s.i3cOf n).held = [] →
    let x := s.i3cOf n
    let got := if bits x.cmd 2 0 = 3 ∧ nack = false then fifoWords (data.take (bits x.cmd 23 16)) else []
    let u := ((s.setI3c n { fifo := (x.fifo ++ got).take 16 }).setFlag (I3C_STAT n) 0 false).setFlag (I3C_STAT n) 1 nack
    exec (.i3cTransferDone n nack data) s = .next (if n = 0 then u.autoNext else u)) ∧
  (∀ (addr : Nat) (payload : List Byte) (s : State), payload.length ≤ 8 → s.pwr.chipOff = false →
    (s.flag (PAGE_CTRL 0x04D) 0 = true → s.domOn 2 = true → s.flag VR_STATUS 9 = true →
      exec (.i3cIbi ⟨0, addr, payload⟩) s = .next (s.autoFire 0 fun k => s.fld (I3C_AUTO k) 22 16 == addr)) ∧
    (s.flag (PAGE_CTRL 0x04E) 0 = true → exec (.i3cIbi ⟨1, addr, payload⟩) s = .next s)) ∧
  (∀ (s : State) (trig : Nat) (p : Nat → Bool), s.flag (PAGE_CTRL 0x04D) 0 = true →
    ∃ u : State, s.autoFire trig p = u.autoNext ∧ u = { s with auto := u.auto } ∧ ∀ k, k < 4 →
      u.autoRead k = (if s.flag (I3C_AUTO k) 0 = true ∧ s.fld (I3C_AUTO k) 2 1 = trig ∧ p k = true then
        (if (s.autoRead k).wait = true then { s.autoRead k with merged := true } else ⟨true, s.now, false⟩) else s.autoRead k)) ∧
  (∀ (k : Nat) (s : State), k < 4 → s.pwr.chipOff = false → s.flag (PAGE_CTRL 0x04D) 0 = true → s.domOn 2 = true →
    exec (.i3cAutoPeriod k) s = .next (s.autoFire 2 fun j => j == k)) ∧
  (∀ (k : Nat) (data : List Byte) (s : State), k < 4 → s.pwr.chipOff = false → s.flag (PAGE_CTRL 0x04D) 0 = true → s.domOn 2 = true →
    s.autoCur = some k →
    let x := s.autoRead k
    let len := min 20 (s.fld (I3C_AUTO_RD k) 12 8)
    let body := (data.take len ++ List.replicate (20 - min len data.length) 0).take 20
    let u := (s.setAuto k {}).strmBoundary 8
    (u.strmState 8 ≠ 1 → exec (.i3cAutoReadDone k data) s = .next u.autoDone) ∧
    (u.strmState 8 = 1 → exec (.i3cAutoReadDone k data) s = .next
      (((({ u with imu := (x.stamp, body) :: u.imu } : State).setReg64 (STRM_LAST_TS_LO 8) (STRM_LAST_TS_HI 8) x.stamp).lockSeen 8 x.stamp).strmRecord 8
        (leBytes 8 x.stamp ++ leBytes 4 (k + len * 0x100 + x.merged.toNat * 0x10000) ++ body)).autoDone))

/-- GPIO edges, frame synchronisation pulses and SPI transfers. Completion of: gpioEdge, gpioFsyncPulse, spiXfer, spiDone. -/
def Obligations.PinAndSpiCommands : Prop :=
  (∀ (pin : Nat) (rising : Bool) (s : State), pin < 24 → s.pwr.chipOff = false → s.flag (PAGE_CTRL 0x04F) 0 = true → s.domOn 2 = true →
    let sel := s.fld (GPIO_PIN pin) 7 6
    ∃ u : State, exec (.gpioEdge pin rising) s = .next (u.autoFire 1 fun k => s.fld (I3C_AUTO k) 12 8 == pin) ∧ u.flag GPIO_IN pin = rising ∧
      u.flag (IRQ_RAW 0x04F) pin = (s.flag (IRQ_RAW 0x04F) pin || sel == 3 || (sel == 1 && rising) || (sel == 2 && !rising)) ∧
      u = { s with regs := u.regs } ∧ ∀ k, k ≠ GPIO_IN → k ≠ IRQ_RAW 0x04F → u.reg k = s.reg k) ∧
  (∀ (s : State), s.pwr.chipOff = false → s.flag (PAGE_CTRL 0x04F) 0 = true → s.domOn 2 = true → s.fsync = true →
    ∃ t, exec .gpioFsyncPulse s = .next t ∧ t.fsync = false ∧ t = { s with out := t.out, fsync := false } ∧
      ∀ p, p < 24 → s.flag (GPIO_PIN p) 0 = true → Out.pin (0x100 + p) true ∈ t.out ∧ Out.pin (0x100 + p) false ∈ t.out) ∧
  (∀ (q : Req) (v : Word) (s : State), s.lands q SPI_XFER true = true → s.flag SPI_STAT 0 = false →
    let u : State := { s.answer 0 with spi := v }
    let r := if bit v 16 then ([], u) else (u.unitRead (unitReq (u.pageOwner 0x050)) (u.reg64 SPI_ADDR_LO SPI_ADDR_HI) (bits v 15 0)).2
    exec (.spiXfer q v) s = .next ((r.2.setFlag SPI_STAT 0 true).ioEmit
      (.spi (r.2.fld SPI_CFG 3 2) (r.2.fld SPI_CFG 1 0) (r.2.fld SPI_CFG 15 8) (bit v 16) r.1))) ∧
  (∀ (data : List Byte) (s : State), s.pwr.chipOff = false → s.flag (PAGE_CTRL 0x050) 0 = true → s.flag SPI_STAT 0 = true →
    ∃ t, exec (.spiDone data) s = .next t ∧ t.flag SPI_STAT 0 = false ∧ t.flag (IRQ_RAW 0x050) 0 = true ∧ t.spi = 0 ∧
      t = (({ (if bit s.spi 16 = true then
        (s.unitWrite (unitReq (s.pageOwner 0x050)) (s.reg64 SPI_ADDR_LO SPI_ADDR_HI) (data.take (bits s.spi 15 0))).2 else s)
        with spi := 0 } : State).setFlag SPI_STAT 0 false).irq 0x050 0)

/-- Display: vsync, latch, lines, layer submission and DCS writes. Completion of: dsiVsync, dsiLatch, dsiLine, layerSubmit, dsiDcs. -/
def Obligations.DisplayCommands : Prop :=
  (∀ (n : Nat) (s : State), n < 2 → s.pwr.chipOff = false → s.flag (PAGE_CTRL (0x04A + n)) 0 = true → s.dsiOn = true →
    (s.display n).line.any (fun l => decide (l < s.dsiLines n)) = false →
    let u := s.strmBoundary (10 + n)
    (u.strmState (10 + n) = 0 → exec (.dsiVsync n) s = .next ((u.setDisplay n { u.display n with line := none }).dcsFlush n)) ∧
    (u.strmState (10 + n) ≠ 0 → exec (.dsiVsync n) s = .next (
      let e := (u.strmEvent (10 + n)).irq (0x04A + n) 0
      let t := e.setDisplay n { e.display n with late := false, line := some 0 }
      (if t.fld GPIO_FSYNC 24 24 = n then { t with fsync := true } else t).dcsFlush n))) ∧
  (∀ (n : Nat) (s : State), n < 2 → s.pwr.chipOff = false → s.flag (PAGE_CTRL (0x04A + n)) 0 = true → s.dsiOn = true →
    s.strmState (10 + n) ≠ 0 →
    ∃ t u : State, exec (.dsiLatch n) s = .next t ∧ t = (u.setFld (DSI_FRAME n) 15 0 (s.fld (DSI_FRAME n) 15 0 + 1)).irq (0x04A + n) 1 ∧
      t.flag (IRQ_RAW (0x04A + n)) 1 = true ∧ t.fld (DSI_FRAME n) 15 0 = (s.fld (DSI_FRAME n) 15 0 + 1) % 0x10000 ∧
      (∀ l, l < 4 → (s.readPose n).flag (LAYER_CFG n l) 0 = false → (t.layer n l).hidden = true)) ∧
  (∀ (n line : Nat) (late : List Nat) (s : State), n < 2 → s.pwr.chipOff = false → s.flag (PAGE_CTRL (0x04A + n)) 0 = true →
    s.dsiOn = true → (s.display n).line = some line → line < s.dsiLines n →
    let u := s.setDisplay n { s.display n with line := some (line + 1) }
    let first := (u.dsiV n).1 + (u.dsiV n).2.1
    let blank := [u.fld (DSI_HSYNC_HBP n) 15 0, u.fld (DSI_HSYNC_HBP n) 31 16, u.fld (DSI_HACT_HFP n) 31 16]
    let width := u.fld (DSI_HACT_HFP n) 15 0
    (line < first ∨ first + (u.dsiV n).2.2.1 ≤ line →
      exec (.dsiLine n line late) s = .next ((u.emit (.pixels n line [] blank)).dcsFlush n)) ∧
    (first ≤ line → line < first + (u.dsiV n).2.2.1 → u.strmState (10 + n) ≠ 1 ∨ 2 ≤ u.life.bindStage →
      exec (.dsiLine n line late) s = .next (u.emit (.pixels n line (List.replicate width 0) blank))) ∧
    (first ≤ line → line < first + (u.dsiV n).2.2.1 → u.strmState (10 + n) = 1 → u.life.bindStage < 2 →
      exec (.dsiLine n line late) s = .next (
        let r := u.layerLines n (line - first) width
        let w := r.2.emit (.pixels n line ((List.range width).map fun i => if late.contains i then 0 else compose r.1 i) blank)
        if late.any (fun i => i < width && covered r.1 i) && !(w.display n).late then
          (((w.setDisplay n { w.display n with late := true }).bump (DSI_UNDERRUN n)).irq (0x04A + n) 2).strmUnderrun (10 + n)
        else w))) ∧
  (∀ (q : Req) (n l : Nat) (v : Word) (s : State), n < 2 → l < 4 → s.lands q (LAYER_SUBMIT n l) true = true → bits v 1 0 ≠ 3 →
    (0x8000 ≤ (bits v 31 16 + 0x10000 - s.fld (DSI_FRAME n) 15 0) % 0x10000 →
      exec (.layerSubmit q n l v) s =
        .next ((((s.answer 0).bumpSat (LAYER_STAT n l) 15 8).irq (0x04A + n) 3).fail q (LAYER_SUBMIT n l) 0x14)) ∧
    ((bits v 31 16 + 0x10000 - s.fld (DSI_FRAME n) 15 0) % 0x10000 < 0x8000 →
      exec (.layerSubmit q n l v) s = .next (
        let t := (s.answer 0).readPose n
        let x := t.layer n l
        (t.setLayer n l { x with
          tags := x.tags.set (bits v 1 0) (bits v 31 16)
          poses := x.poses.set (bits v 1 0) (t.display n).pose }).setFlag (LAYER_STAT n l) (bits v 1 0) true))) ∧
  (∀ (q : Req) (n : Nat) (v : Word) (s : State), n < 2 → s.lands q (DSI_DCS n) true = true →
    (s.strmState (10 + n) = 0 → exec (.dsiDcs q n v) s = .next ((s.answer 0).emit (.bus (10 + n) (leBytes 3 v.toNat)))) ∧
    (s.strmState (10 + n) ≠ 0 → exec (.dsiDcs q n v) s =
      .next ((s.answer 0).setDisplay n { s.display n with dcs := (s.display n).dcs ++ [v] })))

/-- Mailboxes: staging, publishing, the slot read, bells, the claim timeout and the configuration. Completion of: mbxSend, mbxPublish,
mbxSlotRead, mbxRing, mbxPendClear, mbxClaimTmo, mbxCfgWrite. -/
def Obligations.MailboxCommands : Prop :=
  (∀ (q : Req) (m w : Nat) (v : Word) (s : State), m < 64 → w < 15 → s.lands q (MBX_SEND m w) true = true →
    ((s.mbxClaim m).any (· != q) = false →
      ∃ t, exec (.mbxSend q m w v) s = .next t ∧ t.stagingWord m w = v ∧ t.mbxClaim m = some q ∧ t.resp = ⟨0, []⟩ ∧
        t = { s with mbx := t.mbx, resp := t.resp } ∧ ∀ j, j < 16 → j ≠ w → t.stagingWord m j = s.stagingWord m j) ∧
    ((s.mbxClaim m).any (· != q) = true → exec (.mbxSend q m w v) s = .next ((s.answer 0).fail q (MBX_SEND m w) 0x11))) ∧
  (∀ (q : Req) (m : Nat) (v : Word) (s : State), m < 64 → s.lands q (MBX_SEND m 15) true = true →
    (s.mbxClaim m).any (· != q) = false →
    exec (.mbxPublish q m v) s = exec (.mbxSend q m 15 v) s ∧
    (s.flag (MBX_RX_STAT m) 0 = true →
      exec (.mbxPublish q m v) s = .next (((s.answer 0).bumpSat (MBX_TX_FULLCNT m) 15 0).fail q (MBX_SEND m 15) 0x10)) ∧
    (s.flag (MBX_RX_STAT m) 0 = false →
      ∃ t, exec (.mbxPublish q m v) s = .next t ∧ t.reg (MBX_SLOT m 15) = v ∧
        (∀ w, w < 15 → t.reg (MBX_SLOT m w) = s.stagingWord m w) ∧
        t.reg (MBX_RX_STAT m) = word (1 + q.tenant % 8 * 0x100 + q.cls % 8 * 0x800 + q.index % 64 * 0x4000) ∧
        t.mbxClaim m = none)) ∧
  (∀ (q : Req) (m : Nat) (s : State), m < 64 → s.lands q (MBX_SLOT m 15) false = true →
    ∃ t, exec (.mbxSlotRead q m) s = .next t ∧ t.resp = ⟨0, [s.reg (MBX_SLOT m 15)]⟩ ∧ t.flag (MBX_RX_STAT m) 0 = false ∧
      t = ((s.answer 0 [s.reg (MBX_SLOT m 15)]).setFlag (MBX_RX_STAT m) 0 false).mbxEval (s.answer 0 []) m false) ∧
  (∀ (q : Req) (m : Nat) (v : Word) (s : State), m < 64 → s.lands q (MBX_RING m) true = true →
    ∃ t, exec (.mbxRing q m v) s = .next t ∧ t.reg (MBX_PEND m) = s.reg (MBX_PEND m) ||| v) ∧
  (∀ (q : Req) (m : Nat) (v : Word) (s : State), m < 64 → s.lands q (MBX_PEND m) true = true →
    ∃ t, exec (.mbxPendClear q m v) s = .next t ∧ t.reg (MBX_PEND m) = s.reg (MBX_PEND m) &&& ~~~v) ∧
  (∀ (m : Nat) (s : State), m < 64 → s.pwr.chipOff = false → s.flag (PAGE_CTRL (0x020 + m / 16)) 0 = true → s.mbxClaimLate m = true →
    ∃ t, exec (.mbxClaimTmo m) s = .next t ∧ t.mbxClaim m = none ∧ (∀ w, w < 16 → t.stagingWord m w = 0) ∧
      t = { s with mbx := t.mbx }) ∧
  (∀ (q : Req) (m : Nat) (v : Word) (s : State), m < 64 → s.lands q (MBX_CFG m) true = true →
    (m = 63 → exec (.mbxCfgWrite q m v) s = .next (s.answer 0)) ∧
    (m ≠ 63 → ∃ t, exec (.mbxCfgWrite q m v) s = .next t ∧ t.reg (MBX_CFG m) = v &&& 0x703FF ∧
      (bits (s.reg (MBX_CFG m)) 1 0 ≠ bits (v &&& 0x703FF) 1 0 → t.flag (MBX_RX_STAT m) 0 = false ∧ t.reg (MBX_PEND m) = 0)))

/-- A bundle that completes writes its two slots' registers and the next PC and nothing of another tile; a fault stops the tile. Completion
of: nop. -/
def Obligations.BundleRetires : Prop :=
  (∀ (s : State) (t : Nat) (dst : Option Nat) (v : Word) (pc : Option Nat), t < 64 →
    let r := ((s.tile t).x).getD {}
    r.store = none →
    let u := s.retireCore t dst v pc
    u.tilePc t = (pc.getD (s.tilePc t / 8 * 8 + 8)) % 0x10000 ∧ (u.tile t).x = none ∧ (u.tile t).gr 0 = 0 ∧
    (∀ i, i ≠ 0 → dst = some i → (u.tile t).gr i = v) ∧
    (∀ i x, i ≠ 0 → dst ≠ some i → r.g = some (i, x) → (u.tile t).gr i = x) ∧
    (∀ i, dst ≠ some i → (∀ x, r.g ≠ some (i, x)) → (u.tile t).gr i = (s.tile t).gr i) ∧
    (∀ i bs, r.v = some (i, bs) → (u.tile t).vr i = bs) ∧
    (∀ i, (∀ bs, r.v ≠ some (i, bs)) → (u.tile t).vr i = (s.tile t).vr i) ∧
    (∀ j, j ≠ t → u.tile j = s.tile j) ∧
    u = { s with regs := u.regs, tiles := u.tiles, dbg := u.dbg } ∧
    ∀ k, k ≠ TILE_PC t → k ≠ DBG_TRACE_STAT → (∀ n, k ≠ DBG_PMC_LO n ∧ k ≠ DBG_PMC_HI n) → u.reg k = s.reg k) ∧
  (∀ (s : State) (t : Nat) (xr : XRes) (c i : Nat), t < 64 → s.pwr.chipOff = false → s.slotOf t 0 = some false →
    (s.tile t).x = some xr → xr.fault = some (c, i) →
    exec (.nop t false 0) s = .next (s.tileFault t true c i)) ∧
  (∀ (s : State) (t : Nat) (slot : Bool) (c i : Nat), t < 64 →
    let u := s.tileFault t slot c i
    u.tileSt t = 3 ∧ u.reg (TILE_FAULT t) = word (c + slot.toNat * 0x100 + s.tilePc t * 0x10000) ∧
    u.reg (TILE_FAULT_INFO t) = word i ∧ u.flag (IRQ_RAW (tilePage t)) 0 = true ∧ (u.tile t).frogDue = true ∧
    (∀ n, (u.tile t).gr n = (s.tile t).gr n) ∧ u.mem = s.mem)

/-- The S slot's arithmetic, NOP and the core control registers. Completion of: alu, addi, lui, ori, nop, csrr, csrw. -/
def Obligations.TileArithmetic : Prop :=
  (∀ (t : Nat) (w : Word) (s : State), s.readyS t w = true → opc w = 0x01 →
    let a := (s.tile t).gr (fa w)
    let b := (s.tile t).gr (fb w)
    let n := b.toNat % 32
    (∀ f v, (f, v) ∈ [(0, a + b), (1, a - b), (2, a &&& b), (3, a ||| b), (4, a ^^^ b), (5, a <<< n), (6, a >>> n),
        (7, a.sshiftRight n), (8, a * b), (9, word (a.toNat * b.toNat / 2 ^ 32)), (10, if a.toInt < b.toInt then 1 else 0),
        (11, if a.toNat < b.toNat then 1 else 0), (12, if a.toInt < b.toInt then a else b),
        (13, if a.toInt < b.toInt then b else a)] → fn w = f →
      exec (.alu t w) s = .next (s.retire t (some (fd w)) v none)) ∧
    (13 < fn w → exec (.alu t w) s = .next (s.tileFault t false 0x10 0))) ∧
  (∀ (t : Nat) (w : Word) (s : State), s.readyS t w = true → opc w = 0x02 →
    exec (.addi t w) s = .next (s.retire t (some (fd w)) ((s.tile t).gr (fa w) + ofInt (imm16 w)) none)) ∧
  (∀ (t : Nat) (w : Word) (s : State), s.readyS t w = true → opc w = 0x03 →
    (fa w = 0 → exec (.lui t w) s = .next (s.retire t (some (fd w)) (word (bits w 15 0 * 0x10000)) none)) ∧
    (fa w ≠ 0 → exec (.lui t w) s = .next (s.tileFault t false 0x10 0))) ∧
  (∀ (t : Nat) (w : Word) (s : State), s.readyS t w = true → opc w = 0x04 →
    exec (.ori t w) s = .next (s.retire t (some (fd w)) ((s.tile t).gr (fa w) ||| word (bits w 15 0)) none)) ∧
  (∀ (t : Nat) (s : State), s.readyS t 0 = true → exec (.nop t false 0) s = .next (s.retire t none 0 none)) ∧
  (∀ (t : Nat) (s : State), s.readyX t 0 = true → exec (.nop t true 0) s = .next (s.latch t {})) ∧
  (∀ (t : Nat) (w : Word) (s : State), s.readyS t w = true → opc w = 0x1A → fa w = 0 → bits w 15 8 = 0 →
    (∀ v, s.csr t (bits w 7 0) = some v → exec (.csrr t w) s = .next ((s.csrRead t (bits w 7 0)).retire t (some (fd w)) v none)) ∧
    (s.csr t (bits w 7 0) = none → exec (.csrr t w) s = .next (s.tileFault t false 0x10 0))) ∧
  (∀ (t : Nat) (w : Word) (s : State), s.readyS t w = true → opc w = 0x1B → fd w = 0 → bits w 15 8 = 0 →
    (∀ u, s.csrWrite t (bits w 7 0) ((s.tile t).gr (fa w)) = some u → exec (.csrw t w) s = .next (u.retire t none 0 none)) ∧
    (s.csrWrite t (bits w 7 0) ((s.tile t).gr (fa w)) = none → exec (.csrw t w) s = .next (s.tileFault t false 0x10 0)))

/-- Local and global loads and stores of the S slot. Completion of: ldl, stl, ldg, stg. -/
def Obligations.TileLoadsAndStores : Prop :=
  (∀ (t : Nat) (w : Word) (s : State), s.readyS t w = true → opc w = 0x08 →
    let off := addImm ((s.tile t).gr (fa w)) (imm16 w)
    (s.localCheck t off 4 false = (none, s) →
      exec (.ldl t w) s = .next (s.retire t (some (fd w)) (s.wordAt (spad t off)) none)) ∧
    (∀ c i u, s.localCheck t off 4 false = (some (c, i), u) → exec (.ldl t w) s = .next (u.tileFault t false c i)) ∧
    (0x7FFFF < off → exec (.ldl t w) s = .next (s.tileFault t false 0x12 0)) ∧
    (off ≤ 0x7FFFF → off % 4 ≠ 0 → exec (.ldl t w) s = .next (s.tileFault t false 0x03 0))) ∧
  (∀ (t : Nat) (w : Word) (s : State), s.readyS t w = true → opc w = 0x09 →
    let off := addImm ((s.tile t).gr (fa w)) (imm16 w)
    (s.localCheck t off 4 true = (none, s) →
      exec (.stl t w) s = .next ((s.localStore t off (leBytes 4 ((s.tile t).gr (fd w)).toNat)).retire t none 0 none)) ∧
    (∀ c i u, s.localCheck t off 4 true = (some (c, i), u) → exec (.stl t w) s = .next (u.tileFault t false c i)) ∧
    (0x7FFFF < off → exec (.stl t w) s = .next (s.tileFault t false 0x12 0)) ∧
    (off ≤ 0x7FFFF → off % 4 ≠ 0 → exec (.stl t w) s = .next (s.tileFault t false 0x03 0))) ∧
  (∀ (t : Nat) (w : Word) (s : State), s.readyS t w = true → opc w = 0x0C →
    let u := (s.busRead (s.tileReq t) (s.globalAddr t w) 4).sideTurn t (s.globalAddr t w)
    let c := u.resp.code
    (globalOk w = true → s.globalWaits t (s.globalAddr t w) = true → exec (.ldg t w) s = .next s) ∧
    (globalOk w = true → s.globalWaits t (s.globalAddr t w) = false →
      (c = 0 → exec (.ldg t w) s = .next ((if bit w 15 = true then u else u.setTile t ((u.tile t).lastCode 0)).retire t
        (some (fd w)) (u.resp.data.headD 0) none)) ∧
      (c = 0x101 → exec (.ldg t w) s = .next s) ∧
      (c = 0x100 ∨ c = 0x102 →
        exec (.ldg t w) s = .next (u.setTile t { u.tile t with await := some ⟨0, fd w, bit w 15⟩ })) ∧
      (c ≠ 0 → c < 0x100 → bit w 15 = false →
        exec (.ldg t w) s = .next ((u.setTile t ((u.tile t).lastCode c)).retire t (some (fd w)) 0 none)) ∧
      (c ≠ 0 → c < 0x100 → bit w 15 = true →
        exec (.ldg t w) s = .next (if c = 8 then u.tileFault t false 0x08 0 else u.tileFault t false 0x13 c))) ∧
    (globalOk w = false → exec (.ldg t w) s = .next (s.tileFault t false 0x10 0))) ∧
  (∀ (t : Nat) (w : Word) (s : State), s.readyS t w = true → opc w = 0x0D →
    let u := (s.busWrite (s.tileReq t) (s.globalAddr t w) 4 ((s.tile t).gr (fd w)).toNat).sideTurn t (s.globalAddr t w)
    (globalOk w = true → s.globalWaits t (s.globalAddr t w) = true → exec (.stg t w) s = .next s) ∧
    (globalOk w = true → s.globalWaits t (s.globalAddr t w) = false → u.resp.code ≠ 0x100 →
      exec (.stg t w) s = .next ((u.retire t none 0 none).postedEnd t (bit w 15) (s.tilePc t) u.resp.code)) ∧
    (globalOk w = true → s.globalWaits t (s.globalAddr t w) = false → u.resp.code = 0x100 →
      exec (.stg t w) s =
        .next ((u.setTile t { u.tile t with stg := (u.tile t).stg ++ [(bit w 15, s.tilePc t / 8 * 8)] }).retire t none 0 none)) ∧
    (globalOk w = false → exec (.stg t w) s = .next (s.tileFault t false 0x10 0)))

/-- Branches, jumps, waits, checkpoints, fences, END, YIELD and FAULT of the S slot. Completion of: branch, jal, jr, wait, waitM,
waitRelease, endBundle, yieldBundle, fence, chkpt, fault. -/
def Obligations.TileControlFlow : Prop :=
  (∀ (t : Nat) (w : Word) (s : State), s.readyS t w = true → 0x10 ≤ opc w → opc w ≤ 0x15 →
    let d := (s.tile t).gr (fd w)
    let a := (s.tile t).gr (fa w)
    let takes := match opc w with
      | 0x10 => d = a
      | 0x11 => d ≠ a
      | 0x12 => d.toInt < a.toInt
      | 0x13 => a.toInt ≤ d.toInt
      | 0x14 => d.toNat < a.toNat
      | _ => a.toNat ≤ d.toNat
    (takes → exec (.branch t w) s = .next (s.retire t none 0 (some (branchTo (s.tilePc t) (imm16 w))))) ∧
    (¬ takes → exec (.branch t w) s = .next (s.retire t none 0 none))) ∧
  (∀ (t : Nat) (w : Word) (s : State), s.readyS t w = true → opc w = 0x16 →
    exec (.jal t w) s = .next (s.retire t (some (fd w)) (word ((s.tilePc t / 8 * 8 + 8) % 0x10000))
      (some (branchTo (s.tilePc t) (signed 21 (bits w 20 0)))))) ∧
  (∀ (t : Nat) (w : Word) (s : State), s.readyS t w = true → opc w = 0x17 → fd w = 0 → fb w = 0 → fn w = 0 →
    let a := ((s.tile t).gr (fa w)).toNat
    (a < 0x10000 → exec (.jr t w) s = .next (s.retire t none 0 (some (a / 8 * 8)))) ∧
    (0x10000 ≤ a → exec (.jr t w) s = .next (s.tileFault t false 0x11 0))) ∧
  (∀ (t : Nat) (w : Word) (s : State), s.readyS t w = true → opc w = 0x18 → fa w = 0 → bits w 15 0 ≠ 0 →
    (s.waitMet t (bits w 15 0) false = true → exec (.wait t w) s = .next (s.retire t (some (fd w)) (word (s.evt t)) none)) ∧
    (s.waitMet t (bits w 15 0) false = false → exec (.wait t w) s = .next (s.tileWait t (fd w, bits w 15 0, false)))) ∧
  (∀ (t : Nat) (w : Word) (s : State), s.readyS t w = true → opc w = 0x19 → fd w = 0 → fa w = 0 → bits w 15 0 < 64 →
    (s.waitMet t (bits w 15 0) true = true → exec (.waitM t w) s = .next (s.retire t (some 0) (word (s.evt t)) none)) ∧
    (s.waitMet t (bits w 15 0) true = false → exec (.waitM t w) s = .next (s.tileWait t (0, bits w 15 0, true)))) ∧
  (∀ (t d m : Nat) (b : Bool) (s : State), t < 64 → s.pwr.chipOff = false →
    s.flag (PAGE_CTRL (0x100 + t)) 0 = true → (s.tile t).wait = some (d, m, b) →
    s.tileSt t = 2 → s.waitMet t m b = true →
    (s.domOn (tileDom t) = true → exec (.waitRelease t) s = .next (
      let v := s.traceEv t 2 ((s.tilePc t + 0x10000 - 8) % 0x10000) (s.tilePc t)
      ((v.setTile t (({ s.tile t with wait := none, sleep := 0 } : Tile).setGr d (word (v.evt t)))).setTileSt t 1).boundary t)) ∧
    (s.domOn (tileDom t) = false →
      exec (.waitRelease t) s = .next (s.setDom (tileDom t) { s.dom (tileDom t) with tcc := true }))) ∧
  (∀ (t : Nat) (w : Word) (s : State), s.readyS t w = true → opc w = 0x1C → sysClean w = true →
    (fn w = 0 → exec (.endBundle t w) s = .next ((s.retireCore t none 0 none).tileEnd t)) ∧
    (fn w = 1 → exec (.yieldBundle t w) s = .next (let u := s.retire t none 0 none
      if (u.tile t).preempt = true then u.setTile t { u.tile t with yielded := true } else u)) ∧
    (fn w = 2 → (s.tile t).msgIdle = true → exec (.fence t w) s = .next (s.retire t none 0 none)) ∧
    (fn w = 2 → (s.tile t).msgIdle = false → exec (.fence t w) s = .next s)) ∧
  (∀ (t : Nat) (w : Word) (s : State), s.readyS t w = true → opc w = 0x1D → fd w = 0 → fa w = 0 →
    let v := bits w 15 0
    (((s.tile t).chk).any (fun c => v < c.1) = false →
      exec (.chkpt t w) s = .next ((s.setTile t { s.tile t with chk := some (v, s.now) }).retire t none 0 none)) ∧
    (((s.tile t).chk).any (fun c => v < c.1) = true → exec (.chkpt t w) s = .next (s.retire t none 0 none))) ∧
  (∀ (t : Nat) (w : Word) (s : State), s.readyS t w = true → opc w = 0x1E → fd w = 0 → fa w = 0 → bits w 15 8 = 0 →
    exec (.fault t w) s = .next (s.tileFault t false 0x14 (bits w 7 0)))

/-- MSG, RECV, DMA and the transfers of a tile. Completion of: msg, recv, dma, dmaTransferStart, dmaTransferDone. -/
def Obligations.TileMessageCommands : Prop :=
  (∀ (t tag : Nat) (w : Word) (s : State), s.readyS t w = true → opc w = 0x20 → fb w = 0 → fn w ≤ 1 →
    let off := ((s.tile t).gr (fa w)).toNat
    let h := s.bytesAt (spad t off) 32
    let kind := nbits (leNat h) 3 0
    let len := nbits (leNat (slice h 6 2)) 12 0
    let addr := leNat (slice h 8 5)
    let loc := nbits (leNat (slice h 0x14 4)) 18 0
    let img := leNat (slice h 3 1)
    let pays := kind == 1 || kind == 3
    s.localCheck t off 32 false = (none, s) → s.fenced t = false →
    (imageOk kind loc len addr img = true → (pays = true → (s.checkRange (s.tileReq t) false (spad t loc) len).toBool = true) →
      kind = 5 ∨ s.portStalled t = false → (s.tile t).freeTag = some tag →
      exec (.msg t w) s = .next (
        let v := s.inject t
          { kind := kind, port := 0, src := t, dst := if kind = 3 then img else if kind = 5 then 64 else routerOf addr, cls := 0
            ten := s.tileTen t, tag := tag, len := len, addr := addr, oper := word (leNat (slice h 0x10 4))
            aux := word (leNat (slice h 0x1C 4)), data := if pays then s.bytesAt (spad t loc) len else []
            bad := if pays then (List.range (ceilDiv len 32)).filter fun i =>
              s.poisonIn (spad t loc + 32 * i) (min 32 (len - 32 * i)) else [] }
          ⟨tag, false, fd w != 0, fn w == 1, kind == 2, loc, s.tilePc t / 8 * 8, false⟩
        if fd w = 0 then v.retire t none 0 none else v.setTile t { v.tile t with await := some ⟨1, fd w, fn w == 1⟩ })) ∧
    (imageOk kind loc len addr img = true → kind = 2 → (s.tile t).freeTag = none → exec (.msg t w) s = .next s) ∧
    (imageOk kind loc len addr img = false → fn w = 1 → exec (.msg t w) s = .next ((s.countCode t 0x1A).tileFault t false 0x13 0x1A)) ∧
    (imageOk kind loc len addr img = false → fn w = 0 → fd w ≠ 0 →
      exec (.msg t w) s = .next ((s.countCode t 0x1A).retire t (some (fd w)) 0x1A none))) ∧
  (∀ (t : Nat) (w : Word) (s : State), s.readyS t w = true → opc w = 0x22 → fa w = 0 → fb w = 0 → fn w ≤ 1 →
    ((s.tile t).inbox = [] → exec (.recv t w) s = .next (s.retire t (some (fd w)) 0 none)) ∧
    (∀ slot len src rest, (s.tile t).inbox = (slot, len, src) :: rest →
      exec (.recv t w) s = .next ((if fn w = 1 then s.setTile t { s.tile t with inbox := rest } else s).retire t (some (fd w))
        (word (len + slot * 0x2000 + src * 0x20000 + 0x80000000)) none))) ∧
  (∀ (t : Nat) (w : Word) (s : State), s.readyS t w = true → opc w = 0x23 → fd w = 0 → fb w = 0 → fn w = 0 →
    let off := ((s.tile t).gr (fa w)).toNat
    s.localCheck t off 32 false = (none, s) →
    ((s.tile t).dma.length < 8 → exec (.dma t w) s = .next ((s.setTile t { s.tile t with
      dma := (s.tile t).dma ++ [(s.tileTen t, s.bytesAt (spad t off) 32)] }).retire t none 0 none)) ∧
    (8 ≤ (s.tile t).dma.length → exec (.dma t w) s = .next s)) ∧
  (∀ (t ten : Nat) (d : List Byte) (ds : List (Nat × List Byte)) (s : State), t < 64 → s.pwr.chipOff = false →
    s.flag (PAGE_CTRL (0x100 + t)) 0 = true → (s.tile t).dma = (ten, d) :: ds → (s.tile t).dmaOn = false → (s.tile t).parked = false →
    s.domOn (tileDom t) = true → s.fenced t = false →
    (dmaValid d = true → exec (.dmaTransferStart t) s = .next ((s.setTile t { s.tile t with
      dmaOn := true, dmaPos := 0, dmaCode := none, stage := [], stageBad := [] }).dmaGo t)) ∧
    (dmaValid d = false → exec (.dmaTransferStart t) s = .next (s.setTile t { s.tile t with
      dmaOn := true, dmaPos := 0, dmaCode := some 3, stage := [], stageBad := [] }))) ∧
  (∀ (t ten : Nat) (d : List Byte) (ds : List (Nat × List Byte)) (s : State), t < 64 → s.pwr.chipOff = false →
    s.flag (PAGE_CTRL (0x100 + t)) 0 = true →
    let v := s.dmaGo t
    (v.tile t).dma = (ten, d) :: ds → (v.tile t).dmaOn = true → v.fenced t = false → v.dmaAwaits t = false →
    (∀ c, (v.tile t).dmaCode = some c → exec (.dmaTransferDone t) s =
      .next (((v.setFlag (TILE_DMA_STAT t) 16 true).setFld (TILE_DMA_STAT t) 15 8 c).dmaLeave t)) ∧
    ((v.tile t).dmaCode = none → (v.tile t).dmaPos < dmaLen d → exec (.dmaTransferDone t) s = .next v) ∧
    (∀ u x, (v.tile t).dmaCode = none → dmaLen d ≤ (v.tile t).dmaPos → v.dmaStitch t ten d = (true, u) →
      u.dmaBell t ten d = (true, x) → exec (.dmaTransferDone t) s = .next (x.dmaLeave t))) ∧
  (∀ (t ten : Nat) (d : List Byte) (ds : List (Nat × List Byte)) (s : State), (s.tile t).dma = (ten, d) :: ds →
    (s.tile t).dmaOn = true → (s.tile t).dmaCode = none → (s.tile t).stage = [] → (s.tile t).parked = false → s.fenced t = false →
    s.dmaAwaits t = false → (s.tile t).dmaPos < dmaLen d → dmaFlag d 0 = false →
    let src := dmaSrc d + (s.tile t).dmaPos
    let dst := dmaDst d + (s.tile t).dmaPos
    (∀ c bs bad u, ownSpad t src = true → s.loadGrans (dmaReq t ten) src 64 = (c, bs, bad, u) → c = 0 ∨ c = 8 →
      (ownSpad t dst = true → s.dmaMove t =
        (true, (u.storeGrans (dmaReq t ten) dst bs bad).2.dmaBlockEnd t (u.storeGrans (dmaReq t ten) dst bs bad).1)) ∧
      (ownSpad t dst = false → isOutbound dst = false →
        s.dmaMove t = u.dmaSend t { dmaMsg t ten 1 64 dst with data := bs, bad := bad } 0 true)) ∧
    (ownSpad t src = false → isOutbound src = false →
      s.dmaMove t = s.dmaSend t (dmaMsg t ten 2 64 src) (dst - spad t 0) true))

/-- Stitch counters: permission comes before state -/
def Obligations.StitchCounterPermission : Prop :=
  ∀ (s : State) (ten i : Nat) (op : ScOp) (x : Word) (holder : Bool), ten < 8 →
    let st := scState (s.scValue i)
    let owner := scOwner (s.scConfig i)
    let out := s.scOp ten i op x holder
    (st = 0 → op ≠ .init ∨ holder = false → out = (1, s)) ∧
    (st = 0 → op = .init → holder = true → (s.dom (32 + i / 2048)).st ≠ .off →
      out.1 = 0 ∧ scState (out.2.scValue i) = 1 ∧ scOwner (out.2.scConfig i) = ten) ∧
    (st ≠ 0 → owner ≠ ten → out = (1, s)) ∧
    (st = 2 → owner = ten → op ≠ .init → op ≠ .free → (s.dom (32 + i / 2048)).st ≠ .off → out = (5, s)) ∧
    (st ≠ 0 → st ≠ 2 → owner = ten → (s.dom (32 + i / 2048)).st ≠ .off → out.1 = 0) ∧
    (out.1 ≠ 0 → out.2 = s)

/-- STITCH operations, NEXTN and the counter pages. Completion of: stitchRead, stitchSet, stitchAdd, stitchArm, stitchInit, stitchFree,
nextn, scSet, scAdd, scArm, scInit, scFree. -/
def Obligations.StitchCommands : Prop :=
  (∀ (s : State) (ten i : Nat) (x : Word), ten < 8 →
    let v := s.scValue i
    ((s.scApply ten i .set x).scValue i = setBits v 23 0 (bits x 23 0)) ∧
    (let n := signed 24 (bits v 23 0) + signed 24 (bits x 23 0); let y := max (-(2 ^ 23)) (min (2 ^ 23 - 1) n);
      signed 24 (bits ((s.scApply ten i .add x).scValue i) 23 0) = y ∧
      bit ((s.scApply ten i .add x).scValue i) 26 = (bit v 26 || n != y)) ∧
    (let u := s.scApply ten i .arm x;
      bit (u.scValue i) 24 = true ∧ bit (u.scValue i) 25 = false ∧ bit (u.scValue i) 27 = bit x 25 ∧
      bits (u.scConfig i) 23 0 = bits x 23 0 ∧ bit (u.scConfig i) 24 = bit x 24) ∧
    (scState ((s.scApply ten i .init x).scValue i) = 1 ∧ scOwner ((s.scApply ten i .init x).scConfig i) = ten) ∧
    ((s.scApply ten i .free x).scValue i = 0 ∧ (s.scApply ten i .free x).scConfig i = 0) ∧
    (∀ op j, j ≠ i → (s.scApply ten i op x).scValue j = s.scValue j ∧ (s.scApply ten i op x).scConfig j = s.scConfig j)) ∧
  (∀ (s : State) (ten i : Nat) (op : ScOp) (x : Word) (holder adsel : Bool), s.scPermitted ten i op holder adsel = true →
    (s.dom (32 + i / 2048)).st ≠ .off → scState (s.scValue i) ≠ 2 ∨ op = .init ∨ op = .free →
    s.scOp ten i op x holder adsel = (0, (s.scApply ten i op x).scEval i)) ∧
  (∀ (t : Nat) (w : Word) (s : State), s.readyS t w = true → opc w = 0x21 → stitchClean w = true →
    let i := bits ((s.tile t).gr (fa w)) 16 0
    let x := (s.tile t).gr (fb w)
    (i / 2048 = t →
      let out := fun op =>
        let r := s.scOp (s.tileTen t) i op x true
        if r.1 = 0 then r.2.retire t (some (fd w)) (r.2.scValue i) none
        else if r.1 = 5 then s.tileFault t false 0x05 0
        else (s.logRefusal (s.tileReq t) 0 (op != .read) 1).tileFault t false 0x13 r.1
      (fn w = 0 → exec (.stitchRead t w) s = .next (out .read)) ∧ (fn w = 1 → exec (.stitchSet t w) s = .next (out .set)) ∧
      (fn w = 2 → exec (.stitchAdd t w) s = .next (out .add)) ∧ (fn w = 3 → exec (.stitchArm t w) s = .next (out .arm)) ∧
      (fn w = 5 → exec (.stitchInit t w) s = .next (out .init)) ∧ (fn w = 6 → exec (.stitchFree t w) s = .next (out .free))) ∧
    (i / 2048 ≠ t →
      let out := (s.countCode t 0x1A).tileFault t false 0x13 0x1A
      (fn w = 3 → exec (.stitchArm t w) s = .next out) ∧ (fn w = 5 → exec (.stitchInit t w) s = .next out) ∧
      (fn w = 6 → exec (.stitchFree t w) s = .next out)) ∧
    (∀ tag, i / 2048 ≠ t → s.fenced t = false → s.portStalled t = false → (s.tile t).freeTag = some tag →
      let v := s.inject t
        { kind := 4, port := 0, src := t, dst := i / 2048, cls := 0, ten := s.tileTen t, tag := tag, len := 0, addr := i
          oper := setBits (word (x.toNat % 0x4000000)) 31 28 (fn w), aux := 0 }
        ⟨tag, true, fd w != 0, true, false, 0, s.tilePc t / 8 * 8, false⟩
      let out := if fd w = 0 then v.retire t none 0 none else v.setTile t { v.tile t with await := some ⟨2, fd w, true⟩ }
      (fn w = 0 → exec (.stitchRead t w) s = .next out) ∧ (fn w = 1 → exec (.stitchSet t w) s = .next out) ∧
      (fn w = 2 → exec (.stitchAdd t w) s = .next out))) ∧
  (∀ (t : Nat) (w : Word) (s : State), s.readyS t w = true → opc w = 0x21 → fn w = 7 → stitchClean w = true →
    exec (.nextn t w) s = .next ((s.scNextN t).2.retire t (some (fd w)) (s.scNextN t).1 none)) ∧
  (∀ (s : State) (t : Nat),
    (s.scNoted t = false → s.scNextN t = (0, s)) ∧
    (s.scNoted t = true → ∃ i, i / 2048 = t ∧ (s.scNextN t).1 = word (0x80000000 + i % 2048) ∧
      bit ((s.scNextN t).2.scValue i) 25 = false ∧ ∀ j, j ≠ i → (s.scNextN t).2.scValue j = s.scValue j)) ∧
  (∀ (q : Req) (p : Nat) (v : Word) (s : State), p < 128 → s.lands q (SC_OP p) true = true →
    let u := s.answer 0
    let i := u.scSel p
    let adsel := q.cls == 6
    let out := fun op =>
      let r := u.scOp 0 i op (word (v.toNat % 0x4000000)) true adsel
      if (adsel = false ∧ scOwner (u.scConfig i) ≠ 0) ∨ u.scPermitted 0 i op true adsel = false then
        u.refuse q (regBase + SC_OP p) true 1
      else if r.1 = 0 then r.2 else r.2.fail q (SC_OP p) r.1
    exec (.scSet q p v) s = .next (out .set) ∧ exec (.scAdd q p v) s = .next (out .add) ∧
    exec (.scArm q p v) s = .next (out .arm) ∧ exec (.scInit q p v) s = .next (out .init) ∧
    exec (.scFree q p v) s = .next (out .free))

/-- Messages reach their targets and their responses the sender. Completion of: putArrive, getArrive, sendArrive, stitchMessageArrive,
doorbellMessage, meshResponse, meshFenceLift. -/
def Obligations.MeshCommands : Prop :=
  (∀ (k : Nat) (m : Msg) (s : State) (c : Instr), s.pwr.chipOff = false → s.flag (PAGE_CTRL 0x060) 0 = true →
    (c, m.kind) ∈ [(Instr.putArrive k, 1), (.getArrive k, 2), (.sendArrive k, 3), (.stitchMessageArrive k, 4)] →
    s.requestAt k m.kind = some m →
    (∀ d, s.msgWaits m = some d → exec c s = .next (s.waitFor d)) ∧
    (s.msgWaits m = none → m.tileOf.any s.fenced = true → exec c s = .next (s.respond k 8)) ∧
    (s.msgWaits m = none → m.tileOf.any s.fenced = false → s.msgPermitted m = false →
      exec c s = .next ((s.logRefusal m.req m.addr (m.kind != 2)
        (if m.kind ≤ 2 ∧ meshTarget m.addr m.len = false then 0 else 1)).respond k 1)) ∧
    (∀ t, s.msgWaits m = none → m.tileOf.any s.fenced = false → s.msgPermitted m = true → s.msgOff m = true → m.tileOf = some t →
      exec c s = .next ((s.msgErr m t 2).portEnd k 2))) ∧
  (∀ (k : Nat) (m : Msg) (s : State), s.pwr.chipOff = false → s.flag (PAGE_CTRL 0x060) 0 = true → s.requestAt k m.kind = some m →
    s.msgWaits m = none → m.tileOf.any s.fenced = false → s.msgPermitted m = true → s.msgOff m = false → m.fenced = false →
    (∀ c u, m.kind = 1 → s.storeGrans m.req m.addr m.data m.bad = (c, u) → c ≠ 0x100 →
      exec (.putArrive k) s = .next (u.respond k c)) ∧
    (∀ c d b u, m.kind = 2 → s.loadGrans m.req m.addr m.len = (c, d, b, u) → c = 0 ∨ c = 8 →
      exec (.getArrive k) s = .next (u.respond k c 0 d b)) ∧
    (m.kind = 3 → m.bad = [] →
      (s.slotBytes m.dst < m.len → exec (.sendArrive k) s = .next (s.respond k 0x19)) ∧
      (m.len ≤ s.slotBytes m.dst →
        (∀ i, i < 16 → ((s.tile m.dst).inbox.any fun e => e.1 == i) = true) →
        exec (.sendArrive k) s = .next (s.respond k 0x18)) ∧
      (∀ i u, m.len ≤ s.slotBytes m.dst →
        ((List.range 16).find? fun i => !(s.tile m.dst).inbox.any fun e => e.1 == i) = some i →
        s.storeGrans m.req (spad m.dst (s.slotAt m.dst i)) m.data [] = (0, u) →
        exec (.sendArrive k) s =
          .next ((u.setTile m.dst { u.tile m.dst with inbox := (u.tile m.dst).inbox ++ [(i, m.len, m.src)] }).respond k 0))) ∧
    (∀ op, m.kind = 4 → ScOp.ofCode (bits m.oper 31 28) = some op →
      let r := s.scOp m.ten (m.addr % 131072) op m.oper false
      exec (.stitchMessageArrive k) s = .next (r.2.respond k r.1 (if r.1 = 0 then r.2.scValue (m.addr % 131072) else 0)))) ∧
  (∀ (k : Nat) (m : Msg) (s v : State), s.pwr.chipOff = false → s.requestAt k 5 = some m → s.refoscOk = true →
    s.arbitrate 0x102 64 s.sideWaits false = (some m.src, v) →
    let i := bits m.oper 5 0
    let u := v.regAccessNow none m.req (MBX_RING i) 4 true m.aux.toNat fun s => mbxRing i m.aux (s.answer 0)
    exec (.doorbellMessage k) s = .next (u.respond k u.resp.code)) ∧
  (∀ (k : Nat) (m : Msg) (o : Outst) (s : State), s.pwr.chipOff = false → s.flag (PAGE_CTRL 0x060) 0 = true →
    s.responseAt k = some m → ((s.tile m.home).out.find? fun o => o.tag == m.tag) = some o →
    let t := m.home
    let v : State := { s.passed m with net := s.net.eraseIdx k }
    exec (.meshResponse k) s =
      .next ((((v.setTile t { s.tile t with out := (s.tile t).out.filter fun e => e.tag != m.tag }).responseTo t m o).dmaGo t).tileSleep t)) ∧
  (∀ (t : Nat) (m : Msg) (o : Outst) (s : State),
    (o.dma = true → s.responseTo t m o =
      (if o.get then (s.countCode t m.code).dmaBrought t m.code m.data m.bad else (s.countCode t m.code).dmaBlockEnd t m.code)) ∧
    (o.dma = false →
      let p := s.storeGrans m.req (spad t o.loc) m.data m.bad
      let r : Nat × State := if o.get = true ∧ (m.code = 0 ∨ m.code = 8) then (if p.1 = 0 then m.code else p.1, p.2) else (m.code, s)
      let u := r.2.countCode t r.1
      (o.wait = false → m.cls ≠ 1 → s.responseTo t m o = u.postedEnd t (o.f && !o.stitch) o.pc r.1) ∧
      (∀ a, o.wait = true → (u.tile t).await = some a → s.responseTo t m o = u.awaitEnd t a r.1 m.aux))) ∧
  (∀ (m : Msg) (s : State), m.kind ≠ 5 → m.atPort = false →
    (s.passed m).reg MESH_PERF_FLITS = s.reg MESH_PERF_FLITS +
      (if s.flag MESH_PERF_SEL 12 = m.resp ∧ (s.fld MESH_PERF_SEL 5 0, s.fld MESH_PERF_SEL 10 8) ∈ m.route then
        word (1 + ceilDiv m.data.length 32) else 0)) ∧
  (∀ a b : Nat, a < 64 → b < 64 →
    (routeFrom 14 a b).getLast? = some (b, 0) ∧
    (a % 8 < b % 8 → (routeFrom 14 a b).head? = some (a, 2)) ∧ (b % 8 < a % 8 → (routeFrom 14 a b).head? = some (a, 4)) ∧
    (a % 8 = b % 8 → a < b → (routeFrom 14 a b).head? = some (a, 3)) ∧
    (a % 8 = b % 8 → b < a → (routeFrom 14 a b).head? = some (a, 1))) ∧
  (∀ (t : Nat) (s : State), t < 64 → s.pwr.chipOff = false → s.flag (PAGE_CTRL 0x060) 0 = true → s.fenced t = true →
    s.net.any (fun m => m.home == t) = false →
    ∃ u, exec (.meshFenceLift t) s = .next u ∧ u.fenced t = false ∧ u = { s with regs := u.regs } ∧
      ∀ j, j < 64 → j ≠ t → u.fenced j = s.fenced j)

/-- The X slot's vector instructions. Completion of: vop, vld, vst, vbc, vext. -/
def Obligations.VectorCommands : Prop :=
  (∀ (t : Nat) (w : Word) (s : State), s.readyX t w = true → opc w = 0x30 →
    let r := vopResult (s.tile t) w
    (vopTypes (bits w 5 0) (bits w 10 8) = true → vopClean w = true →
      exec (.vop t w) s = .next (s.latch t { v := some (fd w, r.1), flags := r.2, ev := 8 })) ∧
    (vopTypes (bits w 5 0) (bits w 10 8) = false ∨ vopClean w = false →
      exec (.vop t w) s = .next (s.latch t { fault := some (0x10, 0) }))) ∧
  (∀ (x : Tile) (w : Word) (i : Nat), i < 64 → bits w 5 0 = 0 → bits w 10 8 = 0 →
    at' 0 (vopResult x w).1 i = byte ((max (-128) (min 127 (signed 8 (at' 0 (x.vr (fa w)) i).toNat +
      signed 8 (at' 0 (bOperand x w 0) i).toNat))) % 256).toNat) ∧
  (∀ (x : Tile) (w : Word), bits w 5 0 = 0x20 → bit w 6 = false →
    vopResult x w = ((List.zip (x.vr (fa w)) (x.vr (fb w))).map fun p => p.1 &&& p.2, 0)) ∧
  (∀ (t : Nat) (w : Word) (s : State), s.readyX t w = true → opc w = 0x31 →
    let off := addImm ((s.tile t).gr (fa w)) (imm16 w * 64)
    (s.localCheck t off 64 false = (none, s) →
      exec (.vld t w) s = .next (s.latch t { v := some (fd w, s.bytesAt (spad t off) 64) })) ∧
    (∀ e u, s.localCheck t off 64 false = (some e, u) → exec (.vld t w) s = .next (u.latch t { fault := some e }))) ∧
  (∀ (t : Nat) (w : Word) (s : State), s.readyX t w = true → opc w = 0x32 →
    let off := addImm ((s.tile t).gr (fa w)) (imm16 w * 64)
    (s.localCheck t off 64 true = (none, s) →
      exec (.vst t w) s = .next (s.latch t { store := some (off, (s.tile t).vr (fd w)) })) ∧
    (∀ e u, s.localCheck t off 64 true = (some e, u) → exec (.vst t w) s = .next (u.latch t { fault := some e }))) ∧
  (∀ (t : Nat) (w : Word) (s : State), s.readyX t w = true → opc w = 0x33 → fb w = 0 → bits w 7 0 = 0 →
    (bits w 10 8 ≤ 4 → exec (.vbc t w) s =
      .next (s.latch t { v := some (fd w, broadcast (bits w 10 8) ((s.tile t).gr (fa w))) })) ∧
    (4 < bits w 10 8 → exec (.vbc t w) s = .next (s.latch t { fault := some (0x10, 0) }))) ∧
  (∀ (t : Nat) (w : Word) (s : State), s.readyX t w = true → opc w = 0x34 → fb w = 0 → bits w 7 6 = 0 →
    let ty := bits w 10 8
    let n := (lanesOf ty ((s.tile t).vr (fa w))).getD (bits w 5 0) 0
    (ty ≤ 4 → bits w 5 0 < laneCount ty → exec (.vext t w) s =
      .next (s.latch t { g := some (fd w, if isFloat ty then word n else ofInt (laneInt ty n)) })) ∧
    (4 < ty ∨ laneCount ty ≤ bits w 5 0 → exec (.vext t w) s = .next (s.latch t { fault := some (0x10, 0) })))

/-- The matrix assist and compute in memory. Completion of: mma, mmr, mmz, cimMac, cimMacDone, cimRd, cimClr. -/
def Obligations.MatrixCommands : Prop :=
  (∀ (t : Nat) (w : Word) (s : State), s.readyX t w = true → opc w = 0x38 →
    let x := s.tile t
    let m := fd w
    let a := x.vr (fa w)
    let b := x.vr (fb w)
    (m < 4 → fn w = 0 → x.fp32.contains m = false →
      let r := (List.range 256).map fun n => mmaInt a b (x.accAt m (n / 16) (n % 16)) (n / 16) (n % 16)
      exec (.mma t w) s = .next (s.latch t { acc := some (m, r.map fun e => word e.1), flags := r.foldl (fun z e => z ||| e.2) 0, ev := 7 })) ∧
    (m < 4 → fn w = 1 → x.fp32.contains m = true →
      let r := (List.range 256).map fun n => mmaBf16 (lanesOf 1 a) (lanesOf 1 b) (x.accAt m (n / 16) (n % 16)) (n / 16) (n % 16)
      exec (.mma t w) s = .next (s.latch t { acc := some (m, r.map fun e => word e.1), flags := r.foldl (fun z e => z ||| e.2) 0, ev := 7 })) ∧
    (4 ≤ m ∨ 1 < fn w ∨ (fn w = 0 ∧ x.fp32.contains m = true) ∨ (fn w = 1 ∧ x.fp32.contains m = false) →
      exec (.mma t w) s = .next (s.latch t { fault := some (0x10, 0) }))) ∧
  (∀ (a b : List Byte) (acc : Word) (i j : Nat),
    let v (k : Nat) : Int := signed 8 (at' 0 a (4 * i + k)).toNat * signed 8 (at' 0 b (16 * k + j)).toNat
    (mmaInt a b acc i j).1 = ((acc.toInt + v 0 + v 1 + v 2 + v 3) % 2 ^ 32).toNat) ∧
  (∀ (t : Nat) (w : Word) (s : State), s.readyX t w = true → opc w = 0x39 → fb w = 0 → fa w < 4 → fn w < 16 →
    exec (.mmr t w) s = .next (s.latch t
      { v := some (fd w, (List.range 16).flatMap fun j => leBytes 4 ((s.tile t).accAt (fa w) (fn w) j).toNat) })) ∧
  (∀ (t : Nat) (w : Word) (s : State), s.readyX t w = true → opc w = 0x3A → fa w = 0 → fb w = 0 → fd w < 4 → fn w ≤ 1 →
    exec (.mmz t w) s = .next (s.latch t { acc := some (fd w, List.replicate 256 0), tag := some (fn w == 1) })) ∧
  (∀ (t : Nat) (w : Word) (s : State), s.readyX t w = true → opc w = 0x3C → bits w 15 14 = 0 → bits w 12 0 % 8 = 0 →
    ((s.tile t).cimQ.length < 2 → s.flipping t = false → s.macFault t (bits w 25 25) (bits w 12 0) = none →
      exec (.cimMac t w) s = .next (s.latch t
        { mac := some ⟨bits w 25 25, bits w 24 21, bits w 12 0, bit w 13, (s.tile t).vr (fa w)⟩, ev := 6 })) ∧
    (2 ≤ (s.tile t).cimQ.length ∨ s.flipping t = true → exec (.cimMac t w) s = .next s)) ∧
  (∀ (t : Nat) (m : CimOp) (rest : List CimOp) (s : State), t < 64 → s.pwr.chipOff = false →
    s.flag (PAGE_CTRL (0x100 + t)) 0 = true → (s.tile t).cimQ = m :: rest →
    ∃ u, exec (.cimMacDone t) s = .next (State.tileSleep u t) ∧ (u.tile t).cimQ = rest ∧ u = { s with tiles := u.tiles } ∧
      (∀ c, c < (s.macSums t m).length → (u.tile t).cimAt m.entry c =
        ofInt (signed 32 (if m.clear = true then (0 : Word) else (s.tile t).cimAt m.entry c).toNat + at' 0 (s.macSums t m) c)) ∧
      (∀ e c, e ≠ m.entry → c < 128 → (u.tile t).cimAt e c = (s.tile t).cimAt e c) ∧
      (∀ j, j ≠ t → u.tile j = s.tile j)) ∧
  (∀ (t : Nat) (w : Word) (s : State), s.readyX t w = true → opc w = 0x3D → bits w 20 20 = 0 → bits w 15 3 = 0 →
    let e := bits w 19 16
    ((s.tile t).entryBusy e = false → exec (.cimRd t w) s = .next (s.latch t
      { v := some (fd w, (List.range 16).flatMap fun j => leBytes 4 ((s.tile t).cimAt e (16 * bits w 2 0 + j)).toNat) })) ∧
    ((s.tile t).entryBusy e = true → exec (.cimRd t w) s = .next s)) ∧
  (∀ (t : Nat) (w : Word) (s : State), s.readyX t w = true → opc w = 0x3E → bits w 25 20 = 0 → bits w 15 0 = 0 →
    ((s.tile t).entryBusy (bits w 19 16) = false → exec (.cimClr t w) s = .next (s.latch t { clr := some (bits w 19 16) })) ∧
    ((s.tile t).entryBusy (bits w 19 16) = true → exec (.cimClr t w) s = .next s))

/-- A resident program starts on an idle tile; a frog is asked for, made and clears the tile. Completion of: tileStart, tileFrogRequest,
tileFrog. -/
def Obligations.TileStartAndFrogCommands : Prop :=
  (∀ (q : Req) (t : Nat) (v : Word) (s : State), t < 64 → s.lands q (TILE_CTRL t) true = true → bit v 1 = false →
    (s.tileSt t = 0 → s.holder t = none →
      exec (.tileStart q t v) s =
        .next ((s.answer 0).tileBegin t 0 0 ((s.reg (TILE_ENTRY t)).toNat % 0x10000 / 8 * 8) true)) ∧
    (s.tileSt t ≠ 0 ∨ (s.holder t).isSome = true → exec (.tileStart q t v) s = .next ((s.answer 0).fail q (TILE_CTRL t) 0x10))) ∧
  (∀ (s : State) (t ten pc : Nat), t < 64 → ten < 8 → (s.tile t).haltReq = false →
    let u := s.tileBegin t ten 0 pc true
    u.tileSt t = 1 ∧ u.tileTen t = ten ∧ u.tilePc t = pc % 0x10000 ∧ (u.tile t).x = none ∧ (u.tile t).inbox = [] ∧
    ((s.tile t).prev ≠ some ten → u.reg (TILE_DMA_STAT t) = 0 ∧ ∀ i, (u.tile t).gr i = 0 ∧ (u.tile t).vr i = vZero)) ∧
  (∀ (q : Req) (t : Nat) (v : Word) (s : State), t < 64 → s.lands q (TILE_CTRL t) true = true → bit v 0 = false →
    exec (.tileFrogRequest q t v) s = .next ((s.answer 0).setTile t { s.tile t with frogDue := true })) ∧
  (∀ (t : Nat) (s : State), t < 64 → s.pwr.chipOff = false →
    ((s.tile t).frogDue = true → s.domOn (tileDom t) = true →
      exec (.tileFrog t) s = .next ((s.frogTile t).unhold 14 t (tileDom t)).teardownRun) ∧
    ((s.tile t).frogDue = true → s.domOn (tileDom t) = false → exec (.tileFrog t) s = .next (s.hold 14 t (tileDom t)).teardownRun) ∧
    ((s.tile t).frogDue = false → exec (.tileFrog t) s = .next s.teardownRun)) ∧
  (∀ (t : Nat) (s : State), t < 64 →
    let u := s.coreFrog t
    u.tileSt t = 0 ∧ u.flag (IRQ_RAW (tilePage t)) 2 = true ∧ (u.tile t).dma = [] ∧ (u.tile t).cimQ = [] ∧ (u.tile t).out = [] ∧
    (u.tile t).inbox = [] ∧ (u.tile t).frogDue = false ∧ u.reg (TILE_DMA_STAT t) = 0 ∧ (∀ i, (u.tile t).gr i = 0) ∧ ∀ j, j ≠ t → u.tile j = s.tile j)

/-- Weight banks: DECLARE, SEAL, FLIP, DISCARD, their ends and the broadcast flip. Completion of: declare, seal, flip, discard, sealDone,
flipDone, discardDone, broadcastFlip. -/
def Obligations.WeightCommands : Prop :=
  (∀ (q : Req) (t : Nat) (v : Word) (s : State), t < 64 → s.lands q (TILE_WGT_CTRL t) true = true → s.wgtBusy t = true →
    ∀ c ∈ [Instr.declare q t v, .seal q t v, .flip q t v, .discard q t v],
      exec c s = .next ((s.answer 0).fail q (TILE_WGT_CTRL t) 0x11)) ∧
  (∀ (q : Req) (t : Nat) (v : Word) (s : State), t < 64 → s.lands q (TILE_WGT_CTRL t) true = true → s.wgtBusy t = false →
    let b := bits v 3 3
    let decl := s.reg (TILE_WGT_DECL t)
    let c := s.declCheck t b decl
    (let r := (s.answer 0).declare t b decl (s.reg (TILE_WGT_MODEL t)) (bit v 4);
      exec (.declare q t v) s = .next (if s.wgt.zeroing.length < r.2.wgt.zeroing.length then r.2 else r.2.wgtPost t r.1)) ∧
    (c ≠ 0 ∨ bit v 4 = true → exec (.declare q t v) s = .next ((s.answer 0).wgtPost t c)) ∧
    (c = 0 → bit v 4 = false → bit decl 2 = false → s.joined t = false → s.bankOwned t b = false →
      exec (.declare q t v) s = .next ((((((s.answer 0).setReg (TILE_WGT_STAT t b) (loadingStat decl (s.bankRole t b))).setFld
        (TILE_WGT_ID t b) 15 0 (s.reg (TILE_WGT_MODEL t)).toNat).setReg (TILE_WGT_FILL t b) 0).mapClear t b).wgtPost t 0))) ∧
  (∀ (q : Req) (t : Nat) (v : Word) (s : State), t < 64 → s.lands q (TILE_WGT_CTRL t) true = true → s.wgtBusy t = false →
    let b := bits v 3 3
    (s.bankState t b ≠ 1 → exec (.seal q t v) s = .next ((s.answer 0).wgtPost t 0x11)) ∧
    (s.bankState t b = 1 → s.mapFull t b = false → exec (.seal q t v) s = .next ((s.answer 0).wgtPost t 0x12)) ∧
    (s.bankState t b = 1 → s.mapFull t b = true → exec (.seal q t v) s =
      .next (({ s.answer 0 with wgt := { s.wgt with seals := s.wgt.seals ++ [(t, b, bit v 5)] } } : State).wgtStart t)) ∧
    (s.mayFlip t = true → s.flipping t = false → exec (.flip q t v) s = .next (((s.answer 0).flipStart t true).wgtStart t)) ∧
    (s.mayFlip t = false ∨ s.flipping t = true → exec (.flip q t v) s = .next ((s.answer 0).wgtPost t 0x11)) ∧
    (s.bankState t b ≠ 4 → s.bankState t b ≠ 5 → exec (.discard q t v) s = .next (((s.answer 0).discard t b).wgtStart t)) ∧
    (s.bankState t b = 4 ∨ s.bankState t b = 5 → exec (.discard q t v) s = .next ((s.answer 0).wgtPost t 0x11))) ∧
  (∀ (t b : Nat) (verify : Bool) (s : State), t < 64 → b < 2 → s.pwr.chipOff = false →
    s.flag (PAGE_CTRL (0x100 + t)) 0 = true → s.wgt.seals = [(t, b, verify)] →
    s.bankState t b = 1 → s.joined t = false →
    let crc := word (crc32 (s.wgtBytes (s.bankExtent t b).1 (s.bankExtent t b).2))
    ∃ u, exec (.sealDone t) s = .next u ∧ u.reg (TILE_WGT_CRC t b) = crc ∧ u.wgtBusy t = false ∧ u.wgt.seals = [] ∧
      (verify = false ∨ crc = s.reg (TILE_WGT_EXPECT t) → u.bankState t b = 2 ∧ u.flag (IRQ_RAW (0x100 + t)) 3 = true) ∧
      (verify = true → crc ≠ s.reg (TILE_WGT_EXPECT t) → u.bankState t b = 1 ∧ u.reg (TILE_WGT_RESULT t) = 0x14) ∧
      u = { s with regs := u.regs, wgt := u.wgt }) ∧
  (∀ (t : Nat) (page : Bool) (s : State), t < 64 → s.pwr.chipOff = false →
    s.flag (PAGE_CTRL (0x100 + t)) 0 = true → (s.tile t).cimQ = [] → s.wgt.flips = [(t, page)] →
    s.sch.flipMask = none →
    ∃ u, exec (.flipDone t) s = .next u ∧ u.bankRole t 0 = s.bankRole t 1 ∧ u.bankRole t 1 = s.bankRole t 0 ∧
      u.wgt.flips = [] ∧ u.flag (IRQ_RAW (0x100 + t)) 5 = true ∧ u = { s with regs := u.regs, wgt := u.wgt }) ∧
  (∀ (t b : Nat) (s : State), t < 64 → b < 2 → s.pwr.chipOff = false → s.wgt.zeroing = [(t, b, none)] → (s.tile t).cimQ = [] →
    ∃ u, exec (.discardDone t) s = .next u ∧ u = s.zeroEnd t ∧ u.bankState t b = 0 ∧ u.bankRole t b = s.bankRole t b ∧
      u.wgt.zeroing = [] ∧ u.wgtBusy t = false ∧ ∀ a, bankBase t b ≤ a → a < bankBase t b + 0x80000 → u.wgt.bytes.get (fun _ => 0) a = 0) ∧
  (∀ (mask : Nat) (s : State), s.pwr.chipOff = false → s.sch.flipMask = some mask → s.sch.flipOn = false →
    ((setPositions 64 mask).all (fun t => s.mayFlip t && !s.flipping t) = true →
      ∃ u, exec (.broadcastFlip mask) s = .next u ∧ u.sch.flipOn = true ∧ (∀ t ∈ setPositions 64 mask, u.flipping t = true) ∧
        u = { s with wgt := u.wgt, sch := { s.sch with flipOn := true } }) ∧
    ((setPositions 64 mask).all (fun t => s.mayFlip t && !s.flipping t) = false →
      exec (.broadcastFlip mask) s = .next (s.flipPost 0x16 (s.broadcastFlip mask).1)))

/-- A Hook engine: queueing, activation, rows, the end and cancellation of descriptors. Completion of: hookQueue, hookDescActivate,
hookRowStart, hookDescEnd, hookCancel. -/
def Obligations.HookCommands : Prop :=
  (∀ (q : Req) (e : Nat) (v : Word) (s : State), e < 2 → s.lands q (HOOK_QUEUE e) true = true →
    (bits v 31 28 ≠ 0 → exec (.hookQueue q e v) s = .next ((s.answer 0).fail q (HOOK_QUEUE e) 0x11)) ∧
    (bits v 31 28 = 0 → 8 ≤ (s.hookOf e).queue.length → exec (.hookQueue q e v) s = .next ((s.answer 0).fail q (HOOK_QUEUE e) 0x10)) ∧
    (bits v 31 28 = 0 → (s.hookOf e).queue.length < 8 → exec (.hookQueue q e v) s =
      .next ((s.answer 0).setHook e { s.hookOf e with queue := (s.hookOf e).queue ++ [(bits v 27 0, q)] }))) ∧
  (∀ s t : State, (t.unitWait = none → (s.engine fun _ => t) = t) ∧ (∀ d, t.unitWait = some d → (s.engine fun _ => t) = s.waitFor d)) ∧
  (∀ (e a c : Nat) (r : Req) (rest : List (Nat × Req)) (d : List Byte) (s u : State), e < 2 → s.pwr.chipOff = false →
    s.flag (PAGE_CTRL (0x058 + e)) 0 = true → s.domOn 11 = true → (s.hookOf e).queue = (a, r) :: rest → (s.hookOf e).active = false →
    s.engineRead (s.hookReq e) (a * 64) 64 = (c, d, u) →
    let v := u.setHook e { u.hookOf e with active := true, row := 0, desc := if c = 0 then d else [] }
    (c ≠ 0 → exec (.hookDescActivate e) s = .next (s.engine fun _ => v.hookEnd e c)) ∧
    (c = 0 → v.hookCheck e d = 1 →
      exec (.hookDescActivate e) s = .next (s.engine fun _ => (v.logRefusal (v.hookReq e) (a * 64) false 1).hookEnd e 1)) ∧
    (c = 0 → v.hookCheck e d ≠ 0 → v.hookCheck e d ≠ 1 →
      exec (.hookDescActivate e) s = .next (s.engine fun _ => v.hookEnd e (v.hookCheck e d))) ∧
    (∀ k w, c = 0 → v.hookCheck e d = 0 → v.hookLoad e d = (k, w) →
      let z := w.openCount (HOOK_BUSY_CYC e)
      exec (.hookDescActivate e) s = .next (s.engine fun _ => if k ≠ 0 then z.hookEnd e k else
        z.setHook e { z.hookOf e with frame := ((hookRing d).map fun n => (z.camera n).frames).getD 0 }))) ∧
  (∀ (e c : Nat) (rows : List (Nat × List (List Byte))) (s u : State), e < 2 → s.pwr.chipOff = false →
    s.flag (PAGE_CTRL (0x058 + e)) 0 = true → s.domOn 11 = true →
    let x := s.hookOf e
    x.active = true → x.row < (hookOut x.desc).h → ((hookRing x.desc).any fun n => !s.ringReady e n x.row) = false →
    s.hookReadRows e x.desc (hookRows x.desc x.row) = (c, rows, u) →
    (c ≠ 0 → exec (.hookRowStart e) s = .next (s.engine fun _ => u.hookEnd e c)) ∧
    (∀ k w, c = 0 → u.writeParts (u.hookReq e) ((hookOut x.desc).rowParts x.row)
        ((hookOut x.desc).pack (hookElem x.desc (x.wbuf.getD []) rows x.row)) = (k, w) →
      let z := w.openCount (HOOK_BUSY_CYC e)
      exec (.hookRowStart e) s = .next (s.engine fun _ => if k ≠ 0 then z.hookEnd e k else
        z.setHook e { z.hookOf e with row := x.row + 1 }))) ∧
  (∀ (e : Nat) (s : State), e < 2 → s.pwr.chipOff = false → s.flag (PAGE_CTRL (0x058 + e)) 0 = true → s.domOn 11 = true →
    (s.hookOf e).active = true → (hookOut (s.hookOf e).desc).h ≤ (s.hookOf e).row → exec (.hookDescEnd e) s = .next (s.hookEnd e 0)) ∧
  (∀ (q : Req) (e : Nat) (v : Word) (s : State), e < 2 → s.lands q (HOOK_CANCEL e) true = true → bit v 0 = true →
    ∃ t, exec (.hookCancel q e v) s = .next t ∧ t = hookCancel e (s.answer 0) ∧ (t.hookOf e).queue = [] ∧ (t.hookOf e).wbuf = none)

/-- The recurrent state unit: table commands and steps. Completion of: stateStart, statePause, stateResume, stateReset, stateEnd, stateRead,
stateTSubmit, stateStepActivate, stateStepCommit. -/
def Obligations.StateUnitCommands : Prop :=
  (∀ (q : Req) (t : Nat) (v : Word) (s : State), t < 8 → s.lands q (STATE_T_CMD t) true = true → s.flag (STATE_T_STAT t) 0 = true →
    ∀ c ∈ [Instr.stateStart q t v, .statePause q t v, .stateResume q t v, .stateReset q t v, .stateEnd q t v, .stateRead q t v],
      exec c s = .next (s.answer 0)) ∧
  (∀ (q : Req) (t i : Nat) (v : Word) (s : State), t < 8 → s.lands q (STATE_T_CMD t) true = true → s.flag (STATE_T_STAT t) 0 = false →
    let u := (s.answer 0).setFld (STATE_T_STAT t) 31 16 (s.fld (STATE_T_STAT t) 31 16 + 1)
    let cfg := s.reg (STATE_T_CFG t)
    let ptr := s.reg64 (STATE_T_PTR_LO t) (STATE_T_PTR_HI t)
    1 ≤ bits cfg 2 0 → bits cfg 2 0 ≤ 4 → 1 ≤ bits cfg 28 16 → bits cfg 28 16 ≤ 4096 → (bits cfg 2 0 = 4 → bits cfg 13 9 ≠ 0) →
    ptr % 64 = 0 → s.withinSkeins t ptr (regionBytes (bits cfg 2 0) (bits cfg 28 16) (bits cfg 13 9)) = true →
    s.liveOf t < s.fld (STATE_QUOTA t) 10 0 → i < 1024 → s.sentry i = none → (∀ j, j < i → s.sentry j ≠ none) →
    ∃ w x, exec (.stateStart q t v) s = .next w ∧ w = ((u.setSentry i (some x)).setReg (STATE_T_RESULT t) (word i)).statePost t 0 ∧
      w.sentry i = some x ∧ x.owner = t ∧ x.reset = true ∧ x.pause = false ∧ x.op = bits cfg 2 0 ∧ x.n = bits cfg 28 16 ∧ x.ptr = ptr ∧
      ∀ j, j ≠ i → w.sentry j = s.sentry j) ∧
  (∀ (q : Req) (t : Nat) (v : Word) (s : State) (x : SEntry), t < 8 → s.lands q (STATE_T_CMD t) true = true → s.flag (STATE_T_STAT t) 0 = false →
    let i := bits v 25 16
    let u := (s.answer 0).setFld (STATE_T_STAT t) 31 16 (s.fld (STATE_T_STAT t) 31 16 + 1)
    s.sentry i = some x →
    (x.owner = t →
      exec (.statePause q t v) s = .next ((u.setSentry i (some { x with pause := true })).statePost t 0) ∧
      exec (.stateResume q t v) s = .next ((u.setSentry i (some { x with pause := false })).statePost t 0) ∧
      exec (.stateReset q t v) s = .next ((({ u with su := { u.su with again := u.su.again || s.activeEntry == some i } } : State).setSentry i
        (some { x with reset := true })).statePost t 0) ∧
      (s.activeEntry ≠ some i → exec (.stateEnd q t v) s = .next ((u.setSentry i none).statePost t 0)) ∧
      (s.activeEntry = some i → exec (.stateEnd q t v) s =
        .next (({ u with su := { u.su with ends := u.su.ends ++ [(t, i)] } } : State).setFlag (STATE_T_STAT t) 0 true)) ∧
      ∃ w, exec (.stateRead q t v) s = .next (State.statePost w t 0) ∧ w = { u with regs := w.regs } ∧
        ∀ k, k < 8 → w.reg (STATE_T_ENTRY t k) = (sentryWords x).getD k 0) ∧
    (x.owner ≠ t → ∀ c ∈ [Instr.statePause q t v, .stateResume q t v, .stateReset q t v, .stateEnd q t v, .stateRead q t v],
      exec c s = .next ((u.logRefusal (unitReq t) (regBase + STATE_T_CMD t) true 1).statePost t 1))) ∧
  (∀ (q : Req) (t : Nat) (v : Word) (s : State), t < 8 → s.lands q (STATE_T_SUBMIT t) true = true →
    (bits v 31 28 ≠ 0 → exec (.stateTSubmit q t v) s = .next ((s.answer 0).fail q (STATE_T_SUBMIT t) 0x15)) ∧
    (bits v 31 28 = 0 → 32 ≤ s.su.queue.length → exec (.stateTSubmit q t v) s = .next ((s.answer 0).fail q (STATE_T_SUBMIT t) 0x10)) ∧
    (bits v 31 28 = 0 → s.su.queue.length < 32 → exec (.stateTSubmit q t v) s =
      .next { s.answer 0 with su := { s.su with queue := s.su.queue ++ [(bits v 27 0, t, q)] } })) ∧
  (∀ (a t : Nat) (r : Req) (rest : List (Nat × Nat × Req)) (d : List Byte) (x : SEntry) (s u : State), s.pwr.chipOff = false →
    s.flag (PAGE_CTRL 0x05B) 0 = true → s.domOn 2 = true → s.su.queue = (a, t, r) :: rest → s.su.active = none →
    s.engineRead (unitReq t) (a * 64) 64 = (0, d, u) → u.sentry (descWord d 0 % 1024) = some x → x.owner = t → stepRsvd d = false →
    (x.pause = false → exec .stateStepActivate s =
      .next (s.engine fun _ => { u with su := { u.su with active := some (d, x.reset), again := false } })) ∧
    (x.pause = true → exec .stateStepActivate s = .next (s.engine fun _ => u.stepEnd 0x11 d))) ∧
  (∀ (a t : Nat) (r : Req) (rest : List (Nat × Nat × Req)) (d : List Byte) (reset : Bool) (x : SEntry) (st ins : List (List Byte))
      (s u v w : State), s.pwr.chipOff = false → s.flag (PAGE_CTRL 0x05B) 0 = true → s.domOn 2 = true →
    s.su.queue = (a, t, r) :: rest → s.su.active = some (d, reset) → s.sentry (descWord d 0 % 1024) = some x →
    let inp := nbits (leNat (slice d 8 8)) 39 0
    let li := if nbits (descWord d 0) 17 16 = 2 then l8 x.n else l32 x.n
    (if reset = true then (0, (stepStateAddrs x).map fun _ => List.replicate (l32 x.n) 0, s)
      else s.readVecs (unitReq t) (l32 x.n) (stepStateAddrs x)) = (0, st, u) →
    u.readVecs (unitReq t) li ((List.range (opParts x.op)).map fun p => inp + p * li) = (0, ins, v) →
    (∀ c, v.writeLines (unitReq t) (stepWrites x d reset st ins).1 = (c, w) → c ≠ 0 →
      exec .stateStepCommit s = .next (s.engine fun _ => w.stepEnd c d)) ∧
    (∀ y, v.writeLines (unitReq t) (stepWrites x d reset st ins).1 = (0, w) → w.sentry (descWord d 0 % 1024) = some y →
      exec .stateStepCommit s = .next (s.engine fun _ => ((w.setSentry (descWord d 0 % 1024) (some { y with
        sat := y.sat || (stepWrites x d reset st ins).2
        reset := y.reset && (!reset || w.su.again)
        step := if reset then 1 else y.step + 1
        cur := if x.op = 4 then y.cur else 1 - y.cur
        pos := if x.op = 4 then (y.pos + 1) % (y.km1 + 1) else y.pos })).bumpSat STATE_STEPS 31 0).stepEnd 0 d)))

/-- The voxel engine: queueing, voxelisation, sparse convolution, bird's-eye view, the end and cancellation of steps. Completion of:
voxQueue, voxelise, spconv, bev, voxeliseStreamRead, voxStepEnd, voxCancel. -/
def Obligations.VoxelCommands : Prop :=
  (∀ (q : Req) (v : Word) (s : State), s.lands q VOX_QUEUE true = true →
    (bits v 31 28 ≠ 0 → exec (.voxQueue q v) s = .next ((s.answer 0).fail q VOX_QUEUE 0x11)) ∧
    (bits v 31 28 = 0 → 8 ≤ s.vox.queue.length → exec (.voxQueue q v) s = .next ((s.answer 0).fail q VOX_QUEUE 0x10)) ∧
    (bits v 31 28 = 0 → s.vox.queue.length < 8 → exec (.voxQueue q v) s =
      .next { s.answer 0 with vox := { s.vox with queue := s.vox.queue ++ [(bits v 27 0, q)] } })) ∧
  (∀ (s u : State), s.pwr.chipOff = false → s.flag (PAGE_CTRL 0x05A) 0 = true →
    (s.voxActivate 1 = (none, u) → exec .voxelise s = .next (s.engine fun _ => u)) ∧ (s.voxActivate 2 = (none, u) → exec .spconv s = .next (s.engine fun _ => u)) ∧
    (s.voxActivate 3 = (none, u) → exec .bev s = .next (s.engine fun _ => u))) ∧
  (∀ (d bs : List Byte) (s u w : State), s.pwr.chipOff = false → s.flag (PAGE_CTRL 0x05A) 0 = true → s.voxActivate 1 = (some d, u) →
    (voxCtrl d 18 18 = 0 →
      let n := nbits (descWord d 0x18) 23 0
      let x := nbits (descWord d 0x18) 15 0
      let y := nbits (descWord d 0x18) 31 16
      let src := nbits (leNat (slice d 0x10 8)) 39 0
      (voxCtrl d 17 16 = 0 → u.engineRead u.voxReq src (8 * n) = (0, bs, w) → exec .voxelise s = .next (s.engine fun _ => w.voxelise d (ptsPoints 8 6 2 n bs))) ∧
      (voxCtrl d 17 16 = 1 → u.engineRead u.voxReq src (16 * n) = (0, bs, w) → exec .voxelise s = .next (s.engine fun _ => w.voxelise d (ptsPoints 16 8 8 n bs))) ∧
      (2 ≤ voxCtrl d 17 16 → u.engineRead u.voxReq src (2 * x * y) = (0, bs, w) → exec .voxelise s = .next (s.engine fun _ => w.voxelise d (depthPoints d x y bs)))) ∧
    (voxCtrl d 18 18 = 1 → u.voxStreamCheck = 0 →
      u.engineWrite u.voxReq (voxOut d).hash (List.replicate (8 * 2 ^ (voxOut d).hbits) 0) = (0, w) →
      exec .voxelise s = .next (s.engine fun _ => { w with vox := { w.vox with wait := some (w.fld (STRM_HW_SEQ 5) 19 0) } }))) ∧
  (∀ (n : Nat) (bs : List Byte) (s w : State), s.pwr.chipOff = false → s.flag (PAGE_CTRL 0x05A) 0 = true → s.domOn 12 = true →
    s.vox.wait = some n →
    let ahead := (s.fld (STRM_HW_SEQ 5) 15 0 + 0x10000 - n % 0x10000) % 0x10000
    (ahead = 0 → exec .voxeliseStreamRead s = .next (s.engine fun _ => s)) ∧
    (ahead ≠ 0 → s.strmCount 5 < ahead ∨ (ahead = s.strmCount 5 ∧ (s.stream 5).cap = true) →
      exec .voxeliseStreamRead s = .next (s.engine fun _ => s.voxCut 0x16)) ∧
    (ahead ≠ 0 → ahead ≤ s.strmCount 5 → ¬ (ahead = s.strmCount 5 ∧ (s.stream 5).cap = true) →
      s.engineRead s.voxReq (s.base64 (STRM_BASE_LO 5) (STRM_BASE_HI 5) + n / 0x10000 * s.fld64 (STRM_BUF_SIZE 5) 23 + 0x40)
        (2 * s.ispW 5 * s.ispH 5) = (0, bs, w) →
      exec .voxeliseStreamRead s = .next (s.engine fun _ => let z : State := { w with vox := { w.vox with aux := n % 0x10000 } }
        z.voxelise z.vox.desc (depthPoints z.vox.desc (z.ispW 5) (z.ispH 5) bs)))) ∧
  (∀ (d hash sites feats h bs : List Byte) (s u u1 u2 u3 u4 w1 w2 w3 : State), s.pwr.chipOff = false → s.flag (PAGE_CTRL 0x05A) 0 = true →
    s.voxActivate 2 = (some d, u) → u.voxLoad d = (0, u1) →
    let i := voxIn d
    let o := voxOut d
    let q := u.voxReq
    let src := nbits (leNat (slice d 0x10 8)) 39 0
    let keys := (List.range i.count).map fun k => leNat (slice sites (4 * k) 4)
    let b := if voxCtrl d 7 7 = 1 then stridedSet d keys else ({ keys := keys }, false)
    u1.engineRead q i.hash (8 * 2 ^ i.hbits) = (0, hash, u2) → u2.engineRead q i.sites (4 * i.count) = (0, sites, u3) →
    u3.engineRead q i.feat (i.ps * i.count) = (0, feats, u4) →
    (voxCtrl d 6 6 = 1 → u4.engineRead q src 64 = (0, h, w1) → descWord h 4 = b.1.keys.length → descWord h 8 = i.count →
      nbits (descWord h 12) 2 0 = voxCtrl d 9 8 + voxCtrl d 7 7 * 4 → w1.engineRead q (src + 64) (4 * descWord h 0) = (0, bs, w2) →
      (if voxCtrl d 7 7 = 1 then w2.voxHash o b.1 else (0, w2)) = (0, w3) →
      exec .spconv s = .next (s.engine fun _ => (({ w3 with vox := { w3.vox with aux := descWord h 0 } } : State).voxOverflow b.2).spconvRun d feats
        ((rulesOf ((List.range (descWord h 0)).map fun k => leNat (slice bs (4 * k) 4)) []).take b.1.keys.length) b.1.keys.length)) ∧
    (voxCtrl d 6 6 ≠ 1 → (if voxCtrl d 7 7 = 1 then u4.voxHash o b.1 else (0, u4)) = (0, w1) →
      let rules := b.1.keys.map (siteRules d hash)
      let pairs := (rules.map (·.length)).foldl (· + ·) 0
      64 + 4 * pairs ≤ nbits (descWord d 0x18) 23 0 * 64 →
      (({ w1 with vox := { w1.vox with aux := pairs } } : State).voxOverflow b.2).writeVecs q
        [(src, rulesHeader d pairs b.1.keys.length), (src + 64, rules.flatMap pairBytes)] = (0, w2) →
      exec .spconv s = .next (s.engine fun _ => w2.spconvRun d feats rules b.1.keys.length))) ∧
  (∀ (d sites feats : List Byte) (c : Nat) (s u u1 u2 w : State), s.pwr.chipOff = false → s.flag (PAGE_CTRL 0x05A) 0 = true →
    s.voxActivate 3 = (some d, u) →
    let i := voxIn d
    let t := tensOf (slice d 0x40 16)
    let l := (List.range i.count).map fun k =>
      (leNat (slice sites (4 * k) 4), (List.range i.c).map fun c => signed 8 (leNat (slice feats (k * i.ps + c) 1)))
    u.engineRead u.voxReq i.sites (4 * i.count) = (0, sites, u1) → u1.engineRead u1.voxReq i.feat (i.ps * i.count) = (0, feats, u2) →
    u2.writeVecs u2.voxReq ((List.range t.h).flatMap fun y =>
      ((t.rowParts y).zip (t.pack fun c x => bevCell d l c x y)).map fun (p, b) => (p.1, b)) = (c, w) →
    exec .bev s = .next (s.engine fun _ => w.voxFin c)) ∧
  (∀ (c : Nat) (s : State), s.pwr.chipOff = false → s.flag (PAGE_CTRL 0x05A) 0 = true → s.domOn 12 = true → s.vox.fin = some c →
    exec .voxStepEnd s = .next (s.voxEnd c)) ∧
  (∀ (q : Req) (v : Word) (s : State), s.lands q VOX_CANCEL true = true → bit v 0 = true →
    ∃ t, exec (.voxCancel q v) s = .next t ∧ t = voxCancel (s.answer 0) ∧ t.vox = {})

/-- Skeins, wiping, MOVE, cache maintenance, RELEASE and the pool caches. Completion of: skeinAdd, skeinDel, wipeGranuleDone, move, clean,
flush, invalidate, release, moveStart, moveDone, cacheOpDone, poolWbConfig, poolFlushDone. -/
def Obligations.MemoryCommands : Prop :=
  (∀ (q : Req) (v : Word) (s : State), s.lands q MEM_SKEIN_CMD true = true →
    let r := (s.answer 0).skeinAdd
    let x : Skein := { tenant := bits (s.reg (MEM_SKEIN_W 0)) 3 1, tier := bits (s.reg (MEM_SKEIN_W 0)) 5 4
                       shared := bit (s.reg (MEM_SKEIN_W 0)) 6, job := bit (s.reg (MEM_SKEIN_W 0)) 7
                       base := bits (s.reg (MEM_SKEIN_W 1)) 17 0, limit := bits (s.reg (MEM_SKEIN_W 2)) 17 0
                       quota := bits (s.reg (MEM_SKEIN_W 3)) 17 0 }
    let size := if x.tier = 1 then 4159 else tierSize x.tier
    exec (.skeinAdd q v) s = .next ((if r.1 = 0 ∧ (r.2.2.skein r.2.1).tier = 2 then r.2.2.tdiError (r.2.2.skein r.2.1).tenant
      else r.2.2).setReg MEM_SKEIN_RESULT (word (r.1 + r.2.1 * 0x100))) ∧
    (x.tier = 3 ∨ x.limit < x.base ∨ size ≤ x.limit → r = (0x11, 0, s.answer 0)) ∧
    (x.tier ≠ 3 → x.base ≤ x.limit → x.limit < size →
      (x.tenant ≠ 0 → s.flag ADSEL_TENANTS x.tenant = false → r = (0x14, 0, s.answer 0)) ∧
      (x.tenant = 0 ∨ s.flag ADSEL_TENANTS x.tenant = true →
        (s.freeSkein = none → r = (0x12, 0, s.answer 0)) ∧
        (∀ k, s.freeSkein = some k →
          (x.shared = true → r = (0, k, (s.answer 0).setSkein k { x with valid := true, held := 0, deleting := false })) ∧
          (x.shared = false → s.rangeFree x.tier x.base x.limit = false → r = (6, 0, s.answer 0)) ∧
          (x.shared = false → s.rangeFree x.tier x.base x.limit = true → r = (0, k, (s.answer 0).createSkein k x)))))) ∧
  (∀ (q : Req) (v : Word) (s : State), s.lands q MEM_SKEIN_CMD true = true →
    let k := s.fld MEM_SKEIN_SEL 5 0
    exec (.skeinDel q v) s = .next ((((if (s.skein k).valid = true ∧ (s.skein k).tier = 2 then
      (s.answer 0).tdiError (s.skein k).tenant else s.answer 0).deleteSkein k).setReg MEM_SKEIN_RESULT (word (k * 0x100))))) ∧
  (∀ (g : Nat) (rest : List Nat) (s : State), s.pwr.chipOff = false → s.flag (PAGE_CTRL 0x030) 0 = true → s.domOn 2 = true →
    s.mem.wipe01 = g :: rest → (g / 0x40000 = 0 → s.domOn (32 + g / 128) = true) →
    exec (.wipeGranuleDone false) s =
      .next (((({ s with mem := { s.mem with wipe01 := rest } } : State).setOwn g 0).blankGran g).wiped g)) ∧
  (∀ (s : State), s.pwr.chipOff = false → s.flag (PAGE_CTRL 0x030) 0 = true → s.domOn 2 = true → s.domOn 10 = true →
    s.mem.t2Next < tierSize 2 →
    let g := gran 2 s.mem.t2Next
    exec (.wipeGranuleDone true) s =
      .next (((({ s with mem := { s.mem with t2Next := s.mem.t2Next + 1 } } : State).blankGran g).reclaim g).wiped g)) ∧
  (∀ (q : Req) (t : Nat) (v : Word) (s : State), t < 8 → s.lands q (MEM_T_CMD t) true = true → s.memBusy t = true →
    ∀ c ∈ [Instr.move q t v, .clean q t v, .flush q t v, .invalidate q t v, .release q t v], exec c s = .next (s.answer 0)) ∧
  (∀ (q : Req) (t : Nat) (v : Word) (s : State), t < 8 → s.lands q (MEM_T_CMD t) true = true → s.memBusy t = false →
    let u := (s.answer 0).memAccept t
    let dst := s.reg64 (MEM_T_DST_LO t) (MEM_T_DST_HI t)
    let n := (s.reg (MEM_T_LEN t)).toNat
    let m : Move := { tenant := t, src := s.reg64 (MEM_T_SRC_LO t) (MEM_T_SRC_HI t), dst := dst, len := n, rel := bit v 4
                      note := s.reg (MEM_T_NOTE t), origin := t, job := 0, tile := if q.cls ≤ 1 then some q.index else none }
    let op := fun k => if cacheRangeOk dst n = true then
        { u with mem := { u.mem with ops := u.mem.ops ++ [(t, ⟨k, dst, n, t, 0, s.reg (MEM_T_NOTE t)⟩)] } }
      else u.memPost t 0x11
    u.memBusy t = true ∧
    (moveOk m.src m.dst m.len = false → exec (.move q t v) s = .next (u.moveEnd m 0x11)) ∧
    (moveOk m.src m.dst m.len = true → 8 ≤ s.mem.moves.length → exec (.move q t v) s = .next ((u.memPost t 0x10).irq 0x030 1)) ∧
    (moveOk m.src m.dst m.len = true → s.mem.moves.length < 8 → u.moveCheck m = .error 1 →
      exec (.move q t v) s = .next ((u.logRefusal (moveReq t) m.src true 4).memPost t 1)) ∧
    (moveOk m.src m.dst m.len = true → s.mem.moves.length < 8 → (u.moveCheck m).toBool = true ∨ u.moveCheck m = .error 6 →
      exec (.move q t v) s = .next { u with mem := { u.mem with moves := u.mem.moves ++ [m] } }) ∧
    exec (.clean q t v) s = .next (op 2) ∧ exec (.flush q t v) s = .next (op 3) ∧ exec (.invalidate q t v) s = .next (op 4) ∧
    (∀ gs, granulesOf dst n = some gs →
      (n = 0 ∨ gs.all (fun g => decide (dst ≤ granBase g ∧ granBase g + granBytes g ≤ dst + n)) = false →
        exec (.release q t v) s = .next (u.memPost t 0x11)) ∧
      (n ≠ 0 → gs.all (fun g => decide (dst ≤ granBase g ∧ granBase g + granBytes g ≤ dst + n)) = true →
        (gs.all (fun g => ownedBy (s.ownOf g) t) = true →
          exec (.release q t v) s = .next ((u.releaseGrans (u.sharedGrans dst n)).memPost t 0)) ∧
        (gs.all (fun g => ownedBy (s.ownOf g) t) = false →
          exec (.release q t v) s = .next ((u.logRefusal (moveReq t) dst true 4).memPost t 1))))) ∧
  (∀ (m : Move) (rest : List Move) (s : State), s.pwr.chipOff = false → s.flag (PAGE_CTRL 0x030) 0 = true → s.mem.moves = m :: rest →
    let gone : State := { s with mem := { s.mem with moves := rest } }
    (∀ u, s.domOn 2 = true → s.mem.moving = false → s.moveCheck m = .ok u →
      (s.movePower m = 0 → exec .moveStart s = .next { u with mem := { u.mem with moving := true } }) ∧
      (0 < s.movePower m → s.movePower m < 0x100 → exec .moveStart s = .next (gone.moveEnd m (s.movePower m))) ∧
      (0x100 ≤ s.movePower m → exec .moveStart s = .next (s.waitFor (s.movePower m - 0x100)))) ∧
    (s.domOn 2 = true → s.mem.moving = false → s.moveCheck m = .error 6 → exec .moveStart s = .next (gone.moveEnd m 6)) ∧
    (s.mem.moving = true → exec .moveDone s = .next (
      let u : State := { s with mem := { s.mem with moves := rest, moving := false } }
      let u := (List.range (m.len / 32)).foldl (fun s i => s.moveGran (moveReq m.tenant) (m.src + 32 * i) (m.dst + 32 * i)) u
      let u := (List.range (m.len / 32)).foldl (fun s i => s.moveTaint (moveReq m.tenant) (m.src + 32 * i)) u
      (if m.rel = true then u.releaseGrans (u.sharedGrans m.src m.len) else u).moveEnd m 0))) ∧
  (∀ (t : Nat) (o : CacheOp) (s : State), t < 8 → s.pwr.chipOff = false → s.flag (PAGE_CTRL 0x030) 0 = true →
    (s.mem.ops.find? fun o => o.1 == t) = some (t, o) →
    let first := (o.start - 0x100000000) / 256
    let last := first + o.len / 256 - 1
    let u : State := { s with mem := { s.mem with ops := s.mem.ops.erase (t, o) } }
    (s.cacheOn t = true → o.kind = 4 ∨ s.backPower t first last = 0 →
      exec (.cacheOpDone t) s = .next (((u.cacheMaintain t o.kind first last).memTell o.origin o.rseq 0).note t o.note)) ∧
    (s.cacheOn t = false → exec (.cacheOpDone t) s = .next ((u.memTell o.origin o.rseq 0).note t o.note)) ∧
    (s.cacheOn t = true → o.kind ≠ 4 → s.backPower t first last = 0x100 → exec (.cacheOpDone t) s = .next (s.waitFor 10))) ∧
  (∀ (q : Req) (t : Nat) (win : Bool) (v : Word) (s : State), t < 8 → s.lands q (if win then POOL_WB_WIN t else POOL_WB_SETS t) true = true →
    let waits := s.cacheOn t || s.mem.flushing.any fun f => f.1 == t
    (waits = false → exec (.poolWbConfig q t win v) s = .next ((s.answer 0).wbApply q t win v)) ∧
    (waits = true → exec (.poolWbConfig q t win v) s =
      .next (({ s.answer 0 with mem := { s.mem with flushing := s.mem.flushing ++ [(t, win, v, q)] } } : State).setFlag POOL_STATUS 8 true))) ∧
  (∀ (t : Nat) (win : Bool) (v : Word) (q : Req) (s : State), t < 8 → s.pwr.chipOff = false → s.flag (PAGE_CTRL 0x031) 0 = true →
    s.mem.flushing = [(t, win, v, q)] → s.cacheOn t = true →
    (s.backPower t 0 0x2000000 = 0 →
      exec (.poolFlushDone t) s = .next (((((({ s with mem := { s.mem with flushing := [] } } : State).setFlag POOL_STATUS 8 false).cacheMaintain
        t 3 0 0x2000000).wbApply q t win v).irq 0x031 0))) ∧
    (s.backPower t 0 0x2000000 = 0x100 → exec (.poolFlushDone t) s = .next (s.waitFor 10)))

/-- Submission, admission, evaluation and switches of jobs. Completion of: schJobSubmit, admissionPost, schedulerEvaluate, switchDone,
schTCancel, schCancelPost, schFlipCmd. -/
def Obligations.SchedulerCommands : Prop :=
  (∀ (q : Req) (t : Nat) (v : Word) (s : State), t < 8 → s.lands q (SCH_JOB_SUBMIT t) true = true →
    (s.flag (SCH_T_STAT t) 0 = true → exec (.schJobSubmit q t v) s = .next (s.answer 0)) ∧
    (s.flag (SCH_T_STAT t) 0 = false → ∃ u : State, exec (.schJobSubmit q t v) s = .next u ∧ u.sch.submits.get (fun _ => none) t = some (bits v 27 0 * 64) ∧
      u.reg (SCH_T_STAT t) = word (1 + (s.fld (SCH_T_STAT t) 31 16 + 1) % 0x10000 * 0x10000) ∧ u.sch.jobs = s.sch.jobs ∧ u.mem = s.mem)) ∧
  (∀ (t a : Nat) (s : State), t < 8 → s.pwr.chipOff = false → s.flag (PAGE_CTRL 0x028) 0 = true → s.domOn 2 = true →
    s.sch.submits.get (fun _ => none) t = some a →
    (∀ u, s.admits t = true → s.jobTake t a = (none, u) → exec (.admissionPost t) s = .next u) ∧
    (s.admits t = false → ∃ u, exec (.admissionPost t) s = .next u ∧
      u = (let w := s.logRefusal (schReq t) a false 7
        { w with sch.submits := w.sch.submits.set (fun _ => none) t none }).schPost t 1) ∧
    (∀ u, s.admits t = true → s.jobTake t a = (some none, u) → exec (.admissionPost t) s = .next
      ((let w := u.logRefusal (schReq t) a false 7
        { w with sch.submits := w.sch.submits.set (fun _ => none) t none }).schPost t 1)) ∧
    (∀ d sw u, s.admits t = true → s.jobTake t a = (some (some (d, sw)), u) → 32 ≤ u.admitted t → exec (.admissionPost t) s = .next
      (State.schPost { u with sch.submits := u.sch.submits.set (fun _ => none) t none } t 0x10)) ∧
    (∀ d sw u i, s.admits t = true → s.jobTake t a = (some (some (d, sw)), u) → u.admitted t < 32 → i < 32 →
      ((u.job (32 * t + i)).any fun j => j.st != 6) = false → (∀ h, h < i → ((u.job (32 * t + h)).any fun j => j.st != 6) = true) →
      let k := 32 * t + i
      let id := (u.sch.seqs.get (fun _ => 0) k % 127 + 1) * 0x100 + k
      let dep := jf d 0x28 31 31 == 0
      ∃ w, exec (.admissionPost t) s = .next w ∧ w.job k = some { id := id, ten := t, addr := a, d := d, sw := sw
                                                                  st := if dep then 2 else 1, rel := u.now, dep := dep } ∧
        w.reg (SCH_T_RESULT t) = word id ∧ w.reg (SCH_T_STAT t) = word (u.fld (SCH_T_STAT t) 31 16 * 0x10000) ∧
        ∀ h, h ≠ k → w.job h = u.job h)) ∧
  (∀ (s : State), s.pwr.chipOff = false → s.flag (PAGE_CTRL 0x028) 0 = true → s.domOn 2 = true →
    let a := s.sbEnter.beat
    let b := a.openSlots.foldl State.sbConsume a
    let c := b.openSlots.foldl State.makeReady b
    (c.flag SCH_CTRL 1 = true → exec .schedulerEvaluate s = .next c) ∧
    (c.flag SCH_CTRL 1 = false → exec .schedulerEvaluate s =
      .next ((State.order c.candidates.length c.candidates c).1.foldl State.place (State.order c.candidates.length c.candidates c).2))) ∧
  (∀ (ks : List Nat) (s : State), ks.Nodup → (∀ k ∈ ks, k < 512) →
    let l := (State.order ks.length ks s).1
    let prio := fun k => ((s.job k).map fun j => jobPrio j.d).getD 0
    let rel := fun k => ((s.job k).map fun j => j.rel).getD 0
    l.Perm ks ∧ l.Pairwise (fun a b => prio b < prio a ∨ prio a = prio b ∧ rel a ≤ rel b)) ∧
  (∀ (k : Nat) (j : Job) (s : State), s.pwr.chipOff = false → s.flag (PAGE_CTRL 0x028) 0 = true → s.job k = some j → j.switching = true →
    let vs := s.openSlots.filter fun h => h != k && (s.job h).any fun v => v.st == 3 && (jobMask v.d &&& jobMask j.d != 0)
    let tiles := vs.flatMap fun h => ((s.job h).map fun v => jobTiles v.d).getD []
    (tiles.all s.drained = false ∨ s.frogsDone j.d = false → exec (.switchDone k) s = .next s) ∧
    (tiles.all s.drained = true → s.frogsDone j.d = true → exec (.switchDone k) s = .next
      (((vs.foldl (fun s h => match s.job h with
        | some v => ((jobTiles v.d).foldl (fun s t => s.saveTile v t) s).setJob h { v with
            st := 4, placed := false, skip := (jobTiles v.d).filter fun t => (s.tile t).wait.isSome
            chk := (jobTiles v.d).filterMap fun t => (s.tile t).chk.map fun c => (t, c.1, c.2)
            ovr := (jobTiles v.d).filter fun t => s.tileSt t == 0 }
        | none => s) s).setJob k { j with switching := false }).placedGo k { j with switching := false }))) ∧
  (∀ (q : Req) (t : Nat) (v : Word) (s : State), t < 8 → s.lands q (SCH_T_CANCEL t) true = true →
    (s.flag (SCH_T_STAT t) 0 = true → exec (.schTCancel q t v) s = .next (s.answer 0)) ∧
    (s.flag (SCH_T_STAT t) 0 = false → ∃ u : State, exec (.schTCancel q t v) s = .next u ∧
      u.sch.cancels.get (fun _ => none) t = some (bits v 15 0) ∧ u.flag (SCH_T_STAT t) 0 = true ∧ u.sch.jobs = s.sch.jobs)) ∧
  (∀ (t id : Nat) (s : State), t < 8 → s.pwr.chipOff = false → s.flag (PAGE_CTRL 0x028) 0 = true → s.sch.cancels.get (fun _ => none) t = some id →
    let w := ({ s with sch.cancels := s.sch.cancels.set (fun _ => none) t none } : State)
    (s.jobById t id = none → exec (.schCancelPost t) s = .next ((w.logRefusal (schReq t) (regBase + SCH_T_CANCEL t) true 7).schPost t 1)) ∧
    (∀ k j, s.jobById t id = some k → s.job k = some j →
      exec (.schCancelPost t) s = .next (((w.dropSpill j).jobFrog k 0x15 0 0).schPost t 0))) ∧
  (∀ (q : Req) (v : Word) (s : State), s.lands q SCH_FLIP_CMD true = true → s.flag SCH_FLIP_RESULT 8 = false →
    let mask := (s.reg SCH_FLIP_LO).toNat + 0x100000000 * (s.reg SCH_FLIP_HI).toNat
    ((∀ t, t < 64 → mask.testBit t = true → s.holder t = none) →
      ∃ u, exec (.schFlipCmd q v) s = .next u ∧ u.sch.flipMask = some mask ∧ u.reg SCH_FLIP_RESULT = 0x100) ∧
    (∀ t, t < 64 → mask.testBit t = true → s.holder t ≠ none →
      ∃ u, exec (.schFlipCmd q v) s = .next u ∧ u.sch.flipMask = none ∧ u.reg SCH_FLIP_RESULT = 0x16 ∧ u.flag (IRQ_RAW 0x028) 3 = true ∧
        (if t < 32 then u.flag SCH_FLIP_FAIL_LO t else u.flag SCH_FLIP_FAIL_HI (t - 32)) = true))

/-- The spill path, endings and the deadline monitor. Completion of: spillYielded, spillDrained, spillMoved, spillRestoreDone, jobEnd,
dlmEvaluate, swatchDispatch. -/
def Obligations.SpillAndDeadlineCommands : Prop :=
  (∀ (k : Nat) (l : Job) (s : State), s.pwr.chipOff = false → s.flag (PAGE_CTRL 0x028) 0 = true → s.job k = some l → l.spill = 1 →
    ((∃ t ∈ jobTiles l.d, s.tileSt t ≠ 0 ∧ (s.tile t).yielded = false) → exec (.spillYielded k) s = .next s) ∧
    ((∀ t ∈ jobTiles l.d, s.tileSt t = 0 ∨ (s.tile t).yielded = true) → ∃ u, exec (.spillYielded k) s = .next u ∧
      u.job k = some { l with spill := 2 } ∧ (∀ i, i ≠ k → u.job i = s.job i) ∧ u.sch.sb = s.sch.sb ∧
      ∀ t, u.tile t = s.tile t)) ∧
  (∀ (k : Nat) (l h : Job) (s : State), s.pwr.chipOff = false → s.flag (PAGE_CTRL 0x028) 0 = true → s.job k = some l → l.spill = 2 →
    s.job l.spillFor = some h →
    ((jobTiles l.d).any s.tileWork = true → exec (.spillDrained k) s = .next s) ∧
    ((jobTiles l.d).any s.tileWork = false → s.spillMoves l.d h.d = none → exec (.spillDrained k) s = .next (s.spillFail k l)) ∧
    (∀ ms, (jobTiles l.d).any s.tileWork = false → s.spillMoves l.d h.d = some ms →
      exec (.spillDrained k) s = .next ((s.setJob k { l with spill := 3, moves := ms, todo := ms }).spillSubmit k))) ∧
  (∀ (k : Nat) (l : Job) (s u : State), s.pwr.chipOff = false → s.flag (PAGE_CTRL 0x028) 0 = true → s.job k = some l → l.spill = 3 → l.bad = false →
    l.todo = [] →
    s.spillEndings k = (false, u) → u.job k = some l → ∃ w, exec (.spillMoved k) s = .next w ∧
      w.job k = some { l with st := 5, spill := 4, placed := false, ovr := (jobTiles l.d).filter fun t => u.tileSt t == 0 } ∧
      (∀ t ∈ jobTiles l.d, w.tileSt t = 0 ∧ (w.tile t).preempt = false ∧ (w.tile t).yielded = false) ∧ w.holds = u.holds) ∧
  (∀ (k : Nat) (l : Job) (s u : State), s.pwr.chipOff = false → s.flag (PAGE_CTRL 0x028) 0 = true → s.job k = some l → l.spill = 5 →
    s.spillEndings k = (false, u) →
    u.job k = some l →
    (l.bad = false → l.todo = [] → exec (.spillRestoreDone k) s = .next ((u.dropSpill l).jobStart k l)) ∧
    (l.bad = true → exec (.spillRestoreDone k) s = .next (u.jobEnd k 0x14 0 0))) ∧
  (∀ (k : Nat) (j : Job) (s : State), s.pwr.chipOff = false → s.flag (PAGE_CTRL 0x028) 0 = true → s.job k = some j →
    (∀ c i t, j.ending = some (c, i, t) → s.frogsDone j.d = true → ∃ u, exec (.jobEnd k) s = .next u.teardownRun ∧
      u = s.jobEnd k c i t ∧ (u.job k).any (fun x => x.st == 6 && x.id == j.id && x.code == if j.swatch ∧ c = 0 then 0x12 else c) = true ∧
      u.flag (IRQ_RAW 0x028) 0 = true) ∧
    (j.ending = none → j.st = 3 → (∀ t ∈ jobTiles j.d, s.tileSt t = 0 ∧ (s.tile t).frogDue = false) → exec (.jobEnd k) s = .next (s.jobEnd k 0 0 0).teardownRun)) ∧
  (∀ (s : State), s.pwr.chipOff = false → s.flag (PAGE_CTRL 0x02A) 0 = true →
    (s.domOn 2 = false ∨ s.flag DLM_CTRL 0 = false → exec .dlmEvaluate s = .next s) ∧
    (s.domOn 2 = true → s.flag DLM_CTRL 0 = true →
      (∀ k ∈ s.openSlots, ∀ j, s.job k = some j → jobDeadline j.d = 0 ∨ j.ending.isSome = true ∨
        s.finish k j ≤ j.deadline - jobMargin j.d * 192) → exec .dlmEvaluate s = .next s.beat) ∧
    (∀ k j, s.domOn 2 = true → s.flag DLM_CTRL 0 = true → s.openSlots = [k] → s.job k = some j → jobDeadline j.d ≠ 0 → j.ending = none →
      j.deadline - jobMargin j.d * 192 < s.finish k j → exec .dlmEvaluate s = .next (s.beat.dlmAct k j (s.finish k j)))) ∧
  (∀ (k : Nat) (j : Job) (s : State), s.pwr.chipOff = false → s.flag (PAGE_CTRL 0x02A) 0 = true → s.job k = some j →
    j.swatch = true → j.switching = true →
    (s.frogsDone j.d = false ∨ s.overlapped k j = true → exec (.swatchDispatch k) s = .next s) ∧
    (s.frogsDone j.d = true → s.overlapped k j = false → exec (.swatchDispatch k) s =
      .next (((s.setJob k { j with switching := false }).jobHold k j.d).placedGo k { j with switching := false })))

/-- The Repeat Table: commits, timing registers, the period lock, period starts, leads and releases. Completion of: rptTCommit,
rptCommitPost, rptPeriodWrite, rptCfgWrite, rptRangeWrite, rptLockEvent, rptCaptureMiss, rptPeriodStart, rowLead, rowRelease. -/
def Obligations.RepeatTableCommands : Prop :=
  (∀ (q : Req) (t : Nat) (v : Word) (s : State), t < 8 → s.lands q (RPT_T_COMMIT t) true = true →
    (bit v 0 = false ∨ s.flag (RPT_T_STAT t) 0 = true → exec (.rptTCommit q t v) s = .next (s.answer 0)) ∧
    (bit v 0 = true → s.flag (RPT_T_STAT t) 0 = false → ∃ u : State, exec (.rptTCommit q t v) s = .next u ∧
      u.rpt.commits.get (fun _ => none) t = some (s.shadowRows t) ∧ u.rpt.live = s.rpt.live ∧ u.rpt.goLive = s.rpt.goLive ∧
      u.reg (RPT_T_STAT t) = word (1 + (s.fld (RPT_T_STAT t) 31 16 + 1) % 0x10000 * 0x10000))) ∧
  (∀ (t : Nat) (rows : List (Nat × List Word)) (b : Bool) (s u : State), t < 8 → s.pwr.chipOff = false → s.flag (PAGE_CTRL 0x029) 0 = true →
    s.rpt.commits.get (fun _ => none) t = some rows → State.rowsCheck t rows s = (some b, u) →
    ∃ w : State, exec (.rptCommitPost t) s = .next w ∧ w.rpt.goLive = (if b then u.rpt.goLive ++ rows else u.rpt.goLive) ∧
      w.rpt.live = u.rpt.live ∧ w.flag (RPT_T_STAT t) 0 = false ∧ w.fld (RPT_T_STAT t) 15 8 = (if b then 0 else 1) ∧
      (w.refusals = if b then u.refusals else (u.logRefusal (schReq t) (regBase + RPT_T_COMMIT t) true 7).refusals)) ∧
  (∀ (q : Req) (v : Word) (s : State), s.lands q RPT_PERIOD true = true →
    let p := bits v 25 0
    (p < 38400 ∨ 38400000 < p ∨ (∃ r, r < 256 ∧ s.rowValid r = true ∧ p ≤ bits (s.liveW r 1) 25 0) →
      exec (.rptPeriodWrite q v) s = .next ((s.answer 0).fail q RPT_PERIOD 0x11)) ∧
    (38400 ≤ p → p ≤ 38400000 → (∀ r, r < 256 → s.rowValid r = true → bits (s.liveW r 1) 25 0 < p) →
      ∃ u, exec (.rptPeriodWrite q v) s = .next u ∧ u.fld RPT_PERIOD 25 0 = p ∧ u.rpt.live = s.rpt.live ∧
        (s.rptRuns = true → s.rpt.wait0 = false → p ≠ s.fld RPT_PERIOD 25 0 → u.rpt.restart = true ∧ u.reg RPT_P_EST = s.reg RPT_P_EST))) ∧
  (∀ (q : Req) (v : Word) (s : State), s.lands q RPT_CFG true = true →
    (bit v 0 = false → ∃ u, exec (.rptCfgWrite q v) s = .next u ∧ u.rptRuns = false ∧ u.flag RPT_CFG 0 = false ∧
      (s.rptRuns = true → u.rpt.due = [] ∧ u.rpt.leads = [])) ∧
    (bit v 0 = true → s.rptRuns = false → exec (.rptCfgWrite q v) s =
      .next ((s.answer 0).setReg RPT_CFG ((s.answer 0).written RPT_CFG v)).rptStart)) ∧
  (∀ (q : Req) (t : Nat) (v : Word) (s : State), t < 8 → s.lands q (RPT_RANGE t) true = true →
    let new := fun r => bits v 7 0 ≤ r ∧ r < bits v 7 0 + bits v 16 8
    ((∃ u r, u < 8 ∧ u ≠ t ∧ r < 256 ∧ new r ∧ s.rowIn u r = true) →
      exec (.rptRangeWrite q t v) s = .next ((s.answer 0).fail q (RPT_RANGE t) 0x10)) ∧
    ((∀ u r, u < 8 → u ≠ t → r < 256 → new r → s.rowIn u r = false) → ∃ w, exec (.rptRangeWrite q t v) s = .next w ∧
      w.fld (RPT_RANGE t) 7 0 = bits v 7 0 ∧ w.fld (RPT_RANGE t) 16 8 = bits v 16 8 ∧
      (∀ r, s.rowIn t r = true → ¬ new r → w.rowValid r = false ∧ w.shadowW r 0 = 0) ∧
      (∀ r i, i < 4 → s.rowIn t r = false ∨ new r → w.liveW r i = s.liveW r i ∧ w.shadowW r i = s.shadowW r i))) ∧
  (∀ (e : Nat) (s : State), s.pwr.chipOff = false → s.flag (PAGE_CTRL 0x029) 0 = true → s.rpt.events.head? ≠ some e → exec (.rptLockEvent e) s = .next s) ∧
  (∀ (e : Nat) (l : List Nat) (s : State), s.pwr.chipOff = false → s.flag (PAGE_CTRL 0x029) 0 = true → s.rptRuns = true → bit s.rpt.cfg 1 = true → s.rpt.events = e :: l →
    s.rpt.wait0 = false → s.rpt.got = false → s.rpt.missed = false →
    s.rpt.a16 ≤ 16 * (e + s.rpt.capture) → 16 * e ≤ s.rpt.a16 + 16 * s.rpt.capture →
    let d : Int := (16 * e : Int) - s.rpt.a16
    ∃ u, exec (.rptLockEvent e) s = .next u ∧ u.reg RPT_ERR = ofInt (d.tdiv 16) ∧
      u.reg RPT_P_EST = ofInt (((s.reg RPT_P_EST).toNat : Int) + d.fdiv (2 ^ bits s.rpt.cfg 11 8)) ∧
      u.rpt.events = l ∧ u.rpt.next16 = 16 * e + (s.reg RPT_P_EST).toNat ∧ u.rpt.got = true ∧ u.rpt.streak = s.rpt.streak + 1 ∧
      (4 ≤ u.rpt.streak → u.flag RPT_STATUS 1 = true)) ∧
  (∀ (s : State), s.pwr.chipOff = false → s.flag (PAGE_CTRL 0x029) 0 = true → s.rptRuns = true → bit s.rpt.cfg 1 = true → s.rpt.events = [] →
    s.rpt.wait0 = false → s.rpt.got = false →
    s.rpt.missed = false → s.rpt.a16 + 16 * s.rpt.capture ≤ s.now16 →
    ∃ u, exec .rptCaptureMiss s = .next u ∧ u.rpt.missed = true ∧ u.flag RPT_STATUS 1 = false ∧ u.flag (IRQ_RAW 0x029) 1 = true ∧
      u.rpt.next16 = s.rpt.a16 + (s.reg RPT_P_EST).toNat ∧ u.reg RPT_P_EST = s.reg RPT_P_EST ∧ u.rpt.streak = 0) ∧
  (∀ (s : State), s.pwr.chipOff = false → s.flag (PAGE_CTRL 0x029) 0 = true → s.rptRuns = true → s.rpt.wait0 = false → s.rpt.next16 ≤ s.now16 →
    (bit s.rpt.cfg 1 = false ∨ s.rpt.got = true ∨ s.rpt.missed = true) → s.life.bindStage < 2 → s.rpt.restart = false →
    s.rpt.early = none → s.rpt.goLive = [] →
    ∃ u, exec .rptPeriodStart s = .next u ∧ u.fld RPT_STATUS 31 16 = s.nextCount ∧ u.reg64 RPT_ANCHOR_LO RPT_ANCHOR_HI = s.rpt.next16 / 16 % 2 ^ 64 ∧
      u.flag (IRQ_RAW 0x029) 0 = true ∧ u.rpt.a16 = s.rpt.next16 ∧ u.rpt.next16 = s.rpt.next16 + (s.reg RPT_P_EST).toNat ∧
      u.rpt.due = s.rpt.due ++ (((List.range 256).filter fun r => s.rowRuns r s.nextCount).map fun r =>
        (r, s.nextCount, s.rpt.next16 + 16 * bits (s.liveW r 1) 25 0))) ∧
  (∀ (r n x ten : Nat) (d : List Byte) (s u : State), r < 256 → s.pwr.chipOff = false → s.flag (PAGE_CTRL 0x029) 0 = true → s.rptRuns = true →
    s.nextRelease r = some (n, x) → s.rowTenant r = some ten → bits (s.liveW r 2) 31 24 ≠ 0 →
    5 * x ≤ 5 * s.now16 + 3072 * bits (s.liveW r 2) 31 24 → s.jobFetch ten (bits (s.liveW r 0) 27 0 * 64) = (some (some d), u) →
    ∃ w, exec (.rowLead r) s = .next w ∧ w.rpt.leads = u.rpt.leads ++ [(r, n)] ∧ (∀ y ∈ jobDoms d, ⟨9, 0x800 + r, y⟩ ∈ w.holds) ∧
      w.sch = u.sch ∧ w.regs = u.regs) ∧
  (∀ (r n x ten : Nat) (s : State), r < 256 → s.pwr.chipOff = false → s.flag (PAGE_CTRL 0x029) 0 = true → s.rptRuns = true → s.domOn 2 = true →
    (s.rpt.due.find? fun e => e.1 == r) = some (r, n, x) → x ≤ s.now16 → s.rowValid r = true → s.rowTenant r = some ten →
    (((s.job (256 + r)).any fun j => j.st != 6) = true → ∃ u, exec (.rowRelease r) s = .next u ∧ u.sch = s.sch ∧
      bits (u.rpt.stat.get (fun _ => 0) r) 31 24 = min 255 (bits (s.rpt.stat.get (fun _ => 0) r) 31 24 + 1) ∧
      (r, n) ∈ u.rpt.skips ∧ u.flag (IRQ_RAW 0x029) 2 = true) ∧
    (∀ d sw u, ((s.job (256 + r)).any fun j => j.st != 6) = false →
      s.jobTake ten (bits (s.liveW r 0) 27 0 * 64) = (some (some (d, sw)), u) → ∃ w, exec (.rowRelease r) s = .next w ∧
        w.job (256 + r) = some { id := 0x8000 + n % 128 * 0x100 + r, ten := ten, addr := bits (s.liveW r 0) 27 0 * 64, d := d, sw := sw
                                 st := 1, rel := ceilDiv x 16, period := n, dep := jf d 0x28 31 31 == 0 } ∧
        (∀ k, k ≠ 256 + r → w.job k = u.job k) ∧ ∀ e ∈ w.rpt.due, ¬(e.1 = r ∧ e.2.1 = n)))

/-- The host link: inbound requests, outbound completions, link events, resets and configuration. Completion of: hostBar0Request,
hostBar2Request, outboundCompletion, cplTimeout, linkUp, dlDown, linkReset, flr, linkL12Entry, linkL1Exit, pcieWakeTimeout, hostHandshake,
pcieConfigRequest, idePacketRx. -/
def Obligations.HostLinkCommands : Prop :=
  (∀ (h : HostTlp) (s : State), s.pwr.chipOff = false → s.linkUp = true → h.offset < 0x1000000 →
    (s.hostTenant h true = none → exec (.hostBar0Request h) s = .next (s.refuse (hostReq 0) (0x80000000 + h.offset) h.write 1)) ∧
    (∀ t (v : Word), s.hostTenant h true = some t → h.write = true → h.offset % 4 = 0 → h.data = (leBytes 4 v.toNat).map some →
      exec (.hostBar0Request h) s = .next (s.busWrite (hostReq t) (0x80000000 + h.offset) 4 v.toNat)) ∧
    (∀ t, s.hostTenant h true = some t → h.write = false → h.offset % 4 = 0 → h.len = 4 →
      exec (.hostBar0Request h) s = .next (s.busRead (hostReq t) (0x80000000 + h.offset) 4)) ∧
    (∀ t, s.hostTenant h true = some t → h.offset % 4 ≠ 0 ∨ (h.write = true ∧ (h.data.length ≠ 4 ∨ none ∈ h.data)) ∨ (h.write = false ∧ h.len ≠ 4) →
      exec (.hostBar0Request h) s = .next (if h.write then s.busWrite (hostReq t) (0x80000000 + h.offset) 0 0
        else s.busRead (hostReq t) (0x80000000 + h.offset) 0))) ∧
  (∀ (h : HostTlp) (s : State), s.pwr.chipOff = false → s.linkUp = true →
    (∀ t bs s', h.write = true → h.data = bs.map some → bs ≠ [] → h.offset + bs.length ≤ 0x200000000 → s.hostTenant h false = some t →
      s.heldBack (hostReq t) = none → s.rangeOk (hostReq t) true (0x100000000 + h.offset) bs.length = some true →
      s.memServed (s.memNeeds (hostReq t) (0x100000000 + h.offset) bs.length).1 = true →
      s.queued none (s.memNeeds (hostReq t) (0x100000000 + h.offset) bs.length).1 = false →
      s.takeGrans (hostReq t) true ((granulesOf (0x100000000 + h.offset) bs.length).getD []) = .ok s' →
      exec (.hostBar2Request h) s = .next ((s'.deposit (hostReq t) (0x100000000 + h.offset) bs h.ep).answer 0)) ∧
    (∀ t, h.write = false → 0 < h.len → h.offset + h.len ≤ 0x200000000 → s.hostTenant h false = some t →
      exec (.hostBar2Request h) s = .next (s.busRead (hostReq t) (0x100000000 + h.offset) h.len)) ∧
    (0 < (if h.write then h.data.length else h.len) → h.offset + (if h.write then h.data.length else h.len) ≤ 0x200000000 →
      s.hostTenant h false = none → exec (.hostBar2Request h) s = .next (s.refuse (hostReq 0) (0x100000000 + h.offset) h.write 1))) ∧
  (∀ (tag : Nat) (st : CplStatus) (data : List Byte) (r : OutRead) (s : State), s.pwr.chipOff = false → s.linkUp = true →
    (s.link.reads.find? fun r => r.tag == tag) = some r →
    let s' := ({ s with link.reads := s.link.reads.filter fun e => e.tag != tag } : State)
    exec (.outboundCompletion tag st data) s = .next (match st with
      | .success => s'.readEnd r 0 (slice (data ++ List.replicate r.len 0) 0 r.len)
      | .poisoned => s'.readEnd r 8 data
      | _ => (s'.bumpSat HOST_EVT 15 8).readEnd r 0x11 []) ∧
    (r.since + 384000 ≤ s.now → exec (.cplTimeout tag) s = .next ((s'.bumpSat HOST_EVT 23 16).readEnd r 0x12 []))) ∧
  (∀ (g w : Nat) (s : State), s.pwr.chipOff = false → s.domOn 9 = true → s.flag HOST_LINK_STATUS 8 = false → 1 ≤ g → g ≤ s.linkCap → g ≤ 5 → 1 ≤ w → w ≤ 2 →
    ∃ u, exec (.linkUp g w) s = .next u ∧ u.linkUp = true ∧ u.linkState = 2 ∧ u.fld HOST_LINK_STATUS 3 0 = g ∧ u.flag (IRQ_RAW 0x038) 0 = true ∧
      u.link.wakeN = none) ∧
  (∀ (s : State), s.pwr.chipOff = false → s.flag HOST_LINK_STATUS 8 = true → ∃ u, exec .dlDown s = .next u ∧ u.linkUp = false ∧
    u.linkState = 0 ∧ u.link.reads = [] ∧ u.flag (IRQ_RAW 0x038) 1 = true ∧ (∀ t, t < 8 → u.tdi t ≠ 1 ∧ u.tdi t ≠ 2) ∧
    ∀ i, i < 3 → u.ide i = {} ∧ u.ideSecure i = false) ∧
  (∀ (s : State), s.pwr.chipOff = false →
    ((s.dom 9).st ≠ .off → ∃ u, exec .linkReset s = .next u ∧ u.linkUp = false ∧ u.link.reads = [] ∧ u.pci = {} ∧ (∀ t, t < 8 → u.tdi t = 0) ∧
      (∀ v k, v < 32 → k < 4 → u.reg (MSIX_TABLE v k) = regReset (MSIX_TABLE v k)) ∧ u.flag HOST_HS 16 = false ∧ u.flag (IRQ_RAW 0x038) 3 = true ∧
      (s.flag HOST_LINK_STATUS 8 = true → u.flag (IRQ_RAW 0x038) 1 = true)) ∧
    (s.linkUp = true → ∃ u, exec .flr s = .next u ∧ u.linkUp = true ∧ u.linkState = s.linkState ∧ u.link.reads = [] ∧ u.pci = {} ∧
      (∀ t, t < 8 → u.tdi t = 0) ∧ (∀ i, i < 3 → u.ideSecure i = false) ∧ u.flag HOST_HS 16 = false ∧ u.flag (IRQ_RAW 0x038) 3 = true)) ∧
  (∀ (s : State), s.pwr.chipOff = false → s.linkUp = true →
    (s.linkState ≠ 4 → s.pci.aspmL1 = true → s.pci.aspmL12 = true → exec .linkL12Entry s = .next (s.setFld HOST_LINK_STATUS 14 12 4)) ∧
    (s.linkState = 3 ∨ s.linkState = 4 → exec .linkL1Exit s = .next (s.setFld HOST_LINK_STATUS 14 12 2).msixFlush)) ∧
  (∀ (t : Nat) (s : State), s.pwr.chipOff = false → s.link.wakeN = some t → t + 38400000 ≤ s.now →
    exec .pcieWakeTimeout s = .next { s.emit (.pin 1 true) with link.wakeN := none }) ∧
  (∀ (q : Req) (v : Word) (s : State), s.lands q HOST_HS true = true → ∃ u, exec (.hostHandshake q v) s = .next u ∧
    u.fld HOST_HS 15 0 = bits v 15 0 ∧ u.flag HOST_HS 16 = true ∧ u.flag (IRQ_RAW 0x038) 2 = true ∧ u.mem = s.mem) ∧
  (∀ (s : State), s.pwr.chipOff = false → s.linkUp = true →
    (∀ d, exec (.pcieConfigRequest (.power d)) s = .next (s.setFlag HOST_LINK_STATUS 15 d).msixFlush) ∧
    (∀ m e, exec (.pcieConfigRequest (.msixMask m e)) s = .next ({ s with pci := { s.pci with fnMask := m, msixEnable := e } } : State).msixFlush) ∧
    (∀ a b, exec (.pcieConfigRequest (.aspm a b)) s = .next { s with pci := { s.pci with aspmL1 := a, aspmL12 := b } }) ∧
    (∀ i, i < 3 → (∃ u, exec (.pcieConfigRequest (.ideEnable i true)) s = .next u ∧ i ∈ u.pci.ideEnable ∧
        u.ideSecure i = ((s.ide i).rxOn && (s.ide i).txOn)) ∧
      (∃ u, exec (.pcieConfigRequest (.ideEnable i false)) s = .next u ∧ i ∉ u.pci.ideEnable ∧ u.ideSecure i = false) ∧
      ∀ b l, ∃ u : State, exec (.pcieConfigRequest (.ideAssoc i b l)) s = .next u ∧ (i, b, l) ∈ u.pci.ideAssoc ∧
        (∀ e ∈ u.pci.ideAssoc, e.1 = i → e = (i, b, l)) ∧ u.regs = s.regs)) ∧
  (∀ (i : Nat) (s : State), i < 3 → s.pwr.chipOff = false → s.linkUp = true → s.ideSecure i = true →
    exec (.idePacketRx i false true) s = .next s ∧
    (∀ n, ∃ u, exec (.idePacketRx i n false) s = .next u ∧ u.ideSecure i = false ∧ u.reg (IDE_FAIL i) = s.reg (IDE_FAIL i) + 1 ∧
      u.flag (IRQ_RAW 0x039) 1 = true) ∧
    (s.flag (IDE_STREAM i) 11 = true → ∃ u, exec (.idePacketRx i true true) s = .next u ∧ u.flag (IDE_STREAM i) 11 = false ∧
      u.fld (IDE_STREAM i) 9 9 = 1 - s.fld (IDE_STREAM i) 9 9 ∧ u.ideSecure i = true ∧ s.fld (IDE_STREAM i) 9 9 ∉ (u.ide i).rx ∧
      u.reg (IDE_REFRESH i) = s.reg (IDE_REFRESH i) + 1 ∧ u.flag (IRQ_RAW 0x039) 0 = true))

/-- SPDM, IDE keys, TDISP and the bounce binding: what Adsel answers. Completion of: getVersion, getCapabilities, negotiateAlgorithms,
getDigests, getCertificate, challenge, keyExchange, finish, keyUpdate, heartbeatMissed, heartbeat, endSession, bounceBind, bounceUnbind,
keyProg, kSetGo, lockInterface, startInterface, stopInterface, getDeviceInterfaceReport. -/
def Obligations.SpdmCommands : Prop :=
  (∀ (s : State), s.pwr.chipOff = false → s.linkUp = true → s.adselUp = true →
    (∃ u : State, exec .getVersion s = .next u ∧ u.link.conn = 1 ∧ u.regs = s.regs ∧ u.link.sessions = s.link.sessions) ∧
    (s.link.conn = 1 → ∃ u : State, exec .getCapabilities s = .next u ∧ u.link.conn = 2 ∧ u.regs = s.regs ∧ u.link.sessions = s.link.sessions) ∧
    (s.link.conn ≠ 1 → exec .getCapabilities s = .next (s.spdmSay 0x7F [4])) ∧
    (s.link.conn = 2 → ∃ u : State, exec (.negotiateAlgorithms true) s = .next u ∧ u.link.conn = 3 ∧ u.regs = s.regs) ∧
    (s.link.conn = 2 → exec (.negotiateAlgorithms false) s = .next s.spdmBad) ∧
    (s.link.conn = 3 → exec .getDigests s = .next (s.spdmSay 0x01 (leBytes 1 (((List.range 8).filter s.certSlot).foldl (fun a k => a + 2 ^ k) 0))) ∧
      (∀ k o n (x : BitVec 256), s.certSlot k = true → exec (.getCertificate k o n) s = .next (s.spdmSay 0x02 (slice (s.certChain k) o n)) ∧
        exec (.challenge k x) s = .next (s.spdmSay 0x03 (Config.spdmSign k x.toNat))) ∧
      (∀ k o n (x : BitVec 256), s.certSlot k = false → exec (.getCertificate k o n) s = .next s.spdmBad ∧ exec (.challenge k x) s = .next s.spdmBad)) ∧
    (∀ k id (p : BitVec 768), s.link.conn = 3 → s.certSlot k = true → s.freeKey.isSome = true → s.flag ADSEL_STATUS 9 = true →
      s.session id = none → ∃ u, exec (.keyExchange k id p) s = .next u ∧ u.session id = some { id := id, slot := k, secret := s.fresh.1 } ∧
        ∀ x ∈ u.link.sessions, x.slot = k → x.id = id)) ∧
  (∀ (id : Nat) (x : Session) (s : State), s.pwr.chipOff = false → s.linkUp = true → s.adselUp = true → s.session id = some x → x.est = false →
    (∃ u, exec (.finish id true) s = .next u ∧ u.session id = some { x with est := true } ∧ u.regs = s.regs) ∧
    exec (.finish id false) s = .next (s.sessionEnd id).spdmBad ∧ exec (.keyUpdate id) s = .next s.spdmBad) ∧
  (∀ (id : Nat) (x : Session) (s : State), s.pwr.chipOff = false → s.session id = some x →
    (x.missed < 2 → ∃ u : State, exec (.heartbeatMissed id) s = .next u ∧ u.session id = some { x with missed := x.missed + 1 } ∧ u.link.bind = s.link.bind) ∧
    (2 ≤ x.missed → ∃ u, exec (.heartbeatMissed id) s = .next u ∧ u = s.sessionEnd id ∧ u.session id = none)) ∧
  (∀ (id : Nat) (x : Session) (s : State), s.pwr.chipOff = false → s.linkUp = true → s.adselUp = true → s.session id = some x → x.est = true →
    exec (.keyUpdate id) s = .next (s.spdmSay 0x69) ∧
    (∃ u, exec (.heartbeat id) s = .next u ∧ u.session id = some { x with missed := 0 } ∧ u.regs = s.regs) ∧
    (∃ u, exec (.endSession id) s = .next u ∧ u.session id = none ∧ (x.slot < 8 → u.tdi x.slot = 0 ∧ u.binding x.slot = none)) ∧
    (s.hostBound x.slot = true → s.tdi x.slot = 0 → (s.unbind x.slot).freeKey.isSome = true → ∃ u b k, exec (.bounceBind id) s = .next u ∧
      u.binding x.slot = some b ∧ b.session = id ∧ b.seqIn = 0 ∧ b.seqOut = 0 ∧ b.key = k ∧ (u.keySlot k).kind = 5 ∧ (u.keySlot k).tenant = x.slot) ∧
    (∀ b, s.binding x.slot = some b → b.session = id → ∃ u, exec (.bounceUnbind id) s = .next u ∧ u.binding x.slot = none ∧
      u.keySlot b.key = {} ∧ u.regs = s.regs) ∧
    (∀ i rx, s.mayKey x i = true → s.flag ADSEL_STATUS 9 = true → s.freeKey.isSome = true → ∃ u, exec (.keyProg id i rx) s = .next u ∧
      s.idleSet i rx ∈ (if rx then (u.ide i).rx else (u.ide i).tx) ∧ (u.ide i).session = id ∧ u.ideTenant i = x.slot % 8 ∧ u.ideSecure i = s.ideSecure i) ∧
    (∀ i, s.mayKey x i = true → s.idleSet i true ∈ (s.ide i).rx → ∃ u, exec (.kSetGo id i true) s = .next u ∧ (u.ide i).rxOn = true ∧
      (if (s.ide i).rxOn then u.flag (IDE_STREAM i) 11 = true else u.fld (IDE_STREAM i) 9 9 = s.idleSet i true % 2)) ∧
    (∀ i, s.mayKey x i = true → s.idleSet i false ∈ (s.ide i).tx → ∃ u, exec (.kSetGo id i false) s = .next u ∧ (u.ide i).txOn = true ∧
      u.fld (IDE_STREAM i) 10 10 = s.idleSet i false % 2) ∧
    (∀ i, s.hostBound x.slot = true → s.bounced x.slot = false → s.tdi x.slot = 0 → i = 1 ∨ i = 2 → s.ideTenant i = x.slot → (s.ide i).slots ≠ [] →
      ∃ u, exec (.lockInterface id i) s = .next u ∧ u.tdi x.slot = 1 ∧ u.tdiStream x.slot = some i) ∧
    (x.slot ≠ 0 → x.slot < 8 → s.tdi x.slot = 1 → ∃ u, exec (.startInterface id) s = .next u ∧ u.tdi x.slot = 2 ∧ u.tdiStream x.slot = s.tdiStream x.slot) ∧
    (x.slot ≠ 0 → x.slot < 8 → ∃ u, exec (.stopInterface id) s = .next u ∧ u.tdi x.slot = 0 ∧ u.tdiStream x.slot = none) ∧
    (x.slot ≠ 0 → s.tdi x.slot = 1 ∨ s.tdi x.slot = 2 → exec (.getDeviceInterfaceReport id) s =
      .next (s.spdmSay 0x7E ((s.tdiRanges x.slot).flatMap fun r => leBytes 8 r.1 ++ leBytes 8 r.2)))) ∧
  (∀ (k o n id i : Nat) (x : BitVec 256) (p : BitVec 768) (b : Bool) (c : Instr) (r : SpdmReq) (s : State),
    s.pwr.chipOff = false → s.linkUp = true → s.adselUp = false →
    (c, r) ∈ ([(.getVersion, .version), (.getCapabilities, .capabilities), (.negotiateAlgorithms b, .algorithms b), (.getDigests, .digests),
      (.getCertificate k o n, .certificate k o n), (.challenge k x, .challenge k x.toNat), (.keyExchange k id p, .keyExchange k id p.toNat),
      (.finish id b, .finish id b), (.keyUpdate id, .keyUpdate id), (.heartbeat id, .heartbeat id), (.endSession id, .endSession id),
      (.bounceBind id, .bounceBind id), (.bounceUnbind id, .bounceUnbind id), (.keyProg id i b, .keyProg id i b), (.kSetGo id i b, .kSetGo id i b),
      (.lockInterface id i, .lock id i), (.startInterface id, .start id), (.stopInterface id, .stop id),
      (.getDeviceInterfaceReport id, .report id)] : List (Instr × SpdmReq)) →
    exec c s = .next ({ s with link.doe := s.link.doe ++ [r] } : State).requestSec)

/-- The bounce engine: submission, checks and the move of a descriptor's data. Completion of: bncTSubmit, bounceDescActivate, bounceDescEnd.
-/
def Obligations.BounceCommands : Prop :=
  (∀ (q : Req) (t : Nat) (v : Word) (s : State), t < 8 → s.lands q (BNC_T_SUBMIT t) true = true →
    (s.link.bq.length < 16 → ∃ u : State, exec (.bncTSubmit q t v) s = .next u ∧
      u.link = { s.link with bq := s.link.bq ++ [⟨t, bits v 27 0 * 64, q, none⟩] } ∧ u.regs = s.regs ∧ u.mem = s.mem) ∧
    (16 ≤ s.link.bq.length → exec (.bncTSubmit q t v) s = .next ((s.answer 0).fail q (BNC_T_SUBMIT t) 0x15))) ∧
  (∀ (cpl : Option CplStatus) (bs : List Byte) (j : BncJob) (rest : List BncJob) (d : List Byte) (s u : State), s.pwr.chipOff = false → s.flag (PAGE_CTRL 0x038) 0 = true →
    s.link.bq = j :: rest → s.link.bact = none → s.domOn 9 = true → s.memRead (bncReq j.ten) j.addr 64 = (0, d, u) →
    (bncBad d = true → exec (.bounceDescActivate cpl bs) s = .next { u with link.bact := some ⟨d, [], 0x16⟩ }) ∧
    (bncBad d = false → u.binding j.ten = none → exec (.bounceDescActivate cpl bs) s = .next
      { (u.logRefusal (bncReq j.ten) (bncHost d) (bncDir d == 1) 1) with link.bact := some ⟨d, [], 1⟩ }) ∧
    (∀ b, bncBad d = false → u.binding j.ten = some b → u.rangeOk (bncReq j.ten) (bncDir d == 0) (bncLocal d) (bncLen d) ≠ some true →
      exec (.bounceDescActivate cpl bs) s = .next
        { (u.logRefusal (bncReq j.ten) (bncLocal d) (bncDir d == 0) 4) with link.bact := some ⟨d, [], 1⟩ }) ∧
    (∀ b, bncBad d = false → u.binding j.ten = some b → u.rangeOk (bncReq j.ten) (bncDir d == 0) (bncLocal d) (bncLen d) = some true →
      u.memPower (bncReq j.ten) (bncLocal d) (bncLen d) = 0 →
      (u.checkRange (bncReq j.ten) (bncDir d == 0) (bncLocal d) (bncLen d)).toBool = true →
      (bncDir d = 1 → exec (.bounceDescActivate cpl bs) s = .next { u with link.bact := some ⟨d, [], 0⟩ }) ∧
      (bncDir d = 0 → isOutbound (bncHost d) = true → isOutbound (bncHost d + bncLen d + 47) = true → u.linkCheck = (none, u) →
        cpl = some .success →
        let n := leNat (slice bs 0x10 8)
        let head := bncHeader j.ten 0 b.session (bncLen d) n
        exec (.bounceDescActivate cpl bs) s = .next { u with
          link.bact := some (if bs.length = bncLen d + 48 ∧ slice bs 0 32 = head then
            (match b.unseal 0 n head (bs.drop 32) with
            | some p => if n = b.seqIn then ⟨d, p, 0⟩ else ⟨d, [], 0x14⟩
            | none => ⟨d, [], 0x13⟩) else ⟨d, [], 0x13⟩) }))) ∧
  (∀ (j : BncJob) (rest : List BncJob) (x : BncAct) (s : State), s.pwr.chipOff = false → s.flag (PAGE_CTRL 0x038) 0 = true → s.link.bq = j :: rest → s.link.bact = some x →
    (x.code ≠ 0 → exec .bounceDescEnd s = .next (s.bncEnd j x.d x.code)) ∧
    (∀ b u, x.code = 0 → s.binding j.ten = some b → bncDir x.d = 0 → s.memWrite (bncReq j.ten) (bncLocal x.d) x.plain = (0, u) →
      b.seqIn + 2 < 2 ^ 62 → b.seqOut + 1 < 2 ^ 62 → ∃ w, exec .bounceDescEnd s = .next w ∧
        w = (State.bncEnd { u with link.bind := u.link.bind.set (fun _ => none) j.ten (some { b with seqIn := b.seqIn + 1 }) } j x.d 0)) ∧
    (∀ b bs u, x.code = 0 → s.binding j.ten = some b → bncDir x.d ≠ 0 → s.memRead (bncReq j.ten) (bncLocal x.d) (bncLen x.d) = (0, bs, u) →
      isOutbound (bncHost x.d) = true → isOutbound (bncHost x.d + bncLen x.d + 47) = true → u.linkCheck = (none, u) →
      b.seqIn + 1 < 2 ^ 62 → b.seqOut + 2 < 2 ^ 62 →
      let head := bncHeader j.ten 1 b.session (bncLen x.d) b.seqOut
      let w := u.hostOut j.ten (bncHost x.d) (head ++ b.seal 1 b.seqOut head bs)
      exec .bounceDescEnd s = .next (State.bncEnd { w with
        link.bind := w.link.bind.set (fun _ => none) j.ten (some { b with seqOut := b.seqOut + 1 }) } j x.d 0))) ∧
  (∀ (j : BncJob) (d : List Byte) (c : Nat) (s : State), j.ten < 8 → c < 256 → j.ring = none →
    let t := s.bncEnd j d c
    t.link.bq = s.link.bq.drop 1 ∧ t.link.bact = none ∧ t.fld (BNC_T_STAT j.ten) 15 8 = c ∧
      t.fld (BNC_T_STAT j.ten) 31 16 = (s.fld (BNC_T_STAT j.ten) 31 16 + 1) % 65536 ∧
      (c ≠ 0 → t.flag (IRQ_RAW 0x038) 4 = true))

/-- Command rings: doorbell, fetch, checks, the Row Log entry, enabling and partition. Completion of: ringTDb, ringFetch, ringCheckEnd,
ringEnable, rowlogPartWrite, ringTResync. -/
def Obligations.RingIntakeCommands : Prop :=
  (∀ (q : Req) (r : Nat) (v : Word) (s : State), r < 8 → s.lands q (RING_T_DB r) true = true →
    (s.ringOn r = false → exec (.ringTDb q r v) s = .next (s.answer 0)) ∧
    (s.ringOn r = true → (s.ring r).mq = [] → (v.toNat + 0x100000000 - s.rseqNext r) % 0x100000000 ≤ 2 ^ s.ringLog r →
      ∃ u, exec (.ringTDb q r v) s = .next u ∧ u.ring r = { s.ring r with tail := v.toNat, stopped := false, stopCode := 0 } ∧ u.regs = s.regs) ∧
    (s.ringOn r = true → (s.ring r).mq = [] → 2 ^ s.ringLog r < (v.toNat + 0x100000000 - s.rseqNext r) % 0x100000000 →
      exec (.ringTDb q r v) s = .next (((s.answer 0).setRing r { s.ring r with stopped := false, stopCode := 0 }).fail q (RING_T_DB r) 0x16))) ∧
  (∀ (r : Nat) (cpl : Option CplStatus) (data : List Byte) (s : State), r < 8 → s.pwr.chipOff = false → s.flag (PAGE_CTRL 0x03A) 0 = true → s.ringHungry r = true →
    let a := s.base64 (RING_BASE_LO r) (RING_BASE_HI r) + 64 * (s.rseqNext r % 2 ^ s.ringLog r)
    (s.slotOpen r = true → (s.ring r).stall = false → exec (.ringFetch r cpl data) s =
      .next ((s.setRing r { s.ring r with stall := true }).irq 0x03A 1)) ∧
    (∀ y, s.slotOpen r = false →
      s.arbitrate 0x103 8 ((List.range 8).filter fun k => s.ringHungry k && !s.slotOpen k) false = (some r, y) →
      let x := y.setRing r { s.ring r with stall := false }
      (∀ bs u, isOutbound a = false → x.memRead (ringReq r) a 64 = (0, bs, u) →
        exec (.ringFetch r cpl data) s = .next (u.setRing r { x.ring r with fetched := some bs })) ∧
      (∀ c bs u, isOutbound a = false → x.memRead (ringReq r) a 64 = (c, bs, u) → c ≠ 0 → c ≠ 0x100 →
        exec (.ringFetch r cpl data) s = .next (u.ringStop r c)) ∧
      (∀ u, isOutbound a = true → x.outCheck (ringReq (x.ringTenant r a)) a 64 false = (none, u) →
        (cpl = some .success → data.length = 64 → exec (.ringFetch r cpl data) s = .next (u.setRing r { x.ring r with fetched := some data })) ∧
        ((hostResult cpl data).1 ≠ 0 → exec (.ringFetch r cpl data) s = .next ((u.linkFail (hostResult cpl data).1).ringStop r (hostResult cpl data).1))))) ∧
  (∀ (r : Nat) (d : List Byte) (s : State), r < 8 → s.pwr.chipOff = false → s.flag (PAGE_CTRL 0x03A) 0 = true → (s.ring r).fetched = some d →
    s.rlog.rseq.length = 8 → s.flag (RING_CFG r) 16 = false →
    let n := s.rseqNext r
    let code := if !s.authOk r d then 0x11 else if s.rdBad r d then 0x10
      else if nbits (descWord d 0) 8 8 = 1 ∧ (s.region r).any (fun e => e.ring == r && e.tag == rdTag d && 1 ≤ e.st && e.st ≤ 3) then 0x12 else 0
    ∃ u, exec (.ringCheckEnd r) s = .next u ∧ u.rseqNext r = (n + 1) % 0x100000000 ∧ (u.ring r).fetched = none ∧
      u.rowAt (s.rowIndex r n) = { rseq := n, op := rdOp d, st := if code = 0 then 1 else 5, once := nbits (descWord d 0) 8 8 == 1
                                   ring := r, code := code, epoch := s.rlog.epoch, tag := rdTag d, ts := s.now } ∧
      (∀ i, i ≠ s.rowIndex r n → u.rowAt i = s.rowAt i) ∧
      (u.ring r).cmds = (if code = 0 then (s.ring r).cmds ++ [{ rseq := n, d := d }] else (s.ring r).cmds) ∧
      (code ≠ 0 → u.reg (RING_T_REJECTS r) = word (min 0xFFFFFFFF ((s.reg (RING_T_REJECTS r)).toNat + 1)))) ∧
  (∀ (q : Req) (r : Nat) (v : Word) (s : State), r < 8 → s.lands q (RING_CFG r) true = true → s.ringOn r = false →
    let k := RING_CFG r
    let n := bits v 11 8
    (s.ringBound r = false → exec (.ringEnable q r v) s = .next (((s.answer 0).setReg k (setBit (s.written k (setBit v 0 true)) 0 false)).fail q k 0x17)) ∧
    (s.ringBound r = true → s.regionLog r = 0 ∨ s.regionLog r < n ∨ n < 4 ∨ 12 < n →
      exec (.ringEnable q r v) s = .next (((s.answer 0).setReg k (setBit (s.written k (setBit v 0 true)) 0 false)).fail q k 0x10)) ∧
    (s.ringBound r = true → s.regionLog r ≠ 0 → n ≤ s.regionLog r → 4 ≤ n → n ≤ 12 → bit v 16 = false →
      ∃ u, exec (.ringEnable q r v) s = .next u ∧ u.ringOn r = true ∧ u.ringLog r = n ∧ (u.ring r).tail = s.rseqNext r ∧
        (u.ring r).stopped = false ∧ (u.ring r).fetched = none ∧ u.rlog.log = s.rlog.log)) ∧
  (∀ (q : Req) (r : Nat) (v : Word) (s : State), r < 8 → s.lands q (ROWLOG_PART r) true = true →
    let b := bits v 11 0
    let n := bits v 15 12
    (s.ringOn r = true ∨ (s.region r).any (·.isOpen) = true → exec (.rowlogPartWrite q r v) s = .next ((s.answer 0).fail q (ROWLOG_PART r) 0x15)) ∧
    (s.ringOn r = false → (s.region r).any (·.isOpen) = false → n ≤ 12 → (n ≠ 0 → b + 2 ^ n ≤ 4096) →
      (∀ o, o < 8 → o ≠ r → n = 0 ∨ s.regionLog o = 0 ∨ s.fld (ROWLOG_PART o) 11 0 + 2 ^ s.regionLog o ≤ b ∨ b + 2 ^ n ≤ s.fld (ROWLOG_PART o) 11 0) →
      ∃ u : State, exec (.rowlogPartWrite q r v) s = .next u ∧ u.fld (ROWLOG_PART r) 11 0 = b ∧ u.regionLog r = n ∧ u.rlog = s.rlog)) ∧
  (∀ (q : Req) (r : Nat) (v : Word) (s : State), r < 8 → s.lands q (RING_T_RESYNC r) true = true →
    exec (.ringTResync q r v) s = .next ((s.answer 0).ringResync r))

/-- Command rings: issue to the engines, cancel and the Row Log updates. Completion of: commandIssue, ringNop, ringSubmit, modelLoad,
modelDrop, ringMove, ringCache, ringBounce, ringCancel, rowLogUpdate. -/
def Obligations.RingEngineCommands : Prop :=
  (∀ (r : Nat) (c : RCmd) (s : State), r < 8 → s.pwr.chipOff = false → s.flag (PAGE_CTRL 0x03A) 0 = true → s.ringHead r = some c →
    let done := { c with issued := true }
    (rdOp c.d = 0 → exec (.commandIssue r) s = .next (((s.setCmd r done).rowStarted r done).rowEnded r done 0 0 false) ∧
      exec (.ringNop r) s = .next (((s.setCmd r done).rowStarted r done).rowEnded r done 0 0 false)) ∧
    (∀ id u e, rdOp c.d = 1 → s.submit r (rdArg c.d 0x10 27 0 * 64) (some (r, c.rseq)) = (some (0, id), u) → u.rowFor r c.rseq = some e →
      exec (.commandIssue r) s = .next ((u.setCmd r done).rowPut r { e with job := id } c.d) ∧
      exec (.ringSubmit r) s = .next ((u.setCmd r done).rowPut r { e with job := id } c.d)) ∧
    (∀ x id u, rdOp c.d = 1 → s.submit r (rdArg c.d 0x10 27 0 * 64) (some (r, c.rseq)) = (some (x, id), u) → x ≠ 0 → x ≠ 0x10 →
      exec (.commandIssue r) s = .next (u.rowEnded r c x 0 false) ∧
      exec (.ringSubmit r) s = .next (u.rowEnded r c x 0 false)) ∧
    (rdOp c.d = 3 → s.loadDry r c.d = 0 →
      let u := (loadBanks c.d).foldl (fun s b => (s.declare b.1 b.2 (loadDecl r c.d) (word (rdArg c.d 0x10 15 0)) false).2) s
      let c' := { c with issued := true, banks := loadBanks c.d }
      exec (.commandIssue r) s = .next ((u.setCmd r c').rowStarted r c') ∧
      exec (.modelLoad r) s = .next ((u.setCmd r c').rowStarted r c')) ∧
    (rdOp c.d = 3 → s.loadDry r c.d ≠ 0 → 
      exec (.commandIssue r) s = .next (s.rowEnded r c (s.loadDry r c.d) 0 false) ∧
      exec (.modelLoad r) s = .next (s.rowEnded r c (s.loadDry r c.d) 0 false)) ∧
    (rdOp c.d = 4 → exec (.commandIssue r) s = .next (s.dropIssue r c) ∧
      exec (.modelDrop r) s = .next (s.dropIssue r c) ∧
      ∀ k, k < 32 → s.fld (SCH_MODEL k) 15 0 = rdArg c.d 0x10 15 0 → s.fld (SCH_MODEL k) 31 29 = r → (s.dropIssue r c).reg (SCH_MODEL k) = 0) ∧
    (∀ u, rdOp c.d = 5 →
      s.moveSubmit { tenant := r, src := rdArg c.d 0x10 39 0, dst := rdArg c.d 0x18 39 0, len := rdArg c.d 0x20 31 0
                     rel := rdArg c.d 0x20 32 32 == 1, note := 0, origin := 16 + r, job := c.rseq } = (0, u) →
      exec (.commandIssue r) s = .next (u.setCmd r done) ∧
      exec (.ringMove r) s = .next (u.setCmd r done)) ∧
    (∀ u, rdOp c.d = 6 → s.cacheSubmit r ⟨rdArg c.d 0x10 1 0 + 1, rdArg c.d 0x18 39 0, rdArg c.d 0x20 31 0, 16 + r, c.rseq, 0⟩ = (0, u) →
      exec (.commandIssue r) s = .next ((u.setCmd r done).rowStarted r done) ∧
      exec (.ringCache r) s = .next ((u.setCmd r done).rowStarted r done)) ∧
    (rdOp c.d = 7 → s.link.bq.length < 16 →
      let u := ({ s with link.bq := s.link.bq ++ [⟨r, rdArg c.d 0x10 27 0 * 64, ringReq r, some (r, c.rseq)⟩] } : State)
      exec (.commandIssue r) s = .next (u.setCmd r done) ∧
      exec (.ringBounce r) s = .next (u.setCmd r done))) ∧
  (∀ (r : Nat) (c : RCmd) (s : State), r < 8 → s.pwr.chipOff = false → s.flag (PAGE_CTRL 0x03A) 0 = true →
    ((s.ring r).cmds.find? fun c => !c.issued && rdOp c.d == 2) = some c →
    let done := { c with issued := true }
    let u := (s.setCmd r done).rowStarted r done
    let target := rdArg c.d 0x10 31 0
    (((u.ring r).cmds.find? fun e => e.rseq == target) = none → exec (.ringCancel r) s = .next (u.rowEnded r done 0x13 0 false)) ∧
    (∀ e x, ((u.ring r).cmds.find? fun e => e.rseq == target) = some e → u.rowFor r target = some x → target ≠ c.rseq →
      (e.issued = false → exec (.ringCancel r) s = .next ((u.rowEnded r e 0 0 true).rowEnded r done 0 0 false)) ∧
      (e.issued = true → cancellable (rdOp e.d) = true → exec (.ringCancel r) s = .next (rowLogUpdate r c.rseq (rowLogUpdate r e.rseq (u.engineCancel r e)))) ∧
      (e.issued = true → cancellable (rdOp e.d) = false → exec (.ringCancel r) s = .next u))) ∧
  (∀ (r n : Nat) (c : RCmd) (e : Nat × Nat × Nat) (s : State), r < 8 → s.pwr.chipOff = false → s.flag (PAGE_CTRL 0x03B) 0 = true →
    ((s.ring r).cmds.find? fun c => c.rseq == n && c.issued) = some c → (s.mem.done.find? fun e => e.1 == 16 + r && e.2.1 == n) = some e →
    c.cancel = false →
    exec (.rowLogUpdate r n) s = .next ((({ s with mem.done := s.mem.done.erase e } : State).rowStarted r c).rowEnded r c (e.2.2 % 0x100) (e.2.2 / 0x100 % 0x100) false)) ∧
  (∀ (r code info : Nat) (c : RCmd) (x : RowEntry) (s : State), r < 8 → c.stale = false → s.flag (RING_CFG r) 16 = false → s.rowFor r c.rseq = some x →
    let u := s.rowEnded r c code info false
    u.rowAt (s.rowIndex r c.rseq) = { x with st := 3, code := code, info := info, space := rowSpace (rdOp c.d) code, ts := s.now } ∧
      (∀ i, i ≠ s.rowIndex r c.rseq → u.rowAt i = s.rowAt i) ∧ (u.ring r).cmds = (s.ring r).cmds.filter fun e => e.rseq != c.rseq)

/-- The test access port and the DBG page. Completion of: tapReset, idcode, dbgStatus, extest, samplePreload, clamp, highz, tapDbgChallenge,
dbgResponse, dbgAccess, bypass, dbgHaltReq, dbgResume, dbgStep, dbgRegData, traceRecord, pmcSelWrite. -/
def Obligations.DebugCommands : Prop :=
  (∀ (s : State), s.pwr.chipOff = false →
    let at_ := fun (ir : Nat) (scan highz : Bool) (cap : Nat) => ({ s with dbg := { s.dbg with ir := ir, scan := scan, highz := highz, shift := cap } } : State)
    exec .tapReset s = .next (at_ 0x02 false false 0) ∧ exec .idcode s = .next (at_ 0x02 false false 0x254047F9) ∧
    exec .dbgStatus s = .next (at_ 0x12 false false (s.reg ADSEL_STATUS).toNat) ∧
    (∀ pads shift : List Bool,
      (s.capB = true → exec .extest s = .next (at_ 0x00 true false s.dbg.shift) ∧
        (s.dbg.ir = 0x00 → s.dbg.scan = true → exec (.samplePreload pads ⟨true, shift⟩) s = .next { at_ 0x00 true false (bitsNat pads) with
          dbg := { (at_ 0x00 true false (bitsNat pads)).dbg with chain := shift } }) ∧
        exec .clamp s = .next (at_ 0x03 true false 0) ∧
        exec .highz s = .next (at_ 0x04 true true 0) ∧
        exec (.samplePreload pads ⟨false, shift⟩) s = .next { at_ 0x01 false false (bitsNat pads) with
          dbg := { (at_ 0x01 false false (bitsNat pads)).dbg with chain := shift } }) ∧
      (s.capB = false → exec .extest s = .next (at_ 0x00 false false 0) ∧ exec .clamp s = .next (at_ 0x03 false false 0) ∧
        exec .highz s = .next (at_ 0x04 false false 0) ∧ exec (.samplePreload pads ⟨false, shift⟩) s = .next (at_ 0x01 false false 0))) ∧
    (s.capK = true → exec .tapDbgChallenge s = .next
      ({ at_ 0x10 false false (leNat s.nonce) with adsel := { s.adsel with tapChallenge := true } } : State).requestSec.tapServe) ∧
    (s.capK = false → exec .tapDbgChallenge s = .next (at_ 0x10 false false 0)) ∧
    (∀ img : List Byte, img.length = 208 →
      (s.capK = true → exec (.dbgResponse img) s = .next ({ at_ 0x11 false false 0 with adsel := { s.adsel with tapResp := some img } } : State).requestSec) ∧
      (s.capK = false → exec (.dbgResponse img) s = .next (at_ 0x11 false false 0))) ∧
    (∀ (a v : Nat) (wr : Bool), a < 2 ^ 40 → v < 2 ^ 32 →
      let u := at_ 0x20 false false (s.dbg.accData.toNat * 2 ^ 40 + s.dbg.accCode * 2 ^ 72)
      let z := if wr then u.busWrite debugReq a 4 v else u.busRead debugReq a 4
      let x := BitVec.ofNat 80 (a + v * 2 ^ 40 + wr.toNat * 2 ^ 72)
      (s.capH = false → exec (.dbgAccess x) s = .next (at_ 0x20 false false 0)) ∧
      (s.capH = true → z.resp.code < 0x100 → exec (.dbgAccess x) s = .next { z with
        dbg := { z.dbg with accData := if wr then z.dbg.accData else z.resp.data.headD 0, accCode := z.resp.code } }) ∧
      (s.capH = true → 0x100 ≤ z.resp.code → exec (.dbgAccess x) s = .next { z with dbg := { z.dbg with accCode := 0xFF } })) ∧
    (∀ code, 0x20 < code ∨ 4 < code ∧ code < 0x10 → exec (.bypass code) s = .next (at_ code false false 0))) ∧
  (∀ (q : Req) (hi : Bool) (v : Word) (s : State), s.lands q (if hi then DBG_HALT_REQ_HI else DBG_HALT_REQ_LO) true = true →
    (∀ t, dbgTiles hi v = [t] → s.tileSt t = 1 → (s.tile t).frogDue = false → s.domOn (tileDom t) = true → (s.tile t).x = none →
      (s.tile t).await = none → ∃ u, exec (.dbgHaltReq q hi v) s = .next u ∧ u.tileSt t = 4 ∧ ∀ o, o < 64 → o ≠ t → u.tileSt o = s.tileSt o) ∧
    (∀ t, dbgTiles hi v = [t] → s.tileSt t = 4 ∨ s.tileSt t = 3 → exec (.dbgHaltReq q hi v) s = .next (s.answer 0))) ∧
  (∀ (q : Req) (hi : Bool) (v : Word) (s : State), s.lands q (if hi then DBG_RESUME_HI else DBG_RESUME_LO) true = true →
    ∃ u, exec (.dbgResume q hi v) s = .next u ∧
      ∀ t, t < 64 → u.tileSt t = if t ∈ dbgTiles hi v ∧ s.tileSt t = 4 then 1 else s.tileSt t) ∧
  (∀ (q : Req) (v : Word) (s : State), s.lands q DBG_STEP true = true →
    (s.tileSt (bits v 5 0) = 4 → ∃ u, exec (.dbgStep q v) s = .next u ∧ u.tileSt (bits v 5 0) = 1 ∧
      (u.tile (bits v 5 0)).steps = max 1 (bits v 15 8) ∧ u.mem = s.mem) ∧
    (s.tileSt (bits v 5 0) ≠ 4 → exec (.dbgStep q v) s = .next (s.answer 0))) ∧
  (∀ (q : Req) (w : Bool) (v : Word) (s : State), s.lands q DBG_REG_DATA w = true →
    let t := s.fld DBG_REG_SEL 5 0
    let i := s.fld DBG_REG_SEL 12 8
    (s.tileSt t ≠ 4 → ∃ u, exec (.dbgRegData q w v) s = .next u ∧ u.resp.code = 0x10 ∧ u.tiles = s.tiles) ∧
    (w = false → s.tileSt t = 4 → s.fld DBG_REG_SEL 7 6 = 0 →
      exec (.dbgRegData q false v) s = .next (s.answer 0 [(s.tile t).gr i])) ∧
    (w = true → s.tileSt t = 4 → s.fld DBG_REG_SEL 7 6 = 0 → exec (.dbgRegData q true v) s = .next ((s.answer 0).setTile t ((s.tile t).setGr i v)) ∧
      ((s.tile t).setGr i v).gr i = if i = 0 then 0 else v) ∧
    (w = true → s.tileSt t = 4 → s.fld DBG_REG_SEL 7 6 = 3 → exec (.dbgRegData q true v) s = .next ((s.answer 0).setTilePc t (v.toNat % 0x10000 / 8 * 8)))) ∧
  (∀ (t : Nat) (r : TraceRec) (l : List TraceRec) (s u : State), t < 64 → s.pwr.chipOff = false → s.flag (PAGE_CTRL 0x018) 0 = true → s.dbg.bufs.get (fun _ => []) t = r :: l →
    s.flag DBG_TRACE_STAT 0 = true → s.domOn 2 = true → s.dbg.lost.get (fun _ => 0) t = 0 →
    let p := (s.reg DBG_TRACE_WPTR).toNat
    s.memWrite ⟨7, 0, 0⟩ (s.base64 DBG_TRACE_BASE_LO DBG_TRACE_BASE_HI + p) (traceBytes t r) = (0, u) → p + 16 < (s.reg DBG_TRACE_LEN).toNat →
    (traceBytes t r).length = 16 ∧ ∃ w : State, exec (.traceRecord t) s = .next w ∧ w.dbg.bufs.get (fun _ => []) t = l ∧
      w.reg DBG_TRACE_WPTR = word (p + 16) ∧ w.mem = u.mem) ∧
  (∀ (q : Req) (k : Nat) (v : Word) (s : State), k < 8 → s.lands q (DBG_PMC_SEL k) true = true → ∃ u, exec (.pmcSelWrite q k v) s = .next u ∧
    u.reg (DBG_PMC_SEL k) &&& 0xF7FFF = v &&& 0xF7FFF ∧ u.reg (DBG_PMC_LO k) = 0 ∧ u.reg (DBG_PMC_HI k) = 0 ∧ u.tiles = s.tiles)

/-- An OFF device stays as it is until it is powered. Completion of: powerOn. -/
def Obligations.OffDeviceIsInert : Prop :=
  (∀ (s t : State), s.pwr.chipOff = true → Instr.powerOn ∉ s.pending → step s = .next t →
    t.pwr.chipOff = true ∧ Instr.powerOn ∉ t.pending ∧ t = { s with pending := s.pending.drop 1 }) ∧
  (∀ (s : State), s.pwr.chipOff = true → ∃ t, exec .powerOn s = .next t ∧ t.pwr.chipOff = false)

/-- Every step keeps registers and memory in their canonical form -/
def Obligations.RegistersAndMemoryStayCanonical : Prop :=
  ∀ (s t : State), Tab.wf regReset s.regs = true → Memory.wf s.mem.bytes → step s = .next t →
    Tab.wf regReset t.regs = true ∧ Memory.wf t.mem.bytes

/-- At reset registers and memory are in canonical form -/
def Obligations.CanonicalFormAtReset : Prop :=
  Tab.wf regReset State.reset.regs = true ∧ Memory.wf State.reset.mem.bytes
end

