-- ==== Sys2Proof/Laws/State.lean ====
section
/-! SUPPORT. What the shared updates of the state leave: one lemma per field per update, so that no proof unfolds a
record update. -/

namespace Sys2Proof.Machine

variable (s : State)

@[simp] theorem State.setReg_pending (k : Nat) (v : Word) : (s.setReg k v).pending = s.pending := rfl
@[simp] theorem State.setReg_rwl (k : Nat) (v : Word) : (s.setReg k v).rwl = s.rwl := rfl
@[simp] theorem State.setReg_resp (k : Nat) (v : Word) : (s.setReg k v).resp = s.resp := rfl
@[simp] theorem State.setReg_out (k : Nat) (v : Word) : (s.setReg k v).out = s.out := rfl
@[simp] theorem State.setReg_unitWait (k : Nat) (v : Word) : (s.setReg k v).unitWait = s.unitWait := rfl
@[simp] theorem State.setReg_free (k : Nat) (v : Word) : (s.setReg k v).free = s.free := rfl
@[simp] theorem State.setReg_holds (k : Nat) (v : Word) : (s.setReg k v).holds = s.holds := rfl
@[simp] theorem State.setReg_stalls (k : Nat) (v : Word) : (s.setReg k v).stalls = s.stalls := rfl
@[simp] theorem State.setReg_ptrs (k : Nat) (v : Word) : (s.setReg k v).ptrs = s.ptrs := rfl
@[simp] theorem State.setReg_refusals (k : Nat) (v : Word) : (s.setReg k v).refusals = s.refusals := rfl
@[simp] theorem State.setReg_refusalsLost (k : Nat) (v : Word) : (s.setReg k v).refusalsLost = s.refusalsLost := rfl
@[simp] theorem State.setReg_pwr (k : Nat) (v : Word) : (s.setReg k v).pwr = s.pwr := rfl
@[simp] theorem State.setReg_mem (k : Nat) (v : Word) : (s.setReg k v).mem = s.mem := rfl
@[simp] theorem State.setReg_mbx (k : Nat) (v : Word) : (s.setReg k v).mbx = s.mbx := rfl
@[simp] theorem State.setReg_pci (k : Nat) (v : Word) : (s.setReg k v).pci = s.pci := rfl
@[simp] theorem State.setReg_sc (k : Nat) (v : Word) : (s.setReg k v).sc = s.sc := rfl
@[simp] theorem State.setReg_cap (k : Nat) (v : Word) : (s.setReg k v).cap = s.cap := rfl
@[simp] theorem State.setReg_fuses (k : Nat) (v : Word) : (s.setReg k v).fuses = s.fuses := rfl
@[simp] theorem State.setReg_nor (k : Nat) (v : Word) : (s.setReg k v).nor = s.nor := rfl
@[simp] theorem State.setReg_life (k : Nat) (v : Word) : (s.setReg k v).life = s.life := rfl
@[simp] theorem State.setReg_adsel (k : Nat) (v : Word) : (s.setReg k v).adsel = s.adsel := rfl
@[simp] theorem State.setReg_strm (k : Nat) (v : Word) : (s.setReg k v).strm = s.strm := rfl
@[simp] theorem State.setReg_cam (k : Nat) (v : Word) : (s.setReg k v).cam = s.cam := rfl
@[simp] theorem State.setReg_dsi (k : Nat) (v : Word) : (s.setReg k v).dsi = s.dsi := rfl
@[simp] theorem State.setReg_i3c (k : Nat) (v : Word) : (s.setReg k v).i3c = s.i3c := rfl
@[simp] theorem State.setReg_auto (k : Nat) (v : Word) : (s.setReg k v).auto = s.auto := rfl
@[simp] theorem State.setReg_autoCur (k : Nat) (v : Word) : (s.setReg k v).autoCur = s.autoCur := rfl
@[simp] theorem State.setReg_pads (k : Nat) (v : Word) : (s.setReg k v).pads = s.pads := rfl
@[simp] theorem State.setReg_imu (k : Nat) (v : Word) : (s.setReg k v).imu = s.imu := rfl
@[simp] theorem State.setReg_fsync (k : Nat) (v : Word) : (s.setReg k v).fsync = s.fsync := rfl
@[simp] theorem State.setReg_spi (k : Nat) (v : Word) : (s.setReg k v).spi = s.spi := rfl
@[simp] theorem State.setReg_aud (k : Nat) (v : Word) : (s.setReg k v).aud = s.aud := rfl
@[simp] theorem State.setReg_hook (k : Nat) (v : Word) : (s.setReg k v).hook = s.hook := rfl
@[simp] theorem State.setReg_su (k : Nat) (v : Word) : (s.setReg k v).su = s.su := rfl
@[simp] theorem State.setReg_vox (k : Nat) (v : Word) : (s.setReg k v).vox = s.vox := rfl
@[simp] theorem State.setReg_aie (k : Nat) (v : Word) : (s.setReg k v).aie = s.aie := rfl
@[simp] theorem State.setReg_ply (k : Nat) (v : Word) : (s.setReg k v).ply = s.ply := rfl
@[simp] theorem State.setReg_wgt (k : Nat) (v : Word) : (s.setReg k v).wgt = s.wgt := rfl
@[simp] theorem State.setReg_tiles (k : Nat) (v : Word) : (s.setReg k v).tiles = s.tiles := rfl
@[simp] theorem State.setReg_imem (k : Nat) (v : Word) : (s.setReg k v).imem = s.imem := rfl
@[simp] theorem State.setReg_net (k : Nat) (v : Word) : (s.setReg k v).net = s.net := rfl
@[simp] theorem State.setReg_sch (k : Nat) (v : Word) : (s.setReg k v).sch = s.sch := rfl
@[simp] theorem State.setReg_rpt (k : Nat) (v : Word) : (s.setReg k v).rpt = s.rpt := rfl
@[simp] theorem State.setReg_link (k : Nat) (v : Word) : (s.setReg k v).link = s.link := rfl
@[simp] theorem State.setReg_rlog (k : Nat) (v : Word) : (s.setReg k v).rlog = s.rlog := rfl
@[simp] theorem State.setReg_dbg (k : Nat) (v : Word) : (s.setReg k v).dbg = s.dbg := rfl

@[simp] theorem State.setFld_pending (k hi lo v : Nat) : (s.setFld k hi lo v).pending = s.pending := rfl
@[simp] theorem State.setFld_rwl (k hi lo v : Nat) : (s.setFld k hi lo v).rwl = s.rwl := rfl
@[simp] theorem State.setFld_resp (k hi lo v : Nat) : (s.setFld k hi lo v).resp = s.resp := rfl
@[simp] theorem State.setFld_out (k hi lo v : Nat) : (s.setFld k hi lo v).out = s.out := rfl
@[simp] theorem State.setFld_unitWait (k hi lo v : Nat) : (s.setFld k hi lo v).unitWait = s.unitWait := rfl
@[simp] theorem State.setFld_free (k hi lo v : Nat) : (s.setFld k hi lo v).free = s.free := rfl
@[simp] theorem State.setFld_holds (k hi lo v : Nat) : (s.setFld k hi lo v).holds = s.holds := rfl
@[simp] theorem State.setFld_stalls (k hi lo v : Nat) : (s.setFld k hi lo v).stalls = s.stalls := rfl
@[simp] theorem State.setFld_ptrs (k hi lo v : Nat) : (s.setFld k hi lo v).ptrs = s.ptrs := rfl
@[simp] theorem State.setFld_refusals (k hi lo v : Nat) : (s.setFld k hi lo v).refusals = s.refusals := rfl
@[simp] theorem State.setFld_refusalsLost (k hi lo v : Nat) : (s.setFld k hi lo v).refusalsLost = s.refusalsLost := rfl
@[simp] theorem State.setFld_pwr (k hi lo v : Nat) : (s.setFld k hi lo v).pwr = s.pwr := rfl
@[simp] theorem State.setFld_mem (k hi lo v : Nat) : (s.setFld k hi lo v).mem = s.mem := rfl
@[simp] theorem State.setFld_mbx (k hi lo v : Nat) : (s.setFld k hi lo v).mbx = s.mbx := rfl
@[simp] theorem State.setFld_pci (k hi lo v : Nat) : (s.setFld k hi lo v).pci = s.pci := rfl
@[simp] theorem State.setFld_sc (k hi lo v : Nat) : (s.setFld k hi lo v).sc = s.sc := rfl
@[simp] theorem State.setFld_cap (k hi lo v : Nat) : (s.setFld k hi lo v).cap = s.cap := rfl
@[simp] theorem State.setFld_fuses (k hi lo v : Nat) : (s.setFld k hi lo v).fuses = s.fuses := rfl
@[simp] theorem State.setFld_nor (k hi lo v : Nat) : (s.setFld k hi lo v).nor = s.nor := rfl
@[simp] theorem State.setFld_life (k hi lo v : Nat) : (s.setFld k hi lo v).life = s.life := rfl
@[simp] theorem State.setFld_adsel (k hi lo v : Nat) : (s.setFld k hi lo v).adsel = s.adsel := rfl
@[simp] theorem State.setFld_strm (k hi lo v : Nat) : (s.setFld k hi lo v).strm = s.strm := rfl
@[simp] theorem State.setFld_cam (k hi lo v : Nat) : (s.setFld k hi lo v).cam = s.cam := rfl
@[simp] theorem State.setFld_dsi (k hi lo v : Nat) : (s.setFld k hi lo v).dsi = s.dsi := rfl
@[simp] theorem State.setFld_i3c (k hi lo v : Nat) : (s.setFld k hi lo v).i3c = s.i3c := rfl
@[simp] theorem State.setFld_auto (k hi lo v : Nat) : (s.setFld k hi lo v).auto = s.auto := rfl
@[simp] theorem State.setFld_autoCur (k hi lo v : Nat) : (s.setFld k hi lo v).autoCur = s.autoCur := rfl
@[simp] theorem State.setFld_pads (k hi lo v : Nat) : (s.setFld k hi lo v).pads = s.pads := rfl
@[simp] theorem State.setFld_imu (k hi lo v : Nat) : (s.setFld k hi lo v).imu = s.imu := rfl
@[simp] theorem State.setFld_fsync (k hi lo v : Nat) : (s.setFld k hi lo v).fsync = s.fsync := rfl
@[simp] theorem State.setFld_spi (k hi lo v : Nat) : (s.setFld k hi lo v).spi = s.spi := rfl
@[simp] theorem State.setFld_aud (k hi lo v : Nat) : (s.setFld k hi lo v).aud = s.aud := rfl
@[simp] theorem State.setFld_hook (k hi lo v : Nat) : (s.setFld k hi lo v).hook = s.hook := rfl
@[simp] theorem State.setFld_su (k hi lo v : Nat) : (s.setFld k hi lo v).su = s.su := rfl
@[simp] theorem State.setFld_vox (k hi lo v : Nat) : (s.setFld k hi lo v).vox = s.vox := rfl
@[simp] theorem State.setFld_aie (k hi lo v : Nat) : (s.setFld k hi lo v).aie = s.aie := rfl
@[simp] theorem State.setFld_ply (k hi lo v : Nat) : (s.setFld k hi lo v).ply = s.ply := rfl
@[simp] theorem State.setFld_wgt (k hi lo v : Nat) : (s.setFld k hi lo v).wgt = s.wgt := rfl
@[simp] theorem State.setFld_tiles (k hi lo v : Nat) : (s.setFld k hi lo v).tiles = s.tiles := rfl
@[simp] theorem State.setFld_imem (k hi lo v : Nat) : (s.setFld k hi lo v).imem = s.imem := rfl
@[simp] theorem State.setFld_net (k hi lo v : Nat) : (s.setFld k hi lo v).net = s.net := rfl
@[simp] theorem State.setFld_sch (k hi lo v : Nat) : (s.setFld k hi lo v).sch = s.sch := rfl
@[simp] theorem State.setFld_rpt (k hi lo v : Nat) : (s.setFld k hi lo v).rpt = s.rpt := rfl
@[simp] theorem State.setFld_link (k hi lo v : Nat) : (s.setFld k hi lo v).link = s.link := rfl
@[simp] theorem State.setFld_rlog (k hi lo v : Nat) : (s.setFld k hi lo v).rlog = s.rlog := rfl
@[simp] theorem State.setFld_dbg (k hi lo v : Nat) : (s.setFld k hi lo v).dbg = s.dbg := rfl

@[simp] theorem State.setFlag_pending (k i : Nat) (b : Bool) : (s.setFlag k i b).pending = s.pending := rfl
@[simp] theorem State.setFlag_rwl (k i : Nat) (b : Bool) : (s.setFlag k i b).rwl = s.rwl := rfl
@[simp] theorem State.setFlag_resp (k i : Nat) (b : Bool) : (s.setFlag k i b).resp = s.resp := rfl
@[simp] theorem State.setFlag_out (k i : Nat) (b : Bool) : (s.setFlag k i b).out = s.out := rfl
@[simp] theorem State.setFlag_unitWait (k i : Nat) (b : Bool) : (s.setFlag k i b).unitWait = s.unitWait := rfl
@[simp] theorem State.setFlag_free (k i : Nat) (b : Bool) : (s.setFlag k i b).free = s.free := rfl
@[simp] theorem State.setFlag_holds (k i : Nat) (b : Bool) : (s.setFlag k i b).holds = s.holds := rfl
@[simp] theorem State.setFlag_stalls (k i : Nat) (b : Bool) : (s.setFlag k i b).stalls = s.stalls := rfl
@[simp] theorem State.setFlag_ptrs (k i : Nat) (b : Bool) : (s.setFlag k i b).ptrs = s.ptrs := rfl
@[simp] theorem State.setFlag_refusals (k i : Nat) (b : Bool) : (s.setFlag k i b).refusals = s.refusals := rfl
@[simp] theorem State.setFlag_refusalsLost (k i : Nat) (b : Bool) : (s.setFlag k i b).refusalsLost = s.refusalsLost := rfl
@[simp] theorem State.setFlag_pwr (k i : Nat) (b : Bool) : (s.setFlag k i b).pwr = s.pwr := rfl
@[simp] theorem State.setFlag_mem (k i : Nat) (b : Bool) : (s.setFlag k i b).mem = s.mem := rfl
@[simp] theorem State.setFlag_mbx (k i : Nat) (b : Bool) : (s.setFlag k i b).mbx = s.mbx := rfl
@[simp] theorem State.setFlag_pci (k i : Nat) (b : Bool) : (s.setFlag k i b).pci = s.pci := rfl
@[simp] theorem State.setFlag_sc (k i : Nat) (b : Bool) : (s.setFlag k i b).sc = s.sc := rfl
@[simp] theorem State.setFlag_cap (k i : Nat) (b : Bool) : (s.setFlag k i b).cap = s.cap := rfl
@[simp] theorem State.setFlag_fuses (k i : Nat) (b : Bool) : (s.setFlag k i b).fuses = s.fuses := rfl
@[simp] theorem State.setFlag_nor (k i : Nat) (b : Bool) : (s.setFlag k i b).nor = s.nor := rfl
@[simp] theorem State.setFlag_life (k i : Nat) (b : Bool) : (s.setFlag k i b).life = s.life := rfl
@[simp] theorem State.setFlag_adsel (k i : Nat) (b : Bool) : (s.setFlag k i b).adsel = s.adsel := rfl
@[simp] theorem State.setFlag_strm (k i : Nat) (b : Bool) : (s.setFlag k i b).strm = s.strm := rfl
@[simp] theorem State.setFlag_cam (k i : Nat) (b : Bool) : (s.setFlag k i b).cam = s.cam := rfl
@[simp] theorem State.setFlag_dsi (k i : Nat) (b : Bool) : (s.setFlag k i b).dsi = s.dsi := rfl
@[simp] theorem State.setFlag_i3c (k i : Nat) (b : Bool) : (s.setFlag k i b).i3c = s.i3c := rfl
@[simp] theorem State.setFlag_auto (k i : Nat) (b : Bool) : (s.setFlag k i b).auto = s.auto := rfl
@[simp] theorem State.setFlag_autoCur (k i : Nat) (b : Bool) : (s.setFlag k i b).autoCur = s.autoCur := rfl
@[simp] theorem State.setFlag_pads (k i : Nat) (b : Bool) : (s.setFlag k i b).pads = s.pads := rfl
@[simp] theorem State.setFlag_imu (k i : Nat) (b : Bool) : (s.setFlag k i b).imu = s.imu := rfl
@[simp] theorem State.setFlag_fsync (k i : Nat) (b : Bool) : (s.setFlag k i b).fsync = s.fsync := rfl
@[simp] theorem State.setFlag_spi (k i : Nat) (b : Bool) : (s.setFlag k i b).spi = s.spi := rfl
@[simp] theorem State.setFlag_aud (k i : Nat) (b : Bool) : (s.setFlag k i b).aud = s.aud := rfl
@[simp] theorem State.setFlag_hook (k i : Nat) (b : Bool) : (s.setFlag k i b).hook = s.hook := rfl
@[simp] theorem State.setFlag_su (k i : Nat) (b : Bool) : (s.setFlag k i b).su = s.su := rfl
@[simp] theorem State.setFlag_vox (k i : Nat) (b : Bool) : (s.setFlag k i b).vox = s.vox := rfl
@[simp] theorem State.setFlag_aie (k i : Nat) (b : Bool) : (s.setFlag k i b).aie = s.aie := rfl
@[simp] theorem State.setFlag_ply (k i : Nat) (b : Bool) : (s.setFlag k i b).ply = s.ply := rfl
@[simp] theorem State.setFlag_wgt (k i : Nat) (b : Bool) : (s.setFlag k i b).wgt = s.wgt := rfl
@[simp] theorem State.setFlag_tiles (k i : Nat) (b : Bool) : (s.setFlag k i b).tiles = s.tiles := rfl
@[simp] theorem State.setFlag_imem (k i : Nat) (b : Bool) : (s.setFlag k i b).imem = s.imem := rfl
@[simp] theorem State.setFlag_net (k i : Nat) (b : Bool) : (s.setFlag k i b).net = s.net := rfl
@[simp] theorem State.setFlag_sch (k i : Nat) (b : Bool) : (s.setFlag k i b).sch = s.sch := rfl
@[simp] theorem State.setFlag_rpt (k i : Nat) (b : Bool) : (s.setFlag k i b).rpt = s.rpt := rfl
@[simp] theorem State.setFlag_link (k i : Nat) (b : Bool) : (s.setFlag k i b).link = s.link := rfl
@[simp] theorem State.setFlag_rlog (k i : Nat) (b : Bool) : (s.setFlag k i b).rlog = s.rlog := rfl
@[simp] theorem State.setFlag_dbg (k i : Nat) (b : Bool) : (s.setFlag k i b).dbg = s.dbg := rfl

@[simp] theorem State.bump_pending (k : Nat) : (s.bump k).pending = s.pending := rfl
@[simp] theorem State.bump_rwl (k : Nat) : (s.bump k).rwl = s.rwl := rfl
@[simp] theorem State.bump_resp (k : Nat) : (s.bump k).resp = s.resp := rfl
@[simp] theorem State.bump_out (k : Nat) : (s.bump k).out = s.out := rfl
@[simp] theorem State.bump_unitWait (k : Nat) : (s.bump k).unitWait = s.unitWait := rfl
@[simp] theorem State.bump_free (k : Nat) : (s.bump k).free = s.free := rfl
@[simp] theorem State.bump_holds (k : Nat) : (s.bump k).holds = s.holds := rfl
@[simp] theorem State.bump_stalls (k : Nat) : (s.bump k).stalls = s.stalls := rfl
@[simp] theorem State.bump_ptrs (k : Nat) : (s.bump k).ptrs = s.ptrs := rfl
@[simp] theorem State.bump_refusals (k : Nat) : (s.bump k).refusals = s.refusals := rfl
@[simp] theorem State.bump_refusalsLost (k : Nat) : (s.bump k).refusalsLost = s.refusalsLost := rfl
@[simp] theorem State.bump_pwr (k : Nat) : (s.bump k).pwr = s.pwr := rfl
@[simp] theorem State.bump_mem (k : Nat) : (s.bump k).mem = s.mem := rfl
@[simp] theorem State.bump_mbx (k : Nat) : (s.bump k).mbx = s.mbx := rfl
@[simp] theorem State.bump_pci (k : Nat) : (s.bump k).pci = s.pci := rfl
@[simp] theorem State.bump_sc (k : Nat) : (s.bump k).sc = s.sc := rfl
@[simp] theorem State.bump_cap (k : Nat) : (s.bump k).cap = s.cap := rfl
@[simp] theorem State.bump_fuses (k : Nat) : (s.bump k).fuses = s.fuses := rfl
@[simp] theorem State.bump_nor (k : Nat) : (s.bump k).nor = s.nor := rfl
@[simp] theorem State.bump_life (k : Nat) : (s.bump k).life = s.life := rfl
@[simp] theorem State.bump_adsel (k : Nat) : (s.bump k).adsel = s.adsel := rfl
@[simp] theorem State.bump_strm (k : Nat) : (s.bump k).strm = s.strm := rfl
@[simp] theorem State.bump_cam (k : Nat) : (s.bump k).cam = s.cam := rfl
@[simp] theorem State.bump_dsi (k : Nat) : (s.bump k).dsi = s.dsi := rfl
@[simp] theorem State.bump_i3c (k : Nat) : (s.bump k).i3c = s.i3c := rfl
@[simp] theorem State.bump_auto (k : Nat) : (s.bump k).auto = s.auto := rfl
@[simp] theorem State.bump_autoCur (k : Nat) : (s.bump k).autoCur = s.autoCur := rfl
@[simp] theorem State.bump_pads (k : Nat) : (s.bump k).pads = s.pads := rfl
@[simp] theorem State.bump_imu (k : Nat) : (s.bump k).imu = s.imu := rfl
@[simp] theorem State.bump_fsync (k : Nat) : (s.bump k).fsync = s.fsync := rfl
@[simp] theorem State.bump_spi (k : Nat) : (s.bump k).spi = s.spi := rfl
@[simp] theorem State.bump_aud (k : Nat) : (s.bump k).aud = s.aud := rfl
@[simp] theorem State.bump_hook (k : Nat) : (s.bump k).hook = s.hook := rfl
@[simp] theorem State.bump_su (k : Nat) : (s.bump k).su = s.su := rfl
@[simp] theorem State.bump_vox (k : Nat) : (s.bump k).vox = s.vox := rfl
@[simp] theorem State.bump_aie (k : Nat) : (s.bump k).aie = s.aie := rfl
@[simp] theorem State.bump_ply (k : Nat) : (s.bump k).ply = s.ply := rfl
@[simp] theorem State.bump_wgt (k : Nat) : (s.bump k).wgt = s.wgt := rfl
@[simp] theorem State.bump_tiles (k : Nat) : (s.bump k).tiles = s.tiles := rfl
@[simp] theorem State.bump_imem (k : Nat) : (s.bump k).imem = s.imem := rfl
@[simp] theorem State.bump_net (k : Nat) : (s.bump k).net = s.net := rfl
@[simp] theorem State.bump_sch (k : Nat) : (s.bump k).sch = s.sch := rfl
@[simp] theorem State.bump_rpt (k : Nat) : (s.bump k).rpt = s.rpt := rfl
@[simp] theorem State.bump_link (k : Nat) : (s.bump k).link = s.link := rfl
@[simp] theorem State.bump_rlog (k : Nat) : (s.bump k).rlog = s.rlog := rfl
@[simp] theorem State.bump_dbg (k : Nat) : (s.bump k).dbg = s.dbg := rfl

@[simp] theorem State.bumpSat_pending (k hi lo : Nat) : (s.bumpSat k hi lo).pending = s.pending := by
  unfold State.bumpSat; split <;> rfl
@[simp] theorem State.bumpSat_rwl (k hi lo : Nat) : (s.bumpSat k hi lo).rwl = s.rwl := by
  unfold State.bumpSat; split <;> rfl
@[simp] theorem State.bumpSat_resp (k hi lo : Nat) : (s.bumpSat k hi lo).resp = s.resp := by
  unfold State.bumpSat; split <;> rfl
@[simp] theorem State.bumpSat_out (k hi lo : Nat) : (s.bumpSat k hi lo).out = s.out := by
  unfold State.bumpSat; split <;> rfl
@[simp] theorem State.bumpSat_unitWait (k hi lo : Nat) : (s.bumpSat k hi lo).unitWait = s.unitWait := by
  unfold State.bumpSat; split <;> rfl
@[simp] theorem State.bumpSat_free (k hi lo : Nat) : (s.bumpSat k hi lo).free = s.free := by
  unfold State.bumpSat; split <;> rfl
@[simp] theorem State.bumpSat_holds (k hi lo : Nat) : (s.bumpSat k hi lo).holds = s.holds := by
  unfold State.bumpSat; split <;> rfl
@[simp] theorem State.bumpSat_stalls (k hi lo : Nat) : (s.bumpSat k hi lo).stalls = s.stalls := by
  unfold State.bumpSat; split <;> rfl
@[simp] theorem State.bumpSat_ptrs (k hi lo : Nat) : (s.bumpSat k hi lo).ptrs = s.ptrs := by
  unfold State.bumpSat; split <;> rfl
@[simp] theorem State.bumpSat_refusals (k hi lo : Nat) : (s.bumpSat k hi lo).refusals = s.refusals := by
  unfold State.bumpSat; split <;> rfl
@[simp] theorem State.bumpSat_refusalsLost (k hi lo : Nat) : (s.bumpSat k hi lo).refusalsLost = s.refusalsLost := by
  unfold State.bumpSat; split <;> rfl
@[simp] theorem State.bumpSat_pwr (k hi lo : Nat) : (s.bumpSat k hi lo).pwr = s.pwr := by
  unfold State.bumpSat; split <;> rfl
@[simp] theorem State.bumpSat_mem (k hi lo : Nat) : (s.bumpSat k hi lo).mem = s.mem := by
  unfold State.bumpSat; split <;> rfl
@[simp] theorem State.bumpSat_mbx (k hi lo : Nat) : (s.bumpSat k hi lo).mbx = s.mbx := by
  unfold State.bumpSat; split <;> rfl
@[simp] theorem State.bumpSat_pci (k hi lo : Nat) : (s.bumpSat k hi lo).pci = s.pci := by
  unfold State.bumpSat; split <;> rfl
@[simp] theorem State.bumpSat_sc (k hi lo : Nat) : (s.bumpSat k hi lo).sc = s.sc := by
  unfold State.bumpSat; split <;> rfl
@[simp] theorem State.bumpSat_cap (k hi lo : Nat) : (s.bumpSat k hi lo).cap = s.cap := by
  unfold State.bumpSat; split <;> rfl
@[simp] theorem State.bumpSat_fuses (k hi lo : Nat) : (s.bumpSat k hi lo).fuses = s.fuses := by
  unfold State.bumpSat; split <;> rfl
@[simp] theorem State.bumpSat_nor (k hi lo : Nat) : (s.bumpSat k hi lo).nor = s.nor := by
  unfold State.bumpSat; split <;> rfl
@[simp] theorem State.bumpSat_life (k hi lo : Nat) : (s.bumpSat k hi lo).life = s.life := by
  unfold State.bumpSat; split <;> rfl
@[simp] theorem State.bumpSat_adsel (k hi lo : Nat) : (s.bumpSat k hi lo).adsel = s.adsel := by
  unfold State.bumpSat; split <;> rfl
@[simp] theorem State.bumpSat_strm (k hi lo : Nat) : (s.bumpSat k hi lo).strm = s.strm := by
  unfold State.bumpSat; split <;> rfl
@[simp] theorem State.bumpSat_cam (k hi lo : Nat) : (s.bumpSat k hi lo).cam = s.cam := by
  unfold State.bumpSat; split <;> rfl
@[simp] theorem State.bumpSat_dsi (k hi lo : Nat) : (s.bumpSat k hi lo).dsi = s.dsi := by
  unfold State.bumpSat; split <;> rfl
@[simp] theorem State.bumpSat_i3c (k hi lo : Nat) : (s.bumpSat k hi lo).i3c = s.i3c := by
  unfold State.bumpSat; split <;> rfl
@[simp] theorem State.bumpSat_auto (k hi lo : Nat) : (s.bumpSat k hi lo).auto = s.auto := by
  unfold State.bumpSat; split <;> rfl
@[simp] theorem State.bumpSat_autoCur (k hi lo : Nat) : (s.bumpSat k hi lo).autoCur = s.autoCur := by
  unfold State.bumpSat; split <;> rfl
@[simp] theorem State.bumpSat_pads (k hi lo : Nat) : (s.bumpSat k hi lo).pads = s.pads := by
  unfold State.bumpSat; split <;> rfl
@[simp] theorem State.bumpSat_imu (k hi lo : Nat) : (s.bumpSat k hi lo).imu = s.imu := by
  unfold State.bumpSat; split <;> rfl
@[simp] theorem State.bumpSat_fsync (k hi lo : Nat) : (s.bumpSat k hi lo).fsync = s.fsync := by
  unfold State.bumpSat; split <;> rfl
@[simp] theorem State.bumpSat_spi (k hi lo : Nat) : (s.bumpSat k hi lo).spi = s.spi := by
  unfold State.bumpSat; split <;> rfl
@[simp] theorem State.bumpSat_aud (k hi lo : Nat) : (s.bumpSat k hi lo).aud = s.aud := by
  unfold State.bumpSat; split <;> rfl
@[simp] theorem State.bumpSat_hook (k hi lo : Nat) : (s.bumpSat k hi lo).hook = s.hook := by
  unfold State.bumpSat; split <;> rfl
@[simp] theorem State.bumpSat_su (k hi lo : Nat) : (s.bumpSat k hi lo).su = s.su := by
  unfold State.bumpSat; split <;> rfl
@[simp] theorem State.bumpSat_vox (k hi lo : Nat) : (s.bumpSat k hi lo).vox = s.vox := by
  unfold State.bumpSat; split <;> rfl
@[simp] theorem State.bumpSat_aie (k hi lo : Nat) : (s.bumpSat k hi lo).aie = s.aie := by
  unfold State.bumpSat; split <;> rfl
@[simp] theorem State.bumpSat_ply (k hi lo : Nat) : (s.bumpSat k hi lo).ply = s.ply := by
  unfold State.bumpSat; split <;> rfl
@[simp] theorem State.bumpSat_wgt (k hi lo : Nat) : (s.bumpSat k hi lo).wgt = s.wgt := by
  unfold State.bumpSat; split <;> rfl
@[simp] theorem State.bumpSat_tiles (k hi lo : Nat) : (s.bumpSat k hi lo).tiles = s.tiles := by
  unfold State.bumpSat; split <;> rfl
@[simp] theorem State.bumpSat_imem (k hi lo : Nat) : (s.bumpSat k hi lo).imem = s.imem := by
  unfold State.bumpSat; split <;> rfl
@[simp] theorem State.bumpSat_net (k hi lo : Nat) : (s.bumpSat k hi lo).net = s.net := by
  unfold State.bumpSat; split <;> rfl
@[simp] theorem State.bumpSat_sch (k hi lo : Nat) : (s.bumpSat k hi lo).sch = s.sch := by
  unfold State.bumpSat; split <;> rfl
@[simp] theorem State.bumpSat_rpt (k hi lo : Nat) : (s.bumpSat k hi lo).rpt = s.rpt := by
  unfold State.bumpSat; split <;> rfl
@[simp] theorem State.bumpSat_link (k hi lo : Nat) : (s.bumpSat k hi lo).link = s.link := by
  unfold State.bumpSat; split <;> rfl
@[simp] theorem State.bumpSat_rlog (k hi lo : Nat) : (s.bumpSat k hi lo).rlog = s.rlog := by
  unfold State.bumpSat; split <;> rfl
@[simp] theorem State.bumpSat_dbg (k hi lo : Nat) : (s.bumpSat k hi lo).dbg = s.dbg := by
  unfold State.bumpSat; split <;> rfl

@[simp] theorem State.irq_pending (p b : Nat) : (s.irq p b).pending = s.pending := rfl
@[simp] theorem State.irq_rwl (p b : Nat) : (s.irq p b).rwl = s.rwl := rfl
@[simp] theorem State.irq_resp (p b : Nat) : (s.irq p b).resp = s.resp := rfl
@[simp] theorem State.irq_out (p b : Nat) : (s.irq p b).out = s.out := rfl
@[simp] theorem State.irq_unitWait (p b : Nat) : (s.irq p b).unitWait = s.unitWait := rfl
@[simp] theorem State.irq_free (p b : Nat) : (s.irq p b).free = s.free := rfl
@[simp] theorem State.irq_holds (p b : Nat) : (s.irq p b).holds = s.holds := rfl
@[simp] theorem State.irq_stalls (p b : Nat) : (s.irq p b).stalls = s.stalls := rfl
@[simp] theorem State.irq_ptrs (p b : Nat) : (s.irq p b).ptrs = s.ptrs := rfl
@[simp] theorem State.irq_refusals (p b : Nat) : (s.irq p b).refusals = s.refusals := rfl
@[simp] theorem State.irq_refusalsLost (p b : Nat) : (s.irq p b).refusalsLost = s.refusalsLost := rfl
@[simp] theorem State.irq_pwr (p b : Nat) : (s.irq p b).pwr = s.pwr := rfl
@[simp] theorem State.irq_mem (p b : Nat) : (s.irq p b).mem = s.mem := rfl
@[simp] theorem State.irq_mbx (p b : Nat) : (s.irq p b).mbx = s.mbx := rfl
@[simp] theorem State.irq_pci (p b : Nat) : (s.irq p b).pci = s.pci := rfl
@[simp] theorem State.irq_sc (p b : Nat) : (s.irq p b).sc = s.sc := rfl
@[simp] theorem State.irq_cap (p b : Nat) : (s.irq p b).cap = s.cap := rfl
@[simp] theorem State.irq_fuses (p b : Nat) : (s.irq p b).fuses = s.fuses := rfl
@[simp] theorem State.irq_nor (p b : Nat) : (s.irq p b).nor = s.nor := rfl
@[simp] theorem State.irq_life (p b : Nat) : (s.irq p b).life = s.life := rfl
@[simp] theorem State.irq_adsel (p b : Nat) : (s.irq p b).adsel = s.adsel := rfl
@[simp] theorem State.irq_strm (p b : Nat) : (s.irq p b).strm = s.strm := rfl
@[simp] theorem State.irq_cam (p b : Nat) : (s.irq p b).cam = s.cam := rfl
@[simp] theorem State.irq_dsi (p b : Nat) : (s.irq p b).dsi = s.dsi := rfl
@[simp] theorem State.irq_i3c (p b : Nat) : (s.irq p b).i3c = s.i3c := rfl
@[simp] theorem State.irq_auto (p b : Nat) : (s.irq p b).auto = s.auto := rfl
@[simp] theorem State.irq_autoCur (p b : Nat) : (s.irq p b).autoCur = s.autoCur := rfl
@[simp] theorem State.irq_pads (p b : Nat) : (s.irq p b).pads = s.pads := rfl
@[simp] theorem State.irq_imu (p b : Nat) : (s.irq p b).imu = s.imu := rfl
@[simp] theorem State.irq_fsync (p b : Nat) : (s.irq p b).fsync = s.fsync := rfl
@[simp] theorem State.irq_spi (p b : Nat) : (s.irq p b).spi = s.spi := rfl
@[simp] theorem State.irq_aud (p b : Nat) : (s.irq p b).aud = s.aud := rfl
@[simp] theorem State.irq_hook (p b : Nat) : (s.irq p b).hook = s.hook := rfl
@[simp] theorem State.irq_su (p b : Nat) : (s.irq p b).su = s.su := rfl
@[simp] theorem State.irq_vox (p b : Nat) : (s.irq p b).vox = s.vox := rfl
@[simp] theorem State.irq_aie (p b : Nat) : (s.irq p b).aie = s.aie := rfl
@[simp] theorem State.irq_ply (p b : Nat) : (s.irq p b).ply = s.ply := rfl
@[simp] theorem State.irq_wgt (p b : Nat) : (s.irq p b).wgt = s.wgt := rfl
@[simp] theorem State.irq_tiles (p b : Nat) : (s.irq p b).tiles = s.tiles := rfl
@[simp] theorem State.irq_imem (p b : Nat) : (s.irq p b).imem = s.imem := rfl
@[simp] theorem State.irq_net (p b : Nat) : (s.irq p b).net = s.net := rfl
@[simp] theorem State.irq_sch (p b : Nat) : (s.irq p b).sch = s.sch := rfl
@[simp] theorem State.irq_rpt (p b : Nat) : (s.irq p b).rpt = s.rpt := rfl
@[simp] theorem State.irq_link (p b : Nat) : (s.irq p b).link = s.link := rfl
@[simp] theorem State.irq_rlog (p b : Nat) : (s.irq p b).rlog = s.rlog := rfl
@[simp] theorem State.irq_dbg (p b : Nat) : (s.irq p b).dbg = s.dbg := rfl

@[simp] theorem State.err_pending (p off code : Nat) (wr : Bool) (q : Req) : (s.err p off code wr q).pending = s.pending := by
  unfold State.err
  by_cases h : 0x020 ≤ p ∧ p ≤ 0x023 ∧ (!(s.windowOwner p off).zero) = true
  · rw [if_pos h]
  · rw [if_neg h]
    by_cases g : s.fld (ERR_CODE p) 7 0 = 0
    · rw [if_pos g, State.irq_pending, State.setReg_pending, State.setReg_pending]
    · rw [if_neg g, State.setFlag_pending]
@[simp] theorem State.err_rwl (p off code : Nat) (wr : Bool) (q : Req) : (s.err p off code wr q).rwl = s.rwl := by
  unfold State.err
  by_cases h : 0x020 ≤ p ∧ p ≤ 0x023 ∧ (!(s.windowOwner p off).zero) = true
  · rw [if_pos h]
  · rw [if_neg h]
    by_cases g : s.fld (ERR_CODE p) 7 0 = 0
    · rw [if_pos g, State.irq_rwl, State.setReg_rwl, State.setReg_rwl]
    · rw [if_neg g, State.setFlag_rwl]
@[simp] theorem State.err_resp (p off code : Nat) (wr : Bool) (q : Req) : (s.err p off code wr q).resp = s.resp := by
  unfold State.err
  by_cases h : 0x020 ≤ p ∧ p ≤ 0x023 ∧ (!(s.windowOwner p off).zero) = true
  · rw [if_pos h]
  · rw [if_neg h]
    by_cases g : s.fld (ERR_CODE p) 7 0 = 0
    · rw [if_pos g, State.irq_resp, State.setReg_resp, State.setReg_resp]
    · rw [if_neg g, State.setFlag_resp]
@[simp] theorem State.err_out (p off code : Nat) (wr : Bool) (q : Req) : (s.err p off code wr q).out = s.out := by
  unfold State.err
  by_cases h : 0x020 ≤ p ∧ p ≤ 0x023 ∧ (!(s.windowOwner p off).zero) = true
  · rw [if_pos h]
  · rw [if_neg h]
    by_cases g : s.fld (ERR_CODE p) 7 0 = 0
    · rw [if_pos g, State.irq_out, State.setReg_out, State.setReg_out]
    · rw [if_neg g, State.setFlag_out]
@[simp] theorem State.err_unitWait (p off code : Nat) (wr : Bool) (q : Req) : (s.err p off code wr q).unitWait = s.unitWait := by
  unfold State.err
  by_cases h : 0x020 ≤ p ∧ p ≤ 0x023 ∧ (!(s.windowOwner p off).zero) = true
  · rw [if_pos h]
  · rw [if_neg h]
    by_cases g : s.fld (ERR_CODE p) 7 0 = 0
    · rw [if_pos g, State.irq_unitWait, State.setReg_unitWait, State.setReg_unitWait]
    · rw [if_neg g, State.setFlag_unitWait]
@[simp] theorem State.err_free (p off code : Nat) (wr : Bool) (q : Req) : (s.err p off code wr q).free = s.free := by
  unfold State.err
  by_cases h : 0x020 ≤ p ∧ p ≤ 0x023 ∧ (!(s.windowOwner p off).zero) = true
  · rw [if_pos h]
  · rw [if_neg h]
    by_cases g : s.fld (ERR_CODE p) 7 0 = 0
    · rw [if_pos g, State.irq_free, State.setReg_free, State.setReg_free]
    · rw [if_neg g, State.setFlag_free]
@[simp] theorem State.err_holds (p off code : Nat) (wr : Bool) (q : Req) : (s.err p off code wr q).holds = s.holds := by
  unfold State.err
  by_cases h : 0x020 ≤ p ∧ p ≤ 0x023 ∧ (!(s.windowOwner p off).zero) = true
  · rw [if_pos h]
  · rw [if_neg h]
    by_cases g : s.fld (ERR_CODE p) 7 0 = 0
    · rw [if_pos g, State.irq_holds, State.setReg_holds, State.setReg_holds]
    · rw [if_neg g, State.setFlag_holds]
@[simp] theorem State.err_stalls (p off code : Nat) (wr : Bool) (q : Req) : (s.err p off code wr q).stalls = s.stalls := by
  unfold State.err
  by_cases h : 0x020 ≤ p ∧ p ≤ 0x023 ∧ (!(s.windowOwner p off).zero) = true
  · rw [if_pos h]
  · rw [if_neg h]
    by_cases g : s.fld (ERR_CODE p) 7 0 = 0
    · rw [if_pos g, State.irq_stalls, State.setReg_stalls, State.setReg_stalls]
    · rw [if_neg g, State.setFlag_stalls]
@[simp] theorem State.err_ptrs (p off code : Nat) (wr : Bool) (q : Req) : (s.err p off code wr q).ptrs = s.ptrs := by
  unfold State.err
  by_cases h : 0x020 ≤ p ∧ p ≤ 0x023 ∧ (!(s.windowOwner p off).zero) = true
  · rw [if_pos h]
  · rw [if_neg h]
    by_cases g : s.fld (ERR_CODE p) 7 0 = 0
    · rw [if_pos g, State.irq_ptrs, State.setReg_ptrs, State.setReg_ptrs]
    · rw [if_neg g, State.setFlag_ptrs]
@[simp] theorem State.err_refusals (p off code : Nat) (wr : Bool) (q : Req) : (s.err p off code wr q).refusals = s.refusals := by
  unfold State.err
  by_cases h : 0x020 ≤ p ∧ p ≤ 0x023 ∧ (!(s.windowOwner p off).zero) = true
  · rw [if_pos h]
  · rw [if_neg h]
    by_cases g : s.fld (ERR_CODE p) 7 0 = 0
    · rw [if_pos g, State.irq_refusals, State.setReg_refusals, State.setReg_refusals]
    · rw [if_neg g, State.setFlag_refusals]
@[simp] theorem State.err_refusalsLost (p off code : Nat) (wr : Bool) (q : Req) : (s.err p off code wr q).refusalsLost = s.refusalsLost := by
  unfold State.err
  by_cases h : 0x020 ≤ p ∧ p ≤ 0x023 ∧ (!(s.windowOwner p off).zero) = true
  · rw [if_pos h]
  · rw [if_neg h]
    by_cases g : s.fld (ERR_CODE p) 7 0 = 0
    · rw [if_pos g, State.irq_refusalsLost, State.setReg_refusalsLost, State.setReg_refusalsLost]
    · rw [if_neg g, State.setFlag_refusalsLost]
@[simp] theorem State.err_pwr (p off code : Nat) (wr : Bool) (q : Req) : (s.err p off code wr q).pwr = s.pwr := by
  unfold State.err
  by_cases h : 0x020 ≤ p ∧ p ≤ 0x023 ∧ (!(s.windowOwner p off).zero) = true
  · rw [if_pos h]
  · rw [if_neg h]
    by_cases g : s.fld (ERR_CODE p) 7 0 = 0
    · rw [if_pos g, State.irq_pwr, State.setReg_pwr, State.setReg_pwr]
    · rw [if_neg g, State.setFlag_pwr]
@[simp] theorem State.err_mem (p off code : Nat) (wr : Bool) (q : Req) : (s.err p off code wr q).mem = s.mem := by
  unfold State.err
  by_cases h : 0x020 ≤ p ∧ p ≤ 0x023 ∧ (!(s.windowOwner p off).zero) = true
  · rw [if_pos h]
  · rw [if_neg h]
    by_cases g : s.fld (ERR_CODE p) 7 0 = 0
    · rw [if_pos g, State.irq_mem, State.setReg_mem, State.setReg_mem]
    · rw [if_neg g, State.setFlag_mem]
@[simp] theorem State.err_mbx (p off code : Nat) (wr : Bool) (q : Req) : (s.err p off code wr q).mbx = s.mbx := by
  unfold State.err
  by_cases h : 0x020 ≤ p ∧ p ≤ 0x023 ∧ (!(s.windowOwner p off).zero) = true
  · rw [if_pos h]
  · rw [if_neg h]
    by_cases g : s.fld (ERR_CODE p) 7 0 = 0
    · rw [if_pos g, State.irq_mbx, State.setReg_mbx, State.setReg_mbx]
    · rw [if_neg g, State.setFlag_mbx]
@[simp] theorem State.err_pci (p off code : Nat) (wr : Bool) (q : Req) : (s.err p off code wr q).pci = s.pci := by
  unfold State.err
  by_cases h : 0x020 ≤ p ∧ p ≤ 0x023 ∧ (!(s.windowOwner p off).zero) = true
  · rw [if_pos h]
  · rw [if_neg h]
    by_cases g : s.fld (ERR_CODE p) 7 0 = 0
    · rw [if_pos g, State.irq_pci, State.setReg_pci, State.setReg_pci]
    · rw [if_neg g, State.setFlag_pci]
@[simp] theorem State.err_sc (p off code : Nat) (wr : Bool) (q : Req) : (s.err p off code wr q).sc = s.sc := by
  unfold State.err
  by_cases h : 0x020 ≤ p ∧ p ≤ 0x023 ∧ (!(s.windowOwner p off).zero) = true
  · rw [if_pos h]
  · rw [if_neg h]
    by_cases g : s.fld (ERR_CODE p) 7 0 = 0
    · rw [if_pos g, State.irq_sc, State.setReg_sc, State.setReg_sc]
    · rw [if_neg g, State.setFlag_sc]
@[simp] theorem State.err_cap (p off code : Nat) (wr : Bool) (q : Req) : (s.err p off code wr q).cap = s.cap := by
  unfold State.err
  by_cases h : 0x020 ≤ p ∧ p ≤ 0x023 ∧ (!(s.windowOwner p off).zero) = true
  · rw [if_pos h]
  · rw [if_neg h]
    by_cases g : s.fld (ERR_CODE p) 7 0 = 0
    · rw [if_pos g, State.irq_cap, State.setReg_cap, State.setReg_cap]
    · rw [if_neg g, State.setFlag_cap]
@[simp] theorem State.err_fuses (p off code : Nat) (wr : Bool) (q : Req) : (s.err p off code wr q).fuses = s.fuses := by
  unfold State.err
  by_cases h : 0x020 ≤ p ∧ p ≤ 0x023 ∧ (!(s.windowOwner p off).zero) = true
  · rw [if_pos h]
  · rw [if_neg h]
    by_cases g : s.fld (ERR_CODE p) 7 0 = 0
    · rw [if_pos g, State.irq_fuses, State.setReg_fuses, State.setReg_fuses]
    · rw [if_neg g, State.setFlag_fuses]
@[simp] theorem State.err_nor (p off code : Nat) (wr : Bool) (q : Req) : (s.err p off code wr q).nor = s.nor := by
  unfold State.err
  by_cases h : 0x020 ≤ p ∧ p ≤ 0x023 ∧ (!(s.windowOwner p off).zero) = true
  · rw [if_pos h]
  · rw [if_neg h]
    by_cases g : s.fld (ERR_CODE p) 7 0 = 0
    · rw [if_pos g, State.irq_nor, State.setReg_nor, State.setReg_nor]
    · rw [if_neg g, State.setFlag_nor]
@[simp] theorem State.err_life (p off code : Nat) (wr : Bool) (q : Req) : (s.err p off code wr q).life = s.life := by
  unfold State.err
  by_cases h : 0x020 ≤ p ∧ p ≤ 0x023 ∧ (!(s.windowOwner p off).zero) = true
  · rw [if_pos h]
  · rw [if_neg h]
    by_cases g : s.fld (ERR_CODE p) 7 0 = 0
    · rw [if_pos g, State.irq_life, State.setReg_life, State.setReg_life]
    · rw [if_neg g, State.setFlag_life]
@[simp] theorem State.err_adsel (p off code : Nat) (wr : Bool) (q : Req) : (s.err p off code wr q).adsel = s.adsel := by
  unfold State.err
  by_cases h : 0x020 ≤ p ∧ p ≤ 0x023 ∧ (!(s.windowOwner p off).zero) = true
  · rw [if_pos h]
  · rw [if_neg h]
    by_cases g : s.fld (ERR_CODE p) 7 0 = 0
    · rw [if_pos g, State.irq_adsel, State.setReg_adsel, State.setReg_adsel]
    · rw [if_neg g, State.setFlag_adsel]
@[simp] theorem State.err_strm (p off code : Nat) (wr : Bool) (q : Req) : (s.err p off code wr q).strm = s.strm := by
  unfold State.err
  by_cases h : 0x020 ≤ p ∧ p ≤ 0x023 ∧ (!(s.windowOwner p off).zero) = true
  · rw [if_pos h]
  · rw [if_neg h]
    by_cases g : s.fld (ERR_CODE p) 7 0 = 0
    · rw [if_pos g, State.irq_strm, State.setReg_strm, State.setReg_strm]
    · rw [if_neg g, State.setFlag_strm]
@[simp] theorem State.err_cam (p off code : Nat) (wr : Bool) (q : Req) : (s.err p off code wr q).cam = s.cam := by
  unfold State.err
  by_cases h : 0x020 ≤ p ∧ p ≤ 0x023 ∧ (!(s.windowOwner p off).zero) = true
  · rw [if_pos h]
  · rw [if_neg h]
    by_cases g : s.fld (ERR_CODE p) 7 0 = 0
    · rw [if_pos g, State.irq_cam, State.setReg_cam, State.setReg_cam]
    · rw [if_neg g, State.setFlag_cam]
@[simp] theorem State.err_dsi (p off code : Nat) (wr : Bool) (q : Req) : (s.err p off code wr q).dsi = s.dsi := by
  unfold State.err
  by_cases h : 0x020 ≤ p ∧ p ≤ 0x023 ∧ (!(s.windowOwner p off).zero) = true
  · rw [if_pos h]
  · rw [if_neg h]
    by_cases g : s.fld (ERR_CODE p) 7 0 = 0
    · rw [if_pos g, State.irq_dsi, State.setReg_dsi, State.setReg_dsi]
    · rw [if_neg g, State.setFlag_dsi]
@[simp] theorem State.err_i3c (p off code : Nat) (wr : Bool) (q : Req) : (s.err p off code wr q).i3c = s.i3c := by
  unfold State.err
  by_cases h : 0x020 ≤ p ∧ p ≤ 0x023 ∧ (!(s.windowOwner p off).zero) = true
  · rw [if_pos h]
  · rw [if_neg h]
    by_cases g : s.fld (ERR_CODE p) 7 0 = 0
    · rw [if_pos g, State.irq_i3c, State.setReg_i3c, State.setReg_i3c]
    · rw [if_neg g, State.setFlag_i3c]
@[simp] theorem State.err_auto (p off code : Nat) (wr : Bool) (q : Req) : (s.err p off code wr q).auto = s.auto := by
  unfold State.err
  by_cases h : 0x020 ≤ p ∧ p ≤ 0x023 ∧ (!(s.windowOwner p off).zero) = true
  · rw [if_pos h]
  · rw [if_neg h]
    by_cases g : s.fld (ERR_CODE p) 7 0 = 0
    · rw [if_pos g, State.irq_auto, State.setReg_auto, State.setReg_auto]
    · rw [if_neg g, State.setFlag_auto]
@[simp] theorem State.err_autoCur (p off code : Nat) (wr : Bool) (q : Req) : (s.err p off code wr q).autoCur = s.autoCur := by
  unfold State.err
  by_cases h : 0x020 ≤ p ∧ p ≤ 0x023 ∧ (!(s.windowOwner p off).zero) = true
  · rw [if_pos h]
  · rw [if_neg h]
    by_cases g : s.fld (ERR_CODE p) 7 0 = 0
    · rw [if_pos g, State.irq_autoCur, State.setReg_autoCur, State.setReg_autoCur]
    · rw [if_neg g, State.setFlag_autoCur]
@[simp] theorem State.err_pads (p off code : Nat) (wr : Bool) (q : Req) : (s.err p off code wr q).pads = s.pads := by
  unfold State.err
  by_cases h : 0x020 ≤ p ∧ p ≤ 0x023 ∧ (!(s.windowOwner p off).zero) = true
  · rw [if_pos h]
  · rw [if_neg h]
    by_cases g : s.fld (ERR_CODE p) 7 0 = 0
    · rw [if_pos g, State.irq_pads, State.setReg_pads, State.setReg_pads]
    · rw [if_neg g, State.setFlag_pads]
@[simp] theorem State.err_imu (p off code : Nat) (wr : Bool) (q : Req) : (s.err p off code wr q).imu = s.imu := by
  unfold State.err
  by_cases h : 0x020 ≤ p ∧ p ≤ 0x023 ∧ (!(s.windowOwner p off).zero) = true
  · rw [if_pos h]
  · rw [if_neg h]
    by_cases g : s.fld (ERR_CODE p) 7 0 = 0
    · rw [if_pos g, State.irq_imu, State.setReg_imu, State.setReg_imu]
    · rw [if_neg g, State.setFlag_imu]
@[simp] theorem State.err_fsync (p off code : Nat) (wr : Bool) (q : Req) : (s.err p off code wr q).fsync = s.fsync := by
  unfold State.err
  by_cases h : 0x020 ≤ p ∧ p ≤ 0x023 ∧ (!(s.windowOwner p off).zero) = true
  · rw [if_pos h]
  · rw [if_neg h]
    by_cases g : s.fld (ERR_CODE p) 7 0 = 0
    · rw [if_pos g, State.irq_fsync, State.setReg_fsync, State.setReg_fsync]
    · rw [if_neg g, State.setFlag_fsync]
@[simp] theorem State.err_spi (p off code : Nat) (wr : Bool) (q : Req) : (s.err p off code wr q).spi = s.spi := by
  unfold State.err
  by_cases h : 0x020 ≤ p ∧ p ≤ 0x023 ∧ (!(s.windowOwner p off).zero) = true
  · rw [if_pos h]
  · rw [if_neg h]
    by_cases g : s.fld (ERR_CODE p) 7 0 = 0
    · rw [if_pos g, State.irq_spi, State.setReg_spi, State.setReg_spi]
    · rw [if_neg g, State.setFlag_spi]
@[simp] theorem State.err_aud (p off code : Nat) (wr : Bool) (q : Req) : (s.err p off code wr q).aud = s.aud := by
  unfold State.err
  by_cases h : 0x020 ≤ p ∧ p ≤ 0x023 ∧ (!(s.windowOwner p off).zero) = true
  · rw [if_pos h]
  · rw [if_neg h]
    by_cases g : s.fld (ERR_CODE p) 7 0 = 0
    · rw [if_pos g, State.irq_aud, State.setReg_aud, State.setReg_aud]
    · rw [if_neg g, State.setFlag_aud]
@[simp] theorem State.err_hook (p off code : Nat) (wr : Bool) (q : Req) : (s.err p off code wr q).hook = s.hook := by
  unfold State.err
  by_cases h : 0x020 ≤ p ∧ p ≤ 0x023 ∧ (!(s.windowOwner p off).zero) = true
  · rw [if_pos h]
  · rw [if_neg h]
    by_cases g : s.fld (ERR_CODE p) 7 0 = 0
    · rw [if_pos g, State.irq_hook, State.setReg_hook, State.setReg_hook]
    · rw [if_neg g, State.setFlag_hook]
@[simp] theorem State.err_su (p off code : Nat) (wr : Bool) (q : Req) : (s.err p off code wr q).su = s.su := by
  unfold State.err
  by_cases h : 0x020 ≤ p ∧ p ≤ 0x023 ∧ (!(s.windowOwner p off).zero) = true
  · rw [if_pos h]
  · rw [if_neg h]
    by_cases g : s.fld (ERR_CODE p) 7 0 = 0
    · rw [if_pos g, State.irq_su, State.setReg_su, State.setReg_su]
    · rw [if_neg g, State.setFlag_su]
@[simp] theorem State.err_vox (p off code : Nat) (wr : Bool) (q : Req) : (s.err p off code wr q).vox = s.vox := by
  unfold State.err
  by_cases h : 0x020 ≤ p ∧ p ≤ 0x023 ∧ (!(s.windowOwner p off).zero) = true
  · rw [if_pos h]
  · rw [if_neg h]
    by_cases g : s.fld (ERR_CODE p) 7 0 = 0
    · rw [if_pos g, State.irq_vox, State.setReg_vox, State.setReg_vox]
    · rw [if_neg g, State.setFlag_vox]
@[simp] theorem State.err_aie (p off code : Nat) (wr : Bool) (q : Req) : (s.err p off code wr q).aie = s.aie := by
  unfold State.err
  by_cases h : 0x020 ≤ p ∧ p ≤ 0x023 ∧ (!(s.windowOwner p off).zero) = true
  · rw [if_pos h]
  · rw [if_neg h]
    by_cases g : s.fld (ERR_CODE p) 7 0 = 0
    · rw [if_pos g, State.irq_aie, State.setReg_aie, State.setReg_aie]
    · rw [if_neg g, State.setFlag_aie]
@[simp] theorem State.err_ply (p off code : Nat) (wr : Bool) (q : Req) : (s.err p off code wr q).ply = s.ply := by
  unfold State.err
  by_cases h : 0x020 ≤ p ∧ p ≤ 0x023 ∧ (!(s.windowOwner p off).zero) = true
  · rw [if_pos h]
  · rw [if_neg h]
    by_cases g : s.fld (ERR_CODE p) 7 0 = 0
    · rw [if_pos g, State.irq_ply, State.setReg_ply, State.setReg_ply]
    · rw [if_neg g, State.setFlag_ply]
@[simp] theorem State.err_wgt (p off code : Nat) (wr : Bool) (q : Req) : (s.err p off code wr q).wgt = s.wgt := by
  unfold State.err
  by_cases h : 0x020 ≤ p ∧ p ≤ 0x023 ∧ (!(s.windowOwner p off).zero) = true
  · rw [if_pos h]
  · rw [if_neg h]
    by_cases g : s.fld (ERR_CODE p) 7 0 = 0
    · rw [if_pos g, State.irq_wgt, State.setReg_wgt, State.setReg_wgt]
    · rw [if_neg g, State.setFlag_wgt]
@[simp] theorem State.err_tiles (p off code : Nat) (wr : Bool) (q : Req) : (s.err p off code wr q).tiles = s.tiles := by
  unfold State.err
  by_cases h : 0x020 ≤ p ∧ p ≤ 0x023 ∧ (!(s.windowOwner p off).zero) = true
  · rw [if_pos h]
  · rw [if_neg h]
    by_cases g : s.fld (ERR_CODE p) 7 0 = 0
    · rw [if_pos g, State.irq_tiles, State.setReg_tiles, State.setReg_tiles]
    · rw [if_neg g, State.setFlag_tiles]
@[simp] theorem State.err_imem (p off code : Nat) (wr : Bool) (q : Req) : (s.err p off code wr q).imem = s.imem := by
  unfold State.err
  by_cases h : 0x020 ≤ p ∧ p ≤ 0x023 ∧ (!(s.windowOwner p off).zero) = true
  · rw [if_pos h]
  · rw [if_neg h]
    by_cases g : s.fld (ERR_CODE p) 7 0 = 0
    · rw [if_pos g, State.irq_imem, State.setReg_imem, State.setReg_imem]
    · rw [if_neg g, State.setFlag_imem]
@[simp] theorem State.err_net (p off code : Nat) (wr : Bool) (q : Req) : (s.err p off code wr q).net = s.net := by
  unfold State.err
  by_cases h : 0x020 ≤ p ∧ p ≤ 0x023 ∧ (!(s.windowOwner p off).zero) = true
  · rw [if_pos h]
  · rw [if_neg h]
    by_cases g : s.fld (ERR_CODE p) 7 0 = 0
    · rw [if_pos g, State.irq_net, State.setReg_net, State.setReg_net]
    · rw [if_neg g, State.setFlag_net]
@[simp] theorem State.err_sch (p off code : Nat) (wr : Bool) (q : Req) : (s.err p off code wr q).sch = s.sch := by
  unfold State.err
  by_cases h : 0x020 ≤ p ∧ p ≤ 0x023 ∧ (!(s.windowOwner p off).zero) = true
  · rw [if_pos h]
  · rw [if_neg h]
    by_cases g : s.fld (ERR_CODE p) 7 0 = 0
    · rw [if_pos g, State.irq_sch, State.setReg_sch, State.setReg_sch]
    · rw [if_neg g, State.setFlag_sch]
@[simp] theorem State.err_rpt (p off code : Nat) (wr : Bool) (q : Req) : (s.err p off code wr q).rpt = s.rpt := by
  unfold State.err
  by_cases h : 0x020 ≤ p ∧ p ≤ 0x023 ∧ (!(s.windowOwner p off).zero) = true
  · rw [if_pos h]
  · rw [if_neg h]
    by_cases g : s.fld (ERR_CODE p) 7 0 = 0
    · rw [if_pos g, State.irq_rpt, State.setReg_rpt, State.setReg_rpt]
    · rw [if_neg g, State.setFlag_rpt]
@[simp] theorem State.err_link (p off code : Nat) (wr : Bool) (q : Req) : (s.err p off code wr q).link = s.link := by
  unfold State.err
  by_cases h : 0x020 ≤ p ∧ p ≤ 0x023 ∧ (!(s.windowOwner p off).zero) = true
  · rw [if_pos h]
  · rw [if_neg h]
    by_cases g : s.fld (ERR_CODE p) 7 0 = 0
    · rw [if_pos g, State.irq_link, State.setReg_link, State.setReg_link]
    · rw [if_neg g, State.setFlag_link]
@[simp] theorem State.err_rlog (p off code : Nat) (wr : Bool) (q : Req) : (s.err p off code wr q).rlog = s.rlog := by
  unfold State.err
  by_cases h : 0x020 ≤ p ∧ p ≤ 0x023 ∧ (!(s.windowOwner p off).zero) = true
  · rw [if_pos h]
  · rw [if_neg h]
    by_cases g : s.fld (ERR_CODE p) 7 0 = 0
    · rw [if_pos g, State.irq_rlog, State.setReg_rlog, State.setReg_rlog]
    · rw [if_neg g, State.setFlag_rlog]
@[simp] theorem State.err_dbg (p off code : Nat) (wr : Bool) (q : Req) : (s.err p off code wr q).dbg = s.dbg := by
  unfold State.err
  by_cases h : 0x020 ≤ p ∧ p ≤ 0x023 ∧ (!(s.windowOwner p off).zero) = true
  · rw [if_pos h]
  · rw [if_neg h]
    by_cases g : s.fld (ERR_CODE p) 7 0 = 0
    · rw [if_pos g, State.irq_dbg, State.setReg_dbg, State.setReg_dbg]
    · rw [if_neg g, State.setFlag_dbg]

@[simp] theorem State.answer_pending (code : Nat) (data : List Word) : (s.answer code data).pending = s.pending := rfl
@[simp] theorem State.answer_regs (code : Nat) (data : List Word) : (s.answer code data).regs = s.regs := rfl
@[simp] theorem State.answer_rwl (code : Nat) (data : List Word) : (s.answer code data).rwl = s.rwl := rfl
@[simp] theorem State.answer_out (code : Nat) (data : List Word) : (s.answer code data).out = s.out := rfl
@[simp] theorem State.answer_unitWait (code : Nat) (data : List Word) : (s.answer code data).unitWait = s.unitWait := rfl
@[simp] theorem State.answer_free (code : Nat) (data : List Word) : (s.answer code data).free = s.free := rfl
@[simp] theorem State.answer_holds (code : Nat) (data : List Word) : (s.answer code data).holds = s.holds := rfl
@[simp] theorem State.answer_stalls (code : Nat) (data : List Word) : (s.answer code data).stalls = s.stalls := rfl
@[simp] theorem State.answer_ptrs (code : Nat) (data : List Word) : (s.answer code data).ptrs = s.ptrs := rfl
@[simp] theorem State.answer_refusals (code : Nat) (data : List Word) : (s.answer code data).refusals = s.refusals := rfl
@[simp] theorem State.answer_refusalsLost (code : Nat) (data : List Word) : (s.answer code data).refusalsLost = s.refusalsLost := rfl
@[simp] theorem State.answer_pwr (code : Nat) (data : List Word) : (s.answer code data).pwr = s.pwr := rfl
@[simp] theorem State.answer_mem (code : Nat) (data : List Word) : (s.answer code data).mem = s.mem := rfl
@[simp] theorem State.answer_mbx (code : Nat) (data : List Word) : (s.answer code data).mbx = s.mbx := rfl
@[simp] theorem State.answer_pci (code : Nat) (data : List Word) : (s.answer code data).pci = s.pci := rfl
@[simp] theorem State.answer_sc (code : Nat) (data : List Word) : (s.answer code data).sc = s.sc := rfl
@[simp] theorem State.answer_cap (code : Nat) (data : List Word) : (s.answer code data).cap = s.cap := rfl
@[simp] theorem State.answer_fuses (code : Nat) (data : List Word) : (s.answer code data).fuses = s.fuses := rfl
@[simp] theorem State.answer_nor (code : Nat) (data : List Word) : (s.answer code data).nor = s.nor := rfl
@[simp] theorem State.answer_life (code : Nat) (data : List Word) : (s.answer code data).life = s.life := rfl
@[simp] theorem State.answer_adsel (code : Nat) (data : List Word) : (s.answer code data).adsel = s.adsel := rfl
@[simp] theorem State.answer_strm (code : Nat) (data : List Word) : (s.answer code data).strm = s.strm := rfl
@[simp] theorem State.answer_cam (code : Nat) (data : List Word) : (s.answer code data).cam = s.cam := rfl
@[simp] theorem State.answer_dsi (code : Nat) (data : List Word) : (s.answer code data).dsi = s.dsi := rfl
@[simp] theorem State.answer_i3c (code : Nat) (data : List Word) : (s.answer code data).i3c = s.i3c := rfl
@[simp] theorem State.answer_auto (code : Nat) (data : List Word) : (s.answer code data).auto = s.auto := rfl
@[simp] theorem State.answer_autoCur (code : Nat) (data : List Word) : (s.answer code data).autoCur = s.autoCur := rfl
@[simp] theorem State.answer_pads (code : Nat) (data : List Word) : (s.answer code data).pads = s.pads := rfl
@[simp] theorem State.answer_imu (code : Nat) (data : List Word) : (s.answer code data).imu = s.imu := rfl
@[simp] theorem State.answer_fsync (code : Nat) (data : List Word) : (s.answer code data).fsync = s.fsync := rfl
@[simp] theorem State.answer_spi (code : Nat) (data : List Word) : (s.answer code data).spi = s.spi := rfl
@[simp] theorem State.answer_aud (code : Nat) (data : List Word) : (s.answer code data).aud = s.aud := rfl
@[simp] theorem State.answer_hook (code : Nat) (data : List Word) : (s.answer code data).hook = s.hook := rfl
@[simp] theorem State.answer_su (code : Nat) (data : List Word) : (s.answer code data).su = s.su := rfl
@[simp] theorem State.answer_vox (code : Nat) (data : List Word) : (s.answer code data).vox = s.vox := rfl
@[simp] theorem State.answer_aie (code : Nat) (data : List Word) : (s.answer code data).aie = s.aie := rfl
@[simp] theorem State.answer_ply (code : Nat) (data : List Word) : (s.answer code data).ply = s.ply := rfl
@[simp] theorem State.answer_wgt (code : Nat) (data : List Word) : (s.answer code data).wgt = s.wgt := rfl
@[simp] theorem State.answer_tiles (code : Nat) (data : List Word) : (s.answer code data).tiles = s.tiles := rfl
@[simp] theorem State.answer_imem (code : Nat) (data : List Word) : (s.answer code data).imem = s.imem := rfl
@[simp] theorem State.answer_net (code : Nat) (data : List Word) : (s.answer code data).net = s.net := rfl
@[simp] theorem State.answer_sch (code : Nat) (data : List Word) : (s.answer code data).sch = s.sch := rfl
@[simp] theorem State.answer_rpt (code : Nat) (data : List Word) : (s.answer code data).rpt = s.rpt := rfl
@[simp] theorem State.answer_link (code : Nat) (data : List Word) : (s.answer code data).link = s.link := rfl
@[simp] theorem State.answer_rlog (code : Nat) (data : List Word) : (s.answer code data).rlog = s.rlog := rfl
@[simp] theorem State.answer_dbg (code : Nat) (data : List Word) : (s.answer code data).dbg = s.dbg := rfl

@[simp] theorem State.emit_pending (o : Out) : (s.emit o).pending = s.pending := rfl
@[simp] theorem State.emit_regs (o : Out) : (s.emit o).regs = s.regs := rfl
@[simp] theorem State.emit_rwl (o : Out) : (s.emit o).rwl = s.rwl := rfl
@[simp] theorem State.emit_resp (o : Out) : (s.emit o).resp = s.resp := rfl
@[simp] theorem State.emit_unitWait (o : Out) : (s.emit o).unitWait = s.unitWait := rfl
@[simp] theorem State.emit_free (o : Out) : (s.emit o).free = s.free := rfl
@[simp] theorem State.emit_holds (o : Out) : (s.emit o).holds = s.holds := rfl
@[simp] theorem State.emit_stalls (o : Out) : (s.emit o).stalls = s.stalls := rfl
@[simp] theorem State.emit_ptrs (o : Out) : (s.emit o).ptrs = s.ptrs := rfl
@[simp] theorem State.emit_refusals (o : Out) : (s.emit o).refusals = s.refusals := rfl
@[simp] theorem State.emit_refusalsLost (o : Out) : (s.emit o).refusalsLost = s.refusalsLost := rfl
@[simp] theorem State.emit_pwr (o : Out) : (s.emit o).pwr = s.pwr := rfl
@[simp] theorem State.emit_mem (o : Out) : (s.emit o).mem = s.mem := rfl
@[simp] theorem State.emit_mbx (o : Out) : (s.emit o).mbx = s.mbx := rfl
@[simp] theorem State.emit_pci (o : Out) : (s.emit o).pci = s.pci := rfl
@[simp] theorem State.emit_sc (o : Out) : (s.emit o).sc = s.sc := rfl
@[simp] theorem State.emit_cap (o : Out) : (s.emit o).cap = s.cap := rfl
@[simp] theorem State.emit_fuses (o : Out) : (s.emit o).fuses = s.fuses := rfl
@[simp] theorem State.emit_nor (o : Out) : (s.emit o).nor = s.nor := rfl
@[simp] theorem State.emit_life (o : Out) : (s.emit o).life = s.life := rfl
@[simp] theorem State.emit_adsel (o : Out) : (s.emit o).adsel = s.adsel := rfl
@[simp] theorem State.emit_strm (o : Out) : (s.emit o).strm = s.strm := rfl
@[simp] theorem State.emit_cam (o : Out) : (s.emit o).cam = s.cam := rfl
@[simp] theorem State.emit_dsi (o : Out) : (s.emit o).dsi = s.dsi := rfl
@[simp] theorem State.emit_i3c (o : Out) : (s.emit o).i3c = s.i3c := rfl
@[simp] theorem State.emit_auto (o : Out) : (s.emit o).auto = s.auto := rfl
@[simp] theorem State.emit_autoCur (o : Out) : (s.emit o).autoCur = s.autoCur := rfl
@[simp] theorem State.emit_pads (o : Out) : (s.emit o).pads = s.pads := rfl
@[simp] theorem State.emit_imu (o : Out) : (s.emit o).imu = s.imu := rfl
@[simp] theorem State.emit_fsync (o : Out) : (s.emit o).fsync = s.fsync := rfl
@[simp] theorem State.emit_spi (o : Out) : (s.emit o).spi = s.spi := rfl
@[simp] theorem State.emit_aud (o : Out) : (s.emit o).aud = s.aud := rfl
@[simp] theorem State.emit_hook (o : Out) : (s.emit o).hook = s.hook := rfl
@[simp] theorem State.emit_su (o : Out) : (s.emit o).su = s.su := rfl
@[simp] theorem State.emit_vox (o : Out) : (s.emit o).vox = s.vox := rfl
@[simp] theorem State.emit_aie (o : Out) : (s.emit o).aie = s.aie := rfl
@[simp] theorem State.emit_ply (o : Out) : (s.emit o).ply = s.ply := rfl
@[simp] theorem State.emit_wgt (o : Out) : (s.emit o).wgt = s.wgt := rfl
@[simp] theorem State.emit_tiles (o : Out) : (s.emit o).tiles = s.tiles := rfl
@[simp] theorem State.emit_imem (o : Out) : (s.emit o).imem = s.imem := rfl
@[simp] theorem State.emit_net (o : Out) : (s.emit o).net = s.net := rfl
@[simp] theorem State.emit_sch (o : Out) : (s.emit o).sch = s.sch := rfl
@[simp] theorem State.emit_rpt (o : Out) : (s.emit o).rpt = s.rpt := rfl
@[simp] theorem State.emit_link (o : Out) : (s.emit o).link = s.link := rfl
@[simp] theorem State.emit_rlog (o : Out) : (s.emit o).rlog = s.rlog := rfl
@[simp] theorem State.emit_dbg (o : Out) : (s.emit o).dbg = s.dbg := rfl

@[simp] theorem State.setDom_pending (d : Nat) (x : Dom) : (s.setDom d x).pending = s.pending := rfl
@[simp] theorem State.setDom_regs (d : Nat) (x : Dom) : (s.setDom d x).regs = s.regs := rfl
@[simp] theorem State.setDom_rwl (d : Nat) (x : Dom) : (s.setDom d x).rwl = s.rwl := rfl
@[simp] theorem State.setDom_resp (d : Nat) (x : Dom) : (s.setDom d x).resp = s.resp := rfl
@[simp] theorem State.setDom_out (d : Nat) (x : Dom) : (s.setDom d x).out = s.out := rfl
@[simp] theorem State.setDom_unitWait (d : Nat) (x : Dom) : (s.setDom d x).unitWait = s.unitWait := rfl
@[simp] theorem State.setDom_free (d : Nat) (x : Dom) : (s.setDom d x).free = s.free := rfl
@[simp] theorem State.setDom_holds (d : Nat) (x : Dom) : (s.setDom d x).holds = s.holds := rfl
@[simp] theorem State.setDom_stalls (d : Nat) (x : Dom) : (s.setDom d x).stalls = s.stalls := rfl
@[simp] theorem State.setDom_ptrs (d : Nat) (x : Dom) : (s.setDom d x).ptrs = s.ptrs := rfl
@[simp] theorem State.setDom_refusals (d : Nat) (x : Dom) : (s.setDom d x).refusals = s.refusals := rfl
@[simp] theorem State.setDom_refusalsLost (d : Nat) (x : Dom) : (s.setDom d x).refusalsLost = s.refusalsLost := rfl
@[simp] theorem State.setDom_mem (d : Nat) (x : Dom) : (s.setDom d x).mem = s.mem := rfl
@[simp] theorem State.setDom_mbx (d : Nat) (x : Dom) : (s.setDom d x).mbx = s.mbx := rfl
@[simp] theorem State.setDom_pci (d : Nat) (x : Dom) : (s.setDom d x).pci = s.pci := rfl
@[simp] theorem State.setDom_sc (d : Nat) (x : Dom) : (s.setDom d x).sc = s.sc := rfl
@[simp] theorem State.setDom_cap (d : Nat) (x : Dom) : (s.setDom d x).cap = s.cap := rfl
@[simp] theorem State.setDom_fuses (d : Nat) (x : Dom) : (s.setDom d x).fuses = s.fuses := rfl
@[simp] theorem State.setDom_nor (d : Nat) (x : Dom) : (s.setDom d x).nor = s.nor := rfl
@[simp] theorem State.setDom_life (d : Nat) (x : Dom) : (s.setDom d x).life = s.life := rfl
@[simp] theorem State.setDom_adsel (d : Nat) (x : Dom) : (s.setDom d x).adsel = s.adsel := rfl
@[simp] theorem State.setDom_strm (d : Nat) (x : Dom) : (s.setDom d x).strm = s.strm := rfl
@[simp] theorem State.setDom_cam (d : Nat) (x : Dom) : (s.setDom d x).cam = s.cam := rfl
@[simp] theorem State.setDom_dsi (d : Nat) (x : Dom) : (s.setDom d x).dsi = s.dsi := rfl
@[simp] theorem State.setDom_i3c (d : Nat) (x : Dom) : (s.setDom d x).i3c = s.i3c := rfl
@[simp] theorem State.setDom_auto (d : Nat) (x : Dom) : (s.setDom d x).auto = s.auto := rfl
@[simp] theorem State.setDom_autoCur (d : Nat) (x : Dom) : (s.setDom d x).autoCur = s.autoCur := rfl
@[simp] theorem State.setDom_pads (d : Nat) (x : Dom) : (s.setDom d x).pads = s.pads := rfl
@[simp] theorem State.setDom_imu (d : Nat) (x : Dom) : (s.setDom d x).imu = s.imu := rfl
@[simp] theorem State.setDom_fsync (d : Nat) (x : Dom) : (s.setDom d x).fsync = s.fsync := rfl
@[simp] theorem State.setDom_spi (d : Nat) (x : Dom) : (s.setDom d x).spi = s.spi := rfl
@[simp] theorem State.setDom_aud (d : Nat) (x : Dom) : (s.setDom d x).aud = s.aud := rfl
@[simp] theorem State.setDom_hook (d : Nat) (x : Dom) : (s.setDom d x).hook = s.hook := rfl
@[simp] theorem State.setDom_su (d : Nat) (x : Dom) : (s.setDom d x).su = s.su := rfl
@[simp] theorem State.setDom_vox (d : Nat) (x : Dom) : (s.setDom d x).vox = s.vox := rfl
@[simp] theorem State.setDom_aie (d : Nat) (x : Dom) : (s.setDom d x).aie = s.aie := rfl
@[simp] theorem State.setDom_ply (d : Nat) (x : Dom) : (s.setDom d x).ply = s.ply := rfl
@[simp] theorem State.setDom_wgt (d : Nat) (x : Dom) : (s.setDom d x).wgt = s.wgt := rfl
@[simp] theorem State.setDom_tiles (d : Nat) (x : Dom) : (s.setDom d x).tiles = s.tiles := rfl
@[simp] theorem State.setDom_imem (d : Nat) (x : Dom) : (s.setDom d x).imem = s.imem := rfl
@[simp] theorem State.setDom_net (d : Nat) (x : Dom) : (s.setDom d x).net = s.net := rfl
@[simp] theorem State.setDom_sch (d : Nat) (x : Dom) : (s.setDom d x).sch = s.sch := rfl
@[simp] theorem State.setDom_rpt (d : Nat) (x : Dom) : (s.setDom d x).rpt = s.rpt := rfl
@[simp] theorem State.setDom_link (d : Nat) (x : Dom) : (s.setDom d x).link = s.link := rfl
@[simp] theorem State.setDom_rlog (d : Nat) (x : Dom) : (s.setDom d x).rlog = s.rlog := rfl
@[simp] theorem State.setDom_dbg (d : Nat) (x : Dom) : (s.setDom d x).dbg = s.dbg := rfl

@[simp] theorem State.hold_pending (src who d : Nat) : (s.hold src who d).pending = s.pending := by
  unfold State.hold; split <;> rfl
@[simp] theorem State.hold_regs (src who d : Nat) : (s.hold src who d).regs = s.regs := by
  unfold State.hold; split <;> rfl
@[simp] theorem State.hold_rwl (src who d : Nat) : (s.hold src who d).rwl = s.rwl := by
  unfold State.hold; split <;> rfl
@[simp] theorem State.hold_resp (src who d : Nat) : (s.hold src who d).resp = s.resp := by
  unfold State.hold; split <;> rfl
@[simp] theorem State.hold_out (src who d : Nat) : (s.hold src who d).out = s.out := by
  unfold State.hold; split <;> rfl
@[simp] theorem State.hold_unitWait (src who d : Nat) : (s.hold src who d).unitWait = s.unitWait := by
  unfold State.hold; split <;> rfl
@[simp] theorem State.hold_free (src who d : Nat) : (s.hold src who d).free = s.free := by
  unfold State.hold; split <;> rfl
@[simp] theorem State.hold_stalls (src who d : Nat) : (s.hold src who d).stalls = s.stalls := by
  unfold State.hold; split <;> rfl
@[simp] theorem State.hold_ptrs (src who d : Nat) : (s.hold src who d).ptrs = s.ptrs := by
  unfold State.hold; split <;> rfl
@[simp] theorem State.hold_refusals (src who d : Nat) : (s.hold src who d).refusals = s.refusals := by
  unfold State.hold; split <;> rfl
@[simp] theorem State.hold_refusalsLost (src who d : Nat) : (s.hold src who d).refusalsLost = s.refusalsLost := by
  unfold State.hold; split <;> rfl
@[simp] theorem State.hold_pwr (src who d : Nat) : (s.hold src who d).pwr = s.pwr := by
  unfold State.hold; split <;> rfl
@[simp] theorem State.hold_mem (src who d : Nat) : (s.hold src who d).mem = s.mem := by
  unfold State.hold; split <;> rfl
@[simp] theorem State.hold_mbx (src who d : Nat) : (s.hold src who d).mbx = s.mbx := by
  unfold State.hold; split <;> rfl
@[simp] theorem State.hold_pci (src who d : Nat) : (s.hold src who d).pci = s.pci := by
  unfold State.hold; split <;> rfl
@[simp] theorem State.hold_sc (src who d : Nat) : (s.hold src who d).sc = s.sc := by
  unfold State.hold; split <;> rfl
@[simp] theorem State.hold_cap (src who d : Nat) : (s.hold src who d).cap = s.cap := by
  unfold State.hold; split <;> rfl
@[simp] theorem State.hold_fuses (src who d : Nat) : (s.hold src who d).fuses = s.fuses := by
  unfold State.hold; split <;> rfl
@[simp] theorem State.hold_nor (src who d : Nat) : (s.hold src who d).nor = s.nor := by
  unfold State.hold; split <;> rfl
@[simp] theorem State.hold_life (src who d : Nat) : (s.hold src who d).life = s.life := by
  unfold State.hold; split <;> rfl
@[simp] theorem State.hold_adsel (src who d : Nat) : (s.hold src who d).adsel = s.adsel := by
  unfold State.hold; split <;> rfl
@[simp] theorem State.hold_strm (src who d : Nat) : (s.hold src who d).strm = s.strm := by
  unfold State.hold; split <;> rfl
@[simp] theorem State.hold_cam (src who d : Nat) : (s.hold src who d).cam = s.cam := by
  unfold State.hold; split <;> rfl
@[simp] theorem State.hold_dsi (src who d : Nat) : (s.hold src who d).dsi = s.dsi := by
  unfold State.hold; split <;> rfl
@[simp] theorem State.hold_i3c (src who d : Nat) : (s.hold src who d).i3c = s.i3c := by
  unfold State.hold; split <;> rfl
@[simp] theorem State.hold_auto (src who d : Nat) : (s.hold src who d).auto = s.auto := by
  unfold State.hold; split <;> rfl
@[simp] theorem State.hold_autoCur (src who d : Nat) : (s.hold src who d).autoCur = s.autoCur := by
  unfold State.hold; split <;> rfl
@[simp] theorem State.hold_pads (src who d : Nat) : (s.hold src who d).pads = s.pads := by
  unfold State.hold; split <;> rfl
@[simp] theorem State.hold_imu (src who d : Nat) : (s.hold src who d).imu = s.imu := by
  unfold State.hold; split <;> rfl
@[simp] theorem State.hold_fsync (src who d : Nat) : (s.hold src who d).fsync = s.fsync := by
  unfold State.hold; split <;> rfl
@[simp] theorem State.hold_spi (src who d : Nat) : (s.hold src who d).spi = s.spi := by
  unfold State.hold; split <;> rfl
@[simp] theorem State.hold_aud (src who d : Nat) : (s.hold src who d).aud = s.aud := by
  unfold State.hold; split <;> rfl
@[simp] theorem State.hold_hook (src who d : Nat) : (s.hold src who d).hook = s.hook := by
  unfold State.hold; split <;> rfl
@[simp] theorem State.hold_su (src who d : Nat) : (s.hold src who d).su = s.su := by
  unfold State.hold; split <;> rfl
@[simp] theorem State.hold_vox (src who d : Nat) : (s.hold src who d).vox = s.vox := by
  unfold State.hold; split <;> rfl
@[simp] theorem State.hold_aie (src who d : Nat) : (s.hold src who d).aie = s.aie := by
  unfold State.hold; split <;> rfl
@[simp] theorem State.hold_ply (src who d : Nat) : (s.hold src who d).ply = s.ply := by
  unfold State.hold; split <;> rfl
@[simp] theorem State.hold_wgt (src who d : Nat) : (s.hold src who d).wgt = s.wgt := by
  unfold State.hold; split <;> rfl
@[simp] theorem State.hold_tiles (src who d : Nat) : (s.hold src who d).tiles = s.tiles := by
  unfold State.hold; split <;> rfl
@[simp] theorem State.hold_imem (src who d : Nat) : (s.hold src who d).imem = s.imem := by
  unfold State.hold; split <;> rfl
@[simp] theorem State.hold_net (src who d : Nat) : (s.hold src who d).net = s.net := by
  unfold State.hold; split <;> rfl
@[simp] theorem State.hold_sch (src who d : Nat) : (s.hold src who d).sch = s.sch := by
  unfold State.hold; split <;> rfl
@[simp] theorem State.hold_rpt (src who d : Nat) : (s.hold src who d).rpt = s.rpt := by
  unfold State.hold; split <;> rfl
@[simp] theorem State.hold_link (src who d : Nat) : (s.hold src who d).link = s.link := by
  unfold State.hold; split <;> rfl
@[simp] theorem State.hold_rlog (src who d : Nat) : (s.hold src who d).rlog = s.rlog := by
  unfold State.hold; split <;> rfl
@[simp] theorem State.hold_dbg (src who d : Nat) : (s.hold src who d).dbg = s.dbg := by
  unfold State.hold; split <;> rfl

@[simp] theorem State.unhold_pending (src who d : Nat) : (s.unhold src who d).pending = s.pending := rfl
@[simp] theorem State.unhold_regs (src who d : Nat) : (s.unhold src who d).regs = s.regs := rfl
@[simp] theorem State.unhold_rwl (src who d : Nat) : (s.unhold src who d).rwl = s.rwl := rfl
@[simp] theorem State.unhold_resp (src who d : Nat) : (s.unhold src who d).resp = s.resp := rfl
@[simp] theorem State.unhold_out (src who d : Nat) : (s.unhold src who d).out = s.out := rfl
@[simp] theorem State.unhold_unitWait (src who d : Nat) : (s.unhold src who d).unitWait = s.unitWait := rfl
@[simp] theorem State.unhold_free (src who d : Nat) : (s.unhold src who d).free = s.free := rfl
@[simp] theorem State.unhold_stalls (src who d : Nat) : (s.unhold src who d).stalls = s.stalls := rfl
@[simp] theorem State.unhold_ptrs (src who d : Nat) : (s.unhold src who d).ptrs = s.ptrs := rfl
@[simp] theorem State.unhold_refusals (src who d : Nat) : (s.unhold src who d).refusals = s.refusals := rfl
@[simp] theorem State.unhold_refusalsLost (src who d : Nat) : (s.unhold src who d).refusalsLost = s.refusalsLost := rfl
@[simp] theorem State.unhold_pwr (src who d : Nat) : (s.unhold src who d).pwr = s.pwr := rfl
@[simp] theorem State.unhold_mem (src who d : Nat) : (s.unhold src who d).mem = s.mem := rfl
@[simp] theorem State.unhold_mbx (src who d : Nat) : (s.unhold src who d).mbx = s.mbx := rfl
@[simp] theorem State.unhold_pci (src who d : Nat) : (s.unhold src who d).pci = s.pci := rfl
@[simp] theorem State.unhold_sc (src who d : Nat) : (s.unhold src who d).sc = s.sc := rfl
@[simp] theorem State.unhold_cap (src who d : Nat) : (s.unhold src who d).cap = s.cap := rfl
@[simp] theorem State.unhold_fuses (src who d : Nat) : (s.unhold src who d).fuses = s.fuses := rfl
@[simp] theorem State.unhold_nor (src who d : Nat) : (s.unhold src who d).nor = s.nor := rfl
@[simp] theorem State.unhold_life (src who d : Nat) : (s.unhold src who d).life = s.life := rfl
@[simp] theorem State.unhold_adsel (src who d : Nat) : (s.unhold src who d).adsel = s.adsel := rfl
@[simp] theorem State.unhold_strm (src who d : Nat) : (s.unhold src who d).strm = s.strm := rfl
@[simp] theorem State.unhold_cam (src who d : Nat) : (s.unhold src who d).cam = s.cam := rfl
@[simp] theorem State.unhold_dsi (src who d : Nat) : (s.unhold src who d).dsi = s.dsi := rfl
@[simp] theorem State.unhold_i3c (src who d : Nat) : (s.unhold src who d).i3c = s.i3c := rfl
@[simp] theorem State.unhold_auto (src who d : Nat) : (s.unhold src who d).auto = s.auto := rfl
@[simp] theorem State.unhold_autoCur (src who d : Nat) : (s.unhold src who d).autoCur = s.autoCur := rfl
@[simp] theorem State.unhold_pads (src who d : Nat) : (s.unhold src who d).pads = s.pads := rfl
@[simp] theorem State.unhold_imu (src who d : Nat) : (s.unhold src who d).imu = s.imu := rfl
@[simp] theorem State.unhold_fsync (src who d : Nat) : (s.unhold src who d).fsync = s.fsync := rfl
@[simp] theorem State.unhold_spi (src who d : Nat) : (s.unhold src who d).spi = s.spi := rfl
@[simp] theorem State.unhold_aud (src who d : Nat) : (s.unhold src who d).aud = s.aud := rfl
@[simp] theorem State.unhold_hook (src who d : Nat) : (s.unhold src who d).hook = s.hook := rfl
@[simp] theorem State.unhold_su (src who d : Nat) : (s.unhold src who d).su = s.su := rfl
@[simp] theorem State.unhold_vox (src who d : Nat) : (s.unhold src who d).vox = s.vox := rfl
@[simp] theorem State.unhold_aie (src who d : Nat) : (s.unhold src who d).aie = s.aie := rfl
@[simp] theorem State.unhold_ply (src who d : Nat) : (s.unhold src who d).ply = s.ply := rfl
@[simp] theorem State.unhold_wgt (src who d : Nat) : (s.unhold src who d).wgt = s.wgt := rfl
@[simp] theorem State.unhold_tiles (src who d : Nat) : (s.unhold src who d).tiles = s.tiles := rfl
@[simp] theorem State.unhold_imem (src who d : Nat) : (s.unhold src who d).imem = s.imem := rfl
@[simp] theorem State.unhold_net (src who d : Nat) : (s.unhold src who d).net = s.net := rfl
@[simp] theorem State.unhold_sch (src who d : Nat) : (s.unhold src who d).sch = s.sch := rfl
@[simp] theorem State.unhold_rpt (src who d : Nat) : (s.unhold src who d).rpt = s.rpt := rfl
@[simp] theorem State.unhold_link (src who d : Nat) : (s.unhold src who d).link = s.link := rfl
@[simp] theorem State.unhold_rlog (src who d : Nat) : (s.unhold src who d).rlog = s.rlog := rfl
@[simp] theorem State.unhold_dbg (src who d : Nat) : (s.unhold src who d).dbg = s.dbg := rfl

@[simp] theorem State.setTile_pending (t : Nat) (x : Tile) : (s.setTile t x).pending = s.pending := rfl
@[simp] theorem State.setTile_regs (t : Nat) (x : Tile) : (s.setTile t x).regs = s.regs := rfl
@[simp] theorem State.setTile_rwl (t : Nat) (x : Tile) : (s.setTile t x).rwl = s.rwl := rfl
@[simp] theorem State.setTile_resp (t : Nat) (x : Tile) : (s.setTile t x).resp = s.resp := rfl
@[simp] theorem State.setTile_out (t : Nat) (x : Tile) : (s.setTile t x).out = s.out := rfl
@[simp] theorem State.setTile_unitWait (t : Nat) (x : Tile) : (s.setTile t x).unitWait = s.unitWait := rfl
@[simp] theorem State.setTile_free (t : Nat) (x : Tile) : (s.setTile t x).free = s.free := rfl
@[simp] theorem State.setTile_holds (t : Nat) (x : Tile) : (s.setTile t x).holds = s.holds := rfl
@[simp] theorem State.setTile_stalls (t : Nat) (x : Tile) : (s.setTile t x).stalls = s.stalls := rfl
@[simp] theorem State.setTile_ptrs (t : Nat) (x : Tile) : (s.setTile t x).ptrs = s.ptrs := rfl
@[simp] theorem State.setTile_refusals (t : Nat) (x : Tile) : (s.setTile t x).refusals = s.refusals := rfl
@[simp] theorem State.setTile_refusalsLost (t : Nat) (x : Tile) : (s.setTile t x).refusalsLost = s.refusalsLost := rfl
@[simp] theorem State.setTile_pwr (t : Nat) (x : Tile) : (s.setTile t x).pwr = s.pwr := rfl
@[simp] theorem State.setTile_mem (t : Nat) (x : Tile) : (s.setTile t x).mem = s.mem := rfl
@[simp] theorem State.setTile_mbx (t : Nat) (x : Tile) : (s.setTile t x).mbx = s.mbx := rfl
@[simp] theorem State.setTile_pci (t : Nat) (x : Tile) : (s.setTile t x).pci = s.pci := rfl
@[simp] theorem State.setTile_sc (t : Nat) (x : Tile) : (s.setTile t x).sc = s.sc := rfl
@[simp] theorem State.setTile_cap (t : Nat) (x : Tile) : (s.setTile t x).cap = s.cap := rfl
@[simp] theorem State.setTile_fuses (t : Nat) (x : Tile) : (s.setTile t x).fuses = s.fuses := rfl
@[simp] theorem State.setTile_nor (t : Nat) (x : Tile) : (s.setTile t x).nor = s.nor := rfl
@[simp] theorem State.setTile_life (t : Nat) (x : Tile) : (s.setTile t x).life = s.life := rfl
@[simp] theorem State.setTile_adsel (t : Nat) (x : Tile) : (s.setTile t x).adsel = s.adsel := rfl
@[simp] theorem State.setTile_strm (t : Nat) (x : Tile) : (s.setTile t x).strm = s.strm := rfl
@[simp] theorem State.setTile_cam (t : Nat) (x : Tile) : (s.setTile t x).cam = s.cam := rfl
@[simp] theorem State.setTile_dsi (t : Nat) (x : Tile) : (s.setTile t x).dsi = s.dsi := rfl
@[simp] theorem State.setTile_i3c (t : Nat) (x : Tile) : (s.setTile t x).i3c = s.i3c := rfl
@[simp] theorem State.setTile_auto (t : Nat) (x : Tile) : (s.setTile t x).auto = s.auto := rfl
@[simp] theorem State.setTile_autoCur (t : Nat) (x : Tile) : (s.setTile t x).autoCur = s.autoCur := rfl
@[simp] theorem State.setTile_pads (t : Nat) (x : Tile) : (s.setTile t x).pads = s.pads := rfl
@[simp] theorem State.setTile_imu (t : Nat) (x : Tile) : (s.setTile t x).imu = s.imu := rfl
@[simp] theorem State.setTile_fsync (t : Nat) (x : Tile) : (s.setTile t x).fsync = s.fsync := rfl
@[simp] theorem State.setTile_spi (t : Nat) (x : Tile) : (s.setTile t x).spi = s.spi := rfl
@[simp] theorem State.setTile_aud (t : Nat) (x : Tile) : (s.setTile t x).aud = s.aud := rfl
@[simp] theorem State.setTile_hook (t : Nat) (x : Tile) : (s.setTile t x).hook = s.hook := rfl
@[simp] theorem State.setTile_su (t : Nat) (x : Tile) : (s.setTile t x).su = s.su := rfl
@[simp] theorem State.setTile_vox (t : Nat) (x : Tile) : (s.setTile t x).vox = s.vox := rfl
@[simp] theorem State.setTile_aie (t : Nat) (x : Tile) : (s.setTile t x).aie = s.aie := rfl
@[simp] theorem State.setTile_ply (t : Nat) (x : Tile) : (s.setTile t x).ply = s.ply := rfl
@[simp] theorem State.setTile_wgt (t : Nat) (x : Tile) : (s.setTile t x).wgt = s.wgt := rfl
@[simp] theorem State.setTile_imem (t : Nat) (x : Tile) : (s.setTile t x).imem = s.imem := rfl
@[simp] theorem State.setTile_net (t : Nat) (x : Tile) : (s.setTile t x).net = s.net := rfl
@[simp] theorem State.setTile_sch (t : Nat) (x : Tile) : (s.setTile t x).sch = s.sch := rfl
@[simp] theorem State.setTile_rpt (t : Nat) (x : Tile) : (s.setTile t x).rpt = s.rpt := rfl
@[simp] theorem State.setTile_link (t : Nat) (x : Tile) : (s.setTile t x).link = s.link := rfl
@[simp] theorem State.setTile_rlog (t : Nat) (x : Tile) : (s.setTile t x).rlog = s.rlog := rfl
@[simp] theorem State.setTile_dbg (t : Nat) (x : Tile) : (s.setTile t x).dbg = s.dbg := rfl

@[simp] theorem State.setStream_pending (st : Nat) (x : Strm) : (s.setStream st x).pending = s.pending := rfl
@[simp] theorem State.setStream_regs (st : Nat) (x : Strm) : (s.setStream st x).regs = s.regs := rfl
@[simp] theorem State.setStream_rwl (st : Nat) (x : Strm) : (s.setStream st x).rwl = s.rwl := rfl
@[simp] theorem State.setStream_resp (st : Nat) (x : Strm) : (s.setStream st x).resp = s.resp := rfl
@[simp] theorem State.setStream_out (st : Nat) (x : Strm) : (s.setStream st x).out = s.out := rfl
@[simp] theorem State.setStream_unitWait (st : Nat) (x : Strm) : (s.setStream st x).unitWait = s.unitWait := rfl
@[simp] theorem State.setStream_free (st : Nat) (x : Strm) : (s.setStream st x).free = s.free := rfl
@[simp] theorem State.setStream_holds (st : Nat) (x : Strm) : (s.setStream st x).holds = s.holds := rfl
@[simp] theorem State.setStream_stalls (st : Nat) (x : Strm) : (s.setStream st x).stalls = s.stalls := rfl
@[simp] theorem State.setStream_ptrs (st : Nat) (x : Strm) : (s.setStream st x).ptrs = s.ptrs := rfl
@[simp] theorem State.setStream_refusals (st : Nat) (x : Strm) : (s.setStream st x).refusals = s.refusals := rfl
@[simp] theorem State.setStream_refusalsLost (st : Nat) (x : Strm) : (s.setStream st x).refusalsLost = s.refusalsLost := rfl
@[simp] theorem State.setStream_pwr (st : Nat) (x : Strm) : (s.setStream st x).pwr = s.pwr := rfl
@[simp] theorem State.setStream_mem (st : Nat) (x : Strm) : (s.setStream st x).mem = s.mem := rfl
@[simp] theorem State.setStream_mbx (st : Nat) (x : Strm) : (s.setStream st x).mbx = s.mbx := rfl
@[simp] theorem State.setStream_pci (st : Nat) (x : Strm) : (s.setStream st x).pci = s.pci := rfl
@[simp] theorem State.setStream_sc (st : Nat) (x : Strm) : (s.setStream st x).sc = s.sc := rfl
@[simp] theorem State.setStream_cap (st : Nat) (x : Strm) : (s.setStream st x).cap = s.cap := rfl
@[simp] theorem State.setStream_fuses (st : Nat) (x : Strm) : (s.setStream st x).fuses = s.fuses := rfl
@[simp] theorem State.setStream_nor (st : Nat) (x : Strm) : (s.setStream st x).nor = s.nor := rfl
@[simp] theorem State.setStream_life (st : Nat) (x : Strm) : (s.setStream st x).life = s.life := rfl
@[simp] theorem State.setStream_adsel (st : Nat) (x : Strm) : (s.setStream st x).adsel = s.adsel := rfl
@[simp] theorem State.setStream_cam (st : Nat) (x : Strm) : (s.setStream st x).cam = s.cam := rfl
@[simp] theorem State.setStream_dsi (st : Nat) (x : Strm) : (s.setStream st x).dsi = s.dsi := rfl
@[simp] theorem State.setStream_i3c (st : Nat) (x : Strm) : (s.setStream st x).i3c = s.i3c := rfl
@[simp] theorem State.setStream_auto (st : Nat) (x : Strm) : (s.setStream st x).auto = s.auto := rfl
@[simp] theorem State.setStream_autoCur (st : Nat) (x : Strm) : (s.setStream st x).autoCur = s.autoCur := rfl
@[simp] theorem State.setStream_pads (st : Nat) (x : Strm) : (s.setStream st x).pads = s.pads := rfl
@[simp] theorem State.setStream_imu (st : Nat) (x : Strm) : (s.setStream st x).imu = s.imu := rfl
@[simp] theorem State.setStream_fsync (st : Nat) (x : Strm) : (s.setStream st x).fsync = s.fsync := rfl
@[simp] theorem State.setStream_spi (st : Nat) (x : Strm) : (s.setStream st x).spi = s.spi := rfl
@[simp] theorem State.setStream_aud (st : Nat) (x : Strm) : (s.setStream st x).aud = s.aud := rfl
@[simp] theorem State.setStream_hook (st : Nat) (x : Strm) : (s.setStream st x).hook = s.hook := rfl
@[simp] theorem State.setStream_su (st : Nat) (x : Strm) : (s.setStream st x).su = s.su := rfl
@[simp] theorem State.setStream_vox (st : Nat) (x : Strm) : (s.setStream st x).vox = s.vox := rfl
@[simp] theorem State.setStream_aie (st : Nat) (x : Strm) : (s.setStream st x).aie = s.aie := rfl
@[simp] theorem State.setStream_ply (st : Nat) (x : Strm) : (s.setStream st x).ply = s.ply := rfl
@[simp] theorem State.setStream_wgt (st : Nat) (x : Strm) : (s.setStream st x).wgt = s.wgt := rfl
@[simp] theorem State.setStream_tiles (st : Nat) (x : Strm) : (s.setStream st x).tiles = s.tiles := rfl
@[simp] theorem State.setStream_imem (st : Nat) (x : Strm) : (s.setStream st x).imem = s.imem := rfl
@[simp] theorem State.setStream_net (st : Nat) (x : Strm) : (s.setStream st x).net = s.net := rfl
@[simp] theorem State.setStream_sch (st : Nat) (x : Strm) : (s.setStream st x).sch = s.sch := rfl
@[simp] theorem State.setStream_rpt (st : Nat) (x : Strm) : (s.setStream st x).rpt = s.rpt := rfl
@[simp] theorem State.setStream_link (st : Nat) (x : Strm) : (s.setStream st x).link = s.link := rfl
@[simp] theorem State.setStream_rlog (st : Nat) (x : Strm) : (s.setStream st x).rlog = s.rlog := rfl
@[simp] theorem State.setStream_dbg (st : Nat) (x : Strm) : (s.setStream st x).dbg = s.dbg := rfl

@[simp] theorem State.setJob_pending (k : Nat) (j : Job) : (s.setJob k j).pending = s.pending := rfl
@[simp] theorem State.setJob_regs (k : Nat) (j : Job) : (s.setJob k j).regs = s.regs := rfl
@[simp] theorem State.setJob_rwl (k : Nat) (j : Job) : (s.setJob k j).rwl = s.rwl := rfl
@[simp] theorem State.setJob_resp (k : Nat) (j : Job) : (s.setJob k j).resp = s.resp := rfl
@[simp] theorem State.setJob_out (k : Nat) (j : Job) : (s.setJob k j).out = s.out := rfl
@[simp] theorem State.setJob_unitWait (k : Nat) (j : Job) : (s.setJob k j).unitWait = s.unitWait := rfl
@[simp] theorem State.setJob_free (k : Nat) (j : Job) : (s.setJob k j).free = s.free := rfl
@[simp] theorem State.setJob_holds (k : Nat) (j : Job) : (s.setJob k j).holds = s.holds := rfl
@[simp] theorem State.setJob_stalls (k : Nat) (j : Job) : (s.setJob k j).stalls = s.stalls := rfl
@[simp] theorem State.setJob_ptrs (k : Nat) (j : Job) : (s.setJob k j).ptrs = s.ptrs := rfl
@[simp] theorem State.setJob_refusals (k : Nat) (j : Job) : (s.setJob k j).refusals = s.refusals := rfl
@[simp] theorem State.setJob_refusalsLost (k : Nat) (j : Job) : (s.setJob k j).refusalsLost = s.refusalsLost := rfl
@[simp] theorem State.setJob_pwr (k : Nat) (j : Job) : (s.setJob k j).pwr = s.pwr := rfl
@[simp] theorem State.setJob_mem (k : Nat) (j : Job) : (s.setJob k j).mem = s.mem := rfl
@[simp] theorem State.setJob_mbx (k : Nat) (j : Job) : (s.setJob k j).mbx = s.mbx := rfl
@[simp] theorem State.setJob_pci (k : Nat) (j : Job) : (s.setJob k j).pci = s.pci := rfl
@[simp] theorem State.setJob_sc (k : Nat) (j : Job) : (s.setJob k j).sc = s.sc := rfl
@[simp] theorem State.setJob_cap (k : Nat) (j : Job) : (s.setJob k j).cap = s.cap := rfl
@[simp] theorem State.setJob_fuses (k : Nat) (j : Job) : (s.setJob k j).fuses = s.fuses := rfl
@[simp] theorem State.setJob_nor (k : Nat) (j : Job) : (s.setJob k j).nor = s.nor := rfl
@[simp] theorem State.setJob_life (k : Nat) (j : Job) : (s.setJob k j).life = s.life := rfl
@[simp] theorem State.setJob_adsel (k : Nat) (j : Job) : (s.setJob k j).adsel = s.adsel := rfl
@[simp] theorem State.setJob_strm (k : Nat) (j : Job) : (s.setJob k j).strm = s.strm := rfl
@[simp] theorem State.setJob_cam (k : Nat) (j : Job) : (s.setJob k j).cam = s.cam := rfl
@[simp] theorem State.setJob_dsi (k : Nat) (j : Job) : (s.setJob k j).dsi = s.dsi := rfl
@[simp] theorem State.setJob_i3c (k : Nat) (j : Job) : (s.setJob k j).i3c = s.i3c := rfl
@[simp] theorem State.setJob_auto (k : Nat) (j : Job) : (s.setJob k j).auto = s.auto := rfl
@[simp] theorem State.setJob_autoCur (k : Nat) (j : Job) : (s.setJob k j).autoCur = s.autoCur := rfl
@[simp] theorem State.setJob_pads (k : Nat) (j : Job) : (s.setJob k j).pads = s.pads := rfl
@[simp] theorem State.setJob_imu (k : Nat) (j : Job) : (s.setJob k j).imu = s.imu := rfl
@[simp] theorem State.setJob_fsync (k : Nat) (j : Job) : (s.setJob k j).fsync = s.fsync := rfl
@[simp] theorem State.setJob_spi (k : Nat) (j : Job) : (s.setJob k j).spi = s.spi := rfl
@[simp] theorem State.setJob_aud (k : Nat) (j : Job) : (s.setJob k j).aud = s.aud := rfl
@[simp] theorem State.setJob_hook (k : Nat) (j : Job) : (s.setJob k j).hook = s.hook := rfl
@[simp] theorem State.setJob_su (k : Nat) (j : Job) : (s.setJob k j).su = s.su := rfl
@[simp] theorem State.setJob_vox (k : Nat) (j : Job) : (s.setJob k j).vox = s.vox := rfl
@[simp] theorem State.setJob_aie (k : Nat) (j : Job) : (s.setJob k j).aie = s.aie := rfl
@[simp] theorem State.setJob_ply (k : Nat) (j : Job) : (s.setJob k j).ply = s.ply := rfl
@[simp] theorem State.setJob_wgt (k : Nat) (j : Job) : (s.setJob k j).wgt = s.wgt := rfl
@[simp] theorem State.setJob_tiles (k : Nat) (j : Job) : (s.setJob k j).tiles = s.tiles := rfl
@[simp] theorem State.setJob_imem (k : Nat) (j : Job) : (s.setJob k j).imem = s.imem := rfl
@[simp] theorem State.setJob_net (k : Nat) (j : Job) : (s.setJob k j).net = s.net := rfl
@[simp] theorem State.setJob_rpt (k : Nat) (j : Job) : (s.setJob k j).rpt = s.rpt := rfl
@[simp] theorem State.setJob_link (k : Nat) (j : Job) : (s.setJob k j).link = s.link := rfl
@[simp] theorem State.setJob_rlog (k : Nat) (j : Job) : (s.setJob k j).rlog = s.rlog := rfl
@[simp] theorem State.setJob_dbg (k : Nat) (j : Job) : (s.setJob k j).dbg = s.dbg := rfl

@[simp] theorem State.setRing_pending (r : Nat) (x : Ring) : (s.setRing r x).pending = s.pending := rfl
@[simp] theorem State.setRing_regs (r : Nat) (x : Ring) : (s.setRing r x).regs = s.regs := rfl
@[simp] theorem State.setRing_rwl (r : Nat) (x : Ring) : (s.setRing r x).rwl = s.rwl := rfl
@[simp] theorem State.setRing_resp (r : Nat) (x : Ring) : (s.setRing r x).resp = s.resp := rfl
@[simp] theorem State.setRing_out (r : Nat) (x : Ring) : (s.setRing r x).out = s.out := rfl
@[simp] theorem State.setRing_unitWait (r : Nat) (x : Ring) : (s.setRing r x).unitWait = s.unitWait := rfl
@[simp] theorem State.setRing_free (r : Nat) (x : Ring) : (s.setRing r x).free = s.free := rfl
@[simp] theorem State.setRing_holds (r : Nat) (x : Ring) : (s.setRing r x).holds = s.holds := rfl
@[simp] theorem State.setRing_stalls (r : Nat) (x : Ring) : (s.setRing r x).stalls = s.stalls := rfl
@[simp] theorem State.setRing_ptrs (r : Nat) (x : Ring) : (s.setRing r x).ptrs = s.ptrs := rfl
@[simp] theorem State.setRing_refusals (r : Nat) (x : Ring) : (s.setRing r x).refusals = s.refusals := rfl
@[simp] theorem State.setRing_refusalsLost (r : Nat) (x : Ring) : (s.setRing r x).refusalsLost = s.refusalsLost := rfl
@[simp] theorem State.setRing_pwr (r : Nat) (x : Ring) : (s.setRing r x).pwr = s.pwr := rfl
@[simp] theorem State.setRing_mem (r : Nat) (x : Ring) : (s.setRing r x).mem = s.mem := rfl
@[simp] theorem State.setRing_mbx (r : Nat) (x : Ring) : (s.setRing r x).mbx = s.mbx := rfl
@[simp] theorem State.setRing_pci (r : Nat) (x : Ring) : (s.setRing r x).pci = s.pci := rfl
@[simp] theorem State.setRing_sc (r : Nat) (x : Ring) : (s.setRing r x).sc = s.sc := rfl
@[simp] theorem State.setRing_cap (r : Nat) (x : Ring) : (s.setRing r x).cap = s.cap := rfl
@[simp] theorem State.setRing_fuses (r : Nat) (x : Ring) : (s.setRing r x).fuses = s.fuses := rfl
@[simp] theorem State.setRing_nor (r : Nat) (x : Ring) : (s.setRing r x).nor = s.nor := rfl
@[simp] theorem State.setRing_life (r : Nat) (x : Ring) : (s.setRing r x).life = s.life := rfl
@[simp] theorem State.setRing_adsel (r : Nat) (x : Ring) : (s.setRing r x).adsel = s.adsel := rfl
@[simp] theorem State.setRing_strm (r : Nat) (x : Ring) : (s.setRing r x).strm = s.strm := rfl
@[simp] theorem State.setRing_cam (r : Nat) (x : Ring) : (s.setRing r x).cam = s.cam := rfl
@[simp] theorem State.setRing_dsi (r : Nat) (x : Ring) : (s.setRing r x).dsi = s.dsi := rfl
@[simp] theorem State.setRing_i3c (r : Nat) (x : Ring) : (s.setRing r x).i3c = s.i3c := rfl
@[simp] theorem State.setRing_auto (r : Nat) (x : Ring) : (s.setRing r x).auto = s.auto := rfl
@[simp] theorem State.setRing_autoCur (r : Nat) (x : Ring) : (s.setRing r x).autoCur = s.autoCur := rfl
@[simp] theorem State.setRing_pads (r : Nat) (x : Ring) : (s.setRing r x).pads = s.pads := rfl
@[simp] theorem State.setRing_imu (r : Nat) (x : Ring) : (s.setRing r x).imu = s.imu := rfl
@[simp] theorem State.setRing_fsync (r : Nat) (x : Ring) : (s.setRing r x).fsync = s.fsync := rfl
@[simp] theorem State.setRing_spi (r : Nat) (x : Ring) : (s.setRing r x).spi = s.spi := rfl
@[simp] theorem State.setRing_aud (r : Nat) (x : Ring) : (s.setRing r x).aud = s.aud := rfl
@[simp] theorem State.setRing_hook (r : Nat) (x : Ring) : (s.setRing r x).hook = s.hook := rfl
@[simp] theorem State.setRing_su (r : Nat) (x : Ring) : (s.setRing r x).su = s.su := rfl
@[simp] theorem State.setRing_vox (r : Nat) (x : Ring) : (s.setRing r x).vox = s.vox := rfl
@[simp] theorem State.setRing_aie (r : Nat) (x : Ring) : (s.setRing r x).aie = s.aie := rfl
@[simp] theorem State.setRing_ply (r : Nat) (x : Ring) : (s.setRing r x).ply = s.ply := rfl
@[simp] theorem State.setRing_wgt (r : Nat) (x : Ring) : (s.setRing r x).wgt = s.wgt := rfl
@[simp] theorem State.setRing_tiles (r : Nat) (x : Ring) : (s.setRing r x).tiles = s.tiles := rfl
@[simp] theorem State.setRing_imem (r : Nat) (x : Ring) : (s.setRing r x).imem = s.imem := rfl
@[simp] theorem State.setRing_net (r : Nat) (x : Ring) : (s.setRing r x).net = s.net := rfl
@[simp] theorem State.setRing_sch (r : Nat) (x : Ring) : (s.setRing r x).sch = s.sch := rfl
@[simp] theorem State.setRing_rpt (r : Nat) (x : Ring) : (s.setRing r x).rpt = s.rpt := rfl
@[simp] theorem State.setRing_link (r : Nat) (x : Ring) : (s.setRing r x).link = s.link := rfl
@[simp] theorem State.setRing_dbg (r : Nat) (x : Ring) : (s.setRing r x).dbg = s.dbg := rfl

@[simp] theorem State.setHook_pending (e : Nat) (x : Hook) : (s.setHook e x).pending = s.pending := rfl
@[simp] theorem State.setHook_regs (e : Nat) (x : Hook) : (s.setHook e x).regs = s.regs := rfl
@[simp] theorem State.setHook_rwl (e : Nat) (x : Hook) : (s.setHook e x).rwl = s.rwl := rfl
@[simp] theorem State.setHook_resp (e : Nat) (x : Hook) : (s.setHook e x).resp = s.resp := rfl
@[simp] theorem State.setHook_out (e : Nat) (x : Hook) : (s.setHook e x).out = s.out := rfl
@[simp] theorem State.setHook_unitWait (e : Nat) (x : Hook) : (s.setHook e x).unitWait = s.unitWait := rfl
@[simp] theorem State.setHook_free (e : Nat) (x : Hook) : (s.setHook e x).free = s.free := rfl
@[simp] theorem State.setHook_holds (e : Nat) (x : Hook) : (s.setHook e x).holds = s.holds := rfl
@[simp] theorem State.setHook_stalls (e : Nat) (x : Hook) : (s.setHook e x).stalls = s.stalls := rfl
@[simp] theorem State.setHook_ptrs (e : Nat) (x : Hook) : (s.setHook e x).ptrs = s.ptrs := rfl
@[simp] theorem State.setHook_refusals (e : Nat) (x : Hook) : (s.setHook e x).refusals = s.refusals := rfl
@[simp] theorem State.setHook_refusalsLost (e : Nat) (x : Hook) : (s.setHook e x).refusalsLost = s.refusalsLost := rfl
@[simp] theorem State.setHook_pwr (e : Nat) (x : Hook) : (s.setHook e x).pwr = s.pwr := rfl
@[simp] theorem State.setHook_mem (e : Nat) (x : Hook) : (s.setHook e x).mem = s.mem := rfl
@[simp] theorem State.setHook_mbx (e : Nat) (x : Hook) : (s.setHook e x).mbx = s.mbx := rfl
@[simp] theorem State.setHook_pci (e : Nat) (x : Hook) : (s.setHook e x).pci = s.pci := rfl
@[simp] theorem State.setHook_sc (e : Nat) (x : Hook) : (s.setHook e x).sc = s.sc := rfl
@[simp] theorem State.setHook_cap (e : Nat) (x : Hook) : (s.setHook e x).cap = s.cap := rfl
@[simp] theorem State.setHook_fuses (e : Nat) (x : Hook) : (s.setHook e x).fuses = s.fuses := rfl
@[simp] theorem State.setHook_nor (e : Nat) (x : Hook) : (s.setHook e x).nor = s.nor := rfl
@[simp] theorem State.setHook_life (e : Nat) (x : Hook) : (s.setHook e x).life = s.life := rfl
@[simp] theorem State.setHook_adsel (e : Nat) (x : Hook) : (s.setHook e x).adsel = s.adsel := rfl
@[simp] theorem State.setHook_strm (e : Nat) (x : Hook) : (s.setHook e x).strm = s.strm := rfl
@[simp] theorem State.setHook_cam (e : Nat) (x : Hook) : (s.setHook e x).cam = s.cam := rfl
@[simp] theorem State.setHook_dsi (e : Nat) (x : Hook) : (s.setHook e x).dsi = s.dsi := rfl
@[simp] theorem State.setHook_i3c (e : Nat) (x : Hook) : (s.setHook e x).i3c = s.i3c := rfl
@[simp] theorem State.setHook_auto (e : Nat) (x : Hook) : (s.setHook e x).auto = s.auto := rfl
@[simp] theorem State.setHook_autoCur (e : Nat) (x : Hook) : (s.setHook e x).autoCur = s.autoCur := rfl
@[simp] theorem State.setHook_pads (e : Nat) (x : Hook) : (s.setHook e x).pads = s.pads := rfl
@[simp] theorem State.setHook_imu (e : Nat) (x : Hook) : (s.setHook e x).imu = s.imu := rfl
@[simp] theorem State.setHook_fsync (e : Nat) (x : Hook) : (s.setHook e x).fsync = s.fsync := rfl
@[simp] theorem State.setHook_spi (e : Nat) (x : Hook) : (s.setHook e x).spi = s.spi := rfl
@[simp] theorem State.setHook_aud (e : Nat) (x : Hook) : (s.setHook e x).aud = s.aud := rfl
@[simp] theorem State.setHook_su (e : Nat) (x : Hook) : (s.setHook e x).su = s.su := rfl
@[simp] theorem State.setHook_vox (e : Nat) (x : Hook) : (s.setHook e x).vox = s.vox := rfl
@[simp] theorem State.setHook_aie (e : Nat) (x : Hook) : (s.setHook e x).aie = s.aie := rfl
@[simp] theorem State.setHook_ply (e : Nat) (x : Hook) : (s.setHook e x).ply = s.ply := rfl
@[simp] theorem State.setHook_wgt (e : Nat) (x : Hook) : (s.setHook e x).wgt = s.wgt := rfl
@[simp] theorem State.setHook_tiles (e : Nat) (x : Hook) : (s.setHook e x).tiles = s.tiles := rfl
@[simp] theorem State.setHook_imem (e : Nat) (x : Hook) : (s.setHook e x).imem = s.imem := rfl
@[simp] theorem State.setHook_net (e : Nat) (x : Hook) : (s.setHook e x).net = s.net := rfl
@[simp] theorem State.setHook_sch (e : Nat) (x : Hook) : (s.setHook e x).sch = s.sch := rfl
@[simp] theorem State.setHook_rpt (e : Nat) (x : Hook) : (s.setHook e x).rpt = s.rpt := rfl
@[simp] theorem State.setHook_link (e : Nat) (x : Hook) : (s.setHook e x).link = s.link := rfl
@[simp] theorem State.setHook_rlog (e : Nat) (x : Hook) : (s.setHook e x).rlog = s.rlog := rfl
@[simp] theorem State.setHook_dbg (e : Nat) (x : Hook) : (s.setHook e x).dbg = s.dbg := rfl

@[simp] theorem State.setPly_pending (j : Nat) (x : Ply) : (s.setPly j x).pending = s.pending := rfl
@[simp] theorem State.setPly_regs (j : Nat) (x : Ply) : (s.setPly j x).regs = s.regs := rfl
@[simp] theorem State.setPly_rwl (j : Nat) (x : Ply) : (s.setPly j x).rwl = s.rwl := rfl
@[simp] theorem State.setPly_resp (j : Nat) (x : Ply) : (s.setPly j x).resp = s.resp := rfl
@[simp] theorem State.setPly_out (j : Nat) (x : Ply) : (s.setPly j x).out = s.out := rfl
@[simp] theorem State.setPly_unitWait (j : Nat) (x : Ply) : (s.setPly j x).unitWait = s.unitWait := rfl
@[simp] theorem State.setPly_free (j : Nat) (x : Ply) : (s.setPly j x).free = s.free := rfl
@[simp] theorem State.setPly_holds (j : Nat) (x : Ply) : (s.setPly j x).holds = s.holds := rfl
@[simp] theorem State.setPly_stalls (j : Nat) (x : Ply) : (s.setPly j x).stalls = s.stalls := rfl
@[simp] theorem State.setPly_ptrs (j : Nat) (x : Ply) : (s.setPly j x).ptrs = s.ptrs := rfl
@[simp] theorem State.setPly_refusals (j : Nat) (x : Ply) : (s.setPly j x).refusals = s.refusals := rfl
@[simp] theorem State.setPly_refusalsLost (j : Nat) (x : Ply) : (s.setPly j x).refusalsLost = s.refusalsLost := rfl
@[simp] theorem State.setPly_pwr (j : Nat) (x : Ply) : (s.setPly j x).pwr = s.pwr := rfl
@[simp] theorem State.setPly_mem (j : Nat) (x : Ply) : (s.setPly j x).mem = s.mem := rfl
@[simp] theorem State.setPly_mbx (j : Nat) (x : Ply) : (s.setPly j x).mbx = s.mbx := rfl
@[simp] theorem State.setPly_pci (j : Nat) (x : Ply) : (s.setPly j x).pci = s.pci := rfl
@[simp] theorem State.setPly_sc (j : Nat) (x : Ply) : (s.setPly j x).sc = s.sc := rfl
@[simp] theorem State.setPly_cap (j : Nat) (x : Ply) : (s.setPly j x).cap = s.cap := rfl
@[simp] theorem State.setPly_fuses (j : Nat) (x : Ply) : (s.setPly j x).fuses = s.fuses := rfl
@[simp] theorem State.setPly_nor (j : Nat) (x : Ply) : (s.setPly j x).nor = s.nor := rfl
@[simp] theorem State.setPly_life (j : Nat) (x : Ply) : (s.setPly j x).life = s.life := rfl
@[simp] theorem State.setPly_adsel (j : Nat) (x : Ply) : (s.setPly j x).adsel = s.adsel := rfl
@[simp] theorem State.setPly_strm (j : Nat) (x : Ply) : (s.setPly j x).strm = s.strm := rfl
@[simp] theorem State.setPly_cam (j : Nat) (x : Ply) : (s.setPly j x).cam = s.cam := rfl
@[simp] theorem State.setPly_dsi (j : Nat) (x : Ply) : (s.setPly j x).dsi = s.dsi := rfl
@[simp] theorem State.setPly_i3c (j : Nat) (x : Ply) : (s.setPly j x).i3c = s.i3c := rfl
@[simp] theorem State.setPly_auto (j : Nat) (x : Ply) : (s.setPly j x).auto = s.auto := rfl
@[simp] theorem State.setPly_autoCur (j : Nat) (x : Ply) : (s.setPly j x).autoCur = s.autoCur := rfl
@[simp] theorem State.setPly_pads (j : Nat) (x : Ply) : (s.setPly j x).pads = s.pads := rfl
@[simp] theorem State.setPly_imu (j : Nat) (x : Ply) : (s.setPly j x).imu = s.imu := rfl
@[simp] theorem State.setPly_fsync (j : Nat) (x : Ply) : (s.setPly j x).fsync = s.fsync := rfl
@[simp] theorem State.setPly_spi (j : Nat) (x : Ply) : (s.setPly j x).spi = s.spi := rfl
@[simp] theorem State.setPly_aud (j : Nat) (x : Ply) : (s.setPly j x).aud = s.aud := rfl
@[simp] theorem State.setPly_hook (j : Nat) (x : Ply) : (s.setPly j x).hook = s.hook := rfl
@[simp] theorem State.setPly_su (j : Nat) (x : Ply) : (s.setPly j x).su = s.su := rfl
@[simp] theorem State.setPly_vox (j : Nat) (x : Ply) : (s.setPly j x).vox = s.vox := rfl
@[simp] theorem State.setPly_aie (j : Nat) (x : Ply) : (s.setPly j x).aie = s.aie := rfl
@[simp] theorem State.setPly_wgt (j : Nat) (x : Ply) : (s.setPly j x).wgt = s.wgt := rfl
@[simp] theorem State.setPly_tiles (j : Nat) (x : Ply) : (s.setPly j x).tiles = s.tiles := rfl
@[simp] theorem State.setPly_imem (j : Nat) (x : Ply) : (s.setPly j x).imem = s.imem := rfl
@[simp] theorem State.setPly_net (j : Nat) (x : Ply) : (s.setPly j x).net = s.net := rfl
@[simp] theorem State.setPly_sch (j : Nat) (x : Ply) : (s.setPly j x).sch = s.sch := rfl
@[simp] theorem State.setPly_rpt (j : Nat) (x : Ply) : (s.setPly j x).rpt = s.rpt := rfl
@[simp] theorem State.setPly_link (j : Nat) (x : Ply) : (s.setPly j x).link = s.link := rfl
@[simp] theorem State.setPly_rlog (j : Nat) (x : Ply) : (s.setPly j x).rlog = s.rlog := rfl
@[simp] theorem State.setPly_dbg (j : Nat) (x : Ply) : (s.setPly j x).dbg = s.dbg := rfl

@[simp] theorem State.setRail_pending (i : Nat) (x : Rail) : (s.setRail i x).pending = s.pending := rfl
@[simp] theorem State.setRail_regs (i : Nat) (x : Rail) : (s.setRail i x).regs = s.regs := rfl
@[simp] theorem State.setRail_rwl (i : Nat) (x : Rail) : (s.setRail i x).rwl = s.rwl := rfl
@[simp] theorem State.setRail_resp (i : Nat) (x : Rail) : (s.setRail i x).resp = s.resp := rfl
@[simp] theorem State.setRail_out (i : Nat) (x : Rail) : (s.setRail i x).out = s.out := rfl
@[simp] theorem State.setRail_unitWait (i : Nat) (x : Rail) : (s.setRail i x).unitWait = s.unitWait := rfl
@[simp] theorem State.setRail_free (i : Nat) (x : Rail) : (s.setRail i x).free = s.free := rfl
@[simp] theorem State.setRail_holds (i : Nat) (x : Rail) : (s.setRail i x).holds = s.holds := rfl
@[simp] theorem State.setRail_stalls (i : Nat) (x : Rail) : (s.setRail i x).stalls = s.stalls := rfl
@[simp] theorem State.setRail_ptrs (i : Nat) (x : Rail) : (s.setRail i x).ptrs = s.ptrs := rfl
@[simp] theorem State.setRail_refusals (i : Nat) (x : Rail) : (s.setRail i x).refusals = s.refusals := rfl
@[simp] theorem State.setRail_refusalsLost (i : Nat) (x : Rail) : (s.setRail i x).refusalsLost = s.refusalsLost := rfl
@[simp] theorem State.setRail_pwr (i : Nat) (x : Rail) : (s.setRail i x).pwr = s.pwr := rfl
@[simp] theorem State.setRail_mem (i : Nat) (x : Rail) : (s.setRail i x).mem = s.mem := rfl
@[simp] theorem State.setRail_mbx (i : Nat) (x : Rail) : (s.setRail i x).mbx = s.mbx := rfl
@[simp] theorem State.setRail_pci (i : Nat) (x : Rail) : (s.setRail i x).pci = s.pci := rfl
@[simp] theorem State.setRail_sc (i : Nat) (x : Rail) : (s.setRail i x).sc = s.sc := rfl
@[simp] theorem State.setRail_fuses (i : Nat) (x : Rail) : (s.setRail i x).fuses = s.fuses := rfl
@[simp] theorem State.setRail_nor (i : Nat) (x : Rail) : (s.setRail i x).nor = s.nor := rfl
@[simp] theorem State.setRail_life (i : Nat) (x : Rail) : (s.setRail i x).life = s.life := rfl
@[simp] theorem State.setRail_adsel (i : Nat) (x : Rail) : (s.setRail i x).adsel = s.adsel := rfl
@[simp] theorem State.setRail_strm (i : Nat) (x : Rail) : (s.setRail i x).strm = s.strm := rfl
@[simp] theorem State.setRail_cam (i : Nat) (x : Rail) : (s.setRail i x).cam = s.cam := rfl
@[simp] theorem State.setRail_dsi (i : Nat) (x : Rail) : (s.setRail i x).dsi = s.dsi := rfl
@[simp] theorem State.setRail_i3c (i : Nat) (x : Rail) : (s.setRail i x).i3c = s.i3c := rfl
@[simp] theorem State.setRail_auto (i : Nat) (x : Rail) : (s.setRail i x).auto = s.auto := rfl
@[simp] theorem State.setRail_autoCur (i : Nat) (x : Rail) : (s.setRail i x).autoCur = s.autoCur := rfl
@[simp] theorem State.setRail_pads (i : Nat) (x : Rail) : (s.setRail i x).pads = s.pads := rfl
@[simp] theorem State.setRail_imu (i : Nat) (x : Rail) : (s.setRail i x).imu = s.imu := rfl
@[simp] theorem State.setRail_fsync (i : Nat) (x : Rail) : (s.setRail i x).fsync = s.fsync := rfl
@[simp] theorem State.setRail_spi (i : Nat) (x : Rail) : (s.setRail i x).spi = s.spi := rfl
@[simp] theorem State.setRail_aud (i : Nat) (x : Rail) : (s.setRail i x).aud = s.aud := rfl
@[simp] theorem State.setRail_hook (i : Nat) (x : Rail) : (s.setRail i x).hook = s.hook := rfl
@[simp] theorem State.setRail_su (i : Nat) (x : Rail) : (s.setRail i x).su = s.su := rfl
@[simp] theorem State.setRail_vox (i : Nat) (x : Rail) : (s.setRail i x).vox = s.vox := rfl
@[simp] theorem State.setRail_aie (i : Nat) (x : Rail) : (s.setRail i x).aie = s.aie := rfl
@[simp] theorem State.setRail_ply (i : Nat) (x : Rail) : (s.setRail i x).ply = s.ply := rfl
@[simp] theorem State.setRail_wgt (i : Nat) (x : Rail) : (s.setRail i x).wgt = s.wgt := rfl
@[simp] theorem State.setRail_tiles (i : Nat) (x : Rail) : (s.setRail i x).tiles = s.tiles := rfl
@[simp] theorem State.setRail_imem (i : Nat) (x : Rail) : (s.setRail i x).imem = s.imem := rfl
@[simp] theorem State.setRail_net (i : Nat) (x : Rail) : (s.setRail i x).net = s.net := rfl
@[simp] theorem State.setRail_sch (i : Nat) (x : Rail) : (s.setRail i x).sch = s.sch := rfl
@[simp] theorem State.setRail_rpt (i : Nat) (x : Rail) : (s.setRail i x).rpt = s.rpt := rfl
@[simp] theorem State.setRail_link (i : Nat) (x : Rail) : (s.setRail i x).link = s.link := rfl
@[simp] theorem State.setRail_rlog (i : Nat) (x : Rail) : (s.setRail i x).rlog = s.rlog := rfl
@[simp] theorem State.setRail_dbg (i : Nat) (x : Rail) : (s.setRail i x).dbg = s.dbg := rfl

@[simp] theorem State.answer_resp (code : Nat) (data : List Word) : (s.answer code data).resp = ⟨code, data⟩ := rfl
@[simp] theorem State.emit_out (o : Out) : (s.emit o).out = o :: s.out := rfl

end Sys2Proof.Machine
end

