-- ==== Sys2Proof/Laws/Regs.lean ====
section
/-! SUPPORT. Sparse data and the register file: a read after a write of the same key gives the value written, a write
leaves every other key alone, and every operation keeps the canonical form. -/

namespace Sys2Proof.Machine

section Tab

variable {α : Type} {d : Nat → α}

theorem Tab.get_put_same (l : Tab α) (k : Nat) (v : α) : (Tab.put l k v).get d k = v := by
  induction l with
  | nil => simp [Tab.put, Tab.get]
  | cons e l ih =>
    obtain ⟨j, x⟩ := e
    rcases Nat.lt_trichotomy j k with h | h | h
    · simp [Tab.put, h, Tab.get, Nat.ne_of_lt h, ih]
    · simp [Tab.put, h, Tab.get]
    · simp [Tab.put, Nat.not_lt_of_gt h, Nat.ne_of_gt h, Tab.get]

theorem Tab.get_put_other (l : Tab α) {k m : Nat} (v : α) (h : m ≠ k) : (Tab.put l k v).get d m = l.get d m := by
  induction l with
  | nil => simp [Tab.put, Tab.get, Ne.symm h]
  | cons e l ih =>
    obtain ⟨j, x⟩ := e
    rcases Nat.lt_trichotomy j k with g | g | g
    · simp [Tab.put, g, Tab.get, ih]
    · subst g; simp [Tab.put, Tab.get, Ne.symm h]
    · simp [Tab.put, Nat.not_lt_of_gt g, Nat.ne_of_gt g, Tab.get, Ne.symm h]

theorem Tab.get_erase_same (l : Tab α) (k : Nat) : (Tab.erase l k).get d k = d k := by
  induction l with
  | nil => rfl
  | cons e l ih =>
    obtain ⟨j, x⟩ := e
    by_cases h : j = k <;> simp [Tab.erase, h, Tab.get, ih]

theorem Tab.get_erase_other (l : Tab α) {k m : Nat} (h : m ≠ k) : (Tab.erase l k).get d m = l.get d m := by
  induction l with
  | nil => rfl
  | cons e l ih =>
    obtain ⟨j, x⟩ := e
    by_cases g : j = k
    · subst g; simp [Tab.erase, Tab.get, Ne.symm h, ih]
    · simp [Tab.erase, g, Tab.get, ih]

variable [DecidableEq α]

/-- A read after a write of the same key gives the value written. -/
@[simp] theorem Tab.get_set_same (l : Tab α) (k : Nat) (v : α) : (Tab.set d l k v).get d k = v := by
  unfold Tab.set
  split
  · rename_i h; rw [Tab.get_erase_same, h]
  · exact Tab.get_put_same l k v

/-- A write leaves every other key alone. -/
theorem Tab.get_set_other (l : Tab α) {k m : Nat} (v : α) (h : m ≠ k) : (Tab.set d l k v).get d m = l.get d m := by
  unfold Tab.set
  split
  · exact Tab.get_erase_other l h
  · exact Tab.get_put_other l v h

theorem Tab.wfFrom_mono (l : Tab α) {a b : Nat} (hab : b ≤ a) (h : Tab.wfFrom d l a = true) : Tab.wfFrom d l b = true := by
  cases l with
  | nil => rfl
  | cons e l =>
    simp only [Tab.wfFrom, Bool.and_eq_true, decide_eq_true_eq] at h ⊢
    exact ⟨⟨Nat.le_trans hab h.1.1, h.1.2⟩, h.2⟩

theorem Tab.wfFrom_erase (l : Tab α) (k a : Nat) (h : Tab.wfFrom d l a = true) : Tab.wfFrom d (Tab.erase l k) a = true := by
  induction l generalizing a with
  | nil => rfl
  | cons e l ih =>
    obtain ⟨j, x⟩ := e
    simp only [Tab.wfFrom, Bool.and_eq_true, decide_eq_true_eq] at h
    obtain ⟨⟨h1, h2⟩, h3⟩ := h
    by_cases g : j = k
    · simp only [Tab.erase, g, if_true]
      exact Tab.wfFrom_mono _ (by omega) (ih _ h3)
    · simp only [Tab.erase, g, if_false, Tab.wfFrom, Bool.and_eq_true, decide_eq_true_eq]
      exact ⟨⟨h1, h2⟩, ih _ h3⟩

theorem Tab.wfFrom_put (l : Tab α) (k a : Nat) (v : α) (hv : v ≠ d k) (hk : a ≤ k) (h : Tab.wfFrom d l a = true) :
    Tab.wfFrom d (Tab.put l k v) a = true := by
  induction l generalizing a with
  | nil => simp [Tab.put, Tab.wfFrom, hk, hv]
  | cons e l ih =>
    obtain ⟨j, x⟩ := e
    simp only [Tab.wfFrom, Bool.and_eq_true, decide_eq_true_eq] at h
    obtain ⟨⟨h1, h2⟩, h3⟩ := h
    rcases Nat.lt_trichotomy j k with g | g | g
    · simp only [Tab.put, g, if_true, Tab.wfFrom, Bool.and_eq_true, decide_eq_true_eq]
      exact ⟨⟨h1, h2⟩, ih _ g h3⟩
    · subst g
      simp only [Tab.put, Nat.lt_irrefl, if_true, if_false, Tab.wfFrom, Bool.and_eq_true, decide_eq_true_eq]
      exact ⟨⟨h1, hv⟩, h3⟩
    · simp only [Tab.put, Nat.not_lt_of_gt g, Nat.ne_of_gt g, if_false, Tab.wfFrom, Bool.and_eq_true, decide_eq_true_eq]
      exact ⟨⟨hk, hv⟩, ⟨by omega, h2⟩, h3⟩

/-- A write keeps the canonical form. -/
theorem Tab.wf_set (l : Tab α) (k : Nat) (v : α) (h : Tab.wf d l = true) : Tab.wf d (Tab.set d l k v) = true := by
  unfold Tab.set
  split
  · exact Tab.wfFrom_erase l k 0 h
  · exact Tab.wfFrom_put l k 0 v ‹_› (Nat.zero_le k) h

/-- Dropping entries keeps the canonical form. -/
theorem Tab.wfFrom_clear (p : Nat → Bool) (l : Tab α) (a : Nat) (h : Tab.wfFrom d l a = true) :
    Tab.wfFrom d (Tab.clear p l) a = true := by
  induction l generalizing a with
  | nil => rfl
  | cons e l ih =>
    obtain ⟨j, x⟩ := e
    simp only [Tab.wfFrom, Bool.and_eq_true, decide_eq_true_eq] at h
    obtain ⟨⟨h1, h2⟩, h3⟩ := h
    by_cases g : p j = true
    · simpa [Tab.clear, List.filter, g] using Tab.wfFrom_mono _ (by omega) (ih _ h3)
    · simpa [Tab.clear, List.filter, g, Tab.wfFrom, h1, h2] using ih _ h3

theorem Tab.wf_clear (p : Nat → Bool) (l : Tab α) (h : Tab.wf d l = true) : Tab.wf d (Tab.clear p l) = true :=
  Tab.wfFrom_clear p l 0 h

theorem Tab.wf_setList (l : Tab α) (k : Nat) (vs : List α) (h : Tab.wf d l = true) :
    Tab.wf d (Tab.setList d l k vs) = true := by
  induction vs generalizing l k with
  | nil => exact h
  | cons v vs ih => exact ih _ _ (Tab.wf_set l k v h)

/-- A key below or past the written ones keeps its value. -/
theorem Tab.get_setList_other (l : Tab α) (k m : Nat) (vs : List α) (h : m < k ∨ k + vs.length ≤ m) :
    (Tab.setList d l k vs).get d m = l.get d m := by
  induction vs generalizing l k with
  | nil => rfl
  | cons v vs ih =>
    simp only [List.length_cons] at h
    rw [Tab.setList, ih _ _ (by omega), Tab.get_set_other _ _ (by omega)]

/-- Consecutive keys read as what was written there. -/
theorem Tab.get_setList (l : Tab α) (k i : Nat) (vs : List α) (h : i < vs.length) :
    (Tab.setList d l k vs).get d (k + i) = vs[i] := by
  induction vs generalizing l k i with
  | nil => simp at h
  | cons v vs ih =>
    cases i with
    | zero => rw [Tab.setList, show k + 0 = k from rfl, Tab.get_setList_other _ _ _ _ (by omega), Tab.get_set_same]; rfl
    | succ i =>
      have := ih (Tab.set d l k v) (k + 1) i (by simpa using h)
      rw [Tab.setList, show k + (i + 1) = k + 1 + i by omega, this]; rfl

end Tab

/-! ### Registers -/

variable (s : State)

@[simp] theorem State.reg_setReg_same (k : Nat) (v : Word) : (s.setReg k v).reg k = v := Tab.get_set_same _ _ _

theorem State.reg_setReg_other {k m : Nat} (v : Word) (h : m ≠ k) : (s.setReg k v).reg m = s.reg m :=
  Tab.get_set_other _ _ h

theorem State.reg_setReg (k m : Nat) (v : Word) : (s.setReg k v).reg m = if m = k then v else s.reg m := by
  split
  · subst m; exact s.reg_setReg_same k v
  · exact s.reg_setReg_other v ‹_›

/-- A register read depends on nothing but the register file. -/
theorem State.reg_congr {a b : State} (h : a.regs = b.regs) (k : Nat) : a.reg k = b.reg k := by
  unfold State.reg; rw [h]

@[simp] theorem State.reg_answer (code : Nat) (data : List Word) (k : Nat) : (s.answer code data).reg k = s.reg k := rfl
@[simp] theorem State.reg_emit (o : Out) (k : Nat) : (s.emit o).reg k = s.reg k := rfl
@[simp] theorem State.reg_setDom (d : Nat) (x : Dom) (k : Nat) : (s.setDom d x).reg k = s.reg k := rfl
@[simp] theorem State.reg_unhold (src who d k : Nat) : (s.unhold src who d).reg k = s.reg k := rfl
@[simp] theorem State.reg_hold (src who d k : Nat) : (s.hold src who d).reg k = s.reg k :=
  State.reg_congr (s.hold_regs src who d) k
@[simp] theorem State.reg_setTile (t : Nat) (x : Tile) (k : Nat) : (s.setTile t x).reg k = s.reg k := rfl
@[simp] theorem State.reg_setStream (st : Nat) (x : Strm) (k : Nat) : (s.setStream st x).reg k = s.reg k := rfl
@[simp] theorem State.reg_setJob (i : Nat) (j : Job) (k : Nat) : (s.setJob i j).reg k = s.reg k := rfl
@[simp] theorem State.reg_setRing (r : Nat) (x : Ring) (k : Nat) : (s.setRing r x).reg k = s.reg k := rfl

@[simp] theorem State.fld_answer (code : Nat) (data : List Word) (k hi lo : Nat) : (s.answer code data).fld k hi lo = s.fld k hi lo := rfl
@[simp] theorem State.flag_answer (code : Nat) (data : List Word) (k i : Nat) : (s.answer code data).flag k i = s.flag k i := rfl

/-! ### Domains -/

@[simp] theorem State.dom_setDom_same (d : Nat) (x : Dom) : (s.setDom d x).dom d = x := Tab.get_set_same _ _ _

theorem State.dom_setDom_other {d e : Nat} (x : Dom) (h : e ≠ d) : (s.setDom d x).dom e = s.dom e :=
  Tab.get_set_other _ _ h

@[simp] theorem State.dom_setReg (d k : Nat) (v : Word) : (s.setReg k v).dom d = s.dom d := rfl
@[simp] theorem State.dom_answer (d code : Nat) (data : List Word) : (s.answer code data).dom d = s.dom d := rfl

end Sys2Proof.Machine
end

