-- ==== Sys2Proof/Laws/Words.lean ====
section
/-! SUPPORT. Register keys, bit fields of a word, and fields of a register after a write of one. -/

namespace Sys2Proof.Machine

theorem keyPage_add (p : Nat) {o : Nat} (h : o < 0x1000) : keyPage (p * 0x1000 + o) = p := by
  unfold keyPage; omega

theorem keyOff_add (p : Nat) {o : Nat} (h : o < 0x1000) : keyOff (p * 0x1000 + o) = o := by
  unfold keyOff; omega

/-- Two numbers that share no bit: their sum is their union. -/
theorem nat_or_eq_add {a b : Nat} (h : a &&& b = 0) : a ||| b = a + b := by
  have hb : ∀ w, a < 2^w → b < 2^w → a + b < 2^(w+1) := by intro w; rw [Nat.pow_succ]; omega
  obtain ⟨w, ha, hb'⟩ : ∃ w, a < 2^w ∧ b < 2^w := ⟨a + b, Nat.lt_of_le_of_lt (Nat.le_add_right a b) Nat.lt_two_pow_self, Nat.lt_of_le_of_lt (Nat.le_add_left b a) Nat.lt_two_pow_self⟩
  have h1 := BitVec.add_eq_or_of_and_eq_zero (BitVec.ofNat (w+1) a) (BitVec.ofNat (w+1) b) (by
    apply BitVec.eq_of_toNat_eq
    simp [Nat.mod_eq_of_lt (Nat.lt_of_lt_of_le ha (Nat.pow_le_pow_right (by decide) (Nat.le_succ w))), Nat.mod_eq_of_lt (Nat.lt_of_lt_of_le hb' (Nat.pow_le_pow_right (by decide) (Nat.le_succ w))), h])
  have h2 := congrArg BitVec.toNat h1
  simp only [BitVec.toNat_add, BitVec.toNat_or, BitVec.toNat_ofNat, Nat.mod_eq_of_lt (Nat.lt_of_lt_of_le ha (Nat.pow_le_pow_right (by decide) (Nat.le_succ w))), Nat.mod_eq_of_lt (Nat.lt_of_lt_of_le hb' (Nat.pow_le_pow_right (by decide) (Nat.le_succ w))), Nat.mod_eq_of_lt (hb w ha hb')] at h2
  exact h2.symm

/-- The mask of bits [hi:lo] and the rest of a number share no bit. -/
theorem nbits_lt (n hi lo : Nat) : nbits n hi lo < 2 ^ (hi + 1 - lo) := Nat.mod_lt _ (Nat.two_pow_pos _)

theorem nbits_testBit (n hi lo i : Nat) : (nbits n hi lo).testBit i = (decide (i < hi + 1 - lo) && n.testBit (lo + i)) := by
  unfold nbits
  rw [Nat.testBit_mod_two_pow, Nat.testBit_shiftRight]

theorem field_mask_testBit (hi lo i : Nat) : ((2 ^ (hi + 1 - lo) - 1) * 2 ^ lo).testBit i = decide (lo ≤ i ∧ i < hi + 1) := by
  rw [Nat.testBit_mul_two_pow, Nat.testBit_two_pow_sub_one]
  by_cases h : lo ≤ i <;> simp [h] <;> omega

theorem sub_and_testBit (n m i : Nat) : (n - (n &&& m)).testBit i = (n.testBit i && !m.testBit i) := by
  have : n - (n &&& m) = n ^^^ (n &&& m) := by
    have h : n = (n ^^^ (n &&& m)) + (n &&& m) := by
      have hd : (n ^^^ (n &&& m)) &&& (n &&& m) = 0 := by
        apply Nat.eq_of_testBit_eq; intro j; simp [Nat.testBit_and, Nat.testBit_xor]
        cases n.testBit j <;> cases m.testBit j <;> simp
      have ho : (n ^^^ (n &&& m)) ||| (n &&& m) = n := by
        apply Nat.eq_of_testBit_eq; intro j; simp [Nat.testBit_or, Nat.testBit_and, Nat.testBit_xor]
        cases n.testBit j <;> cases m.testBit j <;> simp
      rw [← nat_or_eq_add hd, ho]
    omega
  rw [this]
  simp [Nat.testBit_and, Nat.testBit_xor]
  cases n.testBit i <;> cases m.testBit i <;> rfl

/-- Bit `i` of a word with bits [hi:lo] replaced. -/
theorem setBits_testBit (w : Word) (hi lo v i : Nat) (hh : hi < 32) (hl : lo ≤ hi) :
    (setBits w hi lo v).toNat.testBit i =
      if lo ≤ i ∧ i ≤ hi then v.testBit (i - lo) else w.toNat.testBit i := by
  have hd : (w.toNat - (w.toNat &&& (2 ^ (hi + 1 - lo) - 1) * 2 ^ lo)) &&& (v % 2 ^ (hi + 1 - lo)) * 2 ^ lo = 0 := by
    apply Nat.eq_of_testBit_eq
    intro j
    rw [Nat.testBit_and, sub_and_testBit, field_mask_testBit, Nat.testBit_mul_two_pow, Nat.testBit_mod_two_pow, Nat.zero_testBit]
    by_cases h1 : lo ≤ j
    · by_cases h2 : j < hi + 1
      · simp [h1, h2]
      · simp [h1, h2, show ¬ j - lo < hi + 1 - lo by omega]
    · simp [h1]
  unfold setBits
  dsimp only
  rw [← nat_or_eq_add hd, BitVec.toNat_ofNat, Nat.testBit_mod_two_pow, Nat.testBit_or, sub_and_testBit, field_mask_testBit,
    Nat.testBit_mul_two_pow, Nat.testBit_mod_two_pow]
  by_cases h1 : lo ≤ i
  · by_cases h2 : i ≤ hi
    · simp [h1, h2, show i < 32 by omega, show i < hi + 1 by omega, show i - lo < hi + 1 - lo by omega]
    · by_cases h3 : i < 32
      · simp [h1, h2, h3, show ¬ i < hi + 1 by omega, show ¬ i - lo < hi + 1 - lo by omega]
      · have : w.toNat.testBit i = false := Nat.testBit_lt_two_pow (Nat.lt_of_lt_of_le w.isLt (Nat.pow_le_pow_right (by decide) (by omega)))
        simp [h1, h2, h3, this]
  · simp [h1, show i < 32 by omega]

/-- The field just written reads as the value's low bits. -/
theorem bits_setBits_same (w : Word) (hi lo v : Nat) (hh : hi < 32) (hl : lo ≤ hi) :
    bits (setBits w hi lo v) hi lo = v % 2 ^ (hi + 1 - lo) := by
  apply Nat.eq_of_testBit_eq
  intro i
  unfold bits
  rw [nbits_testBit, setBits_testBit _ _ _ _ _ hh hl, Nat.testBit_mod_two_pow]
  by_cases h : i < hi + 1 - lo
  · simp [h, show lo ≤ lo + i ∧ lo + i ≤ hi by omega]
  · simp [h]

/-- A field that does not overlap the one written keeps its value. -/
theorem bits_setBits_other (w : Word) (hi lo v h l : Nat) (hh : hi < 32) (hl : lo ≤ hi) (hd : h < lo ∨ hi < l) :
    bits (setBits w hi lo v) h l = bits w h l := by
  apply Nat.eq_of_testBit_eq
  intro i
  unfold bits
  rw [nbits_testBit, nbits_testBit, setBits_testBit _ _ _ _ _ hh hl]
  by_cases g : i < h + 1 - l
  · rw [if_neg (by omega)]
  · simp [g]

theorem bit_setBits (w : Word) (hi lo v i : Nat) (hh : hi < 32) (hl : lo ≤ hi) :
    bit (setBits w hi lo v) i = if lo ≤ i ∧ i ≤ hi then v.testBit (i - lo) else bit w i :=
  setBits_testBit w hi lo v i hh hl

theorem bit_setBit (w : Word) (i j : Nat) (b : Bool) (hi : i < 32) : bit (setBit w i b) j = if j = i then b else bit w j := by
  unfold setBit
  rw [bit_setBits _ _ _ _ _ hi (Nat.le_refl i)]
  by_cases h : j = i
  · subst h; cases b <;> simp
  · rw [if_neg (by omega), if_neg h]

/-! ### Fields of registers -/

variable (s : State)

theorem State.fld_setReg_same (k hi lo : Nat) (v : Word) : (s.setReg k v).fld k hi lo = bits v hi lo := by
  unfold State.fld; rw [State.reg_setReg_same]

theorem State.fld_setReg_other {k m : Nat} (hi lo : Nat) (v : Word) (h : m ≠ k) : (s.setReg k v).fld m hi lo = s.fld m hi lo := by
  unfold State.fld; rw [State.reg_setReg_other _ _ h]

theorem State.flag_setReg_same (k i : Nat) (v : Word) : (s.setReg k v).flag k i = bit v i := by
  unfold State.flag; rw [State.reg_setReg_same]

theorem State.flag_setReg_other {k m : Nat} (i : Nat) (v : Word) (h : m ≠ k) : (s.setReg k v).flag m i = s.flag m i := by
  unfold State.flag; rw [State.reg_setReg_other _ _ h]

theorem State.flag_setFlag_same (k i : Nat) (b : Bool) (h : i < 32) : (s.setFlag k i b).flag k i = b := by
  unfold State.setFlag; rw [State.flag_setReg_same, bit_setBit _ _ _ _ h, if_pos rfl]

theorem State.flag_setFlag_bit (k i j : Nat) (b : Bool) (h : i < 32) (hj : j ≠ i) : (s.setFlag k i b).flag k j = s.flag k j := by
  unfold State.setFlag; rw [State.flag_setReg_same, bit_setBit _ _ _ _ h, if_neg hj]; rfl

theorem State.flag_setFlag_other {k m : Nat} (i j : Nat) (b : Bool) (h : m ≠ k) : (s.setFlag k i b).flag m j = s.flag m j :=
  State.flag_setReg_other s _ _ h

theorem State.reg_setFlag_other {k m : Nat} (i : Nat) (b : Bool) (h : m ≠ k) : (s.setFlag k i b).reg m = s.reg m :=
  State.reg_setReg_other s _ h

theorem State.reg_setFld_other {k m : Nat} (hi lo v : Nat) (h : m ≠ k) : (s.setFld k hi lo v).reg m = s.reg m :=
  State.reg_setReg_other s _ h

theorem State.fld_setFld_same (k hi lo v : Nat) (hh : hi < 32) (hl : lo ≤ hi) :
    (s.setFld k hi lo v).fld k hi lo = v % 2 ^ (hi + 1 - lo) := by
  unfold State.setFld; rw [State.fld_setReg_same, bits_setBits_same _ _ _ _ hh hl]

theorem State.reg_irq_other {p b m : Nat} (h : m ≠ IRQ_RAW p) : (s.irq p b).reg m = s.reg m := State.reg_setReg_other s _ h

/-- `irq` sets its bit and no other of IRQ_RAW. -/
theorem State.irq_flag (p b i : Nat) (h : b < 32) : (s.irq p b).flag (IRQ_RAW p) i = if i = b then true else s.flag (IRQ_RAW p) i := by
  unfold State.irq; rw [State.flag_setReg_same, bit_setBit _ _ _ _ h]; rfl

end Sys2Proof.Machine
end

