-- ==== Sys2Proof/Laws/Access.lean ====
section
/-! SUPPORT. What an access can do (R29): one lemma per shared operation on the way from a command to a block. -/

namespace Sys2Proof.Machine

/-- A meaning whose operands are in range, on a device that is not OFF. -/
theorem only_next {ok : Bool} {s : State} (h : ok = true) (on : s.pwr.chipOff = false) (t : State) : only ok s t = .next t := by
  simp [only, h, on]

/-- A meaning answers a next state or faults on operands that name no unit. -/
theorem only_cases (ok : Bool) (s t : State) :
    (ok = true ∧ only ok s t = .next (if s.pwr.chipOff then s else t)) ∨ (ok = false ∧ only ok s t = .fault .illFormed) := by
  cases ok <;> simp [only]

/-- A meaning runs where its operands are in range. -/
@[simp] theorem runs_only (ok : Bool) (s t : State) : runs (only ok s t) = ok := by
  cases ok <;> rfl

/-- What `lands` says, part by part. -/
theorem State.lands_iff {s : State} {q : Req} {k : Nat} {wr : Bool} :
    s.lands q k wr = true ↔ s.pwr.chipOff = false ∧ q.wf = true ∧ s.heldBack q = none ∧
      s.permission q (keyPage k) (keyOff k) wr = none ∧ k % 4 = 0 ∧ ¬(wr && s.lockHolds k) = true ∧
      (needsFabric (keyPage k) (keyOff k) = true → s.receives none 2 = true) ∧
      (domChecked (keyOff k) = true → s.receives none (pageDom (keyPage k)) = true) := by
  simp only [State.lands, Bool.and_eq_true, Bool.not_eq_true', Option.isNone_iff_eq_none, beq_iff_eq, Bool.or_eq_true,
    ← Bool.not_eq_true, Decidable.imp_iff_not_or]
  constructor
  · rintro ⟨⟨⟨⟨⟨⟨⟨a, b⟩, c⟩, d⟩, e⟩, x⟩, f⟩, g⟩
    exact ⟨a, b, c, d, e, x, f, g⟩
  · rintro ⟨a, b, c, d, e, x, f, g⟩
    exact ⟨⟨⟨⟨⟨⟨⟨a, b⟩, c⟩, d⟩, e⟩, x⟩, f⟩, g⟩

/-- The permission of a word access is that of the word. -/
theorem State.accessPerm_word (s : State) (q : Req) {k : Nat} (hk : k % 4 = 0) (wr : Bool) :
    s.accessPerm q k 4 wr = s.permission q (keyPage k) (keyOff k) wr := by
  have h1 : keyOff k / 4 * 4 = keyOff k := by unfold keyOff; omega
  have h2 : (k % 4 + 4 + 3) / 4 - 1 = 0 := by omega
  unfold State.accessPerm
  dsimp only
  rw [h1, h2]
  simp only [List.range_zero, List.map_nil, List.find?]
  split <;> rfl

/-- An access that lands runs the block's part. -/
theorem State.regAccess_lands {s : State} {q : Req} {k : Nat} {wr : Bool} (h : s.lands q k wr = true) (data : Nat)
    (act : State → State) : s.regAccess q k 4 wr data act = act s := by
  obtain ⟨-, -, hb, hp, hk, hl, hf, hd⟩ := State.lands_iff.1 h
  have ha : ¬ ((4 : Nat) ≠ 4 ∨ k % 4 ≠ 0) := by omega
  have hf' : ¬ (needsFabric (keyPage k) (keyOff k) && !s.receives none 2) = true := by
    intro c; simp only [Bool.and_eq_true] at c; simp [hf c.1] at c
  have hd' : ¬ (domChecked (keyOff k) && !s.receives none (pageDom (keyPage k))) = true := by
    intro c; simp only [Bool.and_eq_true] at c; simp [hd c.1] at c
  unfold State.regAccess State.regAccessNow
  rw [hb]
  dsimp only
  rw [State.accessPerm_word s q hk, hp]
  rw [if_neg (by simp), if_neg ha, if_neg hl, if_neg hf', if_neg (by simp), if_neg hd']

/-- A register write that lands is answered OK and takes its effect. -/
theorem State.writeVia_lands {s : State} {q : Req} {k : Nat} (h : s.lands q k true = true) (v : Word) (eff : State → State) :
    s.writeVia q k v eff = eff (s.answer 0) := State.regAccess_lands h _ _

/-- A register read that lands takes its effect. -/
theorem State.readVia_lands {s : State} {q : Req} {k : Nat} (h : s.lands q k false = true) (eff : State → State) :
    s.readVia q k eff = eff s := State.regAccess_lands h _ _

/-- Landing needs a device that is not OFF. -/
theorem State.lands_on {s : State} {q : Req} {k : Nat} {wr : Bool} (h : s.lands q k wr = true) : s.pwr.chipOff = false :=
  (State.lands_iff.1 h).1

/-- Landing needs a requester of Table 2.4. -/
theorem State.lands_wf {s : State} {q : Req} {k : Nat} {wr : Bool} (h : s.lands q k wr = true) : q.wf = true :=
  (State.lands_iff.1 h).2.1

/-- A meaning that writes a register: its effect on the answered state. -/
theorem only_writeVia {ok : Bool} {s : State} {q : Req} {k : Nat} (hk : ok = true) (h : s.lands q k true = true) (v : Word)
    (eff : State → State) : only ok s (s.writeVia q k v eff) = .next (eff (s.answer 0)) := by
  rw [only_next hk (State.lands_on h), State.writeVia_lands h]

/-- A meaning that reads a register. -/
theorem only_readVia {ok : Bool} {s : State} {q : Req} {k : Nat} (hk : ok = true) (h : s.lands q k false = true)
    (eff : State → State) : only ok s (s.readVia q k eff) = .next (eff s) := by
  rw [only_next hk (State.lands_on h), State.readVia_lands h]

/-! ### Accesses by address (R19, R29) -/

/-- Table 2.2 lists no page above 0x27F. -/
theorem pageListed_lt {p : Nat} (h : pageListed p = true) : p < 0x280 := by
  unfold pageListed pageFam at h
  rw [Option.isSome_iff_exists] at h
  obtain ⟨f, hf⟩ := h
  have hm := List.mem_of_find?_eq_some hf
  have hq := List.find?_some hf
  have : ∀ f ∈ pageFams, f.last < 0x280 := by decide
  have := this f hm
  simp at hq
  omega

/-- The address of a register of a listed page names its key. -/
theorem regAddr_key {p o : Nat} (hp : pageListed p = true) (ho : o < 0x1000) :
    regAddr (regBase + (p * 0x1000 + o)) = some (p * 0x1000 + o) := by
  have := pageListed_lt hp
  have h1 : (regBase + (p * 0x1000 + o) - 0x80000000) = p * 0x1000 + o := by unfold regBase; omega
  unfold regAddr
  rw [h1, show (p * 0x1000 + o) / 0x1000 = p by omega]
  have h2 : 0x80000000 ≤ regBase + (p * 0x1000 + o) := by unfold regBase; omega
  have h3 : regBase + (p * 0x1000 + o) < 0x81000000 := by unfold regBase; omega
  rw [if_pos ⟨h2, h3, hp⟩]
/-- An access that no sleeping mesh holds up. -/
def State.meshServes (s : State) (q : Req) (a : Nat) : Bool := !viaMesh q a || s.domOn 3

/-- Accesses of the host, the debug port and every unit but a tile cross no mesh. -/
theorem State.meshServes_of_cls {s : State} {q : Req} (h : 1 < q.cls) (a : Nat) : s.meshServes q a = true := by
  simp [State.meshServes, viaMesh, Nat.not_le_of_gt h]

theorem State.meshServes_iff {s : State} {q : Req} {a : Nat} (h : s.meshServes q a = true) :
    ¬ (viaMesh q a && !s.domOn 3) = true := by
  unfold State.meshServes at h
  intro c
  simp only [Bool.or_eq_true, Bool.not_eq_true', Bool.and_eq_true] at h c
  rcases h with h | h <;> simp [h] at c

/-- A 4-byte write by address that lands. -/
theorem State.busWrite_lands {s : State} {q : Req} {a k : Nat} (ha : regAddr a = some k) (hm : s.meshServes q a = true)
    (h : s.lands q k true = true) (v : Nat) : s.busWrite q a 4 v = regWrite q k (word v) (s.answer 0) := by
  have hb := (State.lands_iff.1 h).2.2.1
  have hr := State.regAccess_lands h v (fun s => regWrite q k (word v) (s.answer 0))
  unfold State.regAccess at hr
  unfold State.busWrite State.busWriteNow
  rw [hb] at hr ⊢
  dsimp only at hr ⊢
  rw [ha, if_neg (State.meshServes_iff hm)]
  exact hr

/-- A 4-byte read by address that lands. -/
theorem State.busRead_lands {s : State} {q : Req} {a k : Nat} (ha : regAddr a = some k) (hm : s.meshServes q a = true)
    (h : s.lands q k false = true) : s.busRead q a 4 = regRead q k s := by
  have hb := (State.lands_iff.1 h).2.2.1
  have hr := State.regAccess_lands h 0 (regRead q k)
  unfold State.regAccess at hr
  unfold State.busRead State.busReadNow
  rw [hb] at hr ⊢
  dsimp only at hr ⊢
  rw [ha, if_neg (State.meshServes_iff hm)]
  exact hr

/-- A register access outside the requester's permission. -/
theorem State.regAccessNow_refused {s : State} {q : Req} {k r : Nat} {size : Nat} {wr : Bool} (hp : s.accessPerm q k size wr = some r)
    (hr : r ≠ 0x100) (own : Option Nat) (data : Nat) (act : State → State) :
    s.regAccessNow own q k size wr data act = s.refuse q (regBase + k) wr r := by
  unfold State.regAccessNow
  dsimp only
  rw [hp, if_pos (by simpa using hr)]
  rfl

/-- A write outside the requester's permission, no earlier access of it being stalled. -/
theorem State.busWrite_refused {s : State} {q : Req} {a k r n : Nat} (ha : regAddr a = some k) (hm : s.meshServes q a = true)
    (hb : s.heldBack q = none) (hp : s.accessPerm q k n true = some r) (hr : r ≠ 0x100) (v : Nat) :
    s.busWrite q a n v = s.refuse q (regBase + k) true r := by
  unfold State.busWrite State.busWriteNow
  rw [hb]
  dsimp only
  rw [ha, if_neg (State.meshServes_iff hm)]
  exact State.regAccessNow_refused hp hr _ _ _

/-- A read outside the requester's permission, no earlier access of it being stalled. -/
theorem State.busRead_refused {s : State} {q : Req} {a k r n : Nat} (ha : regAddr a = some k) (hm : s.meshServes q a = true)
    (hb : s.heldBack q = none) (hp : s.accessPerm q k n false = some r) (hr : r ≠ 0x100) :
    s.busRead q a n = s.refuse q (regBase + k) false r := by
  unfold State.busRead State.busReadNow
  rw [hb]
  dsimp only
  rw [ha, if_neg (State.meshServes_iff hm)]
  exact State.regAccessNow_refused hp hr _ _ _

/-! ### Refusals (R31) -/

/-- What a refusal answers. -/
@[simp] theorem State.refuse_resp (s : State) (q : Req) (addr : Nat) (wr : Bool) (r : Nat) :
    (s.refuse q addr wr r).resp = ⟨1, [0]⟩ := rfl

/-- A refusal changes nothing but the log, its counters and the answer. -/
theorem State.refuse_frame (s : State) (q : Req) (addr : Nat) (wr : Bool) (r : Nat) :
    s.refuse q addr wr r = { s with
      regs := (s.refuse q addr wr r).regs
      resp := ⟨1, [0]⟩
      refusals := (s.refuse q addr wr r).refusals
      refusalsLost := (s.refuse q addr wr r).refusalsLost } := by
  unfold State.refuse State.logRefusal
  dsimp only
  by_cases g : q.cls = 6 ∧ q.index = 0x3F
  · rw [if_pos g]; split <;> rfl
  · rw [if_neg g]; split <;> (unfold State.bumpSat; split <;> rfl)

/-- The only register a refusal changes is its tenant's ADSEL_T_REFUSED. -/
theorem State.refuse_reg (s : State) (q : Req) (addr : Nat) (wr : Bool) (r k : Nat) (h : k ≠ ADSEL_T_REFUSED (q.tenant % 8)) :
    (s.refuse q addr wr r).reg k = s.reg k := by
  have key : ∀ u : State, u.regs = s.regs → (u.bumpSat (ADSEL_T_REFUSED (q.tenant % 8)) 31 0).reg k = s.reg k := by
    intro u hu
    have hr : u.reg k = s.reg k := by simp only [State.reg, hu]
    unfold State.bumpSat State.setFld
    split
    · rw [State.reg_setReg_other _ _ h, hr]
    · exact hr
  unfold State.refuse State.logRefusal
  dsimp only
  rw [State.reg_answer]
  by_cases c : q.cls = 6 ∧ q.index = 0x3F
  · rw [if_pos c]; split <;> rfl
  · rw [if_neg c]; split <;> exact key _ rfl

end Sys2Proof.Machine
end

