-- ==== Sys2Proof/Laws/Bundle.lean ====
section
/-! SUPPORT. What a slot of a bundle does when its word is ready: the commands of the tile's core reduce to these. -/

namespace Sys2Proof.Machine

variable {s : State} {t : Nat} {w : Word}

theorem State.readyS_iff : s.readyS t w = true ↔ s.pwr.chipOff = false ∧ t < 64 ∧ s.slotOf t w = some false ∧
    ((s.tile t).x.getD {}).fault = none ∧ (fd w = 0 ∨ (((s.tile t).x.getD {}).g.any fun g => g.1 == fd w) = false) := by
  simp [State.readyS, and_assoc]

theorem State.readyX_iff : s.readyX t w = true ↔ s.pwr.chipOff = false ∧ t < 64 ∧ s.slotOf t w = some true ∧ s.fetchOk t = true := by
  simp [State.readyX, and_assoc]

/-- A word ready in the S slot commits with what it computes. -/
theorem only_issueS (h : s.readyS t w = true) {mine : Bool} (hm : mine = true) (f : State → SRes) :
    only (decide (t < 64)) s (s.issueS t w mine f) = .next (s.commit t (f s)) := by
  obtain ⟨h1, h2, h3, -⟩ := State.readyS_iff.1 h
  simp [only, h1, h2, State.issueS, hm, h3]

/-- A word of the S slot's list that stands in the X slot latches an illegal instruction, reported when the bundle issues. -/
theorem only_issueS_inX (h : s.readyX t w = true) {mine : Bool} (hm : mine = true) (f : State → SRes) :
    only (decide (t < 64)) s (s.issueS t w mine f) = .next (s.latch t { fault := some (0x10, 0) }) := by
  obtain ⟨h1, h2, h3, h4⟩ := State.readyX_iff.1 h
  simp [only, h1, h2, State.issueS, hm, h3, h4]

/-- A word ready in the X slot latches its result, or waits where it has none yet. -/
theorem only_issueX (h : s.readyX t w = true) {mine : Bool} (hm : mine = true) (f : State → Option XRes × State) :
    only (decide (t < 64)) s (s.issueX t w mine f) =
      .next (match f s with
        | (some r, u) => u.latch t r
        | (none, _) => s) := by
  obtain ⟨h1, h2, h3, h4⟩ := State.readyX_iff.1 h
  simp only [only, h1, h2, State.issueX, hm, h3, h4]
  rcases f s with ⟨_ | r, u⟩ <;> simp

/-- A word of the X slot's list ready in the S slot is illegal. -/
theorem only_issueX_inS (h : s.readyS t w = true) {mine : Bool} (hm : mine = true) (f : State → Option XRes × State) :
    only (decide (t < 64)) s (s.issueX t w mine f) = .next (s.tileFault t false 0x10 0) := by
  obtain ⟨h1, h2, h3, -⟩ := State.readyS_iff.1 h
  simp [only, h1, h2, State.issueX, hm, h3]

/-- No destination of the S slot that `readyS` allows is written twice. -/
theorem State.readyS_once (h : s.readyS t w = true) (d : Option Nat) (hd : d = none ∨ d = some (fd w)) :
    (d.any fun d => d != 0 && (((s.tile t).x.getD {}).g.any fun g => g.1 == d)) = false := by
  obtain ⟨-, -, -, -, h5⟩ := State.readyS_iff.1 h
  rcases hd with rfl | rfl
  · rfl
  · rcases h5 with h5 | h5 <;> simp_all

/-- A result that faults stops the tile in the state the slot left. -/
theorem State.commit_bad (r : SRes) (hs : r.stall = false) {c i : Nat} (hf : r.fault = some (c, i)) :
    s.commit t r = r.s.tileFault t false c i := by simp [State.commit, hs, hf]

/-- A slot that stalls leaves everything as it was. -/
theorem State.commit_stall (r : SRes) (hs : r.stall = true) : s.commit t r = s := by simp [State.commit, hs]

/-- A result with nothing more to wait for retires; a posted store's code is looked at after it. -/
theorem State.commit_done (h : s.readyS t w = true) (r : SRes) (hd : r.dst = none ∨ r.dst = some (fd w)) (hs : r.stall = false)
    (hf : r.fault = none) (ha : r.await = none) (hw : r.wait = none) (ht : r.then' = 0) :
    s.commit t r = (match r.posted with
      | some (f, c) => (r.s.retire t r.dst r.val r.pc).postedEnd t f (s.tilePc t) c
      | none => r.s.retire t r.dst r.val r.pc) := by
  have ho := State.readyS_once h r.dst hd
  have hx := (State.readyS_iff.1 h).2.2.2.1
  simp only [State.commit, hs, hf, hx, ho, ha, hw, ht]
  cases r.posted <;> simp

end Sys2Proof.Machine
end

