-- ==== Sys2Proof/Laws/Memory.lean ====
section
/-! SUPPORT. Byte memory: every operation that writes or drops bytes keeps the canonical form, and an operation on
ownership, skeins, tags, cache lines or the log leaves the bytes alone. -/

namespace Sys2Proof.Machine

variable {s : State}

/-- The byte memory of the state after reset is in canonical form. -/
theorem Memory.wf_reset : Memory.wf State.reset.mem.bytes := rfl

/-- A fold of steps that each keep a property of the state keeps it. -/
theorem foldl_keeps {σ ι : Type} (P : σ → Prop) (f : σ → ι → σ) (h : ∀ x i, P x → P (f x i)) (l : List ι) (x : σ)
    (hx : P x) : P (l.foldl f x) := by
  induction l generalizing x with
  | nil => exact hx
  | cons i l ih => exact ih _ (h x i hx)

/-! ### Bytes -/

/-- Writing consecutive bytes keeps the form. -/
theorem Memory.wf_pokeBytes (a : Nat) (bs : List Byte) (h : Memory.wf s.mem.bytes) : Memory.wf (s.pokeBytes a bs).mem.bytes :=
  Tab.wf_setList _ _ _ h

/-- A byte that was written reads as written. -/
theorem State.byteAt_pokeBytes (a i : Nat) (bs : List Byte) (h : i < bs.length) :
    (s.pokeBytes a bs).byteAt (a + i) = bs[i] := Tab.get_setList _ _ _ _ h

/-- A byte outside the written ones reads as before. -/
theorem State.byteAt_pokeBytes_other (a b : Nat) (bs : List Byte) (h : b < a ∨ a + bs.length ≤ b) :
    (s.pokeBytes a bs).byteAt b = s.byteAt b := Tab.get_setList_other _ _ _ _ h

/-- Poison tags are beside the bytes. -/
@[simp] theorem State.tag_bytes (a n : Nat) (b : Bool) : (s.tag a n b).mem.bytes = s.mem.bytes := rfl

@[simp] theorem State.putBytes_bytes (a : Nat) (bs : List Byte) (p : Bool) :
    (s.putBytes a bs p).mem.bytes = (s.pokeBytes a bs).mem.bytes := rfl

theorem Memory.wf_putBytes (a : Nat) (bs : List Byte) (p : Bool) (h : Memory.wf s.mem.bytes) :
    Memory.wf (s.putBytes a bs p).mem.bytes := Memory.wf_pokeBytes a bs h

/-- A write of bytes leaves the registers alone. -/
@[simp] theorem State.pokeBytes_regs (a : Nat) (bs : List Byte) : (s.pokeBytes a bs).regs = s.regs := rfl
@[simp] theorem State.putBytes_regs (a : Nat) (bs : List Byte) (p : Bool) : (s.putBytes a bs p).regs = s.regs := rfl

/-! ### Ownership and skeins -/

@[simp] theorem State.setOwn_bytes (g e : Nat) : (s.setOwn g e).mem.bytes = s.mem.bytes := rfl
@[simp] theorem State.setSkein_bytes (k : Nat) (x : Skein) : (s.setSkein k x).mem.bytes = s.mem.bytes := rfl
@[simp] theorem State.assign_bytes (g k : Nat) : (s.assign g k).mem.bytes = s.mem.bytes := rfl
@[simp] theorem State.assign_regs (g k : Nat) : (s.assign g k).regs = s.regs := rfl

/-- The check of one granule changes no byte and no register: it may assign the granule. -/
theorem State.takeGran_keeps {q : Req} {wr : Bool} {g : Nat} {t : State} (h : s.takeGran q wr g = .ok t) :
    t.mem.bytes = s.mem.bytes ∧ t.regs = s.regs := by
  unfold State.takeGran at h
  dsimp only at h
  repeat' split at h
  all_goals first | (cases h; exact ⟨rfl, rfl⟩) | cases h

/-- The check of a list of granules changes no byte and no register. -/
theorem State.takeGrans_keeps {q : Req} {wr : Bool} {gs : List Nat} {t : State} (h : s.takeGrans q wr gs = .ok t) :
    t.mem.bytes = s.mem.bytes ∧ t.regs = s.regs := by
  induction gs generalizing s with
  | nil => cases h; exact ⟨rfl, rfl⟩
  | cons g gs ih =>
    unfold State.takeGrans at h
    split at h
    · rename_i u hu
      obtain ⟨a, b⟩ := State.takeGran_keeps hu
      obtain ⟨c, d⟩ := ih h
      exact ⟨c.trans a, d.trans b⟩
    · cases h

/-- The ownership check of a range (R346) changes no byte and no register. -/
theorem State.checkRange_keeps {q : Req} {wr : Bool} {a n : Nat} {t : State} (h : s.checkRange q wr a n = .ok t) :
    t.mem.bytes = s.mem.bytes ∧ t.regs = s.regs := by
  unfold State.checkRange at h
  split at h
  · exact State.takeGrans_keeps h
  · cases h

/-! ### The pool caches -/

@[simp] theorem State.setCacheLines_bytes (t set : Nat) (l : List CLine) : (s.setCacheLines t set l).mem.bytes = s.mem.bytes := rfl

theorem Memory.wf_copyLine (src dst : Nat) (h : Memory.wf s.mem.bytes) : Memory.wf (s.copyLine src dst).mem.bytes := by
  unfold State.copyLine
  exact foldl_keeps (fun x : State => Memory.wf x.mem.bytes)
    (fun (x : State) i => x.tag (dst + 32 * i) 32 (s.poisoned (src + 32 * i))) (fun _ _ hx => hx) _ _ (Memory.wf_pokeBytes _ _ h)

theorem Memory.wf_writeBack (t set : Nat) (c : CLine) (h : Memory.wf s.mem.bytes) : Memory.wf (s.writeBack t set c).mem.bytes := by
  unfold State.writeBack
  split
  · exact Memory.wf_copyLine _ _ h
  · exact h

theorem Memory.wf_cacheTake (t line : Nat) (whole dirty : Bool) (h : Memory.wf s.mem.bytes) :
    Memory.wf (s.cacheTake t line whole dirty).2.mem.bytes := by
  have key : ∀ (u : State) (w : Nat) (keep : List CLine), Memory.wf u.mem.bytes →
      Memory.wf ((if whole then u else u.copyLine (0x100000000 + 256 * line) (u.wayAddr t (s.cacheSet t line) w)).setCacheLines t
        (s.cacheSet t line) (⟨w, line, dirty⟩ :: keep)).mem.bytes := by
    intro u w keep hu
    rw [State.setCacheLines_bytes]
    cases whole
    · exact Memory.wf_copyLine _ _ hu
    · exact hu
  unfold State.cacheTake
  dsimp only
  split
  · exact h
  · split
    · exact key _ _ _ h
    · exact key _ _ _ (Memory.wf_writeBack _ _ _ h)
    · exact key _ _ _ h

theorem Memory.wf_cacheDrop (t set : Nat) (c : CLine) (back keep : Bool) (h : Memory.wf s.mem.bytes) :
    Memory.wf (s.cacheDrop t set c back keep).mem.bytes := by
  unfold State.cacheDrop
  cases back
  · exact h
  · exact Memory.wf_writeBack _ _ _ h

theorem Memory.wf_cacheMaintain (t kind first last : Nat) (h : Memory.wf s.mem.bytes) :
    Memory.wf (s.cacheMaintain t kind first last).mem.bytes := by
  unfold State.cacheMaintain
  exact foldl_keeps (fun x : State => Memory.wf x.mem.bytes) _
    (fun x set hx => foldl_keeps (fun y : State => Memory.wf y.mem.bytes) _ (fun _ _ hy => Memory.wf_cacheDrop _ _ _ _ _ hy) _ _ hx) _ _ h

/-! ### Permitted accesses -/

/-- The state after a permitted write. -/
theorem Memory.wf_deposit (q : Req) (a : Nat) (bs : List Byte) (p : Bool) (h : Memory.wf s.mem.bytes) :
    Memory.wf (s.deposit q a bs p).mem.bytes := by
  unfold State.deposit
  split
  · exact foldl_keeps (fun x : State => Memory.wf x.mem.bytes) _
      (fun x i hx => Memory.wf_putBytes _ _ _ (Memory.wf_cacheTake _ _ _ _ hx)) _ _ h
  · exact Memory.wf_putBytes _ _ _ h

/-- The state after a permitted read. -/
theorem Memory.wf_fetch (q : Req) (a n : Nat) (h : Memory.wf s.mem.bytes) : Memory.wf (s.fetch q a n).2.2.mem.bytes := by
  unfold State.fetch
  split
  · exact foldl_keeps (fun x : List Byte × Bool × State => Memory.wf x.2.2.mem.bytes) _
      (fun x i hx => Memory.wf_cacheTake _ _ _ _ hx) _ _ h
  · exact h

/-- An entry of the refusal log changes no byte. -/
@[simp] theorem State.logRefusal_bytes (q : Req) (a : Nat) (wr : Bool) (r : Nat) : (s.logRefusal q a wr r).mem.bytes = s.mem.bytes := by
  unfold State.logRefusal
  dsimp only
  split
  · split <;> rfl
  · rw [State.bumpSat_mem]; split <;> rfl

/-- Capturing the end of an access changes no byte. -/
@[simp] theorem State.powerFail_mem (a code : Nat) (wr : Bool) (q : Req) : (s.powerFail a code wr q).mem = s.mem := by
  have hc : ∀ c, (s.capture a c wr q).mem = s.mem := by
    intro c; unfold State.capture; split <;> exact State.err_mem _ _ _ _ _ _
  unfold State.powerFail State.timedOut
  split
  · exact hc _
  · split
    · rw [State.irq_mem, State.setFlag_mem, hc]
    · rfl

/-- A power request changes no byte. -/
@[simp] theorem State.hold_bytes (src who d : Nat) : (s.hold src who d).mem.bytes = s.mem.bytes := by
  simp

/-- A permitted write that is served keeps the form. -/
theorem Memory.wf_land (q : Req) (a : Nat) (bs : List Byte) (p : Bool) (h : Memory.wf s.mem.bytes) :
    Memory.wf (s.land q a bs p).2.mem.bytes := by
  unfold State.land
  split
  · exact h
  · rename_i t ht
    exact Memory.wf_deposit _ _ _ _ (by rw [(State.takeGrans_keeps ht).1]; exact h)

/-- A permitted read that is served keeps the form. -/
theorem Memory.wf_load (q : Req) (a n : Nat) (h : Memory.wf s.mem.bytes) : Memory.wf (s.load q a n).2.2.mem.bytes :=
  Memory.wf_fetch q a n h

/-- A read of memory keeps the form. -/
theorem Memory.wf_memRead (q : Req) (a n : Nat) (h : Memory.wf s.mem.bytes) : Memory.wf (s.memRead q a n).2.2.mem.bytes := by
  unfold State.memRead
  dsimp only
  split
  · split <;> simpa using h
  · split
    · exact h
    · split
      · simpa using h
      · split
        · split
          · exact Memory.wf_load _ _ _ h
          · simpa using h
        · simpa using h

/-- A write of memory keeps the form. -/
theorem Memory.wf_memWrite (q : Req) (a : Nat) (bs : List Byte) (p : Bool) (h : Memory.wf s.mem.bytes) :
    Memory.wf (s.memWrite q a bs p).2.mem.bytes := by
  unfold State.memWrite
  split
  · simpa using h
  · split
    · split
      · exact Memory.wf_land _ _ _ _ h
      · simpa using h
    · simpa using h

/-- A write of memory by a unit of the device keeps the form. -/
theorem Memory.wf_unitWrite (q : Req) (a : Nat) (bs : List Byte) (p : Bool) (h : Memory.wf s.mem.bytes) :
    Memory.wf (s.unitWrite q a bs p).2.mem.bytes := by
  have hw := Memory.wf_memWrite (s := s) q a bs p h
  unfold State.unitWrite
  split
  · rename_i t ht
    rw [ht] at hw
    simpa using Memory.wf_land q a bs p hw
  · exact hw

/-- A read of memory by a unit of the device keeps the form. -/
theorem Memory.wf_unitRead (q : Req) (a n : Nat) (h : Memory.wf s.mem.bytes) : Memory.wf (s.unitRead q a n).2.2.mem.bytes := by
  have hr := Memory.wf_memRead (s := s) q a n h
  unfold State.unitRead
  split
  · rename_i d t ht
    rw [ht] at hr
    simpa using Memory.wf_load q a n hr
  · exact hr

/-- A read of memory by an engine keeps the form. -/
theorem Memory.wf_engineRead (q : Req) (a n : Nat) (h : Memory.wf s.mem.bytes) : Memory.wf (s.engineRead q a n).2.2.mem.bytes := by
  have hr := Memory.wf_memRead (s := s) q a n h
  unfold State.engineRead
  split
  · rename_i d t ht
    rw [ht] at hr
    exact hr
  · exact hr

/-- A write of memory by an engine keeps the form. -/
theorem Memory.wf_engineWrite (q : Req) (a : Nat) (bs : List Byte) (h : Memory.wf s.mem.bytes) :
    Memory.wf (s.engineWrite q a bs).2.mem.bytes := by
  have hw := Memory.wf_memWrite (s := s) q a bs false h
  unfold State.engineWrite
  split
  · rename_i t ht
    rw [ht] at hw
    exact hw
  · exact hw

/-! ### Wiping and lost contents (R24, R352, R362) -/

/-- A wiped granule. -/
theorem Memory.wf_blankGran (g : Nat) (h : Memory.wf s.mem.bytes) : Memory.wf (s.blankGran g).mem.bytes := by
  unfold State.blankGran
  dsimp only
  exact Tab.wf_clear _ _ h

/-- The T2 granules leave their skeins. -/
theorem Memory.wf_dramFree (h : Memory.wf s.mem.bytes) : Memory.wf s.dramFree.mem.bytes := by
  unfold State.dramFree
  dsimp only
  refine foldl_keeps (fun x : State => Memory.wf x.mem.bytes) _ (fun x k hx => ?_) _ _ h
  split
  · exact hx
  · exact hx

/-- The DRAM goes OFF. -/
theorem Memory.wf_dramLost (h : Memory.wf s.mem.bytes) : Memory.wf s.dramLost.mem.bytes := by
  unfold State.dramLost
  dsimp only
  exact Tab.wf_clear _ _ (Memory.wf_dramFree h)

/-- The pool goes OFF. -/
theorem Memory.wf_poolLost (h : Memory.wf s.mem.bytes) : Memory.wf s.poolLost.mem.bytes := by
  unfold State.poolLost
  dsimp only
  refine Tab.wf_clear _ _ (foldl_keeps (fun x : State => Memory.wf x.mem.bytes) _ (fun x k hx => ?_) _ _ h)
  split
  · exact hx
  · exact hx

/-- A T2 encryption region begins or ends. -/
theorem Memory.wf_regionCrypt (r : Region) (on : Bool) (h : Memory.wf s.mem.bytes) : Memory.wf (s.regionCrypt r on).mem.bytes := by
  unfold State.regionCrypt
  exact foldl_keeps (fun x : State => Memory.wf x.mem.bytes) _ (fun x i hx => Memory.wf_pokeBytes _ _ hx) _ _ h

/-- A tile goes OFF: its scratchpad reads as memory that nothing has written. -/
theorem Memory.wf_tileOff (t : Nat) (h : Memory.wf s.mem.bytes) : Memory.wf (s.tileOff t).mem.bytes := by
  unfold State.tileOff State.setTile State.readsDrop
  dsimp only
  exact Tab.wf_clear _ _ h

end Sys2Proof.Machine
end

