-- ==== Sys2Proof/Machine/Balls.lean ====
section
/-! DEFINITION. The states of the signal balls (R454, R456, Table 22.6): what each shows follows from its supply, its domain and its
block, so it is a view of the state and no field of it. -/

namespace Sys2Proof.Machine

/-- The groups of signal balls that Table 22.6 and R454 name. -/
inductive Ball where
  | csi (n : Nat)
  | dsi (n : Nat)
  | pcieTx
  | pdmClk (g : Nat)
  | spi (mosi : Bool)
  | spiCs (n : Nat)
  | i3c (n : Nat) (sda : Bool)
  | spk (d : Nat)
  | gpio (p : Nat)
deriving DecidableEq, Repr

/-- What a ball shows. -/
inductive BallState where
  | highZ
  | lpReceiver
  | lp11
  | video
  | electricalIdle
  | pcie
  | low
  | high
  /-- a clock, in kHz -/
  | clock (khz : Nat)
  | busIdle
  | busActive
  /-- to GND through 10 kΩ -/
  | ground
  | equalPotential
  | driven
deriving DecidableEq, Repr

/-- The level a GPIO ball is driven to. -/
def padState (v : Nat) : BallState := if v = 0 then .highZ else if v = 1 then .low else .high

/-- A ball's cell in the boundary chain (R432, R457), and whether VR_IO18 feeds the ball. -/
def Ball.cell : Ball → Option (Nat × Bool)
  | .pdmClk g => some (g, true)
  | .i3c n sda => some (6 + 2 * n + sda.toNat, true)
  | .spi mosi => some (10 + mosi.toNat, true)
  | .spiCs n => some (13 + n, true)
  | .gpio p => some (20 + p, false)
  | _ => none

/-- The state a ball takes from its block: Table 22.6; a GPIO ball as it is driven, from the AON pad supply (R454). SPI_CSn is low during
its transfer. -/
def State.blockBall (s : State) : Ball → BallState
  | .csi n => if (s.dom (pageDom (0x044 + n))).st = .off then .highZ else .lpReceiver
  | .dsi n => if (s.dom 8).st = .off then .highZ else if s.strmState (10 + n) = 0 then .lp11 else .video
  | .pcieTx => match (s.dom 9).st with
    | .off => .highZ
    | .retain => .electricalIdle
    | _ => .pcie
  | .pdmClk g =>
    if !s.flag VR_STATUS 9 then .highZ
    else match s.pdmRate g with
      | 0 => .low
      | 1 => .clock 768
      | _ => .clock 3072
  | .spi _ => if !s.flag VR_STATUS 9 then .highZ else if s.flag SPI_STAT 0 then .busActive else .busIdle
  | .spiCs n =>
    if !s.flag VR_STATUS 9 then .highZ else if s.flag SPI_STAT 0 ∧ s.fld SPI_CFG 3 2 = n then .low else .high
  | .i3c n _ =>
    if !s.flag VR_STATUS 9 ∨ (s.dom 2).st = .off then .highZ
    else if s.flag (I3C_STAT n) 0 ∨ (n = 0 ∧ s.autoCur.isSome) then .busActive else .busIdle
  | .spk d =>
    if (s.dom 5).st = .off then .ground
    else if s.strmState 9 = 1 ∧ s.flag SPK_CTRL d then .driven else .equalPotential
  | .gpio p => padState (s.pads.get (fun _ => 0) p)

/-- The state of a ball: the boundary chain's where that controls the pads (R432), else its block's. -/
def State.ball (s : State) (b : Ball) : BallState :=
  match b.cell with
  | some (i, io18) =>
    if !s.dbg.scan then s.blockBall b
    else if s.dbg.highz ∨ (io18 ∧ !s.flag VR_STATUS 9) then .highZ
    else if s.dbg.chain.getD i false then .high else .low
  | none => s.blockBall b

end Sys2Proof.Machine
end

