-- ==== Sys2Proof/Tests/Slice0.lean ====
section
/-! SUPPORT. The model's own tests: ill-formed terms, single steps on the spec's worked values, and for every obligation
with hypotheses a state and operands that meet them. -/

open Sys2Proof Sys2Proof.Machine

namespace Sys2Proof.Tests

/-! ### Small states -/

/-- Every domain ON. -/
def up : State := { State.reset with pwr := { State.reset.pwr with doms := allDoms.map fun d => (d, { st := .on, rest := .on }) } }
/-- Adsel as a requester: permitted everywhere. -/
def sec : Req := ⟨6, 0, 0⟩
/-- The host as a requester for tenant 0. -/
def host : Req := ⟨2, 0, 0⟩
/-- An instruction word by its fields (Table 11.1). -/
def iw (o d a b f : Nat) : Word := word (o * 0x4000000 + d * 0x200000 + a * 0x10000 + b * 0x800 + f)
/-- Tile `t` runs tenant 0's program, word `w` is its next S slot, its X slot a NOP. -/
def runS (t : Nat) (w : Word) : State :=
  ({ up with imem := [(16384 * t, w)] } : State).setReg (TILE_STATUS t) 1 |>.setReg (PAGE_CTRL (tilePage t)) 1 |>.setTile t { x := some { sw := w } }
/-- The same with `w` in the X slot. -/
def runX (t : Nat) (w : Word) : State :=
  ({ up with imem := [(16384 * t + 1, w)] } : State).setReg (TILE_STATUS t) 1 |>.setReg (PAGE_CTRL (tilePage t)) 1
/-- Granule `i` of tile `t`'s scratchpad owned by tenant 0. -/
def ownT0 (t i : Nat) (s : State) : State := s.setOwn (128 * t + i) 1
/-- The first granule of the AON SRAM owned by tenant 0. -/
def ownAon (s : State) : State := s.setOwn (0x40000 + 4096) 1

/-- A field of the next state a command answers; `d` where it answers none. -/
def after {α : Type} (o : Host.Outcome State Fault Refusal) (d : α) (f : State → α) : α :=
  match o with
  | .next t => f t
  | _ => d

/-! ### Ill-formed terms: one for each check of WellFormed, refused by it -/

theorem test_requester_class_refused : (Instr.registerWrite ⟨8, 0, 0⟩ 0 4 0).wf = false := by decide
theorem test_requester_index_refused : (Instr.registerWrite ⟨0, 64, 0⟩ 0 4 0).wf = false := by decide
theorem test_requester_tenant_refused : (Instr.registerWrite ⟨0, 0, 8⟩ 0 4 0).wf = false := by decide
theorem test_page_refused : (Instr.errCodeRead ⟨2, 0, 0⟩ 0x2FF).wf = false ∧ (Instr.irqClr ⟨2, 0, 0⟩ 0x2FF 0).wf = false := by decide
theorem test_domain_refused : (Instr.wakeStart 97).wf = false ∧ (Instr.wakeTmoExpiry 97).wf = false := by decide
theorem test_quadrant_refused : (Instr.tileWakeSlot 4).wf = false ∧ (Instr.droopRelease 4).wf = false := by decide
theorem test_pll_pin_refused : (Instr.pllUnlock 8).wf = false ∧ (Instr.gpioWake ⟨24, true⟩).wf = false := by decide
theorem test_rail_sensor_refused : (Instr.pgoodLoss 12).wf = false ∧ (Instr.thermalSample 9 0).wf = false := by decide
theorem test_tile_refused : (Instr.alu 64 0).wf = false ∧ (Instr.traceRecord 64).wf = false := by decide
theorem test_tenant_window_refused : (Instr.schJobSubmit ⟨2, 0, 0⟩ 8 0).wf = false ∧ (Instr.admissionPost 8).wf = false := by decide
theorem test_ring_row_refused : (Instr.ringCheckEnd 8).wf = false ∧ (Instr.rowLead 256).wf = false := by decide
theorem test_counter_page_refused : (Instr.scSet ⟨2, 0, 0⟩ 128 0).wf = false := by decide
theorem test_hook_pmc_refused : (Instr.hookCancel ⟨2, 0, 0⟩ 2 1).wf = false ∧ (Instr.pmcSelWrite ⟨2, 0, 0⟩ 8 0).wf = false := by decide
/-- An ill-formed command stops by name and never runs. -/
theorem test_illformed_stops : exec (.alu 64 0) up = .fault .illFormed := rfl

/-! ### Words and the queue -/

/-- The table gives no row bits, so no word spells a command. -/
theorem test_no_word_spells : decodeTableWord 32 0x0CA0000C = none ∧ decodeTableWord 0 0 = none := by decide
/-- A step takes the front command off the queue. -/
theorem test_step_takes_front : (after (step { up with pending := [.tapReset, .idcode] }) [] fun t => t.pending) = [Instr.idcode] := by rfl

/-! ### One step each, on the values of the spec's worked examples -/

/-- Chapter 2: the pointer is 5 and 1, 3 and 6 request: 6, then 1, then 3 win. -/
theorem test_arbitration : (up.arbitrate 9 64 [1, 3, 6] false).1 = some 1 ∧
    (({ up with ptrs := [(9, 5)] } : State).arbitrate 9 64 [1, 3, 6] false).1 = some 6 ∧
    (({ up with ptrs := [(9, 7)] } : State).arbitrate 9 64 [1, 3] false).1 = some 1 ∧
    (({ up with ptrs := [(9, 2)] } : State).arbitrate 9 64 [1, 3] false).1 = some 3 := by decide

/-- Chapter 11: LUI g5, 0x000C (0x0CA0_000C). -/
theorem test_lui : after (exec (.lui 0 0x0CA0000C) (runS 0 0x0CA0000C)) 0 (fun t => (t.tile 0).gr 5) = 0x000C0000 := by decide
/-- Chapter 11: ORI g5, g5, 0x0100 (0x10A5_0100). -/
theorem test_ori : after (exec (.ori 0 0x10A50100) ((runS 0 0x10A50100).setTile 0 ({ x := some { sw := 0x10A50100 } : Tile }.setGr 5 0x000C0000))) 0
    (fun t => (t.tile 0).gr 5) = 0x000C0100 := by decide
/-- Chapter 11: ADDI g6, g0, 2 (0x08C0_0002); the PC moves past the bundle of 8 bytes. -/
theorem test_addi : after (exec (.addi 0 0x08C00002) (runS 0 0x08C00002)) (0, 0) (fun t => ((t.tile 0).gr 6, t.tilePc 0)) = (2, 8) := by decide
/-- Chapter 11: g0 reads zero whatever is written to it. -/
theorem test_g0 : after (exec (.addi 0 0x08000002) (runS 0 0x08000002)) 1 (fun t => (t.tile 0).gr 0) = 0 := by decide
/-- Chapter 11: CSRW SLEEP, g6 (0x6C06_0004) with g6 = 2: TILE_SLEEP.MODE is RETAIN. -/
theorem test_csrw_sleep : after (exec (.csrw 0 0x6C060004) ((runS 0 0x6C060004).setTile 0 ({ x := some { sw := 0x6C060004 } : Tile }.setGr 6 2))) 0
    (fun t => t.fld (TILE_SLEEP 0) 1 0) = 2 := by decide
/-- Chapter 11: the fields of WAIT g7, 0x0010 (0x60E0_0010) and VST v9, [g0 + 0x400 × 64] (0xC920_0400). -/
theorem test_fields : opc 0x60E00010 = 0x18 ∧ fd 0x60E00010 = 7 ∧ opc 0xC9200400 = 0x32 ∧ fd 0xC9200400 = 9 := by decide

/-- Chapter 22: a VBAT sample of 3,378 mV reads 0xD32 and changes no allowance. -/
theorem test_vbat_high : after (exec (.vbatSample 3378) up) (0, 0) (fun t => ((t.reg VR_VBAT).toNat, t.cap.vbat)) = (0xD32, 7) := by decide
/-- Chapter 22: 3,163 mV reads 0xC5B, sets VR_STATUS bit 28 and VR IRQ_RAW bit 0, and allows OPP 4. -/
theorem test_vbat_low : after (exec (.vbatSample 3163) up) (0, false, false, 0)
    (fun t => ((t.reg VR_VBAT).toNat, t.flag VR_STATUS 28, t.flag (IRQ_RAW 0x003) 0, t.cap.vbat)) = (0xC5B, true, true, 4) := by decide

/-- Chapter 18: WORLD's descriptor words 0x0264_0400 and 0x0064_0032, tiles 32 to 63. -/
theorem test_job_descriptor : (let d := wordBytes [0x02640400, 0, 0, 0xFFFFFFFF, 0x0E74, 0x0AF0, 0x00640032, 0x00800084];
    jobEntry d = 0x400 ∧ jobPrio d = 6 ∧ jobBank d = 1 ∧ jobTiles d = (List.range 32).map (32 + ·) ∧ jobDeadline d = 3700 ∧ jobEst d = 2800 ∧
      jobMargin d = 50 ∧ jobTotal d = 100 ∧ jobSwatch d * 64 = 0x20002100) := by decide
/-- Chapter 19: the header of the inbound record. -/
theorem test_bounce_header : (bncHeader 3 0 0x00018003 0x1000 41).take 24 =
    wordBytes [0x31424854, 0x00000003, 0x00018003, 0x1000, 0x29, 0] := by decide
/-- Chapter 20: word +0x04 of the entry of RSEQ 0x0731. -/
theorem test_row_word : (rowWords { rseq := 0x731, op := 1, st := 3, once := true, ring := 2, epoch := 3 }).getD 1 0 = 0x03002B01 := by decide
/-- Chapter 20: RSEQ 0x0731 lies at entry index 1,329 of the region at 1,024 of 512 entries. -/
theorem test_row_index : (up.setReg (ROWLOG_PART 2) 0x9400).rowIndex 2 0x731 = 1329 := by decide
/-- Chapter 21: IDCODE captures version 2, part 0x5404, manufacturer 0x3FC. -/
theorem test_idcode : after (exec .idcode up) (0, 0) (fun t => (t.dbg.ir, t.dbg.shift)) = (0x02, 0x254047F9) := by decide
/-- Chapter 17: MEM_OWN of a granule ASSIGNED to T2 skein 10 of tenant 2 reads 0x0149. -/
theorem test_own_word : nbits 0x0149 1 0 = 1 ∧ nbits 0x0149 4 2 = 2 ∧ nbits 0x0149 10 5 = 10 := by decide
/-- Reset (R38, R92): AON is ON and SOC is OFF. -/
theorem test_reset_domains : State.reset.domOn 0 = true ∧ State.reset.domOn 2 = false := by decide

/-! ### The hypotheses of the obligations can be met -/

theorem wit_EmptyQueueTicks : up.pending = [] ∧ up.pwr.chipOff = false ∧ up.refoscOk = false ∧
    ({ up with pwr := { up.pwr with chipOff := true } } : State).pwr.chipOff = true ∧
    (up.setFlag CLK_STATUS 0 true).refoscOk = true := by decide

theorem wit_AccessChecksRunInOrder : up.pwr.chipOff = false ∧ host.wf = true ∧ up.heldBack host = none ∧ pageListed 0x27F = true ∧
    (viaMesh host (regBase + 0x27FFFC) && !up.domOn 3) = false ∧
    up.accessPerm ⟨2, 0, 3⟩ 0x27FFFC 8 true = some 1 ∧ up.accessPerm host 0x4101 4 true = none ∧
    ((up.setFlag (PAGE_LOCK 4) 0 true).permission host 4 0x104 true = none ∧ (up.setFlag (PAGE_LOCK 4) 0 true).lockHolds CAP_ENVELOPE = true) ∧
    (State.reset.permission host 0x100 0x008 true = none ∧ State.reset.lockHolds (PAGE_CTRL 0x100) = false ∧ needsFabric 0x100 0x008 = true ∧
      State.reset.receives none 2 = false) ∧
    (State.reset.permission host 0x100 0x128 true = none ∧ State.reset.lockHolds (TILE_CTRL 0) = false ∧ domChecked 0x128 = true ∧
      needsFabric 0x100 0x128 = false ∧ State.reset.receives none (pageDom 0x100) = false) ∧
    up.lands host CAP_ENVELOPE true = true := by and_intros <;> decide

theorem wit_FrontCommandRuns : ({ up with pending := [.refoscFail] } : State).pending = [.refoscFail] := by decide

set_option maxRecDepth 8000 in
theorem wit_CommonBlockCommands : up.lands sec (ERR_CODE 0x27F) false = true ∧ up.lands host (IRQ_CLR 0) true = true ∧
    up.lands sec (PAGE_LOCK 0x13F) true = true ∧ up.lands host (PAGE_CTRL 0x060) true = true ∧ up.locked 0x060 = false ∧
    up.lands host (IRQ_MASK 7) true = true ∧ (viaMesh host (regBase + IRQ_MASK 7) && !up.domOn 3) = false ∧
    up.lands host (PAGE_CTRL 0x023) true = true ∧ up.locked 0x023 = false ∧
    ((((up.answer 0).setReg (PAGE_CTRL 0x023) (setBit 1 1 true &&& 5)).mbxEnabled 0x023).locked 0x023 = false) ∧ pageListed 0x27F = true ∧ pageListed 0x13F = true ∧ pageListed 0x060 = true ∧
    pageListed 7 = true := by and_intros <;> decide

theorem wit_RefusedAccessLeavesNoTrace : up.pwr.chipOff = false ∧ (⟨2, 0, 3⟩ : Req).wf = true ∧ up.heldBack ⟨2, 0, 3⟩ = none ∧
    (viaMesh ⟨2, 0, 3⟩ (regBase + 0x27FFFC) && !up.domOn 3) = false ∧
    regAddr (regBase + 0x27FFFC) = some 0x27FFFC ∧ up.accessPerm ⟨2, 0, 3⟩ 0x27FFFC 4 false = some 1 ∧
    up.accessPerm ⟨2, 0, 3⟩ PWR_CHIP_SLEEP 4 true = some 1 ∧
    regAddr 0x10040000 = none ∧ up.mayAccess ⟨2, 0, 3⟩ 0x10040000 4 true = none ∧
    regAddr 0x1003FFFC = none ∧ up.mayAccess ⟨2, 0, 3⟩ 0x1003FFFC 4 true = some false := by
  and_intros <;> decide

theorem wit_MisalignedAccessIsBadAlign : up.pwr.chipOff = false ∧ (⟨6, 0, 0⟩ : Req).wf = true ∧ up.heldBack ⟨6, 0, 0⟩ = none ∧
    (viaMesh ⟨6, 0, 0⟩ 0x10000002 && !up.domOn 3) = false ∧ (viaMesh ⟨6, 0, 0⟩ 0x10000004 && !up.domOn 3) = false ∧
    regAddr 0x10000002 = none ∧ (0x10000002 : Nat) % 4 ≠ 0 ∧ up.mayAccess ⟨6, 0, 0⟩ 0x10000002 4 true = some true ∧
    up.mayAccess ⟨6, 0, 0⟩ 0x10000002 4 false = some true ∧ up.mayAccess ⟨6, 0, 0⟩ 0x10000004 4 true = some true ∧
    up.queued none (up.memNeeds ⟨6, 0, 0⟩ 0x10000004 4).1 = false := by
  and_intros <;> decide

theorem wit_StalledAccessCompletes : domListed 95 = true ∧ up.stalls.all (fun e => e.dom != 95) = true ∧
    pageListed 0x13F = true ∧ isDebug host = false ∧ host.cls ≠ 0 ∧
    (let s : State := { up with stalls := [{ q := host, addr := regBase + IRQ_MASK 0x13F, size := 4, wr := true, data := 5, dom := 95 }] };
      s.domOn 95 = true ∧ (viaMesh host (regBase + IRQ_MASK 0x13F) && !s.domOn 3) = false ∧
      ({ s with stalls := [] } : State).lands host (IRQ_MASK 0x13F) true = true) := by
  and_intros <;> decide

theorem wit_RotatingArbitration : up.ptrs.get (fun _ => 0) 7 < 1 ∧
    (up.arbitrate 9 8 [3, 5] false).1 = some 3 ∧ (up.arbitrate 9 8 [] false) = (none, up) := by decide

theorem wit_DomainWakeCommands : domListed 95 = true ∧ up.lands host (PWR_DOM_CFG 95) true = true ∧
    (let s : State := (up.setDom 2 { st := .clockstop, rest := .clockstop }).hold 12 0x200 2;
      s.pwr.chipOff = false ∧ s.life.booting = false ∧ s.life.parked = false ∧ s.cap.hot = false ∧ s.life.bound = false ∧ s.life.bindStage = 0 ∧
      s.absent 2 = false ∧ (s.asked 2).code < (s.dom 2).st.code ∧ s.pwr.sleeping ≠ 2 ∧ s.pwr.socWait = false) ∧
    (let s : State := up.setDom 95 { st := .off, step := 4 };
      (s.dom 95).table = false ∧ s.stepCan 95 4 = true) ∧
    (let s : State := up.setDom 95 { st := .off, step := 1, table := true };
      ({ s with pwr := { s.pwr with ts := 0x100000 * 10000 } } : State).stepDelay 95 1 ≤ 10000) ∧
    (let s : State := ({ up with pwr := { up.pwr with ts := 0x100000 * 200000 } } : State).setDom 95 { st := .off, step := 1, timing := true };
      384 * s.wakeTmo 95 ≤ 10 * (s.now - (s.dom 95).t0)) := by and_intros <;> decide

theorem wit_DomainEntryCommands : domListed 95 = true ∧ (up.setFld (PWR_DOM_CFG 95) 4 3 3).domIdle 95 = true ∧ up.absent 95 = false ∧
    (up.setFld (PWR_DOM_CFG 95) 4 3 3).requested 95 = false ∧
    (up.dom 95).st.code < (supported 95 (Pow.ofCode ((up.setFld (PWR_DOM_CFG 95) 4 3 3).fld (PWR_DOM_CFG 95) 4 3))).code ∧
    ({ up with life := { up.life with ready := true } } : State).sleepOpen = true ∧ up.lands host PWR_CHIP_SLEEP true = true ∧
    bits 5 2 0 = 5 ∧ up.pwr.sleeping ≠ 2 ∧
    (let s : State := ({ up with pwr := { up.pwr with sleeping := 1 }, life := { up.life with ready := true } } : State).setReg PWR_CHIP_SLEEP 5;
      s.pwr.chipOff = false ∧ s.pwr.sleeping = 1 ∧ s.sleepOpen = true ∧ allDoms.all (fun d => !(s.dom d).waiting) = true) ∧
    (up.setFlag VR_STATUS 11 true).flag VR_STATUS 11 = true ∧
    ({ up with pwr := { up.pwr with rails := 0x200 } } : State).railUp 9 = true := by and_intros <;> decide

theorem wit_ClockCommands : (let s : State := ({ up with pwr := { up.pwr with pllRun := 0x100 } } : State).setReg CLK_STATUS 0x101;
      s.pwr.pllRun.testBit 8 = true ∧ s.flag CLK_STATUS 8 = true ∧ s.refoscOk = true ∧ s.pwr.chipOff = false) ∧
    (let s : State := ({ up with pwr := { up.pwr with pllHeld := 0x100 } } : State).setReg CLK_STATUS 1;
      s.pwr.pllHeld.testBit 8 = true ∧ s.refoscOk = true) ∧ 
    (let s : State := { up with life := { up.life with ready := true } }; s.refoscOk = false ∧ s.refoscAsked = true) ∧
    (up.setReg AON_RTC_ALARM_HI 0).reg64 AON_RTC_LO AON_RTC_HI = 0 ∧
    (let s := (up.setReg64 AON_RTC_LO AON_RTC_HI 7).setReg64 AON_RTC_ALARM_LO AON_RTC_ALARM_HI 7;
      s.reg64 AON_RTC_LO AON_RTC_HI = s.reg64 AON_RTC_ALARM_LO AON_RTC_ALARM_HI) := by and_intros <;> decide

theorem wit_WakeAndWatchdogCommands : (up.setFlag GPIO_WAKE_EN 23 true).flag GPIO_WAKE_EN 23 = true ∧ up.flag GPIO_WAKE_POL 23 = false ∧ up.cap.hot = false ∧
    up.life.parked = false ∧ (up.setFlag AON_WAKE_EN 2 true).flag AON_WAKE_EN 2 = true ∧
    up.lands sec AON_WDT_KICK true = true ∧ up.fld AON_WDT_CTRL 31 16 = 0 ∧
    ((up.setReg AON_WDT_CTRL 1).flag AON_WDT_CTRL 0 = true ∧ (up.dom 1).st = .on ∧
      (up.setReg AON_WDT_CTRL 1).fld AON_WDT_CTRL 31 16 * 32 ≤ ((up.setReg AON_WDT_CTRL 1).reg AON_WDT_COUNT).toNat) ∧
    (up.setReg AON_WDT_COUNT 1).fld AON_WDT_CTRL 31 16 * 16 < ((up.setReg AON_WDT_COUNT 1).reg AON_WDT_COUNT).toNat := by
  and_intros <;> decide

theorem wit_RailAndCapCommands : up.pwr.chipOff = false ∧ (up.setFlag CLK_STATUS 0 true).refoscOk = true ∧
    (Instr.meterSample 11 1023 4095).wf = true ∧ (Instr.hardFloorLift 5).wf = true ∧ up.flag (CAP_STATE 5) 4 = false ∧
    (up.setRail 5 { floor := 0 }).rail 5 = { floor := 0 } ∧
    (up.setFlag VR_STATUS 4 true).flag VR_STATUS 4 = true ∧
    400 + droopMv (up.fld CAP_DROOP_CFG 1 0) < oppMv (up.effOpp 3) ∧ up.flag (PAGE_CTRL 0x004) 0 = true ∧ (up.setReg (PAGE_CTRL 0x004) 0).flag (PAGE_CTRL 0x004) 0 = false ∧
    up.lands host VR_FAULT true = true ∧ up.lands host VR_LDO_CTRL true = true ∧ up.lands host (CAP_HARD 11) true = true ∧
    up.lands host (CAP_WARN 0) true = true ∧ up.locked 0x004 = false := by and_intros <;> decide

theorem wit_OperatingPointCommands : up.pwr.chipOff = false ∧ up.flag (PAGE_CTRL 0x004) 0 = true ∧ up.cap.ovr.getD 8 0 = 0 ∧
    (let s : State := { up with pwr := { up.pwr with ts := 0x100000 * 1000000 } }; max (s.slewTimes 3).2.2 s.wgtEnd ≤ s.now) ∧
    (let s : State := { up with cap := { up.cap with ovr := [0, 0, 0, 0, 0, 0, 0, 0, 1] } };
      s.tempThr 8 2 < clampS 12 2047 ∧ 8 < s.cap.ovr.length ∧ 1 ≤ s.cap.ovr.getD 8 0 ∧ s.cap.hot = false) ∧
    (let s : State := { up.setFld (CAP_TS 8) 11 0 0 with cap := { up.cap with hot := true } }; s.cap.hot = true ∧ s.tempCool 8 = true) := by
  and_intros <;> decide

theorem wit_CastOnCommands : State.reset.fld LIFE_LINE 15 12 = 0 ∧ up.pwr.chipOff = false ∧ up.cap.hot = false ∧ up.flag LIFE_LINE 9 = false ∧ (up.setFlag LIFE_LINE 9 true).flag LIFE_LINE 9 = true ∧
    (let s : State := ({ up with life := { up.life with booting := true }, fuses := { map := 0 } } : State).setReg LIFE_LINE 0x1002;
      s.stepMay s.stepNow = true ∧ s.stepNow = 2 ∧ (s.stepWork 2).1 = 0 ∧ (s.stepWork 2).2.2.lifecycle = 0) ∧
    (let s : State := ({ up with life := { up.life with booting := true } } : State).setReg LIFE_LINE 0x1004;
      s.stepMay s.stepNow = true ∧ s.stepNow = 4 ∧ (s.stepWork 4).1 ≠ 0) ∧
    (let s : State := ({ up with life := { up.life with booting := true } } : State).setReg LIFE_LINE 0x1001;
      s.life.booting = true ∧ s.stepMay s.stepNow = true ∧ s.stepNow = 1 ∧ (s.stepWork s.stepNow).1 = 0) ∧
    (let s : State := ({ up with life := { up.life with booting := true }, pwr := { up.pwr with ts := 0x100000 * 38400 * 1024 } } : State).setReg LIFE_LINE 0x1001;
      s.life.stepAt + 38400 * s.stepTmo s.stepNow ≤ s.now) ∧
    up.lands host LIFE_CMD true = true ∧ bits 0x4C460001 31 16 = 0x4C46 := by and_intros <;> decide

theorem wit_BindOffAndFuseCommands :
    (let s : State := { up with life := { up.life with ready := true } };
      s.lands host LIFE_CMD true = true ∧ s.life.ready = true ∧ s.life.bindStage = 0 ∧ s.life.bound = false ∧ s.life.parked = false ∧ s.life.fuseQ = []) ∧
    ({ up with life := { up.life with bindStage := 1 } } : State).stageEnded = true ∧
    (({ up with life := { up.life with bindStage := 6 } } : State).setReg PWR_CHIP_STATE 5).stageEnded = true ∧
    (let s : State := { up with life := { up.life with bindStage := 2 }, pwr := { up.pwr with ts := 0x100000 * 38400 * 256 } };
      s.life.stageAt + 38400 * s.fld LIFE_BINDOFF_CFG 15 8 ≤ s.now ∧ s.openSlots = []) ∧
    (let s : State := { up with life := { up.life with fuseQ := [(5, 1)] } }; s.life.fuseQ = [(5, 1)] ∧ s.domOn 1 = true) := by
  and_intros <;> decide

theorem wit_AdselWindowCommands : up.lands ⟨2, 0, 0⟩ (ADSEL_T_CMD 0) true = true ∧ up.lands ⟨6, 0, 7⟩ (ADSEL_T_CMD 7) true = true ∧
    up.flag (ADSEL_T_STAT 7) 0 = false ∧ bits 0x55 7 0 ∉ adselOps ∧ (up.setFlag ADSEL_STATUS 8 true).adselUp = true ∧
    (let c : AdselCmd := { q := host, cmd := 0x10, kind := 0, addr := 0, len := 0 };
      (let s := up.setAdselCmd 3 (some { c with kind := 0 }); s.adselCmd 3 = some c ∧ s.adselRight 3 c = some 3) ∧
      (let s := up.setAdselCmd 0 (some { c with cmd := 0x21 }); (s.setFld ADSEL_STATUS 2 0 2).adselRight 0 { c with cmd := 0x21 } = none)) := by
  and_intros <;> decide

theorem wit_AdselServedCommands :
    (let s : State := ({ up with adsel := { up.adsel with serving := some 0 } } : State).setAdselCmd 0 (some { q := host, cmd := 0x20, kind := 1, addr := 0, len := 0 });
      (s.setFlag ADSEL_STATUS 8 true).adselUp = true ∧ s.adsel.serving = some 0 ∧
      s.adselCmd 0 = some { q := host, cmd := 0x20, kind := 1, addr := 0, len := 0 } ∧ (s.adselWork 0 { q := host, cmd := 0x20, kind := 1, addr := 0, len := 0 }).1 = some (0, none)) ∧
    ({ up with adsel := { up.adsel with wiping := [7] } } : State).tenantWiped 7 = true ∧
    (allPages.filter fun p => up.pageOwner p == 7).all up.pageDrained = true ∧
    (let s : State := { up with life := { up.life with ended := true }, fuses := { up.fuses with map := 0 } };
      s.lifecycle = 0 ∧ s.domOn 1 = true ∧ s.life.fuseQ = []) ∧
    (let s : State := ({ up with pwr := { up.pwr with ts := 0x100000 * 384000000 } } : State).setFlag ADSEL_STATUS 17 true;
      s.flag ADSEL_STATUS 17 = true ∧ s.adsel.challengeAt + 384000000 ≤ s.now) := by and_intros <;> decide

theorem wit_UnlockAndSupervisionCommands : (up.setFlag ADSEL_STATUS 8 true).adselUp = true ∧
    (up.setFlag (MBX_RX_STAT 63) 0 true).flag (MBX_RX_STAT 63) 0 = true ∧ slice (leBytes 4 0x000000D5) 0 1 = [0xD5] ∧
    ({ up with adsel := { up.adsel with mbxResp := some [] } } : State).unlockReason false [] = some 9 ∧
    ({ up with adsel := { up.adsel with posts := [(0, none)] }, pwr := { up.pwr with ts := 0x100000 * 307200 } } : State).now = 307200 ∧
    up.debugLevel ≠ 1 ∧ ((up.setFlag ADSEL_STATUS 8 true).setFlag ADSEL_SUPV 16 true).supervised = true ∧
    (({ up with life := { up.life with ready := true } } : State).flag ADSEL_STATUS 8 = false ∧ up.adsel.starting = false ∧ up.domOn 1 = true) ∧
    up.adsel.tapChallenge = false ∧ up.adsel.tapResp = none ∧ ({ up with adsel := { up.adsel with starting := true } } : State).adsel.starting = true := by
  and_intros <;> decide

theorem wit_MicrophoneCommands :
    (let s := (up.setFlag (PAGE_CTRL 0x040) 0 true).setReg (STRM_STAT 6) 1;
      s.pwr.chipOff = false ∧ s.flag (PAGE_CTRL 0x040) 0 = true ∧ s.domOn 4 = true ∧ s.strmState 6 = 1 ∧ (s.stream 6).next = 0 ∧
      (s.setFlag AUD_STATUS 2 true |>.lpSample []).1 = some 0 ∧ s.domOn 5 = true ∧
      (((s.strmBoundary 7).beamLatch).hqFilter []).2.strmState 7 = 0) ∧
    (let s := up.setReg (STRM_STAT 7) 1;
      (((s.strmBoundary 7).beamLatch).hqFilter []).2.strmState 7 = 1 ∧
      (((s.strmBoundary 7).beamLatch).hqFilter []).2.flag AUD_STATUS 3 = false) ∧
    (let s := (up.setReg (STRM_STAT 7) 1).setReg AUD_HQ_CFG 1;
      s.domOn 4 = true ∧ s.hqRuns = true ∧ s.pdmRate 0 ≠ 0 ∧ s.pdmRate 0 ≠ 2) ∧
    up.lands host AUD_BEAM_COMMIT true = true ∧ up.lands host AUD_CTRL true = true := by and_intros <;> decide

theorem wit_SpeakerCommands :
    (let s : State := ((up.setFlag (PAGE_CTRL 0x041) 0 true).setReg (STRM_STAT 9) 1).setStream 9 { cap := true };
      let w := (((s.strmBoundary 9).senseWrite [0, 0, 0, 0]).spkLimit 0 0).spkLimit 1 0;
      s.flag (PAGE_CTRL 0x041) 0 = true ∧ s.domOn 5 = true ∧ w.strmState 9 = 1 ∧ w.spkPair.1.isSome = true) ∧
    (let s : State := (up.setFlag (PAGE_CTRL 0x041) 0 true).setReg (STRM_STAT 9) 1;
      let w := (((s.strmBoundary 9).senseWrite [0, 0, 0, 0]).spkLimit 0 0).spkLimit 1 0;
      w.strmState 9 = 1 ∧ w.spkPair.1 = none) ∧
    (let s : State := { up.setSpk 1 { muted := true } with pwr := { up.pwr with ts := 0x100000 * 3840000 } };
      (s.spkOf 1).muted = true ∧ (s.spkOf 1).mutedAt + 3840000 ≤ s.now) ∧ ((up.setSpk 1 { atten := 1 }).spkOf 1).atten = 1 ∧ up.fld SPK_PLIM 11 0 < 4096 ∧ up.flag SPK_STATUS 5 = false ∧
    (up.setFlag SPK_STATUS 5 true).flag SPK_STATUS 5 = true ∧ 1 < ((up.setSpk 1 { atten := 2 }).spkOf 1).atten ∧
    (0 : Nat) < (up.setFld SPK_PLIM 11 0 1).fld SPK_PLIM 11 0 := by and_intros <;> decide

theorem wit_AlwaysOnEngineCommands :
    (let s : State := ((up.setReg AIE_STATUS 1).setReg AIE_CTRL 3).setReg CLK_STATUS 1;
      let m : List Byte := leBytes 8 0 ++ [16, 0, 1, 1] ++ [16, 0, 1, 0] ++ leBytes 16 0;
      let t : State := { s with aie := { s.aie with model := m, vision := some [], audioReady := true } };
      t.aieRuns true = true ∧ t.aieRuns false = true ∧ t.flag AIE_STATUS 1 = false ∧ t.flag AIE_STATUS 2 = false ∧
      t.flag (PAGE_CTRL 0x008) 0 = true ∧ (t.arbitrate 0x100 2 t.aieReady false).1 = some false.toNat ∧
      (t.setFlag AIE_STATUS 1 true).aieRuns true = true ∧ (t.setFlag AIE_STATUS 0 false).aieRuns true = false) ∧
    (let t : State := { up with ptrs := [(0x100, 1)] }; (t.arbitrate 0x100 2 [0, 1] false).1 = some true.toNat) ∧
    ((up.setReg AIE_STATUS 4).setReg CLK_STATUS 1).refoscOk = true ∧
    (up.setReg AIE_STATUS 4).flag AIE_STATUS (1 + true.toNat) = true ∧ up.lands host AIE_LOAD_CMD true = true ∧ bit 1 0 = true ∧
    up.flag AIE_STATUS 3 = false ∧
    (let s := (ownAon ((up.setReg AIE_STATUS 8).setReg AIE_LOAD_ADDR_LO 0x10000000));
      s.flag AIE_STATUS 3 = true ∧ (s.unitRead (unitReq 0) (s.base64 AIE_LOAD_ADDR_LO AIE_LOAD_ADDR_HI) 64).1 = 0 ∧
      leNat (slice (s.unitRead (unitReq 0) (s.base64 AIE_LOAD_ADDR_LO AIE_LOAD_ADDR_HI) 64).2.1 4 4) = 0) := by and_intros <;> decide

theorem wit_CascadeCommands : up.lands host (CASC_SCORE_IN 7) true = true ∧
    (let s := up.setPlyState 3 1; s.plyState 3 = 1 ∧ (s.plyDoms 3).all s.domOn = true) ∧
    (let s := (up.setPlyState 1 2).setFld (DESC_SLEEP 1) 15 0 1; s.plyState 1 = 2 ∧ s.fld (DESC_SLEEP 1) 15 0 ≠ 0 ∧
      (let t : State := { s with pwr := { s.pwr with ts := 0x100000 * 38400 } }; (t.plyOf 1).timer + 38400 * t.fld (DESC_SLEEP 1) 15 0 ≤ t.now)) ∧
    up.flag (PAGE_CTRL 0x007) 0 = true ∧ bits 0x10 5 4 ≠ up.fld (DESC_CFG 3) 5 4 ∧ (up.setPlyState 3 1).plyUp 3 = true ∧ bits 0x10 5 4 ≤ 3 ∧
    up.lands host CASC_CMD true = true ∧ bit 1 5 = false ∧ bit 0x20 0 = false ∧ up.lands host (DESC_CFG 3) true = true ∧
    bits 0x80 5 4 = up.fld (DESC_CFG 3) 5 4 ∧ up.plyState 3 ≠ 3 ∧ up.lands host (DESC_CFG 3 + 4 * 7) true = true ∧
    up.plyUp 3 = false := by and_intros <;> decide

theorem wit_StreamStateCommands : up.lands host (STRM_CMD 15) true = true ∧ up.lands host (STRM_CMD 0) true = true ∧ up.strmState 15 = 0 ∧
    (up.setReg (CSI_CFG 0) 0x2A00 |>.setReg (CSI_ISP 0) 0x301).ispConfigOk 0 = true ∧
    (up.setReg (CSI_ISP 0) 3).ispConfigOk 0 = false ∧ (up.setReg (DSI_LANE_RATE 1) 160).dsiRateOk 1 = true ∧ (up.setReg (DSI_LANE_RATE 1) 0).dsiRateOk 1 = false ∧ (up.setReg (STRM_STAT 11) 3).strmState (10 + 1) = 3 ∧
    (let s := up.setReg (STRM_STAT 15) 1; s.strmState 15 = 1 ∧ ((s.answer 0).readersStopped 15).strmState 15 = 1 ∧ s.lands host (STRM_CMD 15) true = true) ∧
    (let s := up.setReg (STRM_STAT 5) 1; s.strmState 5 = 1 ∧ ((s.answer 0).readersStopped 5).strmState 5 = 1 ∧ s.lands host (STRM_CMD 5) true = true) ∧
    (up.setReg (STRM_STAT 9) 2).strmState 9 = 2 ∧ (up.setReg (STRM_STAT 9) 3).strmState 9 = 3 ∧ (up.setReg (STRM_STAT 9) 3).pwr.chipOff = false := by
  and_intros <;> decide

theorem wit_StreamBufferCommands : up.lands host (STRM_SW_SEQ 15) true = true ∧
    (let s := up.setReg (STRM_HW_SEQ 15) 3; s.strmOut 15 = false ∧ s.strmAhead 15 = 3 ∧ s.lands host (STRM_SW_SEQ 15) true = true) ∧ up.strmAhead 15 < 1 ∧
    (let s := (up.setReg (STRM_STAT 8) 1).setStream 8 { cap := true, ended := true };
      s.strmOut 8 = false ∧ s.strmState 8 = 1 ∧ (s.stream 8).cap = true ∧ (s.stream 8).ended = true ∧ s.pwr.chipOff = false) ∧
    (let s := (up.setReg (STRM_STAT 5) 1).setCamera 5 { done := true }; (s.camera 5).done = true ∧ s.csiOn 5 = true ∧ s.strmState 5 = 1) ∧
    (let s := up.setReg (STRM_STAT 12) 1; s.strmState 12 = 1 ∧ s.strmOut 12 = false ∧ ((s.strmOpen 12 s.now).stream 12).cap = true) ∧
    (let s := (up.setReg (STRM_STAT 15) 1).setReg (STRM_BUF_CFG 15) 0x10000001;
      s.strmOut 15 = true ∧ s.strmState 15 = 1 ∧ s.strmAhead 15 = 0 ∧ (s.setReg (STRM_SW_SEQ 15) 1).strmAhead 15 = 1) ∧
    up.strmState 14 = 0 := by and_intros <;> decide

theorem wit_CameraCommands :
    (let s := (up.setFlag (PAGE_CTRL 0x049) 0 true).setReg (STRM_STAT 5) 1;
      s.pwr.chipOff = false ∧ s.flag (PAGE_CTRL 0x049) 0 = true ∧ s.csiOn 5 = true ∧ s.strmState 5 = 1 ∧ (s.stream 5).next = 0 ∧
      (s.camera 5).done = false ∧ (s.camera 5).frame = false ∧ s.ringLapped 5 = s) ∧
    (let s := (((up.setFlag (PAGE_CTRL 0x049) 0 true).setReg (STRM_STAT 5) 1).setReg (CSI_CFG 5) 0x2B00).setReg (CSI_SIZE 5) 0x10004 |>.setCamera 5 { frame := true };
      (s.camera 5).lines.length < s.csiH 5 ∧ s.strmState 5 ≠ 0 ∧ dtBytes (s.csiDt 5) (s.csiW 5) = 5 ∧ s.flag (PAGE_CTRL 0x049) 0 = true ∧
      (2 : Nat) ≠ s.fld (CSI_CFG 5) 5 4 ∧ (s.camera 5).frame = true) ∧
    (let s := ((up.setFlag (PAGE_CTRL 0x049) 0 true).setReg (CSI_CFG 5) 0x2A00).setReg (CSI_SIZE 5) 0x10004 |>.setCamera 5 { done := true };
      s.fld (CSI_LINE_CNT 5) 15 0 < s.ispH 5 ∧ s.ispReady 5 (s.camera 5) (s.fld (CSI_LINE_CNT 5) 15 0) = true) ∧
    (let s : State := ((((up.setFlag (PAGE_CTRL 0x048) 0 true).setReg (CSI_AO 4) 1).setReg (CSI_ISP 4) 1).setReg (CSI_SIZE 4) 0x300040).setReg (STRM_STAT 4) 1;
      let s := (s.setCamera 4 { frame := true }).setStream 4 { cap := true };
      let u := ((s.strmStamp 4).irq 0x048 1).frameEnd 4;
      s.flag (CSI_AO 4) 0 = true ∧ s.csiOn 4 = true ∧ (s.camera 4).frame = true ∧ (s.stream 4).cap = true ∧ s.pageOwner 0x048 = 0 ∧
        s.strmState 4 ≠ 0 ∧ u.ispMode 4 ≠ 0 ∧ 64 ≤ u.ispW 4 ∧ 48 ≤ u.ispH 4) ∧
    (let s : State := { up.setReg (CSI_FRAME_TMO 5) 1 with pwr := { up.pwr with ts := 0x100000 * 38400 } };
      s.fld (CSI_FRAME_TMO 5) 15 0 ≠ 0 ∧ (s.camera 5).fsAt + 38400 * s.fld (CSI_FRAME_TMO 5) 15 0 ≤ s.now) := by and_intros <;> decide

theorem wit_SerialBusCommands : up.lands host (I3C_CMD 1) true = true ∧ up.flag (I3C_STAT 1) 0 = false ∧
    (up.setFlag (I3C_STAT 1) 0 true).lands host (I3C_CMD 1) true = true ∧ (up.setFlag (I3C_STAT 1) 0 true).flag (I3C_STAT 1) 0 = true ∧
    (up.setFlag (PAGE_CTRL 0x04E) 0 true).flag (PAGE_CTRL 0x04E) 0 = true ∧ (up.i3cOf 1).held = [] ∧
    (let s : State := { (((up.setFlag (PAGE_CTRL 0x04D) 0 true).setReg (I3C_AUTO 3) 5).setAuto 3 { wait := true }).setFlag VR_STATUS 9 true with autoCur := some 3 };
      s.flag (PAGE_CTRL 0x04D) 0 = true ∧ s.domOn 2 = true ∧ s.flag VR_STATUS 9 = true ∧ s.autoCur = some 3 ∧
      ((s.setAuto 3 {}).strmBoundary 8).strmState 8 ≠ 1) ∧
    ((((up.setReg (STRM_STAT 8) 1).setAuto 3 {}).strmBoundary 8).strmState 8 = 1) := by and_intros <;> decide

theorem wit_PinAndSpiCommands :
    (let s : State := { up.setFlag (PAGE_CTRL 0x04F) 0 true with fsync := true };
      s.flag (PAGE_CTRL 0x04F) 0 = true ∧ s.domOn 2 = true ∧ s.fsync = true ∧ s.pwr.chipOff = false) ∧
    up.lands host SPI_XFER true = true ∧ up.flag SPI_STAT 0 = false ∧ bit 0x10000 16 = true ∧ bit 0x40 16 = false ∧
    (let s := (up.setFlag (PAGE_CTRL 0x050) 0 true).setFlag SPI_STAT 0 true; s.flag (PAGE_CTRL 0x050) 0 = true ∧ s.flag SPI_STAT 0 = true) := by
  and_intros <;> decide

theorem wit_DisplayCommands :
    (let s := (((up.setFlag (PAGE_CTRL 0x04B) 0 true).setReg (STRM_STAT 11) 1).setReg (DSI_VACT_VFP 1) 2).setDisplay 1 { line := some 1 };
      s.flag (PAGE_CTRL 0x04B) 0 = true ∧ s.dsiOn = true ∧ s.strmState 11 = 1 ∧ s.pwr.chipOff = false ∧ (s.display 1).line = some 1 ∧
      s.life.bindStage < 2 ∧ 1 < s.dsiLines 1 ∧ (s.dsiV 1).1 + (s.dsiV 1).2.1 ≤ 1 ∧ 1 < (s.dsiV 1).1 + (s.dsiV 1).2.1 + (s.dsiV 1).2.2.1) ∧
    (let s := ((up.setFlag (PAGE_CTRL 0x04B) 0 true).setReg (STRM_STAT 11) 1).setReg (DSI_VACT_VFP 1) 2;
      (s.display 1).line.any (fun l => decide (l < s.dsiLines 1)) = false ∧
      (s.strmBoundary 11).strmState 11 ≠ 0 ∧ (up.strmBoundary 11).strmState 11 = 0 ∧ (s.readPose 1).flag (LAYER_CFG 1 3) 0 = false) ∧
    (let s := (up.setReg (DSI_VSYNC_VBP 0) 1).setDisplay 0 { line := some 0 }; 0 < s.dsiLines 0 ∧ 0 < (s.dsiV 0).1) ∧
    up.lands host (LAYER_SUBMIT 1 3) true = true ∧ 0x8000 ≤ (bits 0xFFFF0002 31 16 + 0x10000 - up.fld (DSI_FRAME 1) 15 0) % 0x10000 ∧
    (bits 0x7FFF0002 31 16 + 0x10000 - up.fld (DSI_FRAME 1) 15 0) % 0x10000 < 0x8000 ∧
    up.lands host (DSI_DCS 1) true = true ∧ up.strmState 11 = 0 ∧ (up.setReg (STRM_STAT 11) 2).strmState 11 ≠ 0 := by
  and_intros <;> decide

theorem wit_MailboxCommands : up.lands host (MBX_SEND 63 14) true = true ∧ up.lands host (MBX_SEND 63 15) true = true ∧
    (up.mbxClaim 63).any (· != host) = false ∧ ((up.setClaim 63 (some sec)).mbxClaim 63).any (· != host) = true ∧
    up.flag (MBX_RX_STAT 63) 0 = false ∧ (up.setFlag (MBX_RX_STAT 63) 0 true).flag (MBX_RX_STAT 63) 0 = true ∧
    up.lands sec (MBX_SLOT 0 15) false = true ∧ up.lands sec (MBX_RING 62) true = true ∧ up.lands sec (MBX_PEND 62) true = true ∧
    (let s : State := { (up.setFlag (PAGE_CTRL 0x023) 0 true).setClaim 63 (some sec) with pwr := { up.pwr with ts := 0x100000 * 100000000 } };
      s.pwr.chipOff = false ∧ s.flag (PAGE_CTRL (0x020 + 63 / 16)) 0 = true ∧ s.mbxClaimLate 63 = true) ∧ up.lands sec (MBX_CFG 63) true = true ∧ up.lands sec (MBX_CFG 0) true = true ∧
    bits (up.reg (MBX_CFG 0)) 1 0 ≠ bits (1 &&& 0x703FF) 1 0 := by and_intros <;> decide

theorem wit_BundleRetires : (((runS 63 0).tile 63).x.getD {}).store = none ∧ (runS 63 0).pwr.chipOff = false ∧
    ((runS 63 0).setTile 63 { x := some { fault := some (0x10, 0) } }).slotOf 63 0 = some false := by
  and_intros <;> decide

theorem wit_TileArithmetic : (runS 63 (iw 1 31 30 29 13)).readyS 63 (iw 1 31 30 29 13) = true ∧ opc (iw 1 31 30 29 13) = 1 ∧
    (runS 0 (iw 1 1 2 3 14)).readyS 0 (iw 1 1 2 3 14) = true ∧ 13 < fn (iw 1 1 2 3 14) ∧
    (runS 0 (iw 2 1 2 31 2047)).readyS 0 (iw 2 1 2 31 2047) = true ∧ opc (iw 2 1 2 31 2047) = 2 ∧
    (runS 0 (iw 3 1 0 31 2047)).readyS 0 (iw 3 1 0 31 2047) = true ∧ opc (iw 3 1 0 31 2047) = 3 ∧ fa (iw 3 1 0 31 2047) = 0 ∧
    (runS 0 (iw 3 1 1 0 0)).readyS 0 (iw 3 1 1 0 0) = true ∧ fa (iw 3 1 1 0 0) ≠ 0 ∧
    (runS 0 (iw 4 1 2 31 2047)).readyS 0 (iw 4 1 2 31 2047) = true ∧ opc (iw 4 1 2 31 2047) = 4 ∧
    (runS 63 0).readyS 63 0 = true ∧ (runX 63 0).readyX 63 0 = true ∧
    (runS 5 (iw 0x1A 1 0 0 0)).readyS 5 (iw 0x1A 1 0 0 0) = true ∧ opc (iw 0x1A 1 0 0 0) = 0x1A ∧ ((runS 5 (iw 0x1A 1 0 0 0)).csr 5 0).isSome = true ∧
    (runS 5 (iw 0x1A 1 0 0 255)).readyS 5 (iw 0x1A 1 0 0 255) = true ∧ (runS 5 (iw 0x1A 1 0 0 255)).csr 5 (bits (iw 0x1A 1 0 0 255) 7 0) = none ∧
    (runS 5 (iw 0x1B 0 1 0 4)).readyS 5 (iw 0x1B 0 1 0 4) = true ∧ opc (iw 0x1B 0 1 0 4) = 0x1B ∧ ((runS 5 (iw 0x1B 0 1 0 4)).csrWrite 5 4 0).isSome = true ∧
    (runS 5 (iw 0x1B 0 1 0 0)).readyS 5 (iw 0x1B 0 1 0 0) = true ∧ ((runS 5 (iw 0x1B 0 1 0 0)).csrWrite 5 0 0).isNone = true := by and_intros <;> decide

theorem wit_TileLoadsAndStores :
    (let s := ownT0 63 0 (runS 63 (iw 8 1 0 0 8)); s.readyS 63 (iw 8 1 0 0 8) = true ∧ s.localCheck 63 8 4 false = (none, s)) ∧
    (let s := ownT0 63 0 (runS 63 (iw 9 1 0 0 8)); s.readyS 63 (iw 9 1 0 0 8) = true ∧ s.localCheck 63 8 4 true = (none, s)) ∧
    (let w := iw 0xC 1 2 0 0x100
     let s := ownAon ((runS 63 w).setTile 63 { x := some { sw := w }, g := [(2, 0x10000000)] });
      s.readyS 63 w = true ∧ opc w = 0x0C ∧ globalOk w = true ∧ s.globalWaits 63 (s.globalAddr 63 w) = false ∧
      ((s.busRead (s.tileReq 63) (s.globalAddr 63 w) 4).sideTurn 63 (s.globalAddr 63 w)).resp.code = 0) ∧
    (let w := iw 0xC 1 2 0 0x100
     let s := (runS 63 w).setTile 63 { x := some { sw := w }, g := [(2, 0x10000000)] };
      s.readyS 63 w = true ∧ s.globalWaits 63 (s.globalAddr 63 w) = false ∧
      0 < ((s.busRead (s.tileReq 63) (s.globalAddr 63 w) 4).sideTurn 63 (s.globalAddr 63 w)).resp.code ∧
      ((s.busRead (s.tileReq 63) (s.globalAddr 63 w) 4).sideTurn 63 (s.globalAddr 63 w)).resp.code < 0x100) ∧
    (let w := iw 0xD 1 2 0 0x100
     let s := ownAon ((runS 63 w).setTile 63 { x := some { sw := w }, g := [(2, 0x10000000)] });
      s.readyS 63 w = true ∧ opc w = 0x0D ∧ globalOk w = true ∧ s.globalWaits 63 (s.globalAddr 63 w) = false ∧
      ((s.busWrite (s.tileReq 63) (s.globalAddr 63 w) 4 0).sideTurn 63 (s.globalAddr 63 w)).resp.code = 0) ∧
    (let w := iw 0xD 1 2 0 0x100
     let s := ((runS 63 w).setTile 63 { x := some { sw := w }, g := [(2, 0x1800000)] }).setFlag MESH_FENCED_HI 31 true;
      s.readyS 63 w = true ∧ globalOk w = true ∧ s.globalWaits 63 (s.globalAddr 63 w) = true) ∧
    (runS 63 (iw 0xD 1 3 0 0)).readyS 63 (iw 0xD 1 3 0 0) = true ∧ globalOk (iw 0xD 1 3 0 0) = false ∧
    opc (iw 8 1 0 0 8) = 8 ∧ opc (iw 9 1 0 0 8) = 9 ∧
    0x7FFFF < addImm (((runS 63 (iw 8 1 0 31 2047)).tile 63).gr 0) (imm16 (iw 8 1 0 31 2047)) ∧
    addImm (((runS 63 (iw 8 1 0 0 6)).tile 63).gr 0) (imm16 (iw 8 1 0 0 6)) % 4 ≠ 0 ∧
    (runS 63 (iw 9 1 0 0 8)).readyS 63 (iw 9 1 0 0 8) = true := by
  and_intros <;> decide

theorem wit_TileControlFlow : (runS 63 (iw 0x15 1 2 31 2047)).readyS 63 (iw 0x15 1 2 31 2047) = true ∧
    (runS 0 (iw 0x16 1 31 31 2047)).readyS 0 (iw 0x16 1 31 31 2047) = true ∧ opc (iw 0x16 1 31 31 2047) = 0x16 ∧
    (runS 0 (iw 0x17 0 1 0 0)).readyS 0 (iw 0x17 0 1 0 0) = true ∧ (((runS 0 (iw 0x17 0 1 0 0)).tile 0).gr 1).toNat < 0x10000 ∧
    (0x10000 : Nat) ≤ ((Tile.setGr { x := some {} } 1 0x10000).gr 1).toNat ∧
    (runS 0 (iw 0x18 1 0 0 2)).readyS 0 (iw 0x18 1 0 0 2) = true ∧ (runS 0 (iw 0x18 1 0 0 2)).waitMet 0 2 false = true ∧
    (runS 0 (iw 0x18 1 0 0 32)).readyS 0 (iw 0x18 1 0 0 32) = true ∧ (runS 0 (iw 0x18 1 0 0 32)).waitMet 0 32 false = false ∧
    (runS 0 (iw 0x19 0 0 0 63)).readyS 0 (iw 0x19 0 0 0 63) = true ∧ (runS 0 (iw 0x19 0 0 0 63)).waitMet 0 63 true = false ∧
    (let s := (runS 0 0).setReg (TILE_STATUS 0) 2 |>.setTile 0 { wait := some (1, 2, false) };
      s.pwr.chipOff = false ∧ s.flag (PAGE_CTRL 0x100) 0 = true ∧ (s.tile 0).wait = some (1, 2, false) ∧ s.tileSt 0 = 2 ∧ s.waitMet 0 2 false = true ∧ s.domOn 32 = true) ∧
    (let s := ((runS 0 0).setReg (TILE_STATUS 0) 2 |>.setTile 0 { wait := some (1, 2, false) }).setDom 32 { st := .retain, rest := .retain };
      s.tileSt 0 = 2 ∧ s.waitMet 0 2 false = true ∧ s.domOn 32 = false) ∧
    (runS 0 (iw 0x1C 0 0 0 2)).readyS 0 (iw 0x1C 0 0 0 2) = true ∧ sysClean (iw 0x1C 0 0 0 2) = true ∧ ((runS 0 0).tile 0).msgIdle = true ∧
    (runS 0 (iw 0x1C 0 0 0 0)).readyS 0 (iw 0x1C 0 0 0 0) = true ∧ (runS 0 (iw 0x1C 0 0 0 1)).readyS 0 (iw 0x1C 0 0 0 1) = true ∧
    (runS 0 (iw 0x1D 0 0 31 2047)).readyS 0 (iw 0x1D 0 0 31 2047) = true ∧ ((runS 0 0).tile 0).chk.any (fun c => 5 < c.1) = false ∧
    (runS 0 (iw 0x1E 0 0 0 255)).readyS 0 (iw 0x1E 0 0 0 255) = true ∧ bits (iw 0x1E 0 0 0 255) 15 8 = 0 := by and_intros <;> decide

theorem wit_TileMessageCommands :
    (let s := (ownT0 63 0 (runS 63 (iw 0x20 1 0 0 1)));
      s.readyS 63 (iw 0x20 1 0 0 1) = true ∧ s.localCheck 63 0 32 false = (none, s) ∧ s.fenced 63 = false ∧ (s.tile 63).freeTag = some 0 ∧
      imageOk (nbits (leNat (s.bytesAt (spad 63 0) 32)) 3 0) 0 0 0 0 = false) ∧
    (let s := (ownT0 63 0 (runS 63 (iw 0x20 1 0 0 0))).pokeBytes (spad 63 0) [5];
      s.readyS 63 (iw 0x20 1 0 0 0) = true ∧ s.localCheck 63 0 32 false = (none, s) ∧ nbits (leNat (s.bytesAt (spad 63 0) 32)) 3 0 = 5 ∧
      imageOk 5 0 0 0 0 = true) ∧ imageOk 2 0 32 0 0 = true ∧
    ({ out := (List.range 32).map fun i => ⟨i, false, false, false, false, 0, 0, false⟩ } : Tile).freeTag = none ∧
    (runS 63 (iw 0x22 1 0 0 1)).readyS 63 (iw 0x22 1 0 0 1) = true ∧ ((runS 63 0).tile 63).inbox = [] ∧
    (let s := ownT0 0 0 (runS 0 (iw 0x23 0 0 0 0)); s.readyS 0 (iw 0x23 0 0 0 0) = true ∧ s.localCheck 0 0 32 false = (none, s) ∧ (s.tile 0).dma.length < 8) ∧
    (let s := (runS 63 0).setTile 63 { dma := [(0, List.replicate 32 0)] };
      s.pwr.chipOff = false ∧ s.flag (PAGE_CTRL (0x100 + 63)) 0 = true ∧ s.fenced 63 = false ∧ dmaValid (List.replicate 32 0) = false ∧
      s.domOn (tileDom 63) = true) ∧
    (let s := (runS 63 0).setTile 63 { dma := [(0, List.replicate 32 0)], dmaOn := true, dmaCode := some 3 };
      (s.dmaGo 63).dmaAwaits 63 = false ∧ ((s.dmaGo 63).tile 63).dmaCode = some 3 ∧ (s.dmaGo 63).fenced 63 = false) ∧
    (let d : List Byte := [0, 0, 0, 0x40, 0, 0, 0, 0, 0x40, 0, 0, 0x40, 0, 0, 0, 0, 0x40, 0, 0, 0] ++ List.replicate 12 0;
      let s := ownT0 0 0 ((runS 0 0).setTile 0 { dma := [(0, d)], dmaOn := true });
      dmaValid d = true ∧ ownSpad 0 (dmaSrc d) = true ∧ ownSpad 0 (dmaDst d) = true ∧ (s.loadGrans (dmaReq 0 0) (dmaSrc d) 64).1 = 0 ∧
      s.dmaAwaits 0 = false ∧ (s.tile 0).dmaPos < dmaLen d ∧
      (let v := s.setTile 0 { dma := [(0, d)], dmaOn := true, dmaPos := 64 };
        dmaLen d ≤ ((v.dmaGo 0).tile 0).dmaPos ∧ ((v.dmaGo 0).tile 0).dma = [(0, d)] ∧ ((v.dmaGo 0).dmaStitch 0 0 d).1 = true ∧
        (((v.dmaGo 0).dmaStitch 0 0 d).2.dmaBell 0 0 d).1 = true)) ∧
    (let d : List Byte := [0, 0, 0x10, 0x40, 0, 0, 0, 0, 0x40, 0, 0, 0x40, 0, 0, 0, 0, 0x40, 0, 0, 0] ++ List.replicate 12 0;
      ownSpad 0 (dmaSrc d) = false ∧ isOutbound (dmaSrc d) = false) := by and_intros <;> decide

theorem wit_StitchCounterPermission :
    scState (up.scValue 131071) = 0 ∧ (up.dom (32 + 131071 / 2048)).st ≠ .off ∧
    scState ((up.setScValue 5 0x20000000).scValue 5) = 2 ∧ scOwner ((up.setScValue 5 0x20000000).scConfig 5) = 0 ∧
    scState ((up.setScValue 5 0x10000000).scValue 5) = 1 ∧ (up.scOp 0 5 .add 1 true).1 ≠ 0 := by and_intros <;> decide

theorem wit_StitchCommands :
    (let w := iw 0x21 1 0 0 0
     let s := ((runS 63 w).setTile 63 { x := some { sw := w }, g := [(2, 131071)] }).setScValue 131071 0x10000000;
      s.readyS 63 w = true ∧ stitchClean w = true ∧ opc w = 0x21) ∧
    (let w := iw 0x21 1 2 3 2
     let s := (runS 63 w).setTile 63 { x := some { sw := w }, g := [(2, 131071)] };
      let l := s.setScValue 131071 0x10000000; let st := s.setScValue 131071 0x20000000;
      l.readyS 63 w = true ∧ stitchClean w = true ∧ bits ((l.tile 63).gr 2) 16 0 = 131071 ∧
      (l.scOp (l.tileTen 63) 131071 .add 0 true).1 = 0 ∧ (st.scOp (st.tileTen 63) 131071 .add 0 true).1 = 5 ∧
      (s.scOp (s.tileTen 63) 131071 .add 0 true).1 = 1 ∧ (131071 : Nat) / 2048 = 63 ∧
      l.scPermitted (l.tileTen 63) 131071 .add true false = true ∧ (l.dom (32 + 131071 / 2048)).st ≠ .off) ∧
    (let s := (runS 63 (iw 0x21 1 0 0 0));
      bits ((s.tile 63).gr 0) 16 0 / 2048 ≠ 63 ∧ s.fenced 63 = false ∧ s.portStalled 63 = false ∧ (s.tile 63).freeTag = some 0) ∧
    (runS 63 (iw 0x21 1 0 0 7)).readyS 63 (iw 0x21 1 0 0 7) = true ∧ stitchClean (iw 0x21 1 0 0 7) = true ∧
    up.scNoted 63 = false ∧ (up.setScValue 131071 0x12000000).scNoted 63 = true ∧
    up.lands host (SC_OP 127) true = true ∧ (up.answer 0).scPermitted 0 (up.scSel 127) .init true false = true ∧
    (up.answer 0).scPermitted 0 (up.scSel 127) .add true false = false ∧
    ((up.answer 0).scOp 0 (up.scSel 127) .init 0 true false).1 = 0 := by and_intros <;> decide

theorem wit_MeshCommands :
    (let e := up.setFlag (PAGE_CTRL 0x060) 0 true; e.flag (PAGE_CTRL 0x060) 0 = true ∧ e.pwr.chipOff = false) ∧
    (let m : Msg := { kind := 1, port := 0, src := 1, dst := 63, cls := 0, ten := 0, tag := 0, len := 32, addr := 0x43F00000, oper := 0, aux := 0, data := List.replicate 32 7 };
      let s : State := ownT0 63 0 { up.setFlag (PAGE_CTRL 0x060) 0 true with net := [m] };
      s.requestAt 0 1 = some m ∧ s.msgWaits m = none ∧ m.tileOf.any s.fenced = false ∧ s.msgPermitted m = true ∧ s.msgOff m = false ∧
      (s.storeGrans m.req m.addr m.data m.bad).1 = 0 ∧ (up.msgPermitted m = false) ∧
      (let o : State := (s.setDom (tileDom 63) { st := .off }).setFlag (PAGE_CTRL (tilePage 63)) 2 false;
        o.msgWaits m = none ∧ o.msgOff m = true ∧ o.msgPermitted m = true)) ∧
    (let m : Msg := { kind := 2, port := 0, src := 1, dst := 63, cls := 0, ten := 0, tag := 0, len := 32, addr := 0x43F00000, oper := 0, aux := 0 };
      let s : State := ownT0 63 0 { up with net := [m] };
      s.requestAt 0 2 = some m ∧ s.msgPermitted m = true ∧ (s.loadGrans m.req m.addr m.len).1 = 0) ∧
    (let m : Msg := { kind := 3, port := 0, src := 1, dst := 63, cls := 0, ten := 0, tag := 0, len := 4, addr := 0, oper := 0, aux := 0, data := [1, 2, 3, 4] };
      let s : State := ownT0 63 0 (({ up with net := [m] } : State).setReg (TILE_STATUS 63) 1 |>.setReg (TILE_MESH_INBOX 63) 0x100);
      s.requestAt 0 3 = some m ∧ s.msgPermitted m = true ∧ m.len ≤ s.slotBytes m.dst ∧ s.slotBytes m.dst < 4096 ∧
      (s.storeGrans m.req (spad m.dst (s.slotAt m.dst 0)) m.data []).1 = 0) ∧
    (let m : Msg := { kind := 4, port := 0, src := 1, dst := 63, cls := 0, ten := 0, tag := 0, len := 0, addr := 131071, oper := 0x20000001, aux := 0 };
      let s : State := ({ up with net := [m] } : State).setScValue 131071 0x10000000;
      s.requestAt 0 4 = some m ∧ s.msgPermitted m = true ∧ s.msgWaits m = none ∧ ScOp.ofCode (bits m.oper 31 28) = some .add) ∧
    (let m : Msg := { kind := 5, port := 0, src := 1, dst := 64, cls := 0, ten := 0, tag := 0, len := 0, addr := 0, oper := 3, aux := 1 };
      let s : State := ({ up with net := [m] } : State).setFlag CLK_STATUS 0 true;
      s.requestAt 0 5 = some m ∧ s.refoscOk = true ∧ (s.arbitrate 0x102 64 s.sideWaits false).1 = some 1) ∧
    (let m : Msg := { kind := 1, port := 0, src := 63, dst := 1, cls := 0, ten := 0, tag := 0, len := 0, addr := 0x43F00000, oper := 0, aux := 0, resp := true };
      let s : State := ({ up with net := [m] } : State).setTile 1 { out := [⟨0, false, false, false, false, 0, 0, false⟩] };
      s.responseAt 0 = some m ∧ m.home = 1 ∧ m.cls ≠ 1 ∧
      (s.tile 1).out.find? (fun o => o.tag == 0) = some ⟨0, false, false, false, false, 0, 0, false⟩) ∧
    (let m : Msg := { kind := 1, port := 0, src := 63, dst := 1, cls := 0, ten := 0, tag := 0, len := 0, addr := 0, oper := 0, aux := 0 };
      (63, 4) ∈ m.route ∧ (1, 0) ∈ m.route) ∧
    (let s := up.setFlag MESH_FENCED_HI 31 true; s.fenced 63 = true ∧ s.net.any (fun m => m.home == 63) = false) := by and_intros <;> decide

theorem wit_VectorCommands : (runX 63 (iw 0x30 1 2 3 0)).readyX 63 (iw 0x30 1 2 3 0) = true ∧ vopTypes 0 0 = true ∧ vopClean (iw 0x30 1 2 3 0) = true ∧
    bits (iw 0x30 1 2 3 0x420) 5 0 = 0x20 ∧ bit (iw 0x30 1 2 3 0x420) 6 = false ∧ vopTypes 0x3F 0 = false ∧ bits (iw 0x30 1 2 3 0) 10 8 = 0 ∧
    (let s := ownT0 63 0 (runX 63 (iw 0x31 1 0 0 1)); s.readyX 63 (iw 0x31 1 0 0 1) = true ∧
      s.localCheck 63 (addImm ((s.tile 63).gr 0) (imm16 (iw 0x31 1 0 0 1) * 64)) 64 false = (none, s)) ∧
    (let s := ownT0 63 0 (runX 63 (iw 0x32 1 0 0 1)); s.readyX 63 (iw 0x32 1 0 0 1) = true ∧
      s.localCheck 63 (addImm ((s.tile 63).gr 0) (imm16 (iw 0x32 1 0 0 1) * 64)) 64 true = (none, s)) ∧
    ((runX 63 0).localCheck 63 0x80000 64 false).1.isSome = true ∧
    (runX 0 (iw 0x33 1 2 0 0x400)).readyX 0 (iw 0x33 1 2 0 0x400) = true ∧ bits (iw 0x33 1 2 0 0x400) 10 8 = 4 ∧ 4 < bits (iw 0x33 1 2 0 0x500) 10 8 ∧
    (runX 0 (iw 0x34 1 2 0 0x40F)).readyX 0 (iw 0x34 1 2 0 0x40F) = true ∧ bits (iw 0x34 1 2 0 0x40F) 5 0 < laneCount 4 ∧
    laneCount 4 ≤ bits (iw 0x34 1 2 0 0x410) 5 0 := by and_intros <;> decide

theorem wit_MatrixCommands : (runX 63 (iw 0x38 3 1 2 0)).readyX 63 (iw 0x38 3 1 2 0) = true ∧ fd (iw 0x38 3 1 2 0) < 4 ∧
    ((runX 63 0).tile 63).fp32.contains 3 = false ∧ (4 : Nat) ≤ fd (iw 0x38 4 1 2 0) ∧
    (let s := (runX 63 (iw 0x38 3 1 2 1)).setTile 63 { fp32 := [3] }; s.readyX 63 (iw 0x38 3 1 2 1) = true ∧ (s.tile 63).fp32.contains 3 = true) ∧
    (runX 0 (iw 0x39 1 3 0 15)).readyX 0 (iw 0x39 1 3 0 15) = true ∧ fn (iw 0x39 1 3 0 15) < 16 ∧
    (runX 0 (iw 0x3A 3 0 0 1)).readyX 0 (iw 0x3A 3 0 0 1) = true ∧
    (let w := iw 0x3C 0 1 0 8; let s := (runX 0 w).setReg (TILE_WGT_STAT 0 0) 0x20002;
      s.readyX 0 w = true ∧ bits w 15 14 = 0 ∧ bits w 12 0 % 8 = 0 ∧ (s.tile 0).cimQ.length < 2 ∧ s.flipping 0 = false ∧
      s.macFault 0 (bits w 25 25) (bits w 12 0) = none) ∧
    (let s := (runS 63 0).setTile 63 { cimQ := [⟨0, 1, 0, true, []⟩] }; s.pwr.chipOff = false ∧ s.flag (PAGE_CTRL (0x100 + 63)) 0 = true) ∧
    (runX 0 (iw 0x3D 1 15 0 7)).readyX 0 (iw 0x3D 1 15 0 7) = true ∧ bits (iw 0x3D 1 15 0 7) 15 3 = 0 ∧ bits (iw 0x3D 1 15 0 7) 20 20 = 0 ∧
    ((runX 0 0).tile 0).entryBusy 15 = false ∧ (Tile.entryBusy { cimQ := [⟨0, 15, 0, true, []⟩] } 15 = true) ∧
    (runX 0 (iw 0x3E 0 15 0 0)).readyX 0 (iw 0x3E 0 15 0 0) = true ∧ bits (iw 0x3E 0 15 0 0) 25 20 = 0 := by and_intros <;> decide

theorem wit_TileStartAndFrogCommands : up.lands host (TILE_CTRL 63) true = true ∧ up.tileSt 63 = 0 ∧ up.holder 63 = none ∧ bit 1 1 = false ∧
    (up.setReg (TILE_STATUS 63) 1).tileSt 63 ≠ 0 ∧ (up.tile 63).haltReq = false ∧ (up.tile 63).prev ≠ some 0 ∧ bit 2 0 = false ∧
    ((up.setTile 63 { frogDue := true }).tile 63).frogDue = true ∧ up.domOn (tileDom 63) = true ∧ State.reset.domOn (tileDom 63) = false := by
  and_intros <;> decide

theorem wit_WeightCommands : up.lands host (TILE_WGT_CTRL 63) true = true ∧ up.wgtBusy 63 = false ∧ (up.setFlag (TILE_WGT_RESULT 63) 8 true).wgtBusy 63 = true ∧
    up.declCheck 63 0 0 ≠ 0 ∧ (let s := up.setReg (TILE_WGT_DECL 63) 0x100; s.declCheck 63 1 (s.reg (TILE_WGT_DECL 63)) = 0 ∧ s.joined 63 = false ∧ s.bankOwned 63 1 = false) ∧
    up.bankState 63 0 ≠ 1 ∧ (up.setReg (TILE_WGT_STAT 63 0) 0x10001).bankState 63 0 = 1 ∧
    (up.setReg (TILE_WGT_STAT 63 0) 1).mapFull 63 0 = true ∧
    (let s := up.setReg (TILE_WGT_STAT 63 1) 0xA; s.mayFlip 63 = true ∧ s.flipping 63 = false ∧
      (setPositions 64 (2 ^ 63)).all (fun t => s.mayFlip t && !s.flipping t) = true) ∧
    (setPositions 64 1).all (fun t => up.mayFlip t && !up.flipping t) = false ∧ up.mayFlip 63 = false ∧
    (let s : State := { (runS 63 0).setReg (TILE_WGT_STAT 63 1) 1 with wgt := { up.wgt with seals := [(63, 1, true)] } };
      s.wgt.seals = [(63, 1, true)] ∧ s.bankState 63 1 = 1 ∧ s.joined 63 = false ∧ s.pwr.chipOff = false ∧ s.flag (PAGE_CTRL (0x100 + 63)) 0 = true) ∧
    (let s : State := { up with wgt := { up.wgt with flips := [(63, true)] } }; (s.tile 63).cimQ = [] ∧ s.sch.flipMask = none ∧ s.wgt.flips = [(63, true)]) ∧
    (let s : State := { up with wgt := { up.wgt with zeroing := [(63, 1, none)] } }; s.wgt.zeroing = [(63, 1, none)] ∧ (s.tile 63).cimQ = []) ∧
    (let s : State := { up with sch := { up.sch with flipMask := some 1 } }; s.sch.flipMask = some 1 ∧ s.sch.flipOn = false) := by and_intros <;> decide

theorem wit_HookCommands : up.lands host (HOOK_QUEUE 1) true = true ∧ bits 0x0FFFFFFF 31 28 = 0 ∧ bits 0x10000000 31 28 ≠ 0 ∧ (up.hookOf 1).queue.length < 8 ∧
    8 ≤ ((up.setHook 1 { queue := List.replicate 8 (0, host) }).hookOf 1).queue.length ∧ up.lands host (HOOK_CANCEL 1) true = true ∧
    (let s := (up.setFlag (PAGE_CTRL 0x059) 0 true).setHook 1 { queue := [(0x400000, host)] };
      s.flag (PAGE_CTRL 0x059) 0 = true ∧ s.domOn 11 = true ∧ (s.hookOf 1).queue = [(0x400000, host)] ∧ (s.hookOf 1).active = false ∧
      (s.engineRead (s.hookReq 1) (0x400000 * 64) 64).1 ≠ 0 ∧ ((ownAon s).engineRead ((ownAon s).hookReq 1) (0x400000 * 64) 64).1 = 0) ∧
    (let s := (up.setFlag (PAGE_CTRL 0x059) 0 true).setHook 1 { queue := [(0x400000, host)], active := true, desc := [], row := 65536 };
      (s.hookOf 1).active = true ∧ (hookOut (s.hookOf 1).desc).h ≤ (s.hookOf 1).row) ∧
    (let s := (up.setFlag (PAGE_CTRL 0x059) 0 true).setHook 1 { active := true, desc := List.replicate 32 0 ++ List.replicate 32 0xFF };
      (s.hookOf 1).row < (hookOut (s.hookOf 1).desc).h ∧ ((hookRing (s.hookOf 1).desc).any fun n => !s.ringReady 1 n 0) = false) := by
  and_intros <;> decide

theorem wit_StateUnitCommands : up.lands host (STATE_T_CMD 0) true = true ∧ up.flag (STATE_T_STAT 0) 0 = false ∧
    (up.setFlag (STATE_T_STAT 0) 0 true).flag (STATE_T_STAT 0) 0 = true ∧ (up.setFlag (STATE_T_STAT 0) 0 true).lands host (STATE_T_CMD 0) true = true ∧
    (let s := ownAon (((up.setReg (STATE_T_CFG 0) 0x10002).setReg (STATE_T_PTR_LO 0) 0x10000000).setReg (STATE_QUOTA 0) 1);
      bits (s.reg (STATE_T_CFG 0)) 2 0 = 2 ∧ bits (s.reg (STATE_T_CFG 0)) 28 16 = 1 ∧ s.withinSkeins 0 0x10000000 (regionBytes 2 1 0) = true ∧
      s.liveOf 0 < s.fld (STATE_QUOTA 0) 10 0 ∧ s.sentry 0 = none) ∧
    (let s := up.setSentry 1023 (some { owner := 0 }); s.sentry (bits 0x3FF0000 25 16) = some { owner := 0 } ∧ s.activeEntry ≠ some 1023) ∧
    ((up.setSentry 1023 (some { owner := 7 })).sentry 1023 = some { owner := 7 }) ∧
    up.lands host (STATE_T_SUBMIT 0) true = true ∧ up.su.queue.length < 32 ∧
    (let s : State := { ownAon (up.setFlag (PAGE_CTRL 0x05B) 0 true) with su := { up.su with queue := [(0x400000, 0, host)] } };
      s.flag (PAGE_CTRL 0x05B) 0 = true ∧ s.domOn 2 = true ∧ (s.engineRead (unitReq 0) (0x400000 * 64) 64).1 = 0 ∧ stepRsvd (List.replicate 64 0) = false) ∧
    (let s : State := { ownAon up with su := { up.su with queue := [(0x400000, 0, host)], active := some ([], true) } };
      (s.readVecs (unitReq 0) 64 [0x10000000]).1 = 0 ∧ (s.writeLines (unitReq 0) [(0x10000000, [1])]).1 = 0) := by and_intros <;> decide

set_option maxRecDepth 20000 in
theorem wit_VoxelCommands : up.lands host VOX_QUEUE true = true ∧ up.vox.queue.length < 8 ∧ up.lands host VOX_CANCEL true = true ∧ bit 1 0 = true ∧
    (let s := up.setFlag (PAGE_CTRL 0x05A) 0 true;
      s.flag (PAGE_CTRL 0x05A) 0 = true ∧ s.domOn 12 = true ∧ (s.voxActivate 1).1 = none ∧ (s.voxActivate 2).1 = none ∧ (s.voxActivate 3).1 = none) ∧
    (let s : State := { up with vox := { up.vox with wait := some 0, fin := some 0 } };
      s.vox.wait = some 0 ∧ s.vox.fin = some 0 ∧ (s.fld (STRM_HW_SEQ 5) 15 0 + 0x10000 - 0) % 0x10000 = 0 ∧
      s.strmCount 5 < ((s.setReg (STRM_HW_SEQ 5) 2).fld (STRM_HW_SEQ 5) 15 0 + 0x10000 - 0) % 0x10000) ∧
    ((up.setReg (STRM_HW_SEQ 5) 1).setReg (STRM_BUF_CFG 5) 1).strmCount 5 = 2 ∧
    (let go : List Byte → State := fun d =>
        { (ownAon (up.setFlag (PAGE_CTRL 0x05A) 0 true)).pokeBytes 0x10000000 d with vox := { up.vox with queue := [(0x400000, host)] } };
      (let d := [1] ++ List.replicate 16 0 ++ [1, 0, 16, 0, 0, 0, 0, 1] ++ List.replicate 44 0 ++ [10] ++ List.replicate 15 0 ++ [1] ++ List.replicate 16 0 ++ [1] ++ List.replicate 25 0
       let u := ((go d).voxActivate 1).2;
        ((go d).voxActivate 1).1 = some d ∧ voxCtrl d 18 18 = 0 ∧ voxCtrl d 17 16 = 0 ∧ (u.engineRead u.voxReq 0x10000100 8).1 = 0) ∧
      (let d := [2] ++ List.replicate 8 0 ++ [1, 0, 16, 0, 0, 0, 0, 0, 2, 0, 16] ++ List.replicate 17 0 ++ [10] ++ List.replicate 15 0 ++ [1] ++ List.replicate 6 0 ++ [1] ++ List.replicate 8 0 ++ [10] ++ List.replicate 15 0 ++ [1] ++ List.replicate 42 0
       let u := ((go d).voxActivate 2).2;
        ((go d).voxActivate 2).1 = some d ∧ (u.voxLoad d).1 = 0 ∧ (u.engineRead u.voxReq (voxIn d).sites (4 * (voxIn d).count)).1 = 0) ∧
      (let d := [3] ++ List.replicate 36 0 ++ [10, 0, 0, 0, 1, 0, 16, 0, 0, 0, 0, 0, 2, 0, 16, 0, 1] ++ List.replicate 6 0 ++ [1, 0, 0, 0, 0, 3, 0, 16, 0, 1, 1, 0, 1, 0, 1, 0, 1] ++ List.replicate 51 0
       let u := ((go d).voxActivate 3).2;
        ((go d).voxActivate 3).1 = some d ∧ (u.engineRead u.voxReq (voxIn d).sites (4 * (voxIn d).count)).1 = 0 ∧
        (u.engineRead u.voxReq (voxIn d).feat ((voxIn d).ps * (voxIn d).count)).1 = 0 ∧
        (u.writeVecs u.voxReq [(0x10000300, [1])]).1 = 0)) := by and_intros <;> decide

theorem wit_MemoryCommands : up.lands host MEM_SKEIN_CMD true = true ∧ up.freeSkein = some 0 ∧
    (3 = bits (up.setReg (MEM_SKEIN_W 0) 0x30 |>.reg (MEM_SKEIN_W 0)) 5 4) ∧
    (let s := ((up.setReg (MEM_SKEIN_W 0) 0x40).setReg (MEM_SKEIN_W 2) 8191);
      bit (s.reg (MEM_SKEIN_W 0)) 6 = true ∧ bits (s.reg (MEM_SKEIN_W 2)) 17 0 < tierSize 0 ∧ s.freeSkein = some 0) ∧
    (let s := ((up.setReg (MEM_SKEIN_W 0) 0x10).setReg (MEM_SKEIN_W 1) 4158).setReg (MEM_SKEIN_W 2) 4158;
      bits (s.reg (MEM_SKEIN_W 2)) 17 0 < 4159 ∧ s.rangeFree 1 4158 4158 = true) ∧
    up.flag ADSEL_TENANTS 7 = false ∧ (up.setOwn 0 1).rangeFree 0 0 0 = false ∧
    (let e := (up.setFlag (PAGE_CTRL 0x030) 0 true).setFlag (PAGE_CTRL 0x031) 0 true;
      e.flag (PAGE_CTRL 0x030) 0 = true ∧ e.flag (PAGE_CTRL 0x031) 0 = true ∧
      (let s : State := { e with mem := { up.mem with wipe01 := [8191] } };
        s.mem.wipe01 = [8191] ∧ s.domOn (32 + 8191 / 128) = true ∧ s.domOn 2 = true) ∧
      (let s : State := { e with mem := { up.mem with t2Next := 0 } }; s.mem.t2Next < tierSize 2 ∧ s.domOn 10 = true) ∧
      (let s : State := { e with mem := { up.mem with flushing := [(7, true, 0, host)], ops := [(7, ⟨2, 0x100000000, 256, 7, 0, 0⟩)] } };
        s.mem.flushing = [(7, true, 0, host)] ∧ s.backPower 7 0 0x2000000 = 0 ∧
        s.mem.ops.find? (fun o => o.1 == 7) = some (7, ⟨2, 0x100000000, 256, 7, 0, 0⟩) ∧ (s.setFlag (POOL_WB_SETS 7) 31 true).cacheOn 7 = true) ∧
      (let s : State := { (e.setDom 10 { st := .off }).setFlag (PAGE_CTRL 0x032) 2 true with
          mem := { up.mem with cache := [(7 * 1024, [{ way := 0, line := 0, dirty := true }])] } };
        s.backPower 7 0 0 = 0x100)) ∧
    up.lands host (MEM_T_CMD 0) true = true ∧ up.memBusy 0 = false ∧ ((up.memAccept 0).memBusy 0 = true ∧ (up.memAccept 0).lands host (MEM_T_CMD 0) true = true) ∧
    moveOk 0 0x1000 0x1000 = true ∧ moveOk 0 0 0x1000 = false ∧ up.mem.moves.length < 8 ∧
    (let m : Move := { tenant := 0, src := 0x40000000, dst := 0x40001000, len := 0x1000, rel := false, note := 0, origin := 0, job := 0 };
      let s := (up.setOwn 0 1).setOwn 1 1;
      (s.moveCheck m).toBool = true ∧ (up.moveCheck m).toBool = false ∧ s.movePower m = 0 ∧
      granulesOf 0x40000000 0x1000 = some [0] ∧ ownedBy (s.ownOf 0) 0 = true ∧ ownedBy (s.ownOf 5) 0 = false) ∧
    cacheRangeOk 0x100000000 256 = true ∧ cacheRangeOk 0 256 = false ∧
    up.lands host (POOL_WB_WIN 7) true = true ∧ up.lands host (POOL_WB_SETS 7) true = true ∧ up.cacheOn 7 = false ∧ up.mem.flushing = [] := by
  and_intros <;> decide

theorem wit_SchedulerCommands : (up.setFlag (PAGE_CTRL 0x028) 0 true).flag (PAGE_CTRL 0x028) 0 = true ∧ up.pwr.chipOff = false ∧ up.lands host (SCH_JOB_SUBMIT 0) true = true ∧ up.flag (SCH_T_STAT 0) 0 = false ∧
    (up.setReg (SCH_T_STAT 0) 1).flag (SCH_T_STAT 0) 0 = true ∧ up.lands host (SCH_T_CANCEL 0) true = true ∧
    (let s := ({ up.setFlag (PAGE_CTRL 0x028) 0 true with sch.submits := [(0, some 0x10000000)] } : State);
      s.flag (PAGE_CTRL 0x028) 0 = true ∧ s.domOn 2 = true ∧ s.sch.submits.get (fun _ => none) 0 = some 0x10000000 ∧ s.admits 0 = false) ∧
    (let s := ({ (up.setFlag SCH_CTRL 0 true).setFlag ADSEL_TENANTS 0 true with
        sch.submits := [(0, some 0x10000000)], life := { up.life with ready := true } } : State);
      s.admits 0 = true ∧ (s.jobTake 0 0x10000000).1 = some none) ∧
    (let s := (ownAon { (((up.setFlag SCH_CTRL 0 true).setFlag ADSEL_TENANTS 0 true).setReg (SCH_TENANT_TILES_LO 0) 1) with
        sch.submits := [(0, some 0x10000000)], life := { up.life with ready := true }
        mem := { up.mem with
          bytes := [(0x10000008, 1), (0x10000020, 0x80)]
          skeins := [(0, { valid := true, tier := 0, base := 0, limit := 127, tenant := 0 })] } } : State);
      s.admits 0 = true ∧ (s.jobTake 0 0x10000000).1.any (fun x => x.isSome) = true ∧
      (s.jobTake 0 0x10000000).2.admitted 0 < 32 ∧ (s.job 0) = none) ∧
    (up.setFlag SCH_CTRL 1 true).sbEnter.beat.flag SCH_CTRL 1 = true ∧ up.sbEnter.beat.flag SCH_CTRL 1 = false ∧ [0, 1, 300].Nodup ∧
    (let s := up.setJob 1 { id := 257, ten := 0, addr := 0, d := [0, 0, 0, 0, 0, 0, 0, 0, 1], switching := true };
      s.pwr.chipOff = false ∧ s.job 1 = some { id := 257, ten := 0, addr := 0, d := [0, 0, 0, 0, 0, 0, 0, 0, 1], switching := true } ∧
      s.frogsDone [0, 0, 0, 0, 0, 0, 0, 0, 1] = true ∧ (s.setTile 0 { frogDue := true }).frogsDone [0, 0, 0, 0, 0, 0, 0, 0, 1] = false) ∧
    (let s := (({ up with sch.cancels := [(0, some 257)] } : State).setJob 1 { id := 257, ten := 0, addr := 0, d := [] });
      s.sch.cancels.get (fun _ => none) 0 = some 257 ∧ s.jobById 0 257 = some 1 ∧ s.jobById 0 258 = none) ∧
    up.lands sec SCH_FLIP_CMD true = true ∧ up.flag SCH_FLIP_RESULT 8 = false ∧ up.holder 0 = none ∧
    (let s := (up.setReg SCH_FLIP_LO 1).setJob 1 { id := 257, ten := 0, addr := 0, d := [0, 0, 0, 0, 0, 0, 0, 0, 1], st := 3 };
      s.holder 0 = some 1 ∧ (s.reg SCH_FLIP_LO).toNat = 1) := by
  and_intros <;> decide

theorem wit_SpillAndDeadlineCommands :
    (let e := (up.setFlag (PAGE_CTRL 0x028) 0 true).setFlag (PAGE_CTRL 0x02A) 0 true;
      e.flag (PAGE_CTRL 0x028) 0 = true ∧ e.flag (PAGE_CTRL 0x02A) 0 = true ∧ e.pwr.chipOff = false) ∧
    (let d : List Byte := [0, 0, 0, 0, 0, 0, 0, 0, 1];
     let j : Job := { id := 257, ten := 0, addr := 0, d := d, st := 3 };
     let at_ : Job → State := fun j => up.setJob 1 j;
      (at_ { j with spill := 1 }).job 1 = some { j with spill := 1 } ∧ (at_ j).pwr.chipOff = false ∧
      (((at_ j).setReg (TILE_STATUS 0) 1).tileSt 0 ≠ 0 ∧ ((at_ j).tile 0).yielded = false ∧ jobTiles d = [0]) ∧
      (((at_ j).setTile 0 { yielded := true }).tile 0).yielded = true ∧
      (let s := ((at_ { j with spill := 2, spillFor := 2 }).setJob 2 j);
        s.job 2 = some j ∧ (jobTiles d).any s.tileWork = false ∧ s.spillMoves d d = some [] ∧
        (s.setTile 0 { dma := [(0, [])] } |>.tileWork 0) = true) ∧
      (let d' : List Byte := [0, 0, 0, 0, 0, 0, 0, 0, 1] ++ List.replicate 23 0 ++ [0x80];
       let s := ({ up with mem := { up.mem with
          own := [(0, 1)], skeins := [(0, { valid := true, tier := 0, shared := true, base := 1 })] } } : State);
        s.spillMoves d' d = none) ∧
      ((at_ { j with spill := 3 }).spillEndings 1).1 = false ∧ ((at_ { j with spill := 3 }).spillEndings 1).2.job 1 = some { j with spill := 3 } ∧
      ((at_ { j with spill := 5, bad := true }).spillEndings 1).2.job 1 = some { j with spill := 5, bad := true } ∧
      (at_ { j with ending := some (0x15, 0, 0) }).frogsDone d = true ∧ (at_ j).tileSt 0 = 0 ∧ ((at_ j).tile 0).frogDue = false ∧
      (up.setFlag DLM_CTRL 0 false).flag DLM_CTRL 0 = false ∧ (up.setFlag DLM_CTRL 0 true).flag DLM_CTRL 0 = true ∧ up.openSlots = [] ∧
      (let dl : List Byte := d ++ List.replicate 7 0 ++ [1, 0, 0, 0, 0xFF];
       let s := (up.setFlag DLM_CTRL 0 true).setJob 1 { j with d := dl };
        s.openSlots = [1] ∧ jobDeadline dl ≠ 0 ∧
        ({ j with d := dl } : Job).deadline - jobMargin dl * 192 < s.finish 1 { j with d := dl }) ∧
      (at_ { j with swatch := true, switching := true, st := 2 }).overlapped 1 { j with swatch := true, switching := true, st := 2 } = false ∧
      ((at_ j).setJob 2 j).overlapped 2 j = true) := by
  and_intros <;> decide

theorem wit_RepeatTableCommands : (let e := up.setFlag (PAGE_CTRL 0x029) 0 true; e.flag (PAGE_CTRL 0x029) 0 = true ∧ e.pwr.chipOff = false) ∧ up.lands host (RPT_T_COMMIT 0) true = true ∧ up.flag (RPT_T_STAT 0) 0 = false ∧
    (({ up with rpt.commits := [(0, some [])] } : State).rpt.commits.get (fun _ => none) 0 = some [] ∧ (State.rowsCheck 0 [] up).1 = some true) ∧
    (State.rowsCheck 0 [(0, [0x80000000, 0, 0, 0])] up).1 = some false ∧
    up.lands sec RPT_PERIOD true = true ∧ bits (38400 : Word) 25 0 = 38400 ∧ bits (38399 : Word) 25 0 < 38400 ∧ bits (38400001 : Word) 25 0 > 38400000 ∧
    up.lands sec RPT_CFG true = true ∧ up.rptRuns = false ∧ up.lands sec (RPT_RANGE 1) true = true ∧
    ((up.setReg (RPT_RANGE 0) 0x10000).rowIn 0 255 = true ∧ up.rowIn 1 0 = false) ∧
    (let s := ({ (up.setFlag RPT_STATUS 0 true) with rpt := { up.rpt with cfg := 2, a16 := 0, capture := 0, streak := 3, events := [0] } } : State);
      s.rpt.events = [0] ∧ up.rpt.events = [] ∧ s.rptRuns = true ∧ bit s.rpt.cfg 1 = true ∧ s.rpt.wait0 = false ∧ s.rpt.got = false ∧ s.rpt.missed = false ∧
      s.rpt.a16 ≤ 16 * (0 + s.rpt.capture) ∧ 16 * 0 ≤ s.rpt.a16 + 16 * s.rpt.capture ∧ s.rpt.a16 + 16 * s.rpt.capture ≤ s.now16 ∧
      s.rpt.next16 ≤ s.now16 ∧ ({ s with rpt.got := true } : State).rpt.got = true ∧ s.life.bindStage < 2 ∧ s.rpt.restart = false ∧
      s.rpt.early = none ∧ s.rpt.goLive = []) ∧
    (let s := ({ ((ownAon up).setFlag RPT_STATUS 0 true).setReg (RPT_RANGE 0) 0x10000 with rpt := { up.rpt with
        live := [(0, 0x80400000), (2, 0x010000FF)], due := [(0, 5, 0)] } } : State);
      s.rptRuns = true ∧ s.nextRelease 0 = some (5, 0) ∧ s.rowTenant 0 = some 0 ∧ bits (s.liveW 0 2) 31 24 ≠ 0 ∧
      (s.jobFetch 0 (bits (s.liveW 0 0) 27 0 * 64)).1.any (fun x => x.isSome) = true ∧
      (s.rpt.due.find? fun e => e.1 == 0) = some (0, 5, 0) ∧ s.rowValid 0 = true ∧ ((s.job 256).any fun j => j.st != 6) = false ∧
      (((s.setJob 256 { id := 0, ten := 0, addr := 0, d := [] }).job 256).any fun j => j.st != 6) = true) := by
  and_intros <;> decide

theorem wit_HostLinkCommands :
    (let s := up.setReg HOST_LINK_STATUS 0x2114;
      s.pwr.chipOff = false ∧ s.linkUp = true ∧ s.linkState = 2 ∧ s.domOn 9 = true ∧
      s.hostTenant { write := true, offset := 0x100, data := (leBytes 4 5).map some, len := 0, stream := none, ep := false } true = some 0 ∧
      s.hostTenant { write := true, offset := 0x100, data := [], len := 0, stream := some 1, ep := false } true = none ∧
      s.hostTenant { write := false, offset := 0, data := [], len := 4, stream := none, ep := false } false = some 0 ∧
      (let u := (s.setDom 5 { s.dom 5 with st := .on }).setOwn (gran 2 0) 1;
        u.heldBack (hostReq 0) = none ∧ u.rangeOk (hostReq 0) true 0x100000000 4 = some true ∧
        u.memServed (u.memNeeds (hostReq 0) 0x100000000 4).1 = true ∧ u.queued none (u.memNeeds (hostReq 0) 0x100000000 4).1 = false ∧
        (match u.takeGrans (hostReq 0) true ((granulesOf 0x100000000 4).getD []) with | .ok _ => true | .error _ => false) = true) ∧
      (({ s with link.reads := [⟨3, 2, 0, 0x8000000000, 4, 0⟩] } : State).link.reads.find? fun r => r.tag == 3) = some ⟨3, 2, 0, 0x8000000000, 4, 0⟩ ∧
      ({ s with pci := { s.pci with aspmL1 := true, aspmL12 := true } } : State).pci.aspmL12 = true ∧
      (s.setFld HOST_LINK_STATUS 14 12 4).linkState = 4 ∧
      (s.setReg (IDE_STREAM 1) 0x900).ideSecure 1 = true ∧ (s.setReg (IDE_STREAM 1) 0x900).flag (IDE_STREAM 1) 11 = true) ∧
    up.flag HOST_LINK_STATUS 8 = false ∧ 1 ≤ up.linkCap ∧
    (let s := ({ up with link.wakeN := some 0, pwr := { up.pwr with ts := 38400000 * 2 ^ 20 } } : State);
      s.link.wakeN = some 0 ∧ 0 + 38400000 ≤ s.now) ∧ up.lands host HOST_HS true = true := by
  and_intros <;> decide

theorem wit_SpdmCommands :
    (let s := ((up.setReg HOST_LINK_STATUS 0x2114).setFlag ADSEL_STATUS 8 true).setFlag ADSEL_STATUS 9 true;
     let x : Session := { id := 7, slot := 1, est := true };
     let e := ({ (s.setFlag ADSEL_TENANTS 1 true) with link.sessions := [x], adsel.tenants := [(1, { hostBound := true })] } : State);
      s.linkUp = true ∧ s.adselUp = true ∧ s.link.conn = 0 ∧ ({ s with link.conn := 3 } : State).certSlot 0 = true ∧ s.certSlot 1 = false ∧
      s.freeKey.isSome = true ∧ s.session 7 = none ∧
      ({ s with link.sessions := [{ x with est := false }] } : State).session 7 = some { x with est := false } ∧
      ({ s with link.sessions := [{ x with missed := 2 }] } : State).session 7 = some { x with missed := 2 } ∧
      e.session 7 = some x ∧ e.hostBound 1 = true ∧ e.tdi 1 = 0 ∧ (e.unbind 1).freeKey.isSome = true ∧ e.mayKey x 1 = true ∧
      (let b : Binding := { session := 7, key := 2 };
        ({ e with link.bind := [(1, some b)] } : State).binding 1 = some b) ∧
      (let k := (e.setIde 1 { session := 7, slots := [(0, 2)], rx := [0], tx := [0] }).setFld (IDE_STREAM 1) 14 12 1;
        k.mayKey x 1 = true ∧ k.idleSet 1 true ∈ (k.ide 1).rx ∧ k.idleSet 1 false ∈ (k.ide 1).tx ∧ k.bounced 1 = false ∧ k.ideTenant 1 = 1 ∧
        (k.ide 1).slots ≠ [] ∧ (k.setTdi 1 1).tdi 1 = 1)) ∧
    (up.setReg HOST_LINK_STATUS 0x2114).adselUp = false := by
  and_intros <;> decide

theorem wit_BounceCommands : up.lands host (BNC_T_SUBMIT 0) true = true ∧ up.link.bq.length < 16 ∧
    16 ≤ ({ up with link.bq := List.replicate 16 ⟨0, 0, host, none⟩ } : State).link.bq.length ∧
    (let j : BncJob := ⟨1, 0x10000000, host, none⟩;
     let s := ({ (up.setFlag (PAGE_CTRL 0x038) 0 true).setOwn (0x40000 + 4096) (1 + 4) with link.bq := [j] } : State);
      s.flag (PAGE_CTRL 0x038) 0 = true ∧ s.pwr.chipOff = false ∧
      s.link.bq = [j] ∧ s.link.bact = none ∧ s.domOn 9 = true ∧ bncBad (List.replicate 64 0) = true ∧
      bncBad (List.replicate 24 0 ++ [64] ++ List.replicate 39 0) = false ∧ s.binding 1 = none ∧
      ({ s with link.bind := [(1, some { session := 7, key := 2 })] } : State).binding 1 = some { session := 7, key := 2 } ∧
      bncDir [1] = 1 ∧ bncDir [0] = 0 ∧ isOutbound 0x8000000000 = true ∧ isOutbound (0x8000000000 + 64 + 47) = true ∧
      ((up.setReg HOST_LINK_STATUS 0x2114).linkCheck).1 = none ∧ (bncHeader 1 0 7 64 0).length = 32 ∧ j.ten < 8 ∧ j.ring = none) := by
  and_intros <;> decide

theorem wit_RingIntakeCommands : up.lands host (RING_T_DB 0) true = true ∧ up.ringOn 0 = false ∧ (up.setReg (RING_CFG 0) 0x401).ringOn 0 = true ∧
    (up.ring 0).mq = [] ∧ ((0 : Word).toNat + 0x100000000 - up.rseqNext 0) % 0x100000000 ≤ 2 ^ up.ringLog 0 ∧
    2 ^ (up.setReg (RING_CFG 0) 0x401).ringLog 0 < ((17 : Word).toNat + 0x100000000 - up.rseqNext 0) % 0x100000000 ∧
    (let s := ({ (up.setReg (RING_CFG 0) 0x401) with rlog := { up.rlog with rings := [(0, { tail := 1 })] } } : State);
     let u := ownAon ((s.setReg (RING_BASE_LO 0) 0x10000000).setRing 0 { s.ring 0 with stall := false });
      s.ringHungry 0 = true ∧ s.slotOpen 0 = false ∧ (s.ring 0).stall = false ∧ (up.setFlag (PAGE_CTRL 0x03A) 0 true).flag (PAGE_CTRL 0x03A) 0 = true ∧
      (s.arbitrate 0x103 8 ((List.range 8).filter fun k => s.ringHungry k && !s.slotOpen k) false).1 = some 0 ∧
      (hostResult none []).1 ≠ 0 ∧
      (u.memRead (ringReq 0) 0x10000000 64).1 = 0 ∧ isOutbound 0x10000000 = false ∧ isOutbound 0x8000000000 = true ∧
      ({ s with rlog.log := [(0, { st := 1 })] } : State).rowAt 0 = { st := 1 } ∧ s.rlog.rseq.length = 8 ∧ s.flag (RING_CFG 0) 16 = false ∧
      (s.memRead (ringReq 0) 0x20000000 64).1 ≠ 0 ∧ (s.memRead (ringReq 0) 0x20000000 64).1 ≠ 0x100) ∧
    ((up.setRing 0 { fetched := some (List.replicate 64 0) }).ring 0).fetched = some (List.replicate 64 0) ∧
    up.lands sec (RING_CFG 0) true = true ∧ up.ringBound 0 = false ∧ up.ringBound 1 = false ∧ ({ up with life := { up.life with ready := true } } : State).ringBound 0 = true ∧
    (up.setReg (ROWLOG_PART 0) 0x4000).regionLog 0 = 4 ∧ bits (0x401 : Word) 11 8 = 4 ∧
    up.lands sec (ROWLOG_PART 1) true = true ∧ (up.region 1).any (·.isOpen) = false ∧ bits (0x4000 : Word) 15 12 = 4 ∧
    bits (0x4000 : Word) 11 0 + 2 ^ 4 ≤ 4096 ∧ (up.setReg (ROWLOG_PART 0) 0).regionLog 0 = 0 ∧ up.lands host (RING_T_RESYNC 0) true = true := by
  and_intros <;> decide

theorem wit_RingEngineCommands :
    (let cmd : Nat → Nat → RCmd := fun op n => { rseq := n, d := [BitVec.ofNat 8 op] };
     let at_ : Nat → State := fun op => (up.setReg (ROWLOG_PART 1) 0x4000).setRing 1 { cmds := [cmd op 3] };
      (let e := (up.setFlag (PAGE_CTRL 0x03A) 0 true).setFlag (PAGE_CTRL 0x03B) 0 true; e.flag (PAGE_CTRL 0x03A) 0 = true ∧ e.flag (PAGE_CTRL 0x03B) 0 = true) ∧
      cancellable 6 = false ∧ (∀ op ∈ [0, 1, 3, 4, 5, 6, 7], rdOp (cmd op 3).d = op ∧ (at_ op).ringHead 1 = some (cmd op 3)) ∧
      ((at_ 1).submit 1 (rdArg (cmd 1 3).d 0x10 27 0 * 64) (some (1, 3))).1 = some (1, 0) ∧
      (at_ 3).loadDry 1 (cmd 3 3).d = 0 ∧ (at_ 7).link.bq.length < 16 ∧ up.fld (SCH_MODEL 5) 15 0 = rdArg (cmd 4 3).d 0x10 15 0 ∧
      (let s := (up.setReg (ROWLOG_PART 1) 0x4000).setRing 1 { cmds := [cmd 2 3, cmd 5 0] };
       let u := (s.setCmd 1 { cmd 2 3 with issued := true }).rowStarted 1 { cmd 2 3 with issued := true };
        ((s.ring 1).cmds.find? fun c => !c.issued && rdOp c.d == 2) = some (cmd 2 3) ∧
        ((u.ring 1).cmds.find? fun e => e.rseq == 0) = some (cmd 5 0) ∧ cancellable 5 = true) ∧
      (((at_ 2).ring 1).cmds.find? fun e => e.rseq == 0) = none ∧
      ({ (up.setReg (ROWLOG_PART 1) 0x4000) with rlog.log := [(3, { rseq := 3, st := 2, ring := 1 })] } : State).rowFor 1 3 =
        some { rseq := 3, st := 2, ring := 1 } ∧
      (let s := ({ (up.setRing 1 { cmds := [{ cmd 5 3 with issued := true }] }) with mem.done := [(17, 3, 0)] } : State);
        ((s.ring 1).cmds.find? fun c => c.rseq == 3 && c.issued) = some { cmd 5 3 with issued := true } ∧
        (s.mem.done.find? fun e => e.1 == 16 + 1 && e.2.1 == 3) = some (17, 3, 0))) := by
  and_intros <;> decide

theorem wit_DebugCommands : (List.replicate 208 (0 : Byte)).length = 208 ∧ up.pwr.chipOff = false ∧ (up.setFlag (PAGE_CTRL 0x018) 0 true).flag (PAGE_CTRL 0x018) 0 = true ∧ (let b := ({ up with fuses := { up.fuses with map := 0 } } : State); b.capB = true ∧ b.capK = false ∧
      (let e := b.tapIr 0 true false 0; e.capB = true ∧ e.dbg.ir = 0 ∧ e.dbg.scan = true)) ∧
    (let s := up.setReg ADSEL_STATUS 0x123; s.capK = true ∧ s.capH = true) ∧ (up.setReg ADSEL_STATUS 0x102).capB = false ∧
    (let s := (up.setReg ADSEL_STATUS 0x123).setReg (TILE_STATUS 5) 1;
     let h := (up.setReg ADSEL_STATUS 0x123).setReg (TILE_STATUS 0) 4;
      s.lands sec DBG_HALT_REQ_LO true = true ∧ dbgTiles false 0x20 = [5] ∧ dbgTiles true 0x20 = [37] ∧ s.tileSt 5 = 1 ∧ (s.tile 5).frogDue = false ∧
      s.domOn (tileDom 5) = true ∧ (s.tile 5).x = none ∧ (s.tile 5).await = none ∧ h.lands sec DBG_RESUME_HI true = true ∧ h.tileSt 0 = 4 ∧
      h.lands sec DBG_STEP true = true ∧ h.lands sec DBG_REG_DATA true = true ∧ h.lands sec DBG_REG_DATA false = true ∧
      h.fld DBG_REG_SEL 5 0 = 0 ∧ h.fld DBG_REG_SEL 7 6 = 0 ∧ (h.setReg DBG_REG_SEL 0xC0).fld DBG_REG_SEL 7 6 = 3 ∧ s.lands sec (DBG_PMC_SEL 7) true = true) ∧
    (let s := ({ ((up.setReg DBG_TRACE_STAT 1).setReg DBG_TRACE_LEN 64).setReg DBG_TRACE_BASE_LO 0x10000000 with
        dbg := { up.dbg with bufs := [(5, [⟨0, 0, 0, 0, 0⟩])] } } : State);
     let a := ownAon s;
      a.dbg.bufs.get (fun _ => []) 5 = [⟨0, 0, 0, 0, 0⟩] ∧ a.flag DBG_TRACE_STAT 0 = true ∧ a.dbg.lost.get (fun _ => 0) 5 = 0 ∧
      (a.memWrite ⟨7, 0, 0⟩ 0x10000000 (traceBytes 5 ⟨0, 0, 0, 0, 0⟩)).1 = 0 ∧ (0 : Nat) + 16 < (a.reg DBG_TRACE_LEN).toNat) := by
  refine ⟨List.length_replicate, ?_⟩
  and_intros <;> decide

theorem wit_OffDeviceIsInert : (let s := ({ up with pwr := { up.pwr with chipOff := true }, pending := [.getVersion] } : State);
    s.pwr.chipOff = true ∧ Instr.powerOn ∉ s.pending) := by
  and_intros <;> decide

theorem wit_RegistersAndMemoryStayCanonical : Tab.wf regReset (up.setReg CAP_ENVELOPE 5).regs = true ∧ Memory.wf (ownAon up).mem.bytes := by
  and_intros <;> decide

end Sys2Proof.Tests
end

section
/-! SUPPORT AND PROOFS. Register pages and the address map (R19 to R35): an access by address up to the block it reaches, the
checks of R29 in their order, what a refusal leaves, the common block, stalled accesses, and rotating arbitration. -/

namespace Sys2Proof.Machine

/-! ### The commands of this chapter -/

theorem exec_registerWrite (q : Req) (a n : Nat) (v : Word) (s : State) :
    exec (.registerWrite q a n v) s = only q.wf s (s.busWrite q a n v.toNat) := rfl

theorem exec_refusedCompletion (q : Req) (a : Nat) (wr : Bool) (s : State) :
    exec (.refusedCompletion q a wr) s = only q.wf s (refusedCompletion q a wr s) := rfl

theorem exec_stalledAccessComplete (d : Nat) (s : State) :
    exec (.stalledAccessComplete d) s = only (domListed d) s (stalledComplete d s) := rfl

theorem exec_errCodeRead (q : Req) (p : Nat) (s : State) :
    exec (.errCodeRead q p) s = only (q.wf && pageListed p) s (s.readVia q (ERR_CODE p) (regRead q (ERR_CODE p))) := rfl

theorem exec_irqClr (q : Req) (p : Nat) (v : Word) (s : State) :
    exec (.irqClr q p v) s = only (q.wf && pageListed p) s (s.writeVia q (IRQ_CLR p) v (regWrite q (IRQ_CLR p) v)) := rfl

theorem exec_softReset (q : Req) (p : Nat) (v : Word) (s : State) :
    exec (.softReset q p v) s =
      only (q.wf && pageListed p) s (s.writeVia q (PAGE_CTRL p) (setBit v 1 true) (regWrite q (PAGE_CTRL p) (setBit v 1 true))) := rfl

theorem exec_pageLock (q : Req) (p : Nat) (v : Word) (s : State) :
    exec (.pageLock q p v) s =
      only (q.wf && pageListed p) s (s.writeVia q (PAGE_LOCK p) (setBit v 0 true) (regWrite q (PAGE_LOCK p) (setBit v 0 true))) := rfl

/-! ### Where an access goes -/

@[simp] theorem word_toNat (v : Word) : word v.toNat = v := by simp [word]

/-- The hypothesis of the statements on the mesh, in the form the laws of accesses use. -/
theorem State.meshServes_of_awake {s : State} {q : Req} {a : Nat} (h : (viaMesh q a && !s.domOn 3) = false) :
    s.meshServes q a = true := by
  unfold State.meshServes
  cases hv : viaMesh q a <;> simp_all

/-- An address that names a register key is that key's address. -/
theorem regBase_add_of_regAddr {a k : Nat} (h : regAddr a = some k) : regBase + k = a := by
  unfold regAddr at h
  split at h
  · rename_i g
    rw [← Option.some.inj h, regBase]
    omega
  · simp at h

theorem State.busWrite_reg {s : State} {q : Req} {a k : Nat} (ha : regAddr a = some k) (hm : s.meshServes q a = true)
    (hb : s.heldBack q = none) (n v : Nat) :
    s.busWrite q a n v = s.regAccessNow none q k n true v fun s => regWrite q k (word v) (s.answer 0) := by
  unfold State.busWrite State.busWriteNow
  rw [hb, ha]
  exact if_neg (State.meshServes_iff hm)

theorem State.busWrite_mem {s : State} {q : Req} {a : Nat} (ha : regAddr a = none) (hm : s.meshServes q a = true)
    (hb : s.heldBack q = none) (n v : Nat) : s.busWrite q a n v = s.memAccess none q a n true v (memSave q a n v) := by
  unfold State.busWrite State.busWriteNow
  rw [hb, ha]
  exact if_neg (State.meshServes_iff hm)

theorem State.busRead_mem {s : State} {q : Req} {a : Nat} (ha : regAddr a = none) (hm : s.meshServes q a = true)
    (hb : s.heldBack q = none) (n : Nat) : s.busRead q a n = s.memAccess none q a n false 0 (memLoad q a n) := by
  unfold State.busRead State.busReadNow
  rw [hb, ha]
  exact if_neg (State.meshServes_iff hm)

/-! ### The checks of a register access in order (R29) -/

/-- A permitted access that is misaligned or no word access: BAD_ALIGN, captured. -/
theorem State.regAccessNow_misaligned {s : State} {q : Req} {k n : Nat} {wr : Bool} (hp : s.accessPerm q k n wr = none)
    (ha : n ≠ 4 ∨ k % 4 ≠ 0) (own : Option Nat) (data : Nat) (act : State → State) :
    s.regAccessNow own q k n wr data act = (s.err (keyPage k) (keyOff k) 0x03 wr q).answer 0x03 [0] := by
  unfold State.regAccessNow
  dsimp only
  rw [hp, if_neg (by simp), if_pos ha]

/-- A permitted, aligned word access: the lock, the fabric's domain and the block's domain are looked at in this order. -/
theorem State.regAccessNow_permitted {s : State} {q : Req} {k p o : Nat} {wr : Bool} (hpage : keyPage k = p) (hoff : keyOff k = o)
    (hk : k % 4 = 0) (hp : s.permission q p o wr = none) (own : Option Nat) (data : Nat) (act : State → State) :
    s.regAccessNow own q k 4 wr data act =
      if wr && s.lockHolds k then s.answer 0
      else if needsFabric p o && !s.receives own 2 then
        (if s.lapsed 2 then s.powerEnd p o wr q 4 else s.stallAt q (regBase + k) 4 wr data 2)
      else if domChecked o && !s.receives own (pageDom p) then
        s.turnedAway own q (regBase + k) 4 wr data p (pageDom p) (s.powerEnd p o wr q)
      else act s := by
  subst hpage hoff
  unfold State.regAccessNow
  dsimp only
  rw [State.accessPerm_word s q hk, hp, if_neg (by simp), if_neg (by omega)]
  rfl

/-- Where no access waits, a domain that is ON receives an access, whichever domain it has waited for. -/
theorem State.receives_of_stalls_nil {s : State} (h : s.stalls = []) (own : Option Nat) (d : Nat) :
    s.receives own d = s.domOn d := by
  simp [State.receives, State.queued, h]

/-- An access that lands with no access waiting reaches the block too when it has itself waited. -/
theorem State.regAccessNow_lands {s : State} {q : Req} {k : Nat} {wr : Bool} (h : s.lands q k wr = true) (hs : s.stalls = [])
    (own : Option Nat) (data : Nat) (act : State → State) : s.regAccessNow own q k 4 wr data act = act s := by
  obtain ⟨-, -, -, hp, hk, hl, hf, hd⟩ := State.lands_iff.1 h
  simp only [State.receives_of_stalls_nil hs] at hf hd
  rw [State.regAccessNow_permitted rfl rfl hk hp, if_neg hl]
  simp only [State.receives_of_stalls_nil hs]
  rw [if_neg (by simpa using hf), if_neg (by simpa using hd)]

/-- An access the block's domain does not receive (R32, R33). -/
theorem State.turnedAway_eq (s : State) (own : Option Nat) (q : Req) (a n : Nat) (wr : Bool) (data p d : Nat) (ends : Nat → State) :
    s.turnedAway own q a n wr data p d ends =
      if s.flag (PAGE_CTRL p) 2 ∧ s.absent d = false then (if s.lapsed d then ends 4 else s.stallAt q a n wr data d)
      else if s.queued own d then s.stallAt q a n wr data d false
      else ends 2 := by
  simp [State.turnedAway]

/-- Settles O4: each clause picks its branch of the one order of checks. -/
theorem accessChecksRunInOrder : Obligations.AccessChecksRunInOrder := by
  unfold Obligations.AccessChecksRunInOrder
  intro s q p o n v on hq hb hp ho hm k out
  have hpage : keyPage k = p := keyPage_add p ho
  have hoff : keyOff k = o := keyOff_add p ho
  have hmod : k % 4 = o % 4 := by omega
  have hmesh := State.meshServes_of_awake hm
  have hout : out = .next (s.regAccessNow none q k n true v.toNat fun s => regWrite q k (word v.toNat) (s.answer 0)) := by
    rw [← State.busWrite_reg (regAddr_key hp ho) hmesh hb, ← only_next hq on]
    exact exec_registerWrite ..
  have hword (hperm : s.permission q p o true = none) (ha : o % 4 = 0) :=
    State.regAccessNow_permitted hpage hoff (hmod.trans ha) hperm none v.toNat
  refine ⟨?refused, ?misaligned, ?locked, ?fabric, ?domain, ?block⟩
  case refused =>
    intro r hr hne
    rw [hout, State.regAccessNow_refused hr hne]
  case misaligned =>
    intro hperm ha
    rw [hout, State.regAccessNow_misaligned hperm (by rwa [hmod]), hpage, hoff]
  case locked =>
    rintro hperm rfl ha hl
    rw [hout, hword hperm ha, if_pos (by simp [hl])]
  case fabric =>
    rintro hperm rfl ha hl hf hr
    rw [hout, hword hperm ha, if_neg (by simp [hl]), if_pos (by simp [hf, hr])]
  case domain =>
    rintro hperm rfl ha hl hf hd hr
    rw [hout, hword hperm ha, if_neg (by simp [hl]), if_neg (by simp [hf]), if_pos (by simp [hd, hr]), State.turnedAway_eq]
  case block =>
    rintro hl rfl
    have hw := State.busWrite_lands (regAddr_key hp ho) hmesh hl v.toNat
    rw [State.busWrite_reg (regAddr_key hp ho) hmesh hb, word_toNat] at hw
    rw [hout, word_toNat, hw]

/-! ### Refusals (R26, R31) -/

/-- An access outside the register pages that its decode or permission refuses, for a reason of its own. -/
theorem State.memAccess_refused {s : State} {q : Req} {a n : Nat} {wr : Bool}
    (h : s.mayAccess q a (max n 1) wr = none ∨ s.mayAccess q a (max n 1) wr = some false) :
    ∃ r, ∀ own v act, s.memAccess own q a n wr v act = s.refuse q a wr r := by
  unfold State.memAccess
  rcases h with h | h <;> rw [h] <;> exact ⟨_, fun _ _ _ => rfl⟩

/-- An access to a register that is not permitted, to an unmapped address or to memory that is not permitted is refused, for one
reason whatever it writes. -/
theorem State.bus_refused {s : State} {q : Req} {a n : Nat} {wr : Bool} (hm : s.meshServes q a = true) (hb : s.heldBack q = none)
    (h : (∃ k r, regAddr a = some k ∧ s.accessPerm q k n wr = some r ∧ r ≠ 0x100) ∨
      (regAddr a = none ∧ (s.mayAccess q a (max n 1) wr = none ∨ s.mayAccess q a (max n 1) wr = some false))) :
    ∃ r, (wr = true → ∀ v, s.busWrite q a n v = s.refuse q a wr r) ∧ (wr = false → s.busRead q a n = s.refuse q a wr r) := by
  rcases h with ⟨k, r, ha, hp, hr⟩ | ⟨ha, hp⟩
  · refine ⟨r, ?_, ?_⟩
    · rintro rfl v
      rw [State.busWrite_refused ha hm hb hp hr, regBase_add_of_regAddr ha]
    · rintro rfl
      rw [State.busRead_refused ha hm hb hp hr, regBase_add_of_regAddr ha]
  · obtain ⟨r, hr⟩ := State.memAccess_refused hp
    refine ⟨r, ?_, ?_⟩
    · rintro rfl v
      rw [State.busWrite_mem ha hm hb, hr]
    · rintro rfl
      rw [State.busRead_mem ha hm hb, hr]

/-- REFUSED_COMPLETION of an access that is refused leaves what the access leaves. -/
theorem refusedCompletion_of_refused {s : State} {q : Req} {a r : Nat} {wr : Bool}
    (hw : wr = true → ∀ v, s.busWrite q a 4 v = s.refuse q a wr r) (hr : wr = false → s.busRead q a 4 = s.refuse q a wr r) :
    refusedCompletion q a wr s = s.refuse q a wr r := by
  unfold refusedCompletion
  cases wr
  · simp [hr rfl]
  · simp [hw rfl 0]

/-- Settles O7: both commands end in the one refusal, whose only register is the tenant's count. -/
theorem refusedAccessLeavesNoTrace : Obligations.RefusedAccessLeavesNoTrace := by
  unfold Obligations.RefusedAccessLeavesNoTrace
  intro s q a n v wr on hq hb hm h
  obtain ⟨r, hw, hr⟩ := State.bus_refused (State.meshServes_of_awake hm) hb h
  have hreg := s.refuse_reg q a wr r
  refine ⟨r, _, rfl, ?_, ?_, State.refuse_resp .., ?_, hreg, State.refuse_frame ..⟩
  · rintro rfl
    rw [exec_refusedCompletion, only_next hq on, refusedCompletion_of_refused hw hr]
  · intro hwr
    rw [exec_registerWrite, only_next hq on, hw hwr]
  · intro p
    have hne : ∀ o, o < 0x100 → p * 0x1000 + o ≠ ADSEL_T_REFUSED (q.tenant % 8) := by
      intro o ho
      unfold ADSEL_T_REFUSED
      omega
    exact ⟨hreg _ (hne _ (by decide)), hreg _ (hne _ (by decide)), hreg _ (hne _ (by decide))⟩

/-! ### Alignment of memory accesses (R21) -/

/-- A permitted misaligned access of a requester that is no host link: BAD_ALIGN with zero data, and nothing else. -/
theorem State.memAccess_misaligned {s : State} {q : Req} {a n : Nat} {wr : Bool} (hp : s.mayAccess q a (max n 1) wr = some true)
    (ha : naturallyAligned a n = false) (hq : q.cls ≠ 2) (own : Option Nat) (v : Nat) (act : State → State) :
    s.memAccess own q a n wr v act = s.answer 3 [0] := by
  unfold State.memAccess
  rw [hp]
  exact if_pos (by simp [ha, hq])

/-- A permitted aligned access that no other access to its domain is ahead of reaches the memory. -/
theorem State.memAccess_aligned {s : State} {q : Req} {a n : Nat} {wr : Bool} (hp : s.mayAccess q a (max n 1) wr = some true)
    (ha : naturallyAligned a n = true) {own : Option Nat} (hd : s.queued own (s.memNeeds q a n).1 = false) (v : Nat)
    (act : State → State) : s.memAccess own q a n wr v act = act s := by
  unfold State.memAccess
  rw [hp]
  simp [ha, hd]

/-- For the sizes of R21, natural alignment is that of the address. -/
theorem naturallyAligned_of_size {n : Nat} (hn : n ∈ [1, 2, 4, 8, 16, 32, 64]) (a : Nat) : naturallyAligned a n = (a % n == 0) := by
  have : (n == 1 || n == 2 || n == 4 || n == 8 || n == 16 || n == 32 || n == 64) = true := by
    simpa [or_assoc] using hn
  rw [naturallyAligned, this, Bool.true_and]

/-- Settles O8: alignment decides between BAD_ALIGN and the memory. -/
theorem misalignedAccessIsBadAlign : Obligations.MisalignedAccessIsBadAlign := by
  unfold Obligations.MisalignedAccessIsBadAlign
  intro s q a n v on hq hcls hb hm ha hn
  have hmesh := State.meshServes_of_awake hm
  have hsize : max n 1 = n := by
    have : n ≠ 0 := by rintro rfl; simp at hn
    omega
  have hwrite : exec (.registerWrite q a n v) s = .next (s.memAccess none q a n true v.toNat (memSave q a n v.toNat)) := by
    rw [exec_registerWrite, only_next hq on, State.busWrite_mem ha hmesh hb]
  have hread := State.busRead_mem ha hmesh hb n
  rw [hwrite, hread]
  refine ⟨fun hmis => ?_, fun hal hd => ?_⟩
  · have hna : naturallyAligned a n = false := by simpa [naturallyAligned_of_size hn] using hmis
    refine ⟨fun hp => ?_, fun hp => ?_⟩ <;> rw [← hsize] at hp <;> rw [State.memAccess_misaligned hp hna hcls] <;> rfl
  · have hna : naturallyAligned a n = true := by simpa [naturallyAligned_of_size hn] using hal
    refine ⟨fun hp => ?_, fun hp => ?_⟩ <;> rw [← hsize] at hp <;> rw [State.memAccess_aligned hp hna hd]

/-! ### The common block (R25, R27) -/

/-- A write below 0x100 is the fabric's. -/
theorem regWrite_common (q : Req) (p : Nat) {o : Nat} (ho : o < 0x100) (v : Word) (s : State) :
    regWrite q (p * 0x1000 + o) v s = s.commonWrite q p o v := by
  unfold regWrite
  dsimp only
  rw [keyPage_add p (by omega), keyOff_add p (by omega), if_pos ho]

theorem regRead_errCode (q : Req) (p : Nat) (s : State) :
    regRead q (ERR_CODE p) s = (s.answer 0 [s.reg (ERR_CODE p)]).setReg (ERR_CODE p) 0 := by
  unfold regRead
  dsimp only
  rw [keyPage_add p (by omega), keyOff_add p (by omega)]
  rfl

/-- IRQ_CLR changes IRQ_RAW, and no other register but the two latches that its bits stand for. -/
theorem State.irqClear_reg (s : State) (p : Nat) (v : Word) :
    (s.irqClear p v).reg (IRQ_RAW p) = s.reg (IRQ_RAW p) &&& ~~~v ∧
    ∀ k, k ≠ IRQ_RAW p → k ≠ PAGE_STATUS p → k ≠ CASC_STATUS → (s.irqClear p v).reg k = s.reg k := by
  have hu : ∀ k, k ≠ PAGE_STATUS p → k ≠ CASC_STATUS →
      (s.irqClear p v).reg k = (s.setReg (IRQ_RAW p) (s.reg (IRQ_RAW p) &&& ~~~v)).reg k := by
    intro k h1 h2
    unfold State.irqClear
    dsimp only
    split <;> split <;> simp only [State.reg_setReg_other _ _ h2, State.reg_setFlag_other _ _ _ h1]
  refine ⟨?_, fun k h h1 h2 => ?_⟩
  · have h1 : IRQ_RAW p ≠ PAGE_STATUS p := by unfold IRQ_RAW PAGE_STATUS; omega
    have h2 : IRQ_RAW p ≠ CASC_STATUS := by unfold IRQ_RAW CASC_STATUS; omega
    rw [hu _ h1 h2, State.reg_setReg_same]
  · rw [hu k h1 h2, State.reg_setReg_other _ _ h]

@[simp] theorem State.irqClear_resp (s : State) (p : Nat) (v : Word) : (s.irqClear p v).resp = s.resp := by
  unfold State.irqClear
  dsimp only
  split <;> split <;> rfl

/-- PAGE_LOCK sets its bit and copies the RWL fields beside the registers; the answer stays. -/
theorem State.pageLock_keeps (s : State) (p : Nat) :
    (s.pageLock p).regs = (s.setFlag (PAGE_LOCK p) 0 true).regs ∧ (s.pageLock p).resp = s.resp := by
  unfold State.pageLock
  dsimp only
  refine foldl_keeps (fun x : State => x.regs = (s.setFlag (PAGE_LOCK p) 0 true).regs ∧ x.resp = s.resp) _
    (fun x e hx => ?_) _ _ ⟨rfl, rfl⟩
  exact hx

theorem State.pageLock_locked (s : State) (p : Nat) : (s.pageLock p).locked p = true := by
  have : (s.pageLock p).locked p = (s.setFlag (PAGE_LOCK p) 0 true).locked p :=
    congrArg (bit · 0) (State.reg_congr (s.pageLock_keeps p).1 _)
  rw [this]
  exact s.flag_setFlag_same _ 0 true (by decide)

theorem State.pageLock_reg_other (s : State) (p : Nat) {k : Nat} (h : k ≠ PAGE_LOCK p) : (s.pageLock p).reg k = s.reg k :=
  (State.reg_congr (s.pageLock_keeps p).1 k).trans (s.reg_setFlag_other 0 true h)

/-- A store to PAGE_CTRL leaves the lock as it is. -/
theorem State.locked_setReg_pageCtrl (s : State) (p : Nat) (v : Word) : (s.setReg (PAGE_CTRL p) v).locked p = s.locked p :=
  s.flag_setReg_other 0 v (by unfold PAGE_LOCK PAGE_CTRL; omega)

/-- Only the mailbox pages evaluate their mailboxes when PAGE_CTRL is written. -/
theorem State.mbxEnabled_other (s : State) {p : Nat} (h : p < 0x020 ∨ 0x023 < p) : s.mbxEnabled p = s :=
  if_neg (by omega)

/-- A soft reset of a page that stands unlocked before and after ENABLE is stored resets the page. -/
theorem State.pageCtrl_softReset (s : State) (p : Nat) {v : Word} (hv : bit v 1 = true) (hl : s.locked p = false)
    (hu : ((s.setReg (PAGE_CTRL p) (v &&& 5)).mbxEnabled p).locked p = false) :
    s.pageCtrl p v = ((s.setReg (PAGE_CTRL p) (v &&& 5)).mbxEnabled p).pageReset p := by
  unfold State.pageCtrl State.softReset
  dsimp only
  rw [if_neg (ne_true_of_eq_false hl), if_pos hv, if_neg (ne_true_of_eq_false hu)]

/-- SOFT_RESET that lands on an unlocked page: ENABLE and WAKE_ON_ACCESS are stored and the page is reset. -/
theorem exec_softReset_lands {s : State} {q : Req} {p : Nat} (h : s.lands q (PAGE_CTRL p) true = true) (hp : pageListed p = true)
    (v : Word) (hl : s.locked p = false)
    (hu : (((s.answer 0).setReg (PAGE_CTRL p) (setBit v 1 true &&& 5)).mbxEnabled p).locked p = false) :
    exec (.softReset q p v) s = .next ((((s.answer 0).setReg (PAGE_CTRL p) (setBit v 1 true &&& 5)).mbxEnabled p).pageReset p) := by
  rw [exec_softReset, only_writeVia (by simp [State.lands_wf h, hp]) h, regWrite_common _ _ (by decide)]
  exact congrArg _ (State.pageCtrl_softReset (s.answer 0) p (by simp [bit_setBit]) hl hu)

/-- Table 2.2 lists the mailbox pages. -/
theorem pageListed_mbx {p : Nat} (h : 0x020 ≤ p) (h' : p ≤ 0x023) : pageListed p = true := by
  have hp : p = 0x020 ∨ p = 0x021 ∨ p = 0x022 ∨ p = 0x023 := by omega
  rcases hp with rfl | rfl | rfl | rfl <;> decide

/-- Settles O6: each access lands, and its clause is what the fabric does with it. -/
theorem commonBlockCommands : Obligations.CommonBlockCommands := by
  unfold Obligations.CommonBlockCommands
  refine ⟨?errCodeRead, ?irqClr, ?pageLock, ?softReset, ?softResetMbx, ?plainWrite⟩
  case errCodeRead =>
    intro q p s h hp
    rw [exec_errCodeRead, only_readVia (by simp [State.lands_wf h, hp]) h, regRead_errCode]
  case irqClr =>
    intro q p v s h hp
    obtain ⟨hraw, hother⟩ := (s.answer 0).irqClear_reg p v
    refine ⟨(s.answer 0).irqClear p v, ?_, hraw, by rw [State.irqClear_resp]; rfl, hother⟩
    rw [exec_irqClr, only_writeVia (by simp [State.lands_wf h, hp]) h, regWrite_common _ _ (by decide)]
    rfl
  case pageLock =>
    intro q p v s h hp
    refine ⟨(s.answer 0).pageLock p, ?_, State.pageLock_locked _ p, (State.pageLock_keeps _ p).2,
      fun k hk => State.pageLock_reg_other _ p hk⟩
    rw [exec_pageLock, only_writeVia (by simp [State.lands_wf h, hp]) h, regWrite_common _ _ (by decide)]
    exact congrArg _ (if_pos (by simp [bit_setBit]))
  case softReset =>
    intro q p v s h hp hl hne
    have he := ((s.answer 0).setReg (PAGE_CTRL p) (setBit v 1 true &&& 5)).mbxEnabled_other hne
    rw [exec_softReset_lands h hp v hl (by rw [he, State.locked_setReg_pageCtrl]; exact hl), he]
  case softResetMbx =>
    intro q p v s h h1 h2 u hl hu
    exact exec_softReset_lands h (pageListed_mbx h1 h2) v hl hu
  case plainWrite =>
    intro q p v s h hp hm
    rw [exec_registerWrite, only_next (State.lands_wf h) (State.lands_on h),
      State.busWrite_lands (regAddr_key hp (by decide)) (State.meshServes_of_awake hm) h, regWrite_common _ _ (by decide), word_toNat]
    rfl

/-! ### Stalled accesses (R32, R33) -/

theorem State.heldBy_hold (s : State) (src who d : Nat) : (s.hold src who d).heldBy d src = true := by
  unfold State.hold State.heldBy
  split
  · rename_i h
    exact List.any_eq_true.2 ⟨⟨src, who, d⟩, by simpa using h, by simp⟩
  · simp

/-- What `stallAt` leaves: the access last in the queue, its answer, the registers as they were, and its request where it wakes the
domain. -/
theorem State.stallAt_spec (s : State) (q : Req) (addr size : Nat) (wr wake : Bool) (data d : Nat) :
    (s.stallAt q addr size wr data d wake).stalls =
      s.stalls ++ [{ q := q, addr := addr, size := size, wr := wr, data := data, dom := d, wake := wake }] ∧
    (wake = true → (s.stallAt q addr size wr data d wake).heldBy d 12 = true) ∧
    (s.stallAt q addr size wr data d wake).resp = ⟨0x100, []⟩ ∧ (s.stallAt q addr size wr data d wake).regs = s.regs := by
  unfold State.stallAt
  cases wake
  · exact ⟨rfl, nofun, rfl, rfl⟩
  · exact ⟨State.hold_stalls .., fun _ => State.heldBy_hold .., rfl, State.hold_regs ..⟩

/-- Nothing waits on the domain: nothing completes. -/
theorem stalledComplete_none {s : State} {d : Nat} (h : s.stalls.all (fun e => e.dom != d) = true) : stalledComplete d s = s := by
  have : (s.stalls.find? fun e => e.dom == d && s.stallReady e) = none := by
    rw [List.find?_eq_none]
    intro e he
    simp [bne_iff_ne.1 (List.all_eq_true.1 h e he)]
  unfold stalledComplete
  rw [this]

/-- The one access that waits, a write of a word whose domain is ON and that lands once it has left the queue: it reaches the block. -/
theorem stalledComplete_write {s u : State} {e : Stall} {k : Nat} (hs : s.stalls = [e]) (hon : s.domOn e.dom = true)
    (hb : e.behind = false) (ht : e.tlp = none) (hw : e.wr = true) (hn : e.size = 4) (ha : regAddr e.addr = some k)
    (hm : s.meshServes e.q e.addr = true) (hl : ({ s with stalls := [] } : State).lands e.q k true = true)
    (hu : regWrite e.q k (word e.data) (({ s with stalls := [] } : State).answer 0) = u) (hc : u.resp.code = 0) :
    stalledComplete e.dom s = (u.stallTell e 0 u.resp.data).stallRelease e := by
  have hfind : (s.stalls.find? fun f => f.dom == e.dom && s.stallReady f) = some e := by
    simp [hs, State.stallReady, hb, hon]
  have hnow : ({ s with stalls := [] } : State).busWriteNow (some e.dom) e.q e.addr 4 e.data = u := by
    unfold State.busWriteNow
    rw [ha, ← hu]
    exact (if_neg (State.meshServes_iff hm)).trans (State.regAccessNow_lands hl rfl _ _ _)
  unfold stalledComplete
  rw [hfind]
  simp [hs, hb, ht, hw, hn, hnow, hc]

/-- A requester that is neither a tile nor the debug port is told by the answer alone. -/
theorem State.stallTell_agent (s : State) {e : Stall} (hd : isDebug e.q = false) (hc : e.q.cls ≠ 0) (data : List Word) :
    s.stallTell e 0 data = s.answer 0 data := by
  simp [State.stallTell, hd, hc]

/-- With no other access waiting the request of the one that ends is released. -/
theorem State.stallRelease_last {s : State} (h : s.stalls = []) (e : Stall) :
    s.stallRelease e = s.unhold 12 (0x200 + 0x40 * e.q.cls + e.q.index) e.dom := by
  simp [State.stallRelease, h]

/-- Settles O9: a stall joins the queue with its request; the access whose domain takes it runs R29 with an empty queue. -/
theorem stalledAccessCompletes : Obligations.StalledAccessCompletes := by
  unfold Obligations.StalledAccessCompletes
  refine ⟨State.stallAt_spec, ?idle, ?write⟩
  case idle =>
    intro s d hd h
    rw [exec_stalledAccessComplete, stalledComplete_none h, hd]
    simp [only]
  case write =>
    intro s d p data q hd hp hcls hdbg hs hon hm hl
    have on := State.lands_on hl
    have hdone := stalledComplete_write hs hon rfl rfl rfl rfl (regAddr_key hp (by decide)) (State.meshServes_of_awake hm) hl
      (regWrite_common q p (by decide) (word data) _) rfl
    rw [exec_stalledAccessComplete, only_next hd (show s.pwr.chipOff = false from on)]
    refine congrArg _ (hdone.trans ?_)
    rw [State.stallTell_agent _ hdbg hcls, State.stallRelease_last rfl]
    rfl

/-! ### Rotating arbitration (R35) -/

/-- From a pointer below `n`, going up with wrapping comes to every index below `n`. -/
theorem exists_rotation {n ptr i : Nat} (hp : ptr < n) (hi : i < n) : ∃ j, j < n ∧ (ptr + j) % n = i := by
  refine ⟨(i + (n - ptr)) % n, Nat.mod_lt _ (by omega), ?_⟩
  rw [Nat.add_mod_mod, show ptr + (i + (n - ptr)) = i + n by omega, Nat.add_mod_right, Nat.mod_eq_of_lt hi]

/-- The winner requests, and no index from the pointer up to it does. -/
theorem rotatePick_eq_some {n ptr w : Nat} {reqs : List Nat} (h : rotatePick n ptr reqs = some w) :
    w ∈ reqs ∧ ∃ i, i < n ∧ w = (ptr + i) % n ∧ ∀ j, j < i → (ptr + j) % n ∉ reqs := by
  unfold rotatePick at h
  rw [List.find?_map, Option.map_eq_some_iff] at h
  obtain ⟨i, hi, rfl⟩ := h
  rw [List.find?_range_eq_some] at hi
  obtain ⟨hreq, hlt, hbefore⟩ := hi
  exact ⟨by simpa using hreq, i, by simpa using hlt, rfl, by simpa using hbefore⟩

/-- There is no winner exactly where no index below `n` requests. -/
theorem rotatePick_eq_none_iff {n ptr : Nat} (hp : ptr < n) {reqs : List Nat} :
    rotatePick n ptr reqs = none ↔ ∀ i, i < n → i ∉ reqs := by
  have key : rotatePick n ptr reqs = none ↔ ∀ j, j < n → (ptr + j) % n ∉ reqs := by
    simp [rotatePick]
  rw [key]
  constructor
  · intro h i hi
    obtain ⟨j, hj, rfl⟩ := exists_rotation hp hi
    exact h j hj
  · intro h j _
    exact h _ (Nat.mod_lt _ (by omega))

theorem State.arbitrate_none {s : State} {a n : Nat} {reqs : List Nat} (h : rotatePick n (s.ptrs.get (fun _ => 0) a) reqs = none) :
    s.arbitrate a n reqs false = (none, s) := by
  simp [State.arbitrate, h]

theorem State.arbitrate_some {s : State} {a n w : Nat} {reqs : List Nat}
    (h : rotatePick n (s.ptrs.get (fun _ => 0) a) reqs = some w) :
    s.arbitrate a n reqs false = (some w, { s with ptrs := s.ptrs.set (fun _ => 0) a ((w + 1) % n) }) := by
  simp [State.arbitrate, h]

/-- Settles O10: a grant and a cycle without a request, by what the pick answers. -/
theorem rotatingArbitration : Obligations.RotatingArbitration := by
  unfold Obligations.RotatingArbitration
  refine ⟨?grant, ?idle, fun _ _ _ _ => rfl, fun _ => rfl⟩
  case grant =>
    intro s a n w reqs t _ h
    cases hpick : rotatePick n (s.ptrs.get (fun _ => 0) a) reqs with
    | none => simp [State.arbitrate_none hpick] at h
    | some x =>
      rw [State.arbitrate_some hpick] at h
      cases h
      obtain ⟨hreq, hrot⟩ := rotatePick_eq_some hpick
      exact ⟨hreq, hrot, Tab.get_set_same .., rfl, fun b hb => Tab.get_set_other _ _ hb⟩
  case idle =>
    intro s t a n reqs hp
    rw [← rotatePick_eq_none_iff hp]
    cases hpick : rotatePick n (s.ptrs.get (fun _ => 0) a) reqs with
    | none => simp [State.arbitrate_none hpick, eq_comm]
    | some x => simp [State.arbitrate_some hpick]

end Sys2Proof.Machine
end

section
/-! SUPPORT AND PROOFS. Power states, domains and clocks (R36 to R68, R84): a step of an OFF device, the tick of the time base, a
domain's configuration and wake, PLLs and REFOSC, wake sources, the watchdog and the VBAT monitor. -/

namespace Sys2Proof.Machine

/-! ### A step of a device that is OFF (R41, R84) -/

/-- Every command but POWER_ON is a meaning under the one guard `only`. -/
theorem exec_eq_only {c : Instr} (hc : c ≠ .powerOn) (s : State) : ∃ ok t, exec c s = only ok s t := by
  cases c with
  | powerOn => exact absurd rfl hc
  | _ =>
    unfold exec
    exact ⟨_, _, rfl⟩

/-- A meaning that answers a next state leaves an OFF device as it is. -/
theorem only_off {ok : Bool} {s t u : State} (off : s.pwr.chipOff = true) (h : only ok s t = .next u) : u = s := by
  rcases only_cases ok s t with ⟨-, hnext⟩ | ⟨-, hfault⟩
  · rw [hnext, if_pos off] at h
    exact (Host.Outcome.next.inj h).symm
  · rw [hfault] at h
    cases h

theorem exec_off {c : Instr} {s t : State} (off : s.pwr.chipOff = true) (hc : c ≠ .powerOn) (h : exec c s = .next t) : t = s := by
  obtain ⟨ok, u, he⟩ := exec_eq_only hc s
  exact only_off off (he ▸ h)

theorem step_nil {s : State} (h : s.pending = []) : step s = .next s.tick := by
  unfold step
  rw [h]

theorem step_cons {s : State} {c : Instr} {rest : List Instr} (h : s.pending = c :: rest) :
    step s = exec c { s with pending := rest } := by
  unfold step
  rw [h]

theorem State.withPending_self {s : State} {l : List Instr} (h : s.pending = l) : ({ s with pending := l } : State) = s := by
  subst h
  rfl

/-- No time passes on an OFF device. -/
theorem State.tick_off {s : State} (off : s.pwr.chipOff = true) : s.tick = s := if_pos off

/-- A step of an OFF device takes the front command, if any, off the queue. -/
theorem step_off {s t : State} (off : s.pwr.chipOff = true) (hp : Instr.powerOn ∉ s.pending) (h : step s = .next t) :
    t = { s with pending := s.pending.drop 1 } := by
  cases hq : s.pending with
  | nil =>
    rw [step_nil hq, State.tick_off off] at h
    rw [← Host.Outcome.next.inj h]
    exact (State.withPending_self hq).symm
  | cons c rest =>
    rw [step_cons hq] at h
    have hc : c ≠ .powerOn := fun e => hp (by simp [hq, e])
    exact exec_off off hc h

/-- The first attempt of a cold cast-on exceeds no MAX_ATTEMPTS: it sets registers and `life` and no power state. -/
theorem State.attempt_cold_pwr {s : State} (h : s.life.fresh = true) (cause : Nat) : (s.attempt cause false).pwr = s.pwr := by
  have hmost : ¬ (if s.fld LIFE_CTRL 7 4 = 0 then 16 else s.fld LIFE_CTRL 7 4) < 1 := by split <;> omega
  unfold State.attempt
  simp only [h, if_true, if_neg hmost, Bool.false_eq_true, if_false]
  exact foldl_keeps (fun x : State => x.pwr = s.pwr) (fun (x : State) k => x.setReg (LIFE_STEP_TIME k) 0) (fun _ _ hx => hx) _ _ rfl

/-- POWER_ON leaves a device that is not OFF. -/
theorem powerOn_runs {s : State} (off : s.pwr.chipOff = true) : (powerOn s).pwr.chipOff = false := by
  have hcold : powerOn s = s.coldReset.attempt 0 false := if_pos (Or.inl off)
  have hpwr : (s.coldReset.attempt 0 false).pwr = State.reset.pwr := State.attempt_cold_pwr (s := s.coldReset) rfl 0
  rw [hcold, hpwr]
  rfl

/-- Settles O58: what a step of an OFF device leaves, and POWER_ON by its cold cast-on. -/
theorem offDeviceIsInert : Obligations.OffDeviceIsInert := by
  unfold Obligations.OffDeviceIsInert
  refine ⟨fun s t off hp h => ?_, fun s off => ⟨powerOn s, rfl, powerOn_runs off⟩⟩
  obtain rfl := step_off off hp h
  exact ⟨off, fun hm => hp (List.mem_of_mem_drop hm), rfl⟩

/-! ### The tick of the time base (R60 to R63) -/

/-- What an AONCLK tick counts stands in registers. -/
@[simp] theorem State.aonEdge_pwr (s : State) : s.aonEdge.pwr = s.pwr := by
  unfold State.aonEdge
  dsimp only
  split <;> rfl

theorem State.tick_ts_refosc {s : State} (on : s.pwr.chipOff = false) (h : s.refoscOk = true) :
    s.tick.pwr.ts = s.pwr.ts + 2 ^ 20 := by
  unfold State.tick
  simp only [on, h, if_true, Bool.false_eq_true, if_false]
  by_cases hr : (s.reg CLK_TS_RATIO).toNat ≤ s.pwr.rtcDiv + 0x100000
  · simp [hr]
  · simp [hr]

theorem State.tick_ts_aonclk {s : State} (on : s.pwr.chipOff = false) (h : s.refoscOk = false) :
    s.tick.pwr.ts = s.pwr.ts + (s.reg CLK_TS_RATIO).toNat := by
  simp [State.tick, on, h]

/-- Settles O2: the empty queue ticks, and the timestamp by the clock it counts on. -/
theorem emptyQueueTicks : Obligations.EmptyQueueTicks := by
  unfold Obligations.EmptyQueueTicks
  exact fun s h => ⟨step_nil h, State.tick_off, State.tick_ts_refosc, State.tick_ts_aonclk⟩

/-! ### What updates of a register or a domain leave -/

/-- States that differ in their registers alone, in a row. -/
theorem State.regs_frame_trans {s t u : State} (h : t = { s with regs := t.regs }) (h' : u = { t with regs := u.regs }) :
    u = { s with regs := u.regs } :=
  h'.trans (congrArg (fun x : State => { x with regs := u.regs }) h)

theorem State.setFlag_frame (s : State) (k i : Nat) (b : Bool) :
    s.setFlag k i b = { s with regs := (s.setFlag k i b).regs } := rfl

theorem State.setReg_frame (s : State) (k : Nat) (v : Word) : s.setReg k v = { s with regs := (s.setReg k v).regs } := rfl

theorem State.irq_frame (s : State) (p b : Nat) : s.irq p b = { s with regs := (s.irq p b).regs } := rfl

theorem State.flag_irq_other (s : State) {p b m : Nat} (i : Nat) (h : m ≠ IRQ_RAW p) : (s.irq p b).flag m i = s.flag m i :=
  s.flag_setReg_other i _ h

theorem State.flag_irq_same (s : State) (p : Nat) {b : Nat} (h : b < 32) : (s.irq p b).flag (IRQ_RAW p) b = true := by
  rw [State.irq_flag _ _ _ _ h, if_pos rfl]

/-- A register whose RW bits are its low `n`, with no other writable bit, takes them and keeps the rest. -/
theorem State.written_low {k n : Nat} (hn : 0 < n)
    (hrow : (findRow (pageBase (keyPage k)) (keyOff k)).map (fun r => (r.1.rw, r.1.rwl, r.1.w1c)) = some (2 ^ n - 1, 0, 0))
    (s : State) (v : Word) : s.written k v = setBits (s.reg k) (n - 1) 0 v.toNat := by
  obtain ⟨⟨r, is⟩, hfind, hmask⟩ := Option.map_eq_some_iff.1 hrow
  obtain ⟨hrw, hrwl, hw1c⟩ : r.rw = 2 ^ n - 1 ∧ r.rwl = 0 ∧ r.w1c = 0 := by simpa using hmask
  unfold State.written setBits
  rw [hfind]
  simp [hrw, hrwl, hw1c, Nat.sub_add_cancel hn, Nat.and_two_pow_sub_one_eq_mod]

/-- A second listing of a key takes the place of the first. -/
theorem Tab.put_put {α : Type} (l : Tab α) (k : Nat) (v w : α) : Tab.put (Tab.put l k v) k w = Tab.put l k w := by
  induction l with
  | nil => simp [Tab.put]
  | cons e l ih =>
    obtain ⟨j, x⟩ := e
    rcases Nat.lt_trichotomy j k with h | h | h
    · simp [Tab.put, h, ih]
    · simp [Tab.put, h]
    · simp [Tab.put, Nat.not_lt_of_gt h, Nat.ne_of_gt h]

/-- Of two domain records written in a row the last one stands, where neither is that of an unlisted domain. -/
theorem State.setDom_setDom (s : State) {d : Nat} {x y : Dom} (hx : x ≠ {}) (hy : y ≠ {}) :
    (s.setDom d x).setDom d y = s.setDom d y := by
  have hput : ∀ (l : Tab Dom) {z : Dom}, z ≠ {} → Tab.set domReset l d z = Tab.put l d z := fun _ _ hz => if_neg hz
  unfold State.setDom
  simp only [hput _ hx, hput _ hy, Tab.put_put]

/-! ### A domain's configuration (R43) -/

/-- PWR_DOM_CFG in its page's table: bits [5:0] are RW and nothing else is writable. -/
theorem findRow_domCfg : ∀ d < 96, (findRow (pageBase (keyPage (PWR_DOM_CFG d))) (keyOff (PWR_DOM_CFG d))).map
    (fun r => (r.1.rw, r.1.rwl, r.1.w1c)) = some (0x3F, 0, 0) := by decide

theorem domListed_lt {d : Nat} (h : domListed d = true) : d < 96 := by
  simp only [domListed, Bool.or_eq_true, Bool.and_eq_true, decide_eq_true_eq] at h
  omega

theorem State.plainWrite_domCfg (s : State) {d : Nat} (h : domListed d = true) (v : Word) :
    s.plainWrite (PWR_DOM_CFG d) v = s.setReg (PWR_DOM_CFG d) (setBits (s.reg (PWR_DOM_CFG d)) 5 0 v.toNat) :=
  congrArg _ (State.written_low (n := 6) (by decide) (findRow_domCfg d (domListed_lt h)) s v)

/-! ### Waking (R46 to R51) -/

theorem exec_domCfgWrite {q : Req} {d : Nat} {s : State} (hd : domListed d = true) (h : s.lands q (PWR_DOM_CFG d) true = true) (v : Word) :
    exec (.domCfgWrite q d v) s = .next ((s.answer 0).plainWrite (PWR_DOM_CFG d) v) :=
  only_writeVia (by simp [State.lands_wf h, hd]) h _ _

theorem exec_wakeStart {d : Nat} {s : State} (hd : domListed d = true) (on : s.pwr.chipOff = false) :
    exec (.wakeStart d) s = .next (wakeOrCast d s) := only_next hd on _

theorem exec_tileWakeSlot {q : Nat} {s : State} (hq : q < 4) (on : s.pwr.chipOff = false) :
    exec (.tileWakeSlot q) s = .next (tileWakeSlot q s) := only_next (decide_eq_true hq) on _

theorem exec_wakeStepReady {d : Nat} {s : State} (hd : domListed d = true) (on : s.pwr.chipOff = false) :
    exec (.wakeStepReady d) s = .next (wakeStepReady d s) := only_next hd on _

theorem exec_wakeStepDelayExpiry {d : Nat} {s : State} (hd : domListed d = true) (on : s.pwr.chipOff = false) (ready : Bool) :
    exec (.wakeStepDelayExpiry d ready) s = .next (wakeDelay d ready s) := only_next hd on _

theorem exec_wakeTmoExpiry {d : Nat} {s : State} (hd : domListed d = true) (on : s.pwr.chipOff = false) :
    exec (.wakeTmoExpiry d) s = .next (wakeTmoExpiry d s) := only_next hd on _

/-- With cast-on over, no bind-off and no thermal hold, WAKE_START is the domain's wake alone. -/
theorem wakeOrCast_running {d : Nat} {s : State} (hboot : s.life.booting = false) (hpark : s.life.parked = false)
    (hhot : s.cap.hot = false) (hbound : s.life.bound = false) (hbind : s.life.bindStage = 0) : wakeOrCast d s = wakeStart d s := by
  simp [wakeOrCast, hboot, hpark, hhot, hbound, hbind]

theorem State.sleepYield_awake {s : State} (h : s.pwr.sleeping ≠ 2) : s.sleepYield = s := if_neg fun c => h c.1

theorem State.socWait_self {s : State} (h : s.pwr.socWait = false) : ({ s with pwr.socWait := false } : State) = s := by
  rw [← h]

/-- WAKE_START of a domain that no wake or entry holds and that is asked to be more awake, with no chip-state entry: its timeout
starts, and it is ON at once from CLOCKSTOP and waits from RETAIN or OFF. -/
theorem wakeStart_asleep {d : Nat} {s : State} (h0 : d ≠ 0) (habs : s.absent d = false) (hwait : (s.dom d).waiting = false)
    (hheld : (s.dom d).held = false) (hstep : (s.dom d).step = 0) (hask : (s.asked d).code < (s.dom d).st.code)
    (hsleep : s.pwr.sleeping ≠ 2) (hsoc : s.pwr.socWait = false) :
    wakeStart d s = if (s.dom d).st = .clockstop then
        ((s.setDom d { s.dom d with timing := true, t0 := s.now, fromOff := false }).reachOn d).beginWaiting
      else (s.setDom d { s.dom d with timing := true, t0 := s.now, waiting := true }).beginWaiting := by
  have htimed : ∀ {x : Dom}, x.timing = true → x ≠ {} := by
    rintro x hx rfl
    cases hx
  unfold wakeStart
  simp only [State.sleepYield_awake hsleep, hsleep, hstep, h0, habs, hwait, hheld, Nat.not_le_of_gt hask, false_and, or_self,
    ne_eq, not_true, Bool.false_eq_true, if_false, Nat.reduceEqDiff, State.socWait_self hsoc, ite_self, State.dom_setDom_same]
  split
  · rw [State.setDom_setDom _ (htimed rfl) (htimed rfl)]
  · rw [State.setDom_setDom _ (htimed rfl) (htimed rfl)]

/-- A step of a wake in handshake mode whose ready signal can be true. -/
theorem wakeStepReady_ready {d : Nat} {s : State} (h1 : 1 ≤ (s.dom d).step) (h4 : (s.dom d).step ≤ 4) (htab : (s.dom d).table = false)
    (hcan : s.stepCan d (s.dom d).step = true) : wakeStepReady d s = s.stepOver d :=
  if_neg (by simp [htab, hcan, Nat.ne_of_gt h1, Nat.lt_succ_of_le h4])

/-- A step of a wake in table mode whose delay is over. -/
theorem wakeDelay_over {d : Nat} {s : State} (h1 : 1 ≤ (s.dom d).step) (h4 : (s.dom d).step ≤ 4) (htab : (s.dom d).table = true)
    (hover : (s.dom d).stepAt + s.stepDelay d (s.dom d).step ≤ s.now) (ready : Bool) :
    wakeDelay d ready s = if ready = true ∧ s.stepCan d (s.dom d).step = true then s.stepOver d
      else ((s.setDom d { s.dom d with table := false, early := true }).setFlag (PWR_WAKE_EARLY (d / 32)) (d % 32) true).irq 0x001 1 :=
  (if_neg (by simp [htab, Nat.ne_of_gt h1, Nat.lt_succ_of_le h4, hover])).trans (ite_congr (Bool.and_eq_true _ _) (fun _ => rfl) fun _ => rfl)

/-- The timeout of a wake that counts is over. -/
theorem wakeTmoExpiry_over {d : Nat} {s : State} (htime : (s.dom d).timing = true)
    (hover : 384 * s.wakeTmo d ≤ 10 * (s.now - (s.dom d).t0)) :
    wakeTmoExpiry d s = ((s.setDom d { s.dom d with timing := false }).irq 0x001 2).stallsTimeout d :=
  if_neg (by simp [htime, hover])

/-- Settles O11: each command's guard holds. -/
theorem domainWakeCommands : Obligations.DomainWakeCommands := by
  unfold Obligations.DomainWakeCommands
  refine ⟨?cfg, ?start, fun q s hq on => exec_tileWakeSlot hq on, ?ready, ?delay, ?timeout⟩
  case cfg =>
    intro q d v s hd h
    rw [exec_domCfgWrite hd h, State.plainWrite_domCfg _ hd, State.reg_answer]
  case start =>
    intro d s hd on hboot hpark hhot hbound hbind h0 habs hwait hheld hstep hask hsleep hsoc
    rw [exec_wakeStart hd on, wakeOrCast_running hboot hpark hhot hbound hbind,
      wakeStart_asleep h0 habs hwait hheld hstep hask hsleep hsoc]
  case ready =>
    intro d s hd on h1 h4 htab hcan
    rw [exec_wakeStepReady hd on, wakeStepReady_ready h1 h4 htab hcan]
  case delay =>
    intro d ready s hd on h1 h4 htab hover
    rw [exec_wakeStepDelayExpiry hd on, wakeDelay_over h1 h4 htab hover]
  case timeout =>
    intro d s hd on htime hover
    rw [exec_wakeTmoExpiry hd on, wakeTmoExpiry_over htime hover]

/-! ### PLLs, REFOSC, the timestamp ratio (R58 to R61) -/

theorem exec_pllUnlock {pll : Nat} {s : State} (h : pll < 8) (on : s.pwr.chipOff = false) :
    exec (.pllUnlock pll) s = .next (pllUnlock pll s) := only_next (decide_eq_true h) on _

theorem exec_pllRelock {pll : Nat} {s : State} (h : pll < 8) (on : s.pwr.chipOff = false) :
    exec (.pllRelock pll) s = .next (pllRelock pll s) := only_next (decide_eq_true h) on _

theorem exec_refoscFail {s : State} (on : s.pwr.chipOff = false) : exec .refoscFail s = .next (refoscFail s) :=
  only_next rfl on _

theorem exec_refoscResume {s : State} (on : s.pwr.chipOff = false) : exec .refoscResume s = .next (refoscResume s) :=
  only_next rfl on _

theorem exec_tsRatioUpdate {s : State} (on : s.pwr.chipOff = false) (ratio : Word) :
    exec (.tsRatioUpdate ratio) s = .next (tsRatio ratio s) := only_next rfl on _

theorem exec_rtcAlarm {s : State} (on : s.pwr.chipOff = false) : exec .rtcAlarm s = .next (rtcAlarm s) :=
  only_next rfl on _

/-- A running PLL loses its lock: its clocks are held, its CLK_STATUS bit is clear, CLK IRQ_RAW bit 1 is set. -/
theorem pllUnlock_locked {pll : Nat} {s : State} (hrun : s.pwr.pllRun.testBit (1 + pll) = true)
    (hlock : s.flag CLK_STATUS (1 + pll) = true) :
    pllUnlock pll s =
      ((({ s with pwr.pllHeld := s.pwr.pllHeld ||| 2 ^ (1 + pll) } : State).setFlag CLK_STATUS (1 + pll) false).irq 0x002 1) :=
  if_neg (by simp [hrun, hlock])

theorem pllRelock_held {pll : Nat} {s : State} (hheld : s.pwr.pllHeld.testBit (1 + pll) = true) (hosc : s.refoscOk = true) :
    pllRelock pll s =
      (({ s with pwr.pllHeld := s.pwr.pllHeld - 2 ^ (1 + pll) } : State).setFlag CLK_STATUS (1 + pll) true).unwait
        fun d => (domPlls d).contains (1 + pll) :=
  if_neg (by simp [hheld, hosc])

theorem refoscFail_running {s : State} (h : s.refoscOk = true) :
    refoscFail s = ((({ s with pwr.refBad := true } : State).setFlag CLK_STATUS 0 false).setFlag CLK_STATUS 9 true).irq 0x002 0 :=
  if_neg (by simp [h])

/-- REFOSC becomes OK again: the timestamp goes to its next integer value (R60). -/
theorem refoscResume_asked {s : State} (h : s.refoscOk = false) (hask : s.refoscAsked = true) :
    refoscResume s =
      ({ ((s.setFlag CLK_STATUS 0 true).setFlag CLK_STATUS 9 false) with
          pwr := { s.pwr with ts := (s.pwr.ts / 0x100000 + 1) * 0x100000, refBad := false } } : State).unwait needsRefosc := by
  have hon : s.refoscOn =
      { ((s.setFlag CLK_STATUS 0 true).setFlag CLK_STATUS 9 false) with
          pwr := { s.pwr with ts := (s.pwr.ts / 0x100000 + 1) * 0x100000, refBad := false } } := if_neg (by simp [h])
  rw [← hon]
  exact if_neg (by simp [h, hask])

@[simp] theorem State.flag_unwait (s : State) (p : Nat → Bool) (k i : Nat) : (s.unwait p).flag k i = s.flag k i := rfl
@[simp] theorem State.reg_unwait (s : State) (p : Nat → Bool) (k : Nat) : (s.unwait p).reg k = s.reg k := rfl

/-- REFOSC_OK and TS_ON_AONCLK as REFOSC stops or starts: bits 0 and 9 of CLK_STATUS. -/
theorem State.clkStatus_refosc (s : State) (a b : Bool) :
    ((s.setFlag CLK_STATUS 0 a).setFlag CLK_STATUS 9 b).refoscOk = a ∧
      ((s.setFlag CLK_STATUS 0 a).setFlag CLK_STATUS 9 b).flag CLK_STATUS 9 = b := by
  refine ⟨?_, State.flag_setFlag_same _ _ _ _ (by decide)⟩
  unfold State.refoscOk
  rw [State.flag_setFlag_bit _ _ _ _ _ (by decide) (by decide), State.flag_setFlag_same _ _ _ _ (by decide)]

/-- Settles O13: each command's guard holds, and what it leaves is read off the registers it sets. -/
theorem clockCommands : Obligations.ClockCommands := by
  unfold Obligations.ClockCommands
  have hclk : CLK_STATUS ≠ IRQ_RAW 0x002 := by decide
  refine ⟨?unlock, ?relock, ?fail, ?resume, ?ratio, ?alarm⟩
  case unlock =>
    intro pll s hp on hrun hlock
    refine ⟨_, (exec_pllUnlock hp on).trans (congrArg _ (pllUnlock_locked hrun hlock)), ?_, ?_, rfl, rfl, fun k h1 h2 => ?_⟩
    · rw [State.flag_irq_other _ _ hclk, State.flag_setFlag_same _ _ _ _ (by omega)]
    · exact State.flag_irq_same _ _ (by decide)
    · rw [State.reg_irq_other _ h2, State.reg_setFlag_other _ _ _ h1]
      rfl
  case relock =>
    intro pll s hp on hheld hosc
    refine ⟨_, (exec_pllRelock hp on).trans (congrArg _ (pllRelock_held hheld hosc)), ?_, rfl, rfl, fun k hk => ?_⟩
    · rw [State.flag_unwait, State.flag_setFlag_same _ _ _ _ (by omega)]
    · rw [State.reg_unwait, State.reg_setFlag_other _ _ _ hk]
      rfl
  case fail =>
    intro s on h
    let u : State := { s with pwr.refBad := true }
    obtain ⟨hok, hts⟩ := u.clkStatus_refosc false true
    have hregs := State.regs_frame_trans (State.regs_frame_trans (u.setFlag_frame CLK_STATUS 0 false)
      (State.setFlag_frame _ CLK_STATUS 9 true)) (State.irq_frame _ 0x002 0)
    refine ⟨_, (exec_refoscFail on).trans (congrArg _ (refoscFail_running h)), ?_, ?_, ?_, rfl, ?_⟩
    · rw [State.refoscOk, State.flag_irq_other _ _ hclk]
      exact hok
    · rw [State.flag_irq_other _ _ hclk, hts]
    · exact State.flag_irq_same _ _ (by decide)
    · exact hregs
  case resume =>
    intro s on h hask
    obtain ⟨hok, hts⟩ := s.clkStatus_refosc true false
    exact ⟨_, (exec_refoscResume on).trans (congrArg _ (refoscResume_asked h hask)), hok, hts, rfl, rfl⟩
  case ratio =>
    intro ratio s on h
    rw [exec_tsRatioUpdate on, tsRatio, if_pos h]
  case alarm =>
    intro s on h
    rw [exec_rtcAlarm on, rtcAlarm, if_pos h]

/-! ### Wake sources and the watchdog (R57, R63) -/

theorem exec_gpioWake {edge : PinLevel} {s : State} (h : edge.pin < 24) (on : s.pwr.chipOff = false) :
    exec (.gpioWake edge) s = .next (gpioWake edge s) := only_next (decide_eq_true h) on _

theorem exec_hostWakeIn {s : State} (on : s.pwr.chipOff = false) : exec .hostWakeIn s = .next (hostWakeIn s) :=
  only_next rfl on _

theorem exec_wdtKick {q : Req} {s : State} (h : s.lands q AON_WDT_KICK true = true) (v : Word) :
    exec (.wdtKick q v) s = .next (wdtKick v (s.answer 0)) := only_writeVia (State.lands_wf h) h _ _

theorem exec_wdtHalf {s : State} (on : s.pwr.chipOff = false) : exec .wdtHalf s = .next (wdtHalf s) := only_next rfl on _

theorem exec_wdtExpiry {s : State} (on : s.pwr.chipOff = false) : exec .wdtExpiry s = .next (wdtExpiry s) := only_next rfl on _

theorem exec_vbatSample {s : State} (on : s.pwr.chipOff = false) (mv : Nat) :
    exec (.vbatSample mv) s = .next (vbatSample mv s) := only_next rfl on _

/-- A chip in no thermal hold that is not parked takes HOST_WAKE_IN as a wake source. -/
theorem hostWakeIn_awake {s : State} (hhot : s.cap.hot = false) (hpark : s.life.parked = false) : hostWakeIn s = s.wakeFires 2 := by
  simp [hostWakeIn, hhot, hpark]

/-- An enabled source of a ready chip acts. -/
theorem State.wakeFires_enabled {s : State} {b : Nat} (hen : s.flag AON_WAKE_EN b = true) (hready : s.life.ready = true)
    (hbind : s.life.bindStage = 0) (hpark : s.life.parked = false) :
    s.wakeFires b = if s.life.bound = true then s.castWarm 7
      else [1, 2, 9].foldl (fun s d => if (s.dom d).st = .on ∧ (s.dom d).step = 0 then s else s.waitFor d) (s.wakeSource b) :=
  if_neg (by simp [hen, hready, hbind, hpark])

theorem wdtExpiry_due {s : State} (hen : s.flag AON_WDT_CTRL 0 = true) (hsec : (s.dom 1).st = .on)
    (hdue : s.fld AON_WDT_CTRL 31 16 * 32 ≤ (s.reg AON_WDT_COUNT).toNat) :
    wdtExpiry s = (s.resetMeetsStep.setReg AON_WDT_COUNT 0).castWarm 3 :=
  if_neg (by simp [hen, hsec, hdue])

/-! ### The VBAT monitor (R84) -/

/-- The registers after a VBAT sample: VR_VBAT, the low flag of VR_STATUS, and VR IRQ_RAW bit 0 where VBAT is low. -/
def State.vbatShown (s : State) (mv : Nat) (low : Bool) : State :=
  let u := (s.setReg VR_VBAT (word (min mv 0x1FFF))).setFlag VR_STATUS 28 low
  if low then u.irq 0x003 0 else u

section VbatSample

variable (s : State) (mv : Nat) (low : Bool)

theorem State.vbatShown_frame : s.vbatShown mv low = { s with regs := (s.vbatShown mv low).regs } := by
  have h := State.regs_frame_trans (s.setReg_frame VR_VBAT (word (min mv 0x1FFF))) (State.setFlag_frame _ VR_STATUS 28 low)
  cases low
  · exact h
  · exact State.regs_frame_trans h (State.irq_frame _ _ _)

theorem State.vbatShown_reg {k : Nat} (h : k ≠ IRQ_RAW 0x003) :
    (s.vbatShown mv low).reg k = ((s.setReg VR_VBAT (word (min mv 0x1FFF))).setFlag VR_STATUS 28 low).reg k := by
  cases low
  · rfl
  · exact State.reg_irq_other _ h

theorem State.vbatShown_vbat : (s.vbatShown mv low).reg VR_VBAT = word (min mv 0x1FFF) := by
  rw [State.vbatShown_reg _ _ _ (by decide), State.reg_setFlag_other _ _ _ (by decide), State.reg_setReg_same]

theorem State.vbatShown_low : (s.vbatShown mv low).flag VR_STATUS 28 = low :=
  (congrArg (bit · 28) (State.vbatShown_reg s mv low (by decide))).trans (State.flag_setFlag_same _ VR_STATUS 28 low (by decide))

theorem State.vbatShown_other {k : Nat} (h1 : k ≠ VR_VBAT) (h2 : k ≠ VR_STATUS) (h3 : k ≠ IRQ_RAW 0x003) :
    (s.vbatShown mv low).reg k = s.reg k := by
  rw [State.vbatShown_reg _ _ _ h3, State.reg_setFlag_other _ _ _ h2, State.reg_setReg_other _ _ h1]

theorem State.irq_withCap (u : State) (c : Cap) (p b : Nat) : ({ u with cap := c } : State).irq p b = { u.irq p b with cap := c } := rfl

/-- The registers of a sample do not depend on what CAP counts. -/
theorem State.vbatShown_withCap (c : Cap) :
    (if low = true then ({ (s.setReg VR_VBAT (word (min mv 0x1FFF))).setFlag VR_STATUS 28 low with cap := c } : State).irq 0x003 0
      else { (s.setReg VR_VBAT (word (min mv 0x1FFF))).setFlag VR_STATUS 28 low with cap := c }) =
      { s.vbatShown mv low with cap := c } := by
  rw [State.irq_withCap]
  unfold State.vbatShown
  cases low
  · exact if_neg Bool.false_ne_true
  · exact if_pos rfl

@[simp] theorem State.vbatShown_pwr : (s.vbatShown mv low).pwr = s.pwr := by
  rw [State.vbatShown_frame]

/-- A sample shows in the registers, sets the allowance and the count of samples below 2.7 V, and the second of them takes the device
to OFF. -/
theorem vbatSample_eq :
    vbatSample mv s = { s.vbatShown mv (decide (mv < s.fld VR_VBAT_LOW 12 0)) with
      cap := { s.cap with vbat := (if mv < s.fld VR_VBAT_LOW 12 0 then 4 else 7), brown := (if mv < 2700 then s.cap.brown + 1 else 0) }
      pwr := { s.pwr with chipOff := s.pwr.chipOff || (decide (mv < 2700) && decide (1 ≤ s.cap.brown)) } } := by
  have hsecond : (decide (mv < 2700) && decide (1 ≤ s.cap.brown)) = decide (2 ≤ if mv < 2700 then s.cap.brown + 1 else 0) := by
    by_cases h : mv < 2700
    · simp [h]
    · simp [h]
  unfold vbatSample
  dsimp only
  rw [State.setFlag_cap, State.setReg_cap, State.vbatShown_withCap, hsecond]
  by_cases h : 2 ≤ if mv < 2700 then s.cap.brown + 1 else 0
  · simp [h]
  · simp [h]

end VbatSample

/-- Settles O14: wake sources and the watchdog by their guards, a VBAT sample by what it shows. -/
theorem wakeAndWatchdogCommands : Obligations.WakeAndWatchdogCommands := by
  unfold Obligations.WakeAndWatchdogCommands
  refine ⟨?gpio, ?host, fun s b hen hready hbind hpark => State.wakeFires_enabled hen hready hbind hpark, ?kick, ?half, ?expiry, ?vbat⟩
  case gpio =>
    intro pin high s hp on hen hpol
    rw [exec_gpioWake hp on, gpioWake, if_pos ⟨hen, hpol⟩]
  case host =>
    intro s on hhot hpark
    rw [exec_hostWakeIn on, hostWakeIn_awake hhot hpark]
  case kick =>
    intro q v s h
    rw [exec_wdtKick h, wdtKick]
  case half =>
    intro s on h
    rw [exec_wdtHalf on, wdtHalf, if_pos h]
  case expiry =>
    intro s on hen hsec hdue
    rw [exec_wdtExpiry on, wdtExpiry_due hen hsec hdue]
  case vbat =>
    intro mv s on
    refine ⟨_, (exec_vbatSample on mv).trans (congrArg _ (vbatSample_eq s mv)), State.vbatShown_vbat .., State.vbatShown_low .., rfl, ?_,
      ?_, fun k h1 h2 h3 => State.vbatShown_other _ _ _ h1 h2 h3⟩
    · rw [on, Bool.false_or]
    · rw [State.vbatShown_frame]

end Sys2Proof.Machine
end

section
/-! SUPPORT AND PROOFS. Rails, measurement and current caps (R69 to R91): rail samples, HARD floors, droop, the camera LDOs and the cap
limits; operating points, allowances, thermal samples and the thermal restart. -/

namespace Sys2Proof.Machine

/-! ### A block that is not held idle (R25) -/

theorem State.heldIdle_enabled {s : State} {p : Nat} (h : s.flag (PAGE_CTRL p) 0 = true) (t : State) : s.heldIdle p t = t := if_pos h

theorem State.heldIdle_disabled {s : State} {p : Nat} (h : s.flag (PAGE_CTRL p) 0 = false) (t : State) : s.heldIdle p t = s :=
  if_neg (ne_true_of_eq_false h)

/-- A meaning in a block whose page is enabled, on a device that is not OFF. -/
theorem only_heldIdle {ok : Bool} {s : State} {p : Nat} (hok : ok = true) (on : s.pwr.chipOff = false)
    (he : s.flag (PAGE_CTRL p) 0 = true) (t : State) : only ok s (s.heldIdle p t) = .next t := by
  rw [only_next hok on, State.heldIdle_enabled he]

/-! ### Rail samples (R72 to R75) -/

theorem exec_meterSample {i : Nat} {s : State} (h : i < 12) (on : s.pwr.chipOff = false) (code mv : Nat) :
    exec (.meterSample i code mv) s = .next (meterCut i code mv s) := only_next (decide_eq_true h) on _

/-- A sample that trips a camera LDO ends the frames in work. -/
theorem meterCut_of_sample {i code mv : Nat} {s t : State} (h : meterSample i code mv s = t) :
    meterCut i code mv s =
      if (i = 10 ∨ i = 11) ∧ t.flag VR_FAULT i = true ∧ s.flag VR_FAULT i = false then t.cameraCut else t := by
  unfold meterCut
  rw [h]
  simp only [Bool.not_eq_true']

/-- A sample that leaves VR_FAULT as it is ends no frame. -/
theorem meterCut_untripped {i code mv : Nat} {s t : State} (h : meterSample i code mv s = t)
    (hf : t.flag VR_FAULT i = s.flag VR_FAULT i) : meterCut i code mv s = t := by
  rw [meterCut_of_sample h, hf]
  exact if_neg (by simp)

/-- The samples' registers stand apart from the rest of the map. -/
theorem ne_vrOut {i k : Nat} (h : i < 12) (hk : k < 0x3200 ∨ 0x3230 ≤ k) : k ≠ VR_OUT i := by
  unfold VR_OUT
  omega

/-! ### HARD floors, droop, VR_FAULT, the camera LDOs and the cap limits (R71, R75, R77, R88, R90) -/

section Cap

variable {s : State} (on : s.pwr.chipOff = false) (he : s.flag (PAGE_CTRL 0x004) 0 = true)
include on he

theorem exec_hardFloorLift {i : Nat} (h : (Instr.hardFloorLift i).wf = true) :
    exec (.hardFloorLift i) s = .next (hardFloorLift i s) := only_heldIdle h on he _

theorem exec_droopDetect {q : Nat} (h : q < 4) (mv : Nat) : exec (.droopDetect q mv) s = .next (droopDetect q mv s) :=
  only_heldIdle (decide_eq_true h) on he _

theorem exec_droopRelease {q : Nat} (h : q < 4) : exec (.droopRelease q) s = .next (droopRelease q s) :=
  only_heldIdle (decide_eq_true h) on he _

theorem exec_envelopeAllowanceStep : exec .envelopeAllowanceStep s = .next (envelopeStep s) := only_heldIdle rfl on he _

theorem exec_skinAllowanceStep : exec .skinAllowanceStep s = .next (skinStep s) := only_heldIdle rfl on he _

theorem exec_thermalAllowanceStep {q : Nat} (h : q < 4) : exec (.thermalAllowanceStep q) s = .next (thermalStep q s) :=
  only_heldIdle (decide_eq_true h) on he _

theorem exec_thermalSample {i : Nat} (h : i < 9) (temp : Int) : exec (.thermalSample i temp) s = .next (thermalSample i temp s) :=
  only_heldIdle (decide_eq_true h) on he _

end Cap

theorem exec_vrFaultClear {q : Req} {s : State} (h : s.lands q VR_FAULT true = true) (v : Word) :
    exec (.vrFaultClear q v) s = .next (vrFaultClear v (s.answer 0)) := only_writeVia (State.lands_wf h) h _ _

theorem exec_ldoCtrlWrite {q : Req} {s : State} (h : s.lands q VR_LDO_CTRL true = true) (v : Word) :
    exec (.ldoCtrlWrite q v) s = .next (ldoCtrlWrite v (s.answer 0)) := only_writeVia (State.lands_wf h) h _ _

theorem exec_capLimitWrite {q : Req} {i : Nat} {hard : Bool} {s : State} (hi : i < 12)
    (h : s.lands q (if hard then CAP_HARD i else CAP_WARN i) true = true) (v : Word) :
    exec (.capLimitWrite q i hard v) s = .next (capLimitWrite i hard v (s.answer 0)) :=
  only_writeVia (Bool.and_eq_true_iff.2 ⟨State.lands_wf h, decide_eq_true hi⟩) h _ _

/-- A rail that has left HARD lifts its floor while that is below 8. -/
theorem hardFloorLift_below {i : Nat} {s : State} (hs : s.flag (CAP_STATE i) 4 = false) (hf : (s.rail i).floor < 8) :
    hardFloorLift i s = s.setRail i { s.rail i with floor := (s.rail i).floor + 1 } :=
  if_neg (by simp [hs, hf])

theorem capLimitWrite_unlocked {s : State} (h : s.locked 0x004 = false) (i : Nat) (hard : Bool) (v : Word) :
    capLimitWrite i hard v s =
      if hard then s.setReg (CAP_HARD i) (word (min (bits v 9 0) (railMax i)))
      else s.setReg (CAP_WARN i) (word (min (bits v 9 0) (s.fld (CAP_HARD i) 9 0))) :=
  if_neg (ne_true_of_eq_false h)

/-- Settles O15: a sample by whether the CAP page is enabled, every other command by its guard. That VR_OUT is stored with the page
disabled is log entry 34; that LIMITING ends with the trip is log entry 83. -/
theorem railAndCapCommands : Obligations.RailAndCapCommands := by
  unfold Obligations.RailAndCapCommands
  refine ⟨?sample, ?lift, ?droop, ?release, ?fault, ?ldo, ?hard, ?warn⟩
  case sample =>
    intro i code mv s hi on hosc _ up c m hist avg2 avg50 o a b t
    have hrun : meterSample i code mv s = o.heldIdle 0x004 t := if_neg (by simp [hosc])
    have hpage : o.flag (PAGE_CTRL 0x004) 0 = s.flag (PAGE_CTRL 0x004) 0 := s.flag_setReg_other 0 _ (ne_vrOut hi (by decide))
    rw [exec_meterSample hi on]
    refine ⟨fun hdis => ?_, fun hen => ?_⟩
    · have hstore : meterSample i code mv s = o := hrun.trans (State.heldIdle_disabled (hpage.trans hdis) t)
      exact congrArg _ (meterCut_untripped hstore (s.flag_setReg_other i _ (ne_vrOut hi (by decide))))
    · exact congrArg _ (meterCut_of_sample (hrun.trans (State.heldIdle_enabled (hpage.trans hen) t)))
  case lift =>
    intro i s hwf on he hs hf
    rw [exec_hardFloorLift on he hwf, hardFloorLift_below hs hf]
  case droop =>
    intro q mv s hq on he hup hlow
    rw [exec_droopDetect on he hq, droopDetect, if_pos ⟨hup, hlow⟩]
  case release =>
    intro q s hq on he
    rw [exec_droopRelease on he hq, droopRelease]
  case fault =>
    intro q v s h
    rw [exec_vrFaultClear h, vrFaultClear]
  case ldo =>
    intro q v s h
    rw [exec_ldoCtrlWrite h, ldoCtrlWrite]
  case hard =>
    intro q i v s hi h hl
    rw [exec_capLimitWrite (hard := true) hi h, capLimitWrite_unlocked (s := s.answer 0) hl, if_pos rfl]
  case warn =>
    intro q i v s hi h hl
    rw [exec_capLimitWrite (hard := false) hi h, capLimitWrite_unlocked (s := s.answer 0) hl, if_neg Bool.false_ne_true, State.fld_answer]

/-! ### Operating points (R80, R81) -/

theorem exec_oppResolve {s : State} (on : s.pwr.chipOff = false) : exec .oppResolve s = .next (oppResolve s) := only_next rfl on _

theorem exec_oppSlewDone {q : Nat} {s : State} (h : q < 4) (on : s.pwr.chipOff = false) :
    exec (.oppSlewDone q) s = .next (oppSlewDone q s) := only_next (decide_eq_true h) on _

theorem exec_thermalRestart {s : State} (on : s.pwr.chipOff = false) : exec .thermalRestart s = .next (thermalRestart s) :=
  only_next rfl on _

theorem oppSlewDone_arrived {q : Nat} {s : State} (h : max (s.slewTimes q).2.2 s.wgtEnd ≤ s.now) :
    oppSlewDone q s = s.setFlag CAP_EFFECTIVE (4 * q + 3) false := if_neg (Nat.not_lt_of_le h)

/-- A field that a flag is no part of keeps its value. -/
theorem State.fld_setFlag_bit (s : State) {k i hi lo : Nat} (b : Bool) (h : i < 32) (hd : hi < i ∨ i < lo) :
    (s.setFlag k i b).fld k hi lo = s.fld k hi lo := by
  unfold State.setFlag setBit
  rw [State.fld_setReg_same, bits_setBits_other _ _ _ _ _ _ h (Nat.le_refl i) hd]
  rfl

theorem State.ite_wgtMove_regs (s : State) (t : Nat) (c : Prop) [Decidable c] : (if c then s.wgtMove t else s).regs = s.regs := by
  unfold State.wgtMove
  split
  · split <;> rfl
  · rfl

/-- A slew is kept beside the registers. -/
theorem State.slewTo_regs (s : State) (q : Nat) : (s.slewTo q).regs = s.regs := by
  unfold State.slewTo
  extract_lets x raised _ slewing
  have hraised : raised.regs = s.regs := State.ite_wgtMove_regs s ..
  have hslewing : slewing.regs = raised.regs := rfl
  exact (State.ite_wgtMove_regs slewing ..).trans (hslewing.trans hraised)

theorem foldl_min_cons (m a : Nat) (l : List Nat) : (a :: l).foldl min m = min a (l.foldl min m) := by
  rw [List.foldl_cons, Nat.min_comm]
  exact List.foldl_assoc

theorem foldl_min_le (m : Nat) (l : List Nat) : l.foldl min m ≤ m := by
  induction l with
  | nil => exact Nat.le_refl m
  | cons a l ih =>
    rw [foldl_min_cons]
    exact Nat.le_trans (Nat.min_le_right ..) ih

/-- The least of R80's terms is the preferred point or what the others allow. -/
theorem State.oppTerms_least (s : State) (q : Nat) :
    ((s.oppTerms q).map (·.2)).foldl min 7 = min (s.preferredOpp q) ((((s.oppTerms q).drop 1).map (·.2)).foldl min 7) := by
  have hhead : (s.oppTerms q).map (·.2) = s.preferredOpp q :: ((s.oppTerms q).drop 1).map (·.2) := rfl
  rw [hhead, foldl_min_cons]

theorem State.effOpp_setFld (s : State) {q e : Nat} (hq : q < 4) (he : e ≤ 7) :
    (s.setFld CAP_EFFECTIVE (4 * q + 2) (4 * q) e).effOpp q = e := by
  refine (State.fld_setFld_same _ _ _ _ _ (by omega) (by omega)).trans ?_
  rw [show 4 * q + 2 + 1 - 4 * q = 3 by omega]
  omega

/-- A slew keeps the effective point: SLEWING stands beside it. -/
theorem State.effOpp_slewTo (s : State) {q : Nat} (hq : q < 4) :
    ((s.slewTo q).setFlag CAP_EFFECTIVE (4 * q + 3) true).effOpp q = s.effOpp q := by
  unfold State.effOpp
  rw [State.fld_setFlag_bit _ _ (by omega) (by omega)]
  unfold State.fld
  rw [State.reg_congr (State.slewTo_regs s q)]

/-- The effective point of a resolved quadrant is what CAP_EFFECTIVE has taken: a slew sets the flag beside it. -/
theorem State.oppQuad_effOpp (s : State) {q : Nat} (hq : q < 4) :
    (s.oppQuad q).effOpp q = ((s.oppTerms q).map (·.2)).foldl min 7 := by
  have hle := foldl_min_le 7 ((s.oppTerms q).map (·.2))
  rw [State.oppTerms_least] at hle ⊢
  unfold State.oppQuad
  lift_lets
  extract_lets ts allowed eff why slew limited resolved
  have hresolved : resolved.effOpp q = eff := State.effOpp_setFld _ hq hle
  split
  · exact (State.effOpp_slewTo resolved hq).trans hresolved
  · exact hresolved

/-! ### The allowances (R82, R83, R86) -/

/-- `stepAllowance` with its conditions as propositions. -/
theorem stepAllowance_eq {fall rise : Bool} {p r : Prop} [Decidable p] [Decidable r] (hp : fall = true ↔ p) (hr : rise = true ↔ r)
    (a : Nat) : stepAllowance fall rise a = if p then a - 1 else if r then min 7 (a + 1) else a := by
  simp only [stepAllowance, hp, hr]

/-! ### Thermal samples (R86) -/

theorem clampS_range (i : Int) : -2048 ≤ clampS 12 i ∧ clampS 12 i ≤ 2047 := by
  unfold clampS
  split
  · decide
  · split
    · decide
    · omega

/-- A number of the range of a 12-bit field reads back from the field. -/
theorem signed_field {t : Int} (h : -2048 ≤ t) (h' : t ≤ 2047) : signed 12 ((ofInt t).toNat % 2 ^ 12) = t := by
  unfold signed ofInt
  dsimp only
  rw [BitVec.toNat_ofInt]
  split <;> omega

theorem State.tempOf_setFld (s : State) (i : Nat) {t : Int} (h : -2048 ≤ t) (h' : t ≤ 2047) :
    (s.setFld (CAP_TS i) 11 0 (ofInt t).toNat).tempOf i = t := by
  unfold State.tempOf
  rw [State.fld_setFld_same _ _ _ _ _ (by decide) (by decide)]
  exact signed_field h h'

theorem State.tempThr_congr {s u : State} {i : Nat} (h : u.reg (CAP_TS_THR i) = s.reg (CAP_TS_THR i)) (k : Nat) :
    u.tempThr i k = s.tempThr i k := congrArg (fun w => ((bits w (8 * k + 7) (8 * k) * 4 : Nat) : Int)) h

theorem capTsThr_ne_capTs (i : Nat) : CAP_TS_THR i ≠ CAP_TS i := by
  unfold CAP_TS CAP_TS_THR
  omega

/-- What a sample of sensor `i` leaves alone from `s` on to `u`, once its reading is stored. -/
structure KeepsSensor (i : Nat) (s u : State) : Prop where
  ts : u.reg (CAP_TS i) = s.reg (CAP_TS i)
  thr : u.reg (CAP_TS_THR i) = s.reg (CAP_TS_THR i)
  hot : u.cap.hot = s.cap.hot
  ovr : u.cap.ovr = s.cap.ovr
  pwr : u.pwr = s.pwr
  mem : u.mem = s.mem
  tiles : u.tiles = s.tiles

namespace KeepsSensor

variable {i : Nat} {s u v : State}

theorem refl (i : Nat) (s : State) : KeepsSensor i s s := ⟨rfl, rfl, rfl, rfl, rfl, rfl, rfl⟩

theorem trans (h : KeepsSensor i s u) (h' : KeepsSensor i u v) : KeepsSensor i s v :=
  ⟨h'.ts.trans h.ts, h'.thr.trans h.thr, h'.hot.trans h.hot, h'.ovr.trans h.ovr, h'.pwr.trans h.pwr, h'.mem.trans h.mem,
    h'.tiles.trans h.tiles⟩

theorem ite {c : Prop} [Decidable c] (h : KeepsSensor i s u) (h' : KeepsSensor i s v) : KeepsSensor i s (if c then u else v) := by
  split
  · exact h
  · exact h'

/-- A write of a register that is neither the sensor's reading nor its thresholds. -/
theorem setReg {k : Nat} (h : CAP_TS i ≠ k) (h' : CAP_TS_THR i ≠ k) (s : State) (w : Word) : KeepsSensor i s (s.setReg k w) :=
  ⟨s.reg_setReg_other w h, s.reg_setReg_other w h', rfl, rfl, rfl, rfl, rfl⟩

/-- A write of a register outside the sensors' part of the CAP page. -/
theorem setReg_outside (hi : i < 9) {k : Nat} (hk : k < 0x4200 ∨ 0x4290 ≤ k) (s : State) (w : Word) : KeepsSensor i s (s.setReg k w) :=
  setReg (by unfold CAP_TS; omega) (by unfold CAP_TS_THR; omega) s w

/-- A write of the highest reading seen. -/
theorem setMax (i : Nat) (s : State) (v : Nat) : KeepsSensor i s (s.setFld (CAP_TS_MAX i) 11 0 v) :=
  setReg (by unfold CAP_TS CAP_TS_MAX; omega) (by unfold CAP_TS_THR CAP_TS_MAX; omega) s _

/-- An update of CAP's counts but those of the thermal shutdown. -/
theorem withCap {c : Cap} (hhot : c.hot = s.cap.hot := by rfl) (hovr : c.ovr = s.cap.ovr := by rfl) : KeepsSensor i s { s with cap := c } :=
  ⟨rfl, rfl, hhot, hovr, rfl, rfl, rfl⟩

theorem irq (hi : i < 9) {p : Nat} (hp : IRQ_RAW p < 0x4200 ∨ 0x4290 ≤ IRQ_RAW p) (b : Nat) (s : State) : KeepsSensor i s (s.irq p b) :=
  setReg_outside hi hp s _

theorem dramRefresh (hi : i < 9) (s : State) (t : Int) : KeepsSensor i s (s.dramRefresh t) := by
  have hset (f : Nat) : KeepsSensor i s ((s.setFld DRAMC_STATUS 17 16 f).irq 0x032 1) :=
    (setReg_outside hi (by decide) s _).trans (irq hi (by decide) 1 _)
  exact ite (refl i s) (ite (refl i s) (hset _))

theorem tempOf (h : KeepsSensor i s u) : u.tempOf i = s.tempOf i := congrArg (fun w => signed 12 (bits w 11 0)) h.ts

end KeepsSensor

/-- A sample of sensor `i`: its reading is stored, the second in a row above SHUTDOWN outside a thermal hold is a thermal shutdown, and
before that nothing but registers and CAP's own counts has changed. -/
theorem thermalSample_spec {i : Nat} (hi : i < 9) (temp : Int) (s : State) :
    ∃ u : State, u.tempOf i = clampS 12 temp ∧ u.cap.hot = s.cap.hot ∧ u.pwr = s.pwr ∧ u.mem = s.mem ∧ u.tiles = s.tiles ∧
      thermalSample i temp s =
        if s.tempThr i 2 < clampS 12 temp ∧ 1 ≤ s.cap.ovr.getD i 0 ∧ s.cap.hot = false then u.thermalOff else u := by
  unfold thermalSample
  lift_lets
  extract_lets t was stored _ maxed crossed refreshed _ judged n _ counted
  have hrange := clampS_range temp
  have hmaxed : KeepsSensor i stored maxed := .ite (.trans .withCap (.setMax ..)) (.refl ..)
  have hcrossed : KeepsSensor i maxed crossed := .ite (.irq hi (by decide) 2 maxed) (.refl ..)
  have hrefreshed : KeepsSensor i crossed refreshed := .ite (.dramRefresh hi crossed t) (.refl ..)
  have hjudged : KeepsSensor i refreshed judged :=
    .ite (.trans .withCap (.irq hi (by decide) 3 _)) (.ite .withCap (.refl ..))
  have hall : KeepsSensor i stored judged := hmaxed.trans (hcrossed.trans (hrefreshed.trans hjudged))
  have hthr : judged.tempThr i 2 = s.tempThr i 2 :=
    State.tempThr_congr (hall.thr.trans (s.reg_setFld_other 11 0 _ (capTsThr_ne_capTs i))) 2
  have hovr : judged.cap.ovr = s.cap.ovr := hall.ovr
  have hn : 2 ≤ n ↔ s.tempThr i 2 < t ∧ 1 ≤ s.cap.ovr.getD i 0 := by
    unfold n
    rw [hthr, hovr]
    by_cases habove : s.tempThr i 2 < t
    · simp [habove]
    · simp [habove]
  have hhot : counted.cap.hot = s.cap.hot := hall.hot
  refine ⟨counted, hall.tempOf.trans (s.tempOf_setFld i hrange.1 hrange.2), hhot, hall.pwr, hall.mem, hall.tiles,
    ite_congr ?_ (fun _ => rfl) fun _ => rfl⟩
  rw [hn, hhot, Bool.not_eq_true', and_assoc]

theorem thermalRestart_cool {s : State} (hhot : s.cap.hot = true) (hcool : s.tempCool 8 = true) :
    thermalRestart s = ({ s with cap := { s.cap with hot := false } } : State).attempt 4 true :=
  if_neg (by simp [hhot, hcool])

/-- Settles O16: each step of an allowance by the conditions of its fall and its rise, a thermal sample by what it leaves before it may
shut down. That the skin filter is open is log entry 11; how the sensors of a scope combine is log entry 83. -/
theorem operatingPointCommands : Obligations.OperatingPointCommands := by
  unfold Obligations.OperatingPointCommands
  refine ⟨?resolve, fun s q hq => s.oppQuad_effOpp hq, ?slewDone, ?envelope, ?skin, ?sample, ?shutdown, ?thermal, ?restart⟩
  case resolve =>
    intro s on
    rw [exec_oppResolve on, oppResolve]
  case slewDone =>
    intro q s hq on h
    rw [exec_oppSlewDone hq on, oppSlewDone_arrived h]
  case envelope =>
    intro s on he total env new t
    have hnew : stepAllowance (s.flag CAP_CTRL 0 && decide (env < total)) (decide (total * 10 < env * 9)) s.cap.env = new :=
      stepAllowance_eq (by simp) (by simp) _
    rw [exec_envelopeAllowanceStep on he, envelopeStep]
    dsimp only
    rw [hnew]
  case skin =>
    intro s on he pf est limit new t
    have hest : s.skinEst pf = est := rfl
    have hnew : stepAllowance (s.flag CAP_CTRL 1 && decide (limit < est)) (decide (est + 4 < limit)) s.cap.skin = new :=
      stepAllowance_eq (by simp) (by simp) _
    rw [exec_skinAllowanceStep on he, skinStep]
    dsimp only
    rw [hest, hnew]
  case sample =>
    intro i temp s hi on he hfew
    obtain ⟨u, htemp, hhot, hpwr, hmem, htiles, hsample⟩ := thermalSample_spec hi temp s
    have hnot : ¬(s.tempThr i 2 < clampS 12 temp ∧ 1 ≤ s.cap.ovr.getD i 0 ∧ s.cap.hot = false) := by
      rintro ⟨habove, hbefore, hcold⟩
      rcases hfew with hlow | hfirst | hheld
      · exact absurd habove (Int.not_lt_of_ge hlow)
      · omega
      · exact absurd hcold (by simp [hheld])
    rw [if_neg hnot] at hsample
    exact ⟨u, (exec_thermalSample on he hi temp).trans (congrArg _ hsample), htemp, hhot, hpwr, hmem, htiles⟩
  case shutdown =>
    intro i temp s hi on he habove _ hbefore hcold
    obtain ⟨u, htemp, -, hpwr, hmem, htiles, hsample⟩ := thermalSample_spec hi temp s
    rw [if_pos ⟨habove, hbefore, hcold⟩] at hsample
    exact ⟨u, u.thermalOff, (exec_thermalSample on he hi temp).trans (congrArg _ hsample), rfl, htemp, hpwr, hmem, htiles, rfl⟩
  case thermal =>
    intro q s hq on he old new t
    have hnew : stepAllowance ((thermScope q).any s.tempHigh) ((thermScope q).all s.tempCool && !s.cap.critical) old = new :=
      stepAllowance_eq Iff.rfl (by simp) _
    rw [exec_thermalAllowanceStep on he hq, thermalStep]
    dsimp only
    rw [hnew]
  case restart =>
    intro s on hhot hcool
    rw [exec_thermalRestart on, thermalRestart_cool hhot hcool]

end Sys2Proof.Machine
end

section
/-! SUPPORT AND PROOFS. Reset, cast-on, bind-off and the fuses (R92 to R114): the state at reset, the reset sources, the end of a
cast-on's step, the rows of LIFE_CMD, the stages of bind-off, and a fuse bit's blowing. -/

namespace Sys2Proof.Machine

/-! ### The state at reset (R92) -/

/-- At reset no register is listed, so each reads the value of its table. -/
@[simp] theorem State.reg_reset (k : Nat) : State.reset.reg k = regReset k := rfl

theorem State.dom_reset (d : Nat) : State.reset.dom d = if d = 0 then { st := .on, rest := .on } else {} :=
  ite_congr (propext eq_comm) (fun _ => rfl) fun _ => rfl

/-- IRQ_RAW is a register of the common block whose reset value is 0 on every page (Table 2.3). -/
theorem regReset_irqRaw (p : Nat) : regReset (IRQ_RAW p) = 0 := by
  have hoff : keyOff (IRQ_RAW p) = IRQ_RAW 0 := keyOff_add p (by decide)
  unfold regReset
  dsimp only
  rw [hoff]
  rfl

/-- Settles O3: nothing is listed at reset but domain 0, and each register reads as unlisted. -/
theorem resetState : Obligations.ResetState := by
  unfold Obligations.ResetState
  refine ⟨State.dom_reset, State.reg_reset, regReset_irqRaw, ?_, ?_, ?_, ?_, rfl, rfl, rfl, rfl, rfl, rfl, rfl⟩ <;> decide

/-! ### Reset sources (R92, R106) -/

theorem exec_powerOn (s : State) : exec .powerOn s = .next (powerOn s) := rfl

theorem exec_sysRstNPulse {s : State} (on : s.pwr.chipOff = false) (ns : Nat) (taken : Bool) :
    exec (.sysRstNPulse ns taken) s = .next (sysRst ns taken s) := only_next rfl on _

theorem powerOn_starts {s : State} (h : s.pwr.chipOff = true ∨ s.fld LIFE_LINE 15 12 = 0) : powerOn s = s.castCold 0 := if_pos h

/-- A cold reset leaves each register but PWR_CHIP_STATE at the value of its table. -/
theorem State.reg_coldReset (s : State) {k : Nat} (h : k ≠ PWR_CHIP_STATE) : s.coldReset.reg k = regReset k :=
  State.reg_setReg_other _ _ h

/-- A pulse that is too short, or that the filter does not take. -/
theorem sysRst_filtered {ns : Nat} {taken : Bool} (h : ns < 700 ∨ ns < 1000 ∧ taken = false) (s : State) : sysRst ns taken s = s :=
  if_pos (by simpa using h)

theorem sysRst_cold {ns : Nat} (h : 10000000 ≤ ns) (taken : Bool) (s : State) : sysRst ns taken s = s.castCold 1 :=
  (if_neg (by omega)).trans (if_pos h)

/-- A pulse of the middle length ends a thermal hold and is a warm cast-on; a halted chip counts its attempts and failures afresh. -/
theorem sysRst_warm {ns : Nat} {taken : Bool} (hlong : 700 ≤ ns) (htaken : 1000 ≤ ns ∨ taken = true) (hshort : ns < 10000000) (s : State) :
    sysRst ns taken s =
      if s.flag LIFE_LINE 9 = true then
        (({ s with cap := { s.cap with hot := false }, life := { s.life with fresh := true } } : State).failsClear).castWarm 2
      else ({ s with cap := { s.cap with hot := false } } : State).castWarm 2 := by
  have hacts : ¬(ns < 700 ∨ (ns < 1000 ∧ !taken)) := by
    rintro (h | ⟨h, hnot⟩)
    · omega
    · rcases htaken with hlen | htaken
      · omega
      · simp [htaken] at hnot
  exact (if_neg hacts).trans (if_neg (Nat.not_le_of_gt hshort))

/-! ### The end of a step (R93, R101, R114) -/

theorem exec_castOnStepDone {s : State} (on : s.pwr.chipOff = false) (r : StepResult) :
    exec (.castOnStepDone r) s = .next (stepDone r s) := only_next rfl on _

theorem exec_stepTimeout {s : State} (on : s.pwr.chipOff = false) : exec .stepTimeout s = .next (stepTimeout s) := only_next rfl on _

/-- A step reported failed, at any time of a cast-on. -/
theorem stepDone_failed {s : State} (hboot : s.life.booting = true) (c d : Nat) :
    stepDone (.failed c d) s = s.stepFail s.stepNow c d := if_neg (by simp [hboot])

section StepDone

variable {s u : State} {c d : Nat} (hboot : s.life.booting = true) (hmay : s.stepMay s.stepNow = true)

include hboot hmay

/-- The step's own work succeeds: the next step is entered, but cast-on ends after step 2 of a BLANK or SCRAPPED part. -/
theorem stepDone_works (hwork : s.stepWork s.stepNow = (0, d, u)) :
    stepDone .done s =
      if s.stepNow = 2 ∧ (u.lifecycle = 0 ∨ u.lifecycle = 4) then
        { u.stepMark 2 with life := { (u.stepMark 2).life with booting := false, ended := true } }
      else u.stepNext s.stepNow := by
  simp only [stepDone, hboot, hmay, hwork, Bool.not_true, Bool.false_eq_true, if_false]

/-- The step's own work fails. -/
theorem stepDone_workFails (hwork : s.stepWork s.stepNow = (c, d, u)) (hc : c ≠ 0) :
    stepDone .done s = u.stepFail s.stepNow c d := by
  simp only [stepDone, hboot, hmay, hwork, Bool.not_true, Bool.false_eq_true, if_false]

end StepDone

theorem stepTimeout_over {s : State} (hboot : s.life.booting = true) (hstep : s.stepNow ≠ 0)
    (hover : s.life.stepAt + 38400 * s.stepTmo s.stepNow ≤ s.now) :
    stepTimeout s = s.stepFail s.stepNow 0x10 (if [3, 4, 10, 11].contains s.stepNow then s.slot else 0) :=
  if_neg (by simp [hboot, hstep, hover])

/-! ### The rows of LIFE_CMD (R99, R105, R108) -/

/-- A row's opcode stands in bits [3:0]. -/
theorem bits_lifeRow_op (v : Word) {op : Nat} (h : op < 16) : bits (setBits v 3 0 op) 3 0 = op :=
  (bits_setBits_same _ _ _ _ (by decide) (by decide)).trans (Nat.mod_eq_of_lt h)

/-- A row's opcode leaves the key in bits [31:16]. -/
theorem bits_lifeRow_key (v : Word) (op : Nat) : bits (setBits v 3 0 op) 31 16 = bits v 31 16 :=
  bits_setBits_other _ _ _ _ _ _ (by decide) (by decide) (by decide)

section LifeRow

variable {s : State} {q : Req} (h : s.lands q LIFE_CMD true = true) {v : Word}

include h

theorem exec_restartWarm : exec (.restartWarm q v) s = .next (lifeCmd q (setBits v 3 0 1) (s.answer 0)) :=
  only_writeVia (State.lands_wf h) h _ _

theorem exec_bindOff : exec (.bindOff q v) s = .next (lifeCmd q (setBits v 3 0 2) (s.answer 0)) :=
  only_writeVia (State.lands_wf h) h _ _

theorem exec_commitRollback : exec (.commitRollback q v) s = .next (lifeCmd q (setBits v 3 0 3) (s.answer 0)) :=
  only_writeVia (State.lands_wf h) h _ _

theorem exec_clearDegrade : exec (.clearDegrade q v) s = .next (lifeCmd q (setBits v 3 0 4) (s.answer 0)) :=
  only_writeVia (State.lands_wf h) h _ _

end LifeRow

section LifeCmd

variable {v : Word} (hkey : bits v 31 16 = 0x4C46) (q : Req) (s : State)

include hkey

theorem lifeCmd_restart : lifeCmd q (setBits v 3 0 1) s = s.castWarm 6 := by
  simp only [lifeCmd, bits_lifeRow_key, hkey, bits_lifeRow_op v (show 1 < 16 by decide), ne_eq, not_true, if_false]

/-- BIND_OFF of a chip past step 15 that is neither in bind-off, nor bound, nor parked. -/
theorem lifeCmd_bindOff (hready : s.life.ready = true) (hstage : s.life.bindStage = 0) (hbound : s.life.bound = false)
    (hpark : s.life.parked = false) : lifeCmd q (setBits v 3 0 2) s = (s.setReg LIFE_BINDOFF_STAT 0).stageBegin 1 := by
  simp only [lifeCmd, bits_lifeRow_key, hkey, bits_lifeRow_op v (show 2 < 16 by decide), ne_eq, not_true, if_false, hready, hstage, hbound, hpark, Bool.not_true, Bool.false_eq_true, or_self]

/-- COMMIT_ROLLBACK of a chip past step 15. -/
theorem lifeCmd_commit (hready : s.life.ready = true) : lifeCmd q (setBits v 3 0 3) s = s.commitRollback := by
  simp only [lifeCmd, bits_lifeRow_key, hkey, bits_lifeRow_op v (show 3 < 16 by decide), ne_eq, not_true, if_false, hready, if_true]

theorem lifeCmd_clearDegrade : lifeCmd q (setBits v 3 0 4) s = s.setFld LIFE_DEGRADE 6 0 0x70 := by
  simp only [lifeCmd, bits_lifeRow_key, hkey, bits_lifeRow_op v (show 4 < 16 by decide), ne_eq, not_true, if_false]

end LifeCmd

/-- Settles O17: each reset source by the length of its pulse or its guard, each end of a step by what its own work comes to. What a cold
reset keeps, and PWR_CHIP_STATE after it, is log entry 43; R106 clears a halted chip's failures, and that its attempt count starts afresh
too is the model's choice. -/
theorem castOnCommands : Obligations.CastOnCommands := by
  unfold Obligations.CastOnCommands
  refine ⟨fun s h => ?powerOn, fun s => ⟨rfl, rfl, rfl, rfl, rfl, rfl, rfl, rfl, fun k hk => s.reg_coldReset hk⟩, ?reset, ?works, ?ends,
    ?workFails, ?failed, ?timeout, ?restart⟩
  case powerOn =>
    rw [exec_powerOn, powerOn_starts h, State.castCold]
  case reset =>
    intro ns taken s on
    rw [exec_sysRstNPulse on]
    refine ⟨fun h => ?short, fun h => ?long, fun hlo ht hhi he => ?middle, fun hlo ht hhi he => ?halted, fun _ h ht => ?untaken⟩
    case short => rw [sysRst_filtered (.inl h)]
    case long => rw [sysRst_cold h]
    case middle => rw [sysRst_warm hlo ht hhi, if_neg (by simp [he])]
    case halted => rw [sysRst_warm hlo ht hhi, if_pos he]
    case untaken => rw [sysRst_filtered (.inr ⟨h, ht⟩)]
  case works =>
    intro s u d on hboot hmay hwork hgoes
    rw [exec_castOnStepDone on, stepDone_works hboot hmay hwork, if_neg hgoes]
  case ends =>
    intro s u d on hboot hmay htwo hwork hlife
    rw [exec_castOnStepDone on, stepDone_works hboot hmay (htwo.symm ▸ hwork), if_pos ⟨htwo, hlife⟩]
  case workFails =>
    intro s u c d on hboot hmay hwork hc
    rw [exec_castOnStepDone on, stepDone_workFails hboot hmay hwork hc]
  case failed =>
    intro s c d on hboot
    rw [exec_castOnStepDone on, stepDone_failed hboot, State.stepFail]
  case timeout =>
    intro s on hboot hstep hover
    rw [exec_stepTimeout on, stepTimeout_over hboot hstep hover, State.stepFail]
  case restart =>
    intro q v s h hkey
    rw [exec_restartWarm h, lifeCmd_restart hkey]

/-! ### The stages of bind-off (R108, Table 5.7) -/

theorem exec_bindOffStageDone {s : State} (on : s.pwr.chipOff = false) : exec .bindOffStageDone s = .next (bindNext s) :=
  only_next rfl on _

theorem exec_bindoffGraceExpiry {s : State} (on : s.pwr.chipOff = false) : exec .bindoffGraceExpiry s = .next (graceExpiry s) :=
  only_next rfl on _

theorem bindNext_next {s : State} (hend : s.stageEnded = true) (hstage : s.life.bindStage < 6) :
    bindNext s = s.stageBegin (s.life.bindStage + 1) :=
  (if_neg (by simp [hend])).trans (if_pos hstage)

/-- After stage 6 the chip is parked or bound, and mailboxes may wake domains again. -/
theorem bindNext_last {s : State} (hend : s.stageEnded = true) (hstage : s.life.bindStage = 6) :
    bindNext s = (List.range 64).foldl State.mbxWake (({ s with life := { s.life with
      bindStage := 0, parked := s.flag LIFE_BINDOFF_CFG 0, bound := !s.flag LIFE_BINDOFF_CFG 0 } } : State).setFld LIFE_BINDOFF_STAT 3 0 0) :=
  (if_neg (by simp [hend])).trans (if_neg (by simp [hstage]))

theorem State.openSlots_setFlag (s : State) (k i : Nat) (b : Bool) : (s.setFlag k i b).openSlots = s.openSlots := by
  rw [State.openSlots, State.setFlag_sch, State.openSlots]

/-- The grace time of stage 2 is over: jobs that remain show in a status bit and are frogged, and the Repeat Table stops. -/
theorem graceExpiry_over {s : State} (hstage : s.life.bindStage = 2)
    (hover : s.life.stageAt + 38400 * s.fld LIFE_BINDOFF_CFG 15 8 ≤ s.now) :
    graceExpiry s = (s.openSlots.foldl (fun s k => s.jobFrog k 0x13 0 0)
      (if s.openSlots = [] then s else s.setFlag LIFE_BINDOFF_STAT 9 true)).rptStop := by
  have hslots : (if s.openSlots.isEmpty then s else s.setFlag LIFE_BINDOFF_STAT 9 true).openSlots = s.openSlots := by
    split
    · rfl
    · exact State.openSlots_setFlag ..
  rw [graceExpiry, if_neg (by simp [hstage, hover])]
  dsimp only
  rw [hslots]
  simp only [List.isEmpty_iff]

/-! ### Fuses (R99, R111, R112) -/

theorem exec_fuseBlowDone {s : State} (on : s.pwr.chipOff = false) : exec .fuseBlowDone s = .next (fuseBlowDone s) := only_next rfl on _

/-- No commit being queued, the counter bits to blow are queued; with none the commit is done at once. -/
theorem State.commitRollback_idle {s : State} (h : ∀ j ∈ s.life.fuseQ, j.2 ≠ 1) :
    s.commitRollback = if s.commitBits = [] then s.irq 0x005 1
      else { s with life := { s.life with fuseQ := s.life.fuseQ ++ s.commitBits.map fun i => (i, 1) } } :=
  (if_neg (by simpa using fun i hi => h (i, 1) hi rfl)).trans (ite_congr (by simp) (fun _ => rfl) fun _ => rfl)

/-- With SEC ON the first fuse that waits blows; behind the last of its kind what waited for it ends. -/
theorem fuseBlowDone_first {s : State} {i k : Nat} {rest : List (Nat × Nat)} (hq : s.life.fuseQ = (i, k) :: rest) (hsec : s.domOn 1 = true) :
    fuseBlowDone s =
      let t : State := { s.blow i with life := { (s.blow i).life with fuseQ := rest } }
      if rest.any (fun e => e.2 == k) then t else if k = 1 then t.irq 0x005 1 else t.lcDone := by
  unfold fuseBlowDone
  rw [hq]
  exact if_neg (by simp [hsec])

theorem State.testBit_blow (s : State) (i j : Nat) : (s.blow i).fuses.map.testBit j = (s.fuses.map.testBit j || decide (i = j)) := by
  rw [State.blow, Nat.testBit_or, Nat.testBit_two_pow]

/-- Settles O18: each row of LIFE_CMD past its key, each event past its guard. Which counter bits a commit blows, and what the stages and
the grace time do, is log entry 43. -/
theorem bindOffAndFuseCommands : Obligations.BindOffAndFuseCommands := by
  unfold Obligations.BindOffAndFuseCommands
  refine ⟨?bindOff, ?commit, ?clear, ?next, ?last, ?graceIdle, ?graceFrog, ?fuse, ?blown⟩
  case bindOff =>
    intro q v s h hkey hready hstage hbound hpark
    rw [exec_bindOff h, lifeCmd_bindOff hkey q (s.answer 0) hready hstage hbound hpark]
  case commit =>
    intro q v s h hkey hready hidle
    rw [exec_commitRollback h, lifeCmd_commit hkey q (s.answer 0) hready, State.commitRollback_idle (s := s.answer 0) hidle]
    rfl
  case clear =>
    intro q v s h hkey
    rw [exec_clearDegrade h, lifeCmd_clearDegrade hkey]
  case next =>
    intro s on hend hstage
    rw [exec_bindOffStageDone on, bindNext_next hend hstage]
  case last =>
    intro s on hstage hend
    rw [exec_bindOffStageDone on, bindNext_last hend hstage]
  case graceIdle =>
    intro s on hstage hover hnone
    rw [exec_bindoffGraceExpiry on, graceExpiry_over hstage hover, hnone, if_pos rfl, List.foldl_nil]
  case graceFrog =>
    intro s on hstage hover hsome
    rw [exec_bindoffGraceExpiry on, graceExpiry_over hstage hover, if_neg hsome]
  case fuse =>
    intro s i k rest on hq hsec
    rw [exec_fuseBlowDone on, fuseBlowDone_first hq hsec]
  case blown =>
    intro s i
    refine ⟨by simp [State.testBit_blow], fun j hj => by simp [State.testBit_blow, Ne.symm hj]⟩

end Sys2Proof.Machine
end

section
/-! SUPPORT AND PROOFS. Adsel's command windows (R134, R135, R139): a window's register and the command beside it, the placing of a
command, its judgement, the post of a refusal. -/

namespace Sys2Proof.Machine

/-! ### A window's command stands beside the registers -/

@[simp] theorem State.adselCmd_setAdselCmd_same (s : State) (t : Nat) (c : Option AdselCmd) : (s.setAdselCmd t c).adselCmd t = c :=
  Tab.get_set_same ..

@[simp] theorem State.reg_setAdselCmd (s : State) (t k : Nat) (c : Option AdselCmd) : (s.setAdselCmd t c).reg k = s.reg k := rfl

@[simp] theorem State.flag_setAdselCmd (s : State) (t k i : Nat) (c : Option AdselCmd) : (s.setAdselCmd t c).flag k i = s.flag k i := rfl

@[simp] theorem State.fld_setAdselCmd (s : State) (t k hi lo : Nat) (c : Option AdselCmd) :
    (s.setAdselCmd t c).fld k hi lo = s.fld k hi lo := rfl

/-- Whether the firmware is up hangs on one register, ADSEL_STATUS. -/
theorem State.adselUp_setReg (s : State) {k : Nat} (h : k ≠ ADSEL_STATUS) (v : Word) : (s.setReg k v).adselUp = s.adselUp := by
  rw [State.adselUp, s.flag_setReg_other 8 v h.symm]
  rfl

/-! ### Placing a command (R139) -/

/-- ADSEL_T_STAT as a command is placed: BUSY, and SEQ in its upper half. -/
theorem bit_busySeq (n : Nat) : bit (word (1 + n % 0x10000 * 0x10000)) 0 = true := by
  rw [bit, BitVec.toNat_ofNat, Nat.testBit_zero, decide_eq_true_eq]
  omega

theorem bits_busySeq (n : Nat) : bits (word (1 + n % 0x10000 * 0x10000)) 31 16 = n % 0x10000 := by
  rw [bits, nbits, BitVec.toNat_ofNat, Nat.shiftRight_eq_div_pow]
  omega

section Place

variable (s : State) (q : Req) (t : Nat) (v : Word)

theorem State.reg_adselPlace_stat :
    (s.adselPlace q t v).reg (ADSEL_T_STAT t) = word (1 + (s.fld (ADSEL_T_STAT t) 31 16 + 1) % 0x10000 * 0x10000) :=
  State.reg_setReg_same ..

theorem State.reg_adselPlace_other {k : Nat} (h : k ≠ ADSEL_T_STAT t) : (s.adselPlace q t v).reg k = s.reg k :=
  State.reg_setReg_other _ _ h

theorem State.adselPlace_busy : (s.adselPlace q t v).flag (ADSEL_T_STAT t) 0 = true := by
  rw [State.flag, State.reg_adselPlace_stat, bit_busySeq]

theorem State.adselPlace_seq :
    (s.adselPlace q t v).fld (ADSEL_T_STAT t) 31 16 = (s.fld (ADSEL_T_STAT t) 31 16 + 1) % 0x10000 := by
  rw [State.fld, State.reg_adselPlace_stat, bits_busySeq]

/-- The record of a placed command: its buffer's address and length as the window's registers hold them. -/
theorem State.adselCmd_adselPlace : (s.adselPlace q t v).adselCmd t =
    some { q := q, cmd := v, kind := if adselOps.contains (bits v 7 0) then 0 else 3
           addr := (s.reg (ADSEL_T_ADDR_LO t)).toNat + 0x100000000 * s.fld (ADSEL_T_ADDR_HI t) 7 0
           len := (s.reg (ADSEL_T_LEN t)).toNat
           range := if bits v 7 0 = 2 then
             s.bytesAt ((s.reg (ADSEL_T_ADDR_LO t)).toNat + 0x100000000 * s.fld (ADSEL_T_ADDR_HI t) 7 0) 16 else [] } := by
  have hlen : ADSEL_T_LEN t ≠ ADSEL_T_STAT t := by
    unfold ADSEL_T_LEN ADSEL_T_STAT
    omega
  refine (State.adselCmd_setAdselCmd_same ..).trans ?_
  rw [State.reg_setReg_other _ _ hlen]
  rfl

theorem State.adselUp_adselPlace : (s.adselPlace q t v).adselUp = s.adselUp :=
  State.adselUp_setReg s (show ADSEL_T_STAT t ≠ ADSEL_STATUS by unfold ADSEL_T_STAT ADSEL_STATUS; omega) _

end Place

/-! ### Judging a command (R134, R135) -/

section Take

variable {s : State} {t : Nat} {c : AdselCmd} (hc : s.adselCmd t = some c)

include hc

/-- A command that the firmware has taken, or whose opcode is undefined, is not judged. -/
theorem State.adselTake_taken (hk : c.kind ≠ 0) : s.adselTake t = s := by
  rw [State.adselTake, hc]
  exact if_pos hk

theorem State.adselTake_refused (hk : c.kind = 0) {r : Nat} (hr : s.adselRight t c = some r) :
    s.adselTake t = (s.logRefusal { c.q with tenant := t } 0 true r).setAdselCmd t (some { c with kind := 2 }) := by
  rw [State.adselTake, hc]
  dsimp only
  rw [if_neg (Decidable.not_not.2 hk), hr]

theorem State.adselTake_permitted (hk : c.kind = 0) (hr : s.adselRight t c = none) :
    s.adselTake t = (s.setAdselCmd t (some { c with kind := 1 })).adselServe := by
  rw [State.adselTake, hc]
  dsimp only
  rw [if_neg (Decidable.not_not.2 hk), hr]

end Take

/-! ### The commands of the windows -/

/-- A write of a window that is not BUSY places its command, and the firmware takes it where it is up. -/
theorem adselCommand_idle {s : State} {t : Nat} (hidle : s.flag (ADSEL_T_STAT t) 0 = false) (q : Req) (v : Word) :
    adselCommand q t v s = if s.adselUp = true then (s.adselPlace q t v).adselTake t else s.adselPlace q t v := by
  rw [adselCommand, if_neg (ne_true_of_eq_false hidle)]
  dsimp only
  rw [State.adselUp_adselPlace]

/-- The meaning of each row of Table 6.9, as its write lands on a window that is not BUSY. -/
theorem only_adselRow {s : State} {q : Req} (h : s.lands q (ADSEL_T_CMD q.tenant) true = true)
    (hidle : s.flag (ADSEL_T_STAT q.tenant) 0 = false) (v : Word) (op : Nat) :
    only q.wf s (s.adselRow q v op) = .next (
      let placed := (s.answer 0).adselPlace q q.tenant (setBits v 7 0 op)
      if s.adselUp = true then placed.adselTake q.tenant else placed) :=
  (only_writeVia (State.lands_wf h) h _ _).trans (congrArg _ (adselCommand_idle (s := s.answer 0) hidle q _))

theorem setBits_bits_self (v : Word) {hi lo : Nat} (hh : hi < 32) (hl : lo ≤ hi) : setBits v hi lo (bits v hi lo) = v := by
  refine BitVec.eq_of_toNat_eq (Nat.eq_of_testBit_eq fun i => ?_)
  rw [setBits_testBit _ _ _ _ _ hh hl]
  split
  · rw [bits, nbits_testBit, Nat.add_sub_cancel' (by omega), decide_eq_true (by omega), Bool.true_and]
  · rfl

/-- A word whose opcode Table 6.9 does not define is placed as it is, and the firmware takes nothing of it. -/
theorem exec_adselBadOpcode {s : State} {q : Req} {v : Word} (h : s.lands q (ADSEL_T_CMD q.tenant) true = true)
    (hidle : s.flag (ADSEL_T_STAT q.tenant) 0 = false) (hop : bits v 7 0 ∉ adselOps) :
    exec (.adselBadOpcode q v) s = .next ((s.answer 0).adselPlace q q.tenant v) := by
  have hrow := only_adselRow h hidle v (if adselOps.contains (bits v 7 0) then 0 else bits v 7 0)
  have hword : setBits v 7 0 (if adselOps.contains (bits v 7 0) then 0 else bits v 7 0) = v := by
    rw [if_neg (by simpa using hop), setBits_bits_self v (by decide) (by decide)]
  have hcmd := (s.answer 0).adselCmd_adselPlace q q.tenant v
  rw [if_neg (by simpa using hop)] at hcmd
  refine hrow.trans (congrArg _ ?_)
  rw [hword]
  dsimp only
  rw [State.adselTake_taken hcmd (Nat.succ_ne_zero 2), ite_self]

theorem exec_adselRefusalPost {t : Nat} {s : State} (ht : t < 8) (on : s.pwr.chipOff = false) :
    exec (.adselRefusalPost t) s = .next (adselRefusalPost t s) := only_next (decide_eq_true ht) on _

/-- A post without RESULT: STATUS of the window's register with BUSY clear, and the window empty. -/
theorem State.adselPost_plain (s : State) (t code : Nat) :
    s.adselPost t code none = (s.setFld (ADSEL_T_STAT t) 15 0 (code * 0x100)).setAdselCmd t none := rfl

/-- A refused command is posted with STATUS 0x01, one of no defined opcode with 0x1C. -/
theorem adselRefusalPost_due {s : State} {t : Nat} {c : AdselCmd} (hup : s.adselUp = true) (hc : s.adselCmd t = some c)
    (hk : c.kind = 2 ∨ c.kind = 3) :
    adselRefusalPost t s =
      (s.setFld (ADSEL_T_STAT t) 15 0 (if c.kind = 2 then 0x100 else 0x1C00)).setAdselCmd t none := by
  rw [adselRefusalPost, hc]
  dsimp only
  rw [if_neg (by simp [hup])]
  rcases hk with hk | hk
  · rw [if_pos hk, if_pos hk]
    exact s.adselPost_plain t 0x01
  · have h2 : c.kind ≠ 2 := by omega
    rw [if_neg h2, if_neg h2, if_pos hk]
    exact s.adselPost_plain t 0x1C

/-- Settles O19: each row lands and places its command; what taking it and posting its refusal do goes by how the command stands. That
address, length and range are captured as the command is accepted, and that a post needs the firmware up, is log entry 45. -/
theorem adselWindowCommands : Obligations.AdselWindowCommands := by
  unfold Obligations.AdselWindowCommands
  refine ⟨?rows, ?badOpcode, ?place, fun _ _ _ _ hc hk hr => State.adselTake_refused hc hk hr,
    fun _ _ _ hc hk hr => State.adselTake_permitted hc hk hr, ?post⟩
  case rows =>
    intro q v s h hidle placed after
    have row := only_adselRow h hidle v
    exact ⟨row 0x01, row 0x02, row 0x03, row 0x10, row 0x11, row 0x20, row 0x21, row 0x30⟩
  case badOpcode =>
    intro q v s h hidle hop
    exact ⟨_, exec_adselBadOpcode h hidle hop, State.adselPlace_busy .., rfl,
      ⟨_, State.adselCmd_adselPlace .., if_neg (by simpa using hop), rfl⟩, rfl⟩
  case place =>
    intro q v s t _ hop
    exact ⟨State.adselPlace_busy .., State.adselPlace_seq ..,
      ⟨_, State.adselCmd_adselPlace .., if_pos (by simpa using hop), rfl, rfl, rfl, rfl⟩,
      fun k hk => State.reg_adselPlace_other _ _ _ _ hk⟩
  case post =>
    intro s t c ht on hup hc hk
    rw [exec_adselRefusalPost ht on, adselRefusalPost_due hup hc hk]

end Sys2Proof.Machine
end

section
/-! SUPPORT AND PROOFS. What Adsel serves (R113, R118, R119, R122, R127, R131, R139): the end of a served command, its post, the end of a
teardown, provisioning, the TRNG's health and the expiry of a challenge. -/

namespace Sys2Proof.Machine

/-! ### A served command's work (R139) -/

theorem exec_adselCommandDone {t : Nat} {s : State} (ht : t < 8) (on : s.pwr.chipOff = false) :
    exec (.adselCommandDone t) s = .next (adselDone t s) := only_next (decide_eq_true ht) on _

/-- The served window's command, its work ending with a code. -/
theorem adselDone_ends {s u : State} {t code : Nat} {c : AdselCmd} {r : Option Nat} (hup : s.adselUp = true)
    (hserve : s.adsel.serving = some t) (hc : s.adselCmd t = some c) (hk : c.kind = 1)
    (hwork : s.adselWork t c = (some (code, r), u)) : adselDone t s = u.adselEnd t c code r := by
  rw [adselDone, if_neg (by simp [hserve, hup]), hc]
  dsimp only
  rw [if_neg (by omega), if_neg (Decidable.not_not.2 hk), hwork]

section Work

variable {c : AdselCmd} (s : State) (t : Nat)

theorem State.adselWork_dbgChallenge (hop : bits c.cmd 7 0 = 0x20) : s.adselWork t c = (some (0, none), s.challengeNew) := by
  simp only [State.adselWork, hop]

theorem State.adselWork_regionDel (hop : bits c.cmd 7 0 = 0x03) : s.adselWork t c = s.regionDel c := by
  simp only [State.adselWork, hop]

/-- TEARDOWN of a tenant that is not, or no longer, in teardown. -/
theorem State.adselWork_teardown (hop : bits c.cmd 7 0 = 0x11) (hlo : 1 ≤ bits c.cmd 15 8) (hhi : bits c.cmd 15 8 ≤ 7)
    (hnot : bits c.cmd 15 8 ∉ s.adsel.teardown) : s.adselWork t c = (some (0, none), s) := by
  simp only [State.adselWork, hop]
  rw [if_neg (by omega), if_neg (by simpa using hnot)]

/-- DBG_RELOCK with a healthy TRNG. -/
theorem State.adselWork_dbgRelock (hop : bits c.cmd 7 0 = 0x21) (htrng : s.flag ADSEL_STATUS 9 = true) :
    s.adselWork t c = (some (0, none), (s.setLevel (defaultLevel (s.fld ADSEL_STATUS 2 0))).aliasIssue) := by
  simp only [State.adselWork, hop]
  rw [if_neg (by simp [htrng])]

end Work

theorem State.xtsRegion_set (s : State) (i : Nat) (r : Region) :
    ({ s with adsel.regions := s.adsel.regions.set (fun _ => {}) i r } : State).xtsRegion i = r := Tab.get_set_same ..

/-- REGION_DEL leaves the region unlisted, which is invalid. -/
theorem State.regionDel_ends (s : State) (c : AdselCmd) :
    ∃ u, s.regionDel c = (some (0, none), u) ∧ (u.xtsRegion (bits c.cmd 15 8)).valid = false :=
  ⟨_, rfl, congrArg Region.valid (State.xtsRegion_set _ _ {})⟩

/-! ### The post of a command (R139) -/

/-- A part of the field just written reads as that part of the value. -/
theorem bits_setBits_within (w : Word) {hi lo h l : Nat} (v : Nat) (hh : hi < 32) (hl : lo ≤ l) (hlh : l ≤ h) (hhi : h ≤ hi) :
    bits (setBits w hi lo v) h l = nbits v (h - lo) (l - lo) := by
  refine Nat.eq_of_testBit_eq fun i => ?_
  rw [bits, nbits_testBit, nbits_testBit, setBits_testBit _ _ _ _ _ hh (by omega)]
  by_cases hi' : i < h + 1 - l
  · rw [if_pos (by omega), decide_eq_true hi', decide_eq_true (by omega), show l + i - lo = l - lo + i by omega]
  · rw [decide_eq_false hi', decide_eq_false (by omega), Bool.false_and, Bool.false_and]

section Post

variable (s : State) (t code : Nat) (r : Option Nat)

/-- RESULT stands in a register of its own, so that ADSEL_T_STAT holds the code whether there is one or none. -/
theorem State.reg_adselPost_stat :
    (s.adselPost t code r).reg (ADSEL_T_STAT t) = setBits (s.reg (ADSEL_T_STAT t)) 15 0 (code * 0x100) := by
  have hstat : (s.setFld (ADSEL_T_STAT t) 15 0 (code * 0x100)).reg (ADSEL_T_STAT t) =
      setBits (s.reg (ADSEL_T_STAT t)) 15 0 (code * 0x100) :=
    State.reg_setReg_same ..
  cases r with
  | none => exact hstat
  | some r =>
    refine (State.reg_setReg_other _ (word r) ?_).trans hstat
    unfold ADSEL_T_STAT ADSEL_T_RESULT
    omega

theorem State.adselPost_idle : (s.adselPost t code r).flag (ADSEL_T_STAT t) 0 = false := by
  rw [State.flag, State.reg_adselPost_stat, bit_setBits _ _ _ _ _ (by decide) (by decide), if_pos (by decide), Nat.testBit_zero,
    decide_eq_false_iff_not]
  omega

theorem State.adselPost_status (hcode : code < 0x100) : (s.adselPost t code r).fld (ADSEL_T_STAT t) 15 8 = code := by
  rw [State.fld, State.reg_adselPost_stat, bits_setBits_within _ _ (by decide) (by decide) (by decide) (by decide), nbits,
    Nat.shiftRight_eq_div_pow]
  omega

theorem State.adselPost_empty : (s.adselPost t code r).adselCmd t = none := State.adselCmd_setAdselCmd_same ..

end Post

/-! ### The end of a teardown (R118) -/

theorem exec_teardownComplete {t : Nat} {s : State} (ht : t < 8) (on : s.pwr.chipOff = false) :
    exec (.teardownComplete t) s = .next (teardownComplete t s) := only_next (decide_eq_true ht) on _

/-- With the wipe complete and the pages drained the pages go back to tenant 0 and the tenant is forgotten. -/
theorem teardownComplete_drained {t : Nat} {s : State} (hup : s.adselUp = true) (hwiped : s.tenantWiped t = true)
    (hdrained : (allPages.filter fun p => s.pageOwner p == t).all s.pageDrained = true) :
    teardownComplete t s =
      let a := (allPages.filter fun p => s.pageOwner p == t).foldl (fun s p => (s.pageReset p).setFld (PAGE_OWNER p) 2 0 0) s
      let b := (a.setFlag ADSEL_TENANTS (8 + t) false).setTenant t {}
      { b with adsel := { b.adsel with
        teardown := b.adsel.teardown.filter (· != t), wiping := b.adsel.wiping.filter (· != t) } } := by
  unfold teardownComplete
  dsimp only
  rw [hup, hwiped, hdrained]
  rfl

/-! ### Provisioning (R113) -/

theorem exec_provision {s : State} (on : s.pwr.chipOff = false) (p : Provision) : exec (.provision p) s = .next (provision p s) :=
  only_next rfl on _

/-- The fuse bits of what PROVISION brings: the signers' digests, the service and integrator digests and the serial number. -/
def provisionBits (p : Provision) : List Nat :=
  (p.imgKeys.zipIdx.flatMap fun e => fuseBits (392 + 384 * e.2) 384 (leNat e.1)) ++ fuseBits 1932 384 (leNat p.svc) ++
    fuseBits 2316 384 (leNat p.integ) ++ fuseBits 3468 64 p.serial

theorem mem_fuseBits {lo n v i : Nat} (hi : i < n) (hv : v.testBit i = true) : lo + i ∈ fuseBits lo n v :=
  List.mem_map_of_mem (List.mem_filter.2 ⟨List.mem_range.2 hi, hv⟩)

theorem mem_provisionBits_imgKey {p : Provision} {j i : Nat} {k : List Byte} (hk : p.imgKeys[j]? = some k) (hi : i < 384)
    (hv : (leNat k).testBit i = true) : 392 + 384 * j + i ∈ provisionBits p :=
  List.mem_append_left _ (List.mem_append_left _ (List.mem_append_left _
    (List.mem_flatMap.2 ⟨(k, j), List.mk_mem_zipIdx_iff_getElem?.2 hk, mem_fuseBits hi hv⟩)))

theorem mem_provisionBits_svc {p : Provision} {i : Nat} (hi : i < 384) (hv : (leNat p.svc).testBit i = true) :
    1932 + i ∈ provisionBits p :=
  List.mem_append_left _ (List.mem_append_left _ (List.mem_append_right _ (mem_fuseBits hi hv)))

theorem mem_provisionBits_integ {p : Provision} {i : Nat} (hi : i < 384) (hv : (leNat p.integ).testBit i = true) :
    2316 + i ∈ provisionBits p :=
  List.mem_append_left _ (List.mem_append_right _ (mem_fuseBits hi hv))

theorem mem_provisionBits_serial {p : Provision} {i : Nat} (hi : i < 64) (hv : p.serial.testBit i = true) :
    3468 + i ∈ provisionBits p :=
  List.mem_append_right _ (mem_fuseBits hi hv)

/-- Bits put behind what has been put behind a fuse queue. -/
theorem State.burn_behind {s u : State} {l : List Nat} (h : u.life.fuseQ = s.life.fuseQ ++ l.map fun i => (i, 2)) (m : List Nat) :
    (u.burn m).life.fuseQ = s.life.fuseQ ++ (l ++ m).map fun i => (i, 2) := by
  rw [List.map_append, ← List.append_assoc, ← h]
  rfl

/-- PROVISION of a BLANK part after cast-on: the public key leaves, and behind the fuse queue stand the device secret's bits (none where
it is blown already), those of what PROVISION brings, and those of an accepted certificate. -/
theorem provision_blank {p : Provision} {s : State} (hblank : s.lifecycle = 0) (hended : s.life.ended = true) (hsec : s.domOn 1 = true)
    (hidle : ∀ e ∈ s.life.fuseQ, e.2 ≠ 2) (hkeys : p.imgKeys.map List.length = [48, 48, 48, 48]) (hsvc : p.svc.length = 48)
    (hinteg : p.integ.length = 48) :
    ∃ key secret more, (provision p s).out = .bus 0x10 key :: s.out ∧ (provision p s).fuses = s.fuses ∧
      (provision p s).life.fuseQ = s.life.fuseQ ++ (secret ++ provisionBits p ++ more).map fun i => (i, 2) := by
  have hnone : s.life.fuseQ.any (fun e => e.2 == 2) = false := by simpa using hidle
  unfold provision
  rw [if_neg (by simp [hblank, hended, hsec, hnone, hkeys, hsvc, hinteg])]
  generalize hdrawn : (ite (s.fuse 383 0 ≠ 0) _ _ : BitVec 384 × State) = drawn
  obtain ⟨uds, u⟩ := drawn
  obtain ⟨hout, hfuses, hlife⟩ : u.out = s.out ∧ u.fuses = s.fuses ∧ u.life = s.life := by
    split at hdrawn <;> cases hdrawn <;> exact ⟨rfl, rfl, rfl⟩
  have hbits : fuseBits 0 384 uds.toNat ++ (p.imgKeys.zipIdx.flatMap fun e => fuseBits (392 + 384 * e.2) 384 (leNat e.1)) ++
      fuseBits 1932 384 (leNat p.svc) ++ fuseBits 2316 384 (leNat p.integ) ++ fuseBits 3468 64 p.serial =
      fuseBits 0 384 uds.toNat ++ provisionBits p := by simp only [provisionBits, List.append_assoc]
  have hfirst : (u.burn (fuseBits 0 384 uds.toNat ++ provisionBits p)).life.fuseQ =
      s.life.fuseQ ++ (fuseBits 0 384 uds.toNat ++ provisionBits p).map fun i => (i, 2) :=
    hlife ▸ rfl
  dsimp only
  rw [hbits]
  split
  case isTrue => exact ⟨_, _, [], congrArg _ hout, hfuses, by rw [List.append_nil]; exact hfirst⟩
  case isFalse => exact ⟨_, _, _, congrArg _ hout, hfuses, State.burn_behind hfirst _⟩

/-! ### The TRNG and the challenge (R119, R127) -/

theorem exec_trngHealthFail {s : State} (on : s.pwr.chipOff = false) : exec .trngHealthFail s = .next (trngFail s) := only_next rfl on _

theorem exec_challengeExpiry {s : State} (on : s.pwr.chipOff = false) : exec .challengeExpiry s = .next (challengeExpiry s) :=
  only_next rfl on _

theorem trngFail_on {s : State} (hsec : s.domOn 1 = true) : trngFail s = (s.setFlag ADSEL_STATUS 9 false).irq 0x010 4 := if_pos hsec

theorem challengeExpiry_over {s : State} (hlive : s.flag ADSEL_STATUS 17 = true) (hover : s.adsel.challengeAt + 384000000 ≤ s.now) :
    challengeExpiry s = s.challengeClear := if_neg (by simp [hlive, hover])

/-- Writes of one value to a row of registers change nothing but registers. -/
theorem State.foldl_setReg_frame (s : State) (f : Nat → Nat) (v : Word) (l : List Nat) :
    l.foldl (fun s i => s.setReg (f i) v) s = { s with regs := (l.foldl (fun s i => s.setReg (f i) v) s).regs } :=
  foldl_keeps (fun x : State => x = { s with regs := x.regs }) (fun s i => s.setReg (f i) v)
    (fun x i hx => State.regs_frame_trans hx (x.setReg_frame (f i) v)) l s rfl

/-- Each register of the row then reads as that value. -/
theorem State.reg_foldl_setReg (f : Nat → Nat) (v : Word) {l : List Nat} {i : Nat} (hi : i ∈ l) (s : State) :
    (l.foldl (fun s i => s.setReg (f i) v) s).reg (f i) = v := by
  induction l generalizing s with
  | nil => exact absurd hi List.not_mem_nil
  | cons j l ih =>
    rcases List.mem_cons.1 hi with rfl | hi
    · refine foldl_keeps (fun x : State => x.reg (f i) = v) (fun s i => s.setReg (f i) v) (fun x j hx => ?_) l _ (s.reg_setReg_same _ v)
      rw [State.reg_setReg, hx, ite_self]
    · exact ih hi _

theorem State.challengeClear_frame (s : State) : s.challengeClear = { s with regs := s.challengeClear.regs } :=
  State.regs_frame_trans (s.foldl_setReg_frame ADSEL_DBG_NONCE 0 (List.range 8)) (State.setFlag_frame ..)

theorem State.challengeClear_gone (s : State) : s.challengeClear.flag ADSEL_STATUS 17 = false :=
  State.flag_setFlag_same _ _ _ _ (by decide)

theorem State.challengeClear_nonce (s : State) {i : Nat} (hi : i < 8) : s.challengeClear.reg (ADSEL_DBG_NONCE i) = 0 := by
  have hne : ADSEL_DBG_NONCE i ≠ ADSEL_STATUS := by
    unfold ADSEL_DBG_NONCE ADSEL_STATUS
    omega
  rw [State.challengeClear, State.reg_setFlag_other _ _ _ hne]
  exact State.reg_foldl_setReg ADSEL_DBG_NONCE 0 (List.mem_range.2 hi) s

/-- Settles O20: each event past its guard. That the key leaves as Out.bus 0x10 is log entry 46; the windows' turns are log entry 45, the
end of a teardown is log entry 40. -/
theorem adselServedCommands : Obligations.AdselServedCommands := by
  unfold Obligations.AdselServedCommands
  refine ⟨?done, ?work, ?post, ?teardown, ?provision, ?trng, ?expiry⟩
  case done =>
    intro s u t code c r ht on hup hserve hc hk hwork
    rw [exec_adselCommandDone ht on, adselDone_ends hup hserve hc hk hwork]
  case work =>
    intro s t c
    refine ⟨fun hop => s.adselWork_dbgChallenge t hop, fun hop => ?_,
      fun hop hlo hhi hnot => s.adselWork_teardown t hop hlo hhi hnot, fun hop htrng => s.adselWork_dbgRelock t hop htrng⟩
    rw [State.adselWork_regionDel s t hop]
    exact s.regionDel_ends c
  case post =>
    intro s t code r _ hcode
    exact ⟨State.adselPost_idle .., State.adselPost_status _ _ _ _ hcode, State.adselPost_empty ..⟩
  case teardown =>
    intro t s ht on hup hwiped ps hdrained a b
    rw [exec_teardownComplete ht on, teardownComplete_drained hup hwiped hdrained]
  case provision =>
    intro p s on hblank hended hsec hidle hkeys hsvc hinteg
    obtain ⟨key, secret, more, hout, hfuses, hq⟩ := provision_blank hblank hended hsec hidle hkeys hsvc hinteg
    have hqueued {i : Nat} (hi : i ∈ provisionBits p) : (i, 2) ∈ (provision p s).life.fuseQ := by
      rw [hq]
      exact List.mem_append_right _ (List.mem_map_of_mem (List.mem_append_left _ (List.mem_append_right _ hi)))
    exact ⟨_, key, exec_provision on p, hout, hfuses, fun j k i hk hi hv => hqueued (mem_provisionBits_imgKey hk hi hv),
      fun i hi hv => hqueued (mem_provisionBits_svc hi hv), fun i hi hv => hqueued (mem_provisionBits_integ hi hv),
      fun i hi hv => hqueued (mem_provisionBits_serial hi hv), ⟨_, hq.symm⟩⟩
  case trng =>
    intro s on hsec
    rw [exec_trngHealthFail on, trngFail_on hsec]
  case expiry =>
    intro s on hlive hover
    exact ⟨s.challengeClear, (exec_challengeExpiry on).trans (congrArg _ (challengeExpiry_over hlive hover)), s.challengeClear_gone,
      fun i hi => s.challengeClear_nonce hi, s.challengeClear_frame⟩

end Sys2Proof.Machine
end

section
/-! SUPPORT AND PROOFS. Unlock and supervision (R128 to R130, R136, R137): messages of a response, the tick that samples it, the outcome
that is posted, the scheduler's supervision, and Adsel's start outside cast-on. -/

namespace Sys2Proof.Machine

/-! ### The messages of a response (R128) -/

theorem exec_unlockMessage {s : State} (on : s.pwr.chipOff = false) : exec .unlockMessage s = .next (unlockMessage s) :=
  only_next rfl on _

/-- The 64 bytes in mailbox 63's slot. -/
def State.unlockSlot (s : State) : List Byte := (List.range 16).flatMap fun w => leBytes 4 (s.reg (MBX_SLOT 63 w)).toNat

/-- `s` with mailbox 63's slot freed, as the firmware's read of word 15 leaves it. -/
def State.unlockFreed (s : State) : State := { mbxSlotRead 63 s with resp := s.resp }

/-- `s` with the image collected so far and the part expected next. -/
def State.setImage (s : State) (image : List Byte) (next : Nat) : State :=
  { s with adsel := { s.adsel with image := image, next := next } }

/-- A well-formed message by its part: one out of order starts the image again or drops it, part 3 completes the response. -/
theorem unlockMessage_wellFormed {s : State} (hup : s.adselUp = true) (hfull : s.flag (MBX_RX_STAT 63) 0 = true)
    (htype : slice s.unlockSlot 0 1 = [0xD5]) (hrsvd : slice s.unlockSlot 2 2 = [0, 0]) :
    unlockMessage s =
      let u := s.unlockFreed
      let k := leNat (slice s.unlockSlot 1 1)
      let data := s.unlockSlot.drop 4
      if k ≠ u.adsel.next then (if k = 0 then u.setImage data 1 else u.setImage [] 0)
      else if k < 3 then u.setImage (u.adsel.image ++ data) (k + 1)
      else { u.setImage [] 0 with adsel.mbxResp := some ((u.adsel.image ++ data).take 208) } :=
  (if_neg (by simp [hup, hfull])).trans (if_neg (not_or.2 ⟨Decidable.not_not.2 htype, Decidable.not_not.2 hrsvd⟩))

/-! ### The sampling tick (R129, R130) -/

theorem exec_unlockSampleTick {s : State} (on : s.pwr.chipOff = false) : exec .unlockSampleTick s = .next (unlockSample s) :=
  only_next rfl on _

/-- No challenge asked for by the TAP waits. -/
theorem State.tapServe_none {s : State} (h : s.adsel.tapChallenge = false) : s.tapServe = s := if_pos (by simp [h])

section Sample

variable {s : State} {img : List Byte} (hup : s.adselUp = true) (htap : s.adsel.tapChallenge = false)
  (hmbx : s.adsel.mbxResp = some img) (hresp : s.adsel.tapResp = none)

/-- `s` with both inputs sampled. -/
def State.sampled (s : State) : State := { s with adsel := { s.adsel with mbxResp := none, tapResp := none } }

/-- `s` with one more outcome to post, stamped with the time of its tick. -/
def State.addPost (s : State) (o : Option Nat) : State := { s with adsel := { s.adsel with posts := s.adsel.posts ++ [(s.now, o)] } }

include hup htap hmbx hresp

/-- The one response, from the mailbox: one that is good consumes the challenge and its level waits to be posted; one that is refused is
logged, consumes the challenge and is counted. -/
theorem unlockSample_mailbox :
    unlockSample s = (s.sampled.unlockReason false img).elim
      ((if leNat (slice img 1 1) = 2 then s.sampled.challengeClear.teardownAll
        else s.sampled.challengeClear).addPost (some (leNat (slice img 1 1))))
      fun r => (((s.sampled.logRefusal ⟨6, 0x3F, 0⟩ 0 true r).challengeClear).unlockFail).addPost none := by
  have hinputs : [s.adsel.mbxResp, s.adsel.tapResp].filterMap id = [img] := by
    rw [hmbx, hresp]
    rfl
  unfold unlockSample
  rw [if_neg (by simp [hup]), State.tapServe_none htap]
  dsimp only
  rw [hinputs]
  cases hr : s.sampled.unlockReason false img with
  | none =>
    unfold State.sampled at hr
    simp only [List.isEmpty_nil, Bool.not_true, hr]
    rfl
  | some r =>
    unfold State.sampled at hr
    simp only [List.isEmpty_nil, Bool.not_true, hr]
    rfl

end Sample

/-! ### The posted outcome (R129) -/

theorem exec_unlockResultPost {s : State} (on : s.pwr.chipOff = false) : exec .unlockResultPost s = .next (unlockPost s) :=
  only_next rfl on _

section Post

variable {s : State} {at0 : Nat} {o : Option Nat} {rest : List (Nat × Option Nat)} (hup : s.adselUp = true)
  (hposts : s.adsel.posts = (at0, o) :: rest) (hdue : at0 + 307200 ≤ s.now) (ho : o ≠ some 2)
  (hrest : ∀ p ∈ rest, p.2 ≠ some 2 ∨ s.postDue p = false)

/-- `s` with other outcomes left to post. -/
def State.setPosts (s : State) (l : List (Nat × Option Nat)) : State := { s with adsel := { s.adsel with posts := l } }

include hposts ho hrest in
/-- With no OPEN due no teardown is asked for. -/
theorem State.noOpenDue : (s.adsel.posts.any fun p => s.postDue p && p.2 == some 2) = false := by
  rw [hposts, List.any_cons, Bool.or_eq_false_iff, List.any_eq_false]
  refine ⟨by simp [ho], fun p hp => ?_⟩
  rcases hrest p hp with h | h <;> simp [h]

include hposts hdue ho in
/-- The oldest outcome is due and is no OPEN: it is the one posted. -/
theorem State.find_postDue : (s.adsel.posts.find? fun p => s.postDue p && (p.2 != some 2 || s.adsel.teardown.isEmpty)) = some (at0, o) := by
  rw [hposts]
  exact List.find?_cons_of_pos (by simp [State.postDue, hdue, ho])

include hup hposts hdue ho hrest

/-- That outcome is a refusal, shown in window 0's STATUS, or a level, set with a new certificate chain where it is not the present one. -/
theorem unlockPost_first :
    unlockPost s = o.elim (((s.setPosts rest).setFld (ADSEL_T_STAT 0) 15 8 0x17).irq 0x010 2) fun l =>
      (if l = s.debugLevel then s.setPosts rest else ((s.setPosts rest).setLevel l).aliasIssue).irq 0x010 2 := by
  unfold unlockPost
  rw [if_neg (by simp [hup]), State.noOpenDue hposts ho hrest, if_neg Bool.false_ne_true]
  dsimp only
  rw [State.find_postDue hposts hdue ho]
  simp only [hposts, List.erase_cons_head]
  cases o with
  | none => rfl
  | some l =>
    have hl : l ≠ 2 := fun h => ho (congrArg some h)
    simp only [if_neg hl]
    rfl

end Post

/-! ### Supervision of the scheduler (R136) -/

theorem exec_schHeartbeatTimeout {s : State} (on : s.pwr.chipOff = false) : exec .schHeartbeatTimeout s = .next (heartbeatTimeout s) :=
  only_next rfl on _

theorem exec_schInternalFault {s : State} (on : s.pwr.chipOff = false) : exec .schInternalFault s = .next (internalFault s) :=
  only_next rfl on _

theorem heartbeatTimeout_over {s : State} (hsup : s.supervised = true) (hjobs : s.openSlots ≠ [])
    (hover : 384 * s.fld ADSEL_SUPV 15 0 ≤ 10 * (s.now - s.sch.beatAt)) : heartbeatTimeout s = s.schedFrog 1 :=
  if_neg (by simp [hsup, hjobs, hover])

theorem internalFault_supervised {s : State} (hsup : s.supervised = true) : internalFault s = s.schedFrog 2 := if_pos hsup

/-! ### Adsel's start outside cast-on (R137) -/

theorem exec_adselStart {s : State} (on : s.pwr.chipOff = false) : exec .adselStart s = .next (adselStart s) := only_next rfl on _

theorem exec_adselStartDone {s : State} (on : s.pwr.chipOff = false) (r : StepResult) :
    exec (.adselStartDone r) s = .next (adselStartDone r s) := only_next rfl on _

theorem adselStart_ready {s : State} (hsec : s.domOn 1 = true) (hready : s.life.ready = true) (hdown : s.flag ADSEL_STATUS 8 = false)
    (hidle : s.adsel.starting = false) : adselStart s = ({ s with adsel := { s.adsel with starting := true } } : State).romStart :=
  if_neg (by simp [hsec, hready, hdown, hidle])

/-- What the report of a start does to a chip whose image checks. -/
def State.startReported (s : State) : StepResult → State
  | .done => s.adselReady.teardownRun
  | .failed c d => s.stepFail 4 c d

/-- The image check's own failure is one of step 4, whatever is reported. -/
theorem adselStartDone_started {s : State} (hsec : s.domOn 1 = true) (hstart : s.adsel.starting = true) (r : StepResult) :
    adselStartDone r s = (s.imageCheck s.slot).elim (s.startReported r) fun e => s.stepFail 4 e s.slot := by
  unfold adselStartDone
  rw [if_neg (by simp [hsec, hstart])]
  cases s.imageCheck s.slot with
  | none => cases r with
    | done => rw [Option.elim_none, State.startReported]
    | failed c d => rw [Option.elim_none, State.startReported]
  | some e => rw [Option.elim_some]

/-- Settles O21: a message by its part, a response by whether it is refused, the oldest outcome by what it is, the other events past their
guards. That a refusal shows as STATUS 0x17 in window 0 and is logged as class 6, index 0x3F is log entry 45. -/
theorem unlockAndSupervisionCommands : Obligations.UnlockAndSupervisionCommands := by
  unfold Obligations.UnlockAndSupervisionCommands
  refine ⟨?message, ?sample, ?refusal, ?level, ?heartbeat, ?fault, ?start, ?startDone⟩
  case message =>
    intro s on hup hfull m k u htype hrsvd
    rw [exec_unlockMessage on, unlockMessage_wellFormed hup hfull htype hrsvd]
    refine ⟨fun h0 hne => congrArg _ ?_, fun hk hlt => congrArg _ ?_, fun hk h3 => congrArg _ ?_⟩
    case refine_1 => exact (if_pos fun hk => hne (hk.symm.trans h0)).trans (if_pos h0)
    case refine_2 => exact (if_neg (Decidable.not_not.2 hk)).trans (if_pos hlt)
    case refine_3 => exact (if_neg (Decidable.not_not.2 hk)).trans (if_neg (Nat.not_lt_of_ge (Nat.le_of_eq h3.symm)))
  case sample =>
    intro s img on hup htap hmbx hresp u level
    have hu : s.sampled = u := rfl
    rw [exec_unlockSampleTick on, unlockSample_mailbox hup htap hmbx hresp, hu]
    cases u.unlockReason false img with
    | none => rfl
    | some r => rfl
  case refusal =>
    intro s at0 rest on hup hposts hdue hrest
    exact (exec_unlockResultPost on).trans (congrArg _ (unlockPost_first hup hposts hdue nofun hrest))
  case level =>
    intro s at0 l rest on hup hposts hl hdue hrest hnew
    refine (exec_unlockResultPost on).trans (congrArg _ ((unlockPost_first hup hposts hdue (by simpa using hl) hrest).trans ?_))
    exact congrArg (State.irq · 0x010 2) (if_neg hnew.symm)
  case heartbeat =>
    intro s on hsup hjobs hover
    rw [exec_schHeartbeatTimeout on, heartbeatTimeout_over hsup hjobs hover]
  case fault =>
    intro s on hsup
    rw [exec_schInternalFault on, internalFault_supervised hsup]
  case start =>
    intro s on hsec hready hdown hidle
    rw [exec_adselStart on, adselStart_ready hsec hready hdown hidle]
  case startDone =>
    intro s c d on hsec hstart
    have hdone (r : StepResult) := (exec_adselStartDone on r).trans (congrArg _ (adselStartDone_started hsec hstart r))
    exact ⟨hdone .done, hdone (.failed c d)⟩

end Sys2Proof.Machine
end

section
/-! SUPPORT AND PROOFS. Audio in and out (R141 to R158): the samples of the microphone paths, their rate and settling, beams, SAVE and the
calibration reload; the speakers' samples, mutes, power limit and temperature. -/

namespace Sys2Proof.Machine

/-! ### The low-power path (R141 to R144) -/

theorem exec_lpSample {s : State} (on : s.pwr.chipOff = false) (he : s.flag (PAGE_CTRL 0x040) 0 = true) (pdm : List Byte) :
    exec (.lpSample pdm) s = .next (lpSample pdm s) := only_heldIdle rfl on he _

/-- A sample goes to the always-on engine, zero where the tap is closed. -/
theorem lpSample_some {pdm : List Byte} {y : Int} {s u : State} (h : s.lpSample pdm = (some y, u)) :
    lpSample pdm s = u.aieSample (if u.lpTapped = true then y else 0) := by
  unfold lpSample
  rw [h]

/-- A stream written with what it holds leaves every stream as it is. -/
theorem State.stream_setStream_self (s : State) (st k : Nat) : (s.setStream st (s.stream st)).stream k = s.stream k := by
  by_cases h : k = st
  · subst h
    exact Tab.get_set_same ..
  · exact Tab.get_set_other _ _ h

/-- The boundary of a running stream that nothing was asked of. -/
theorem State.strmBoundary_running {s : State} {st : Nat} (hrun : s.strmState st = 1) (hnext : (s.stream st).next = 0) :
    s.strmBoundary st = s.setStream st (s.stream st) := by
  have hsame : ({ s.stream st with next := 0 } : Strm) = s.stream st := by rw [← hnext]
  unfold State.strmBoundary
  dsimp only
  rw [if_neg (by simp [hrun]), hnext, hsame]
  rfl

/-- What the low-power filters read of the streams is which paths run. -/
theorem State.lpFilter_setStream_self (s : State) (st : Nat) (pdm : List Byte) :
    ((s.setStream st (s.stream st)).lpFilter pdm).1 = (s.lpFilter pdm).1 := by
  have hrate (g : Nat) : (s.setStream st (s.stream st)).pdmRate g = s.pdmRate g := by
    unfold State.pdmRate State.lpGroup State.hqGroup State.lpRuns State.hqRuns
    rw [State.stream_setStream_self, State.stream_setStream_self]
    rfl
  unfold State.lpFilter
  dsimp only
  rw [hrate]
  rfl

/-- The sample of a period: zero while the path settles, else the filters' output under the microphone's gain. -/
theorem State.lpSample_running {s : State} (hlp : s.domOn 4 = true) (hrun : (s.strmBoundary 6).strmState 6 = 1) (pdm : List Byte) :
    (s.lpSample pdm).1 = some (if (s.strmBoundary 6).flag AUD_STATUS 2 = true then 0
      else clampS 16 (gained 1 ((s.strmBoundary 6).audGain ((s.strmBoundary 6).fld AUD_LP_CFG 2 0)) ((s.strmBoundary 6).lpFilter pdm).1)) := by
  unfold State.lpSample
  rw [if_neg (by simp [hlp])]
  dsimp only
  rw [if_neg (by simp [hrun])]
  exact (apply_ite Prod.fst _ _ _).trans (ite_self _)

/-! ### The high-quality path (R145 to R149) -/

theorem exec_hqFrame {s : State} (on : s.pwr.chipOff = false) (he : s.flag (PAGE_CTRL 0x040) 0 = true) (pdm : List Byte) :
    exec (.hqFrame pdm) s = .next (hqFrame pdm s) := only_heldIdle rfl on he _

/-! ### Rate change and settling (R141) -/

theorem exec_pdmRateChange {s : State} (on : s.pwr.chipOff = false) (he : s.flag (PAGE_CTRL 0x040) 0 = true) :
    exec .pdmRateChange s = .next (pdmRateChange s) := only_heldIdle rfl on he _

theorem exec_settleEnd {s : State} (on : s.pwr.chipOff = false) (he : s.flag (PAGE_CTRL 0x040) 0 = true) :
    exec .settleEnd s = .next (settleEnd s) := only_heldIdle rfl on he _

/-- The settling flag of each path stands where the path runs or it stood before. -/
theorem State.audSettle_flags (s : State) (lp hq : Nat) :
    (s.audSettle lp hq).flag AUD_STATUS 2 = (s.lpRuns || s.flag AUD_STATUS 2) ∧
    (s.audSettle lp hq).flag AUD_STATUS 3 = (s.hqRuns || s.flag AUD_STATUS 3) := by
  unfold State.audSettle
  refine ⟨?_, State.flag_setFlag_same _ _ _ _ (by decide)⟩
  rw [State.flag_setFlag_bit _ _ _ _ _ (by decide) (by decide), State.flag_setFlag_same _ _ _ _ (by decide)]
  rfl

theorem State.audSettle_reg_other (s : State) (lp hq : Nat) {k : Nat} (h : k ≠ AUD_STATUS) : (s.audSettle lp hq).reg k = s.reg k := by
  unfold State.audSettle
  rw [State.reg_setFlag_other _ _ _ h, State.reg_setFlag_other _ _ _ h]
  rfl

/-! ### Committed beams (R148) -/

theorem exec_audBeamCommit {q : Req} {s : State} (h : s.lands q AUD_BEAM_COMMIT true = true) (v : Word) :
    exec (.audBeamCommit q v) s = .next (beamCommit v (s.answer 0)) := only_writeVia (State.lands_wf h) h v _

/-- `s` with beam `b` marked where its bit is written 1. -/
def State.beamMark (v : Word) (s : State) (b : Nat) : State := if bit v b then s.setFlag (AUD_BEAM_CTRL b) 31 true else s

theorem beamCommit_eq (v : Word) (s : State) : beamCommit v s = (List.range 4).foldl (State.beamMark v) s := rfl

theorem State.beamMark_frame (v : Word) (s : State) (b : Nat) : s.beamMark v b = { s with regs := (s.beamMark v b).regs } := by
  cases hbit : bit v b with
  | false => rw [show s.beamMark v b = s from if_neg (ne_true_of_eq_false hbit)]
  | true => rw [show s.beamMark v b = s.setFlag (AUD_BEAM_CTRL b) 31 true from if_pos hbit, ← State.setFlag_frame]

theorem State.beamMark_reg_other (v : Word) (s : State) {b k : Nat} (h : k ≠ AUD_BEAM_CTRL b) : (s.beamMark v b).reg k = s.reg k := by
  unfold State.beamMark
  split
  · exact State.reg_setFlag_other _ _ _ h
  · rfl

theorem State.beamMark_flag_same (v : Word) (s : State) (b : Nat) :
    (s.beamMark v b).flag (AUD_BEAM_CTRL b) 31 = (bit v b || s.flag (AUD_BEAM_CTRL b) 31) := by
  unfold State.beamMark
  split
  · rename_i hbit
    rw [State.flag_setFlag_same _ _ _ _ (by decide), hbit, Bool.true_or]
  · rename_i hbit
    rw [eq_false_of_ne_true hbit, Bool.false_or]

theorem State.beamMark_flag_other (v : Word) (s : State) {b c : Nat} (h : c ≠ b) :
    (s.beamMark v b).flag (AUD_BEAM_CTRL c) 31 = s.flag (AUD_BEAM_CTRL c) 31 :=
  congrArg (bit · 31) (s.beamMark_reg_other v (by unfold AUD_BEAM_CTRL; omega))

theorem State.foldl_beamMark_flag (v : Word) (c : Nat) (l : List Nat) (s : State) :
    (l.foldl (State.beamMark v) s).flag (AUD_BEAM_CTRL c) 31 = (decide (c ∈ l) && bit v c || s.flag (AUD_BEAM_CTRL c) 31) := by
  induction l generalizing s with
  | nil => simp
  | cons b l ih =>
    rw [List.foldl_cons, ih]
    by_cases h : c = b
    · subst h
      rw [State.beamMark_flag_same]
      cases bit v c with
      | false => simp
      | true => simp
    · simp [State.beamMark_flag_other v s h, h]

theorem beamCommit_frame (v : Word) (s : State) : beamCommit v s = { s with regs := (beamCommit v s).regs } :=
  foldl_keeps (fun x : State => x = { s with regs := x.regs }) (State.beamMark v)
    (fun x b hx => State.regs_frame_trans hx (x.beamMark_frame v b)) _ s rfl

theorem beamCommit_flag (v : Word) (s : State) {b : Nat} (hb : b < 4) :
    (beamCommit v s).flag (AUD_BEAM_CTRL b) 31 = (bit v b || s.flag (AUD_BEAM_CTRL b) 31) := by
  rw [beamCommit_eq, State.foldl_beamMark_flag]
  simp [hb]

theorem beamCommit_reg_other (v : Word) (s : State) {k : Nat} (h : ∀ b, b < 4 → k ≠ AUD_BEAM_CTRL b) : (beamCommit v s).reg k = s.reg k :=
  List.foldlRecOn (motive := fun x : State => x.reg k = s.reg k) (List.range 4) (State.beamMark v) rfl
    fun x hx b hb => (x.beamMark_reg_other v (h b (List.mem_range.1 hb))).trans hx

/-! ### SAVE and the calibration words (R152, R153) -/

theorem exec_save {q : Req} {s : State} (h : s.lands q AUD_CTRL true = true) (v : Word) :
    exec (.save q v) s = .next (audCtrl (setBit v 0 true) (s.answer 0)) := only_writeVia (State.lands_wf h) h _ _

theorem exec_calReload {q : Req} {s : State} (h : s.lands q AUD_CTRL true = true) (v : Word) :
    exec (.calReload q v) s = .next (audCtrl (setBit v 1 true) (s.answer 0)) := only_writeVia (State.lands_wf h) h _ _

theorem audCtrl_save {v : Word} (h : bit v 1 = false) (s : State) : audCtrl (setBit v 0 true) s = audSave s := by
  simp [audCtrl, bit_setBit, h]

theorem audCtrl_calReload {v : Word} (h : bit v 0 = false) (s : State) : audCtrl (setBit v 1 true) s = calReload s := by
  simp [audCtrl, bit_setBit, h]

theorem State.restorePut_resp (s : State) (off : Nat) (v : Word) : (s.restorePut off v).resp = s.resp := rfl

/-- SAVE answers nothing of its own. -/
theorem audSave_resp (s : State) : (audSave s).resp = s.resp := by
  unfold audSave
  dsimp only
  rw [State.irq_resp, State.restorePut_resp]
  exact foldl_keeps (fun x : State => x.resp = s.resp) _ (fun x _ hx => (x.restorePut_resp ..).trans hx) _ s rfl

theorem audSave_done (s : State) : (audSave s).flag (IRQ_RAW 0x040) 4 = true := State.flag_irq_same _ _ (by decide)

/-- The calibration words stand apart from AUD_STATUS, which shows whether they were valid. -/
theorem calReload_shown (s : State) :
    (calReload s).flag AUD_STATUS 6 = (!bit (s.wordAt (restoreBase + 4)) 0) ∧ calReload s = { s with regs := (calReload s).regs } := by
  have hmark : (s.setFlag AUD_STATUS 6 (!bit (s.wordAt (restoreBase + 4)) 0)).flag AUD_STATUS 6 = !bit (s.wordAt (restoreBase + 4)) 0 :=
    State.flag_setFlag_same _ _ _ _ (by decide)
  have hne (c : Nat) : AUD_STATUS ≠ AUD_CAL c := by
    unfold AUD_STATUS AUD_CAL
    omega
  unfold calReload
  dsimp only
  split
  · refine foldl_keeps (fun x : State => x.flag AUD_STATUS 6 = (!bit (s.wordAt (restoreBase + 4)) 0) ∧ x = { s with regs := x.regs }) _
      (fun x c hx => ?_) _ _ ⟨hmark, rfl⟩
    obtain ⟨hflag, hframe⟩ := hx
    exact ⟨(State.flag_setReg_other _ _ _ (hne c)).trans hflag, State.regs_frame_trans hframe (State.setReg_frame ..)⟩
  · exact ⟨hmark, rfl⟩

/-- Settles O22: each command past its guards is what its rule says; beams and calibration words by the fold that writes them. That what
the filters and the exact gain give is open is log entry 13; that each path's settling ends at its own time is log entry 53. -/
theorem microphoneCommands : Obligations.MicrophoneCommands := by
  unfold Obligations.MicrophoneCommands
  refine ⟨?lpSample, ?lpValue, ?hqFrame, ?rate, ?settle, ?settleEnd, ?commit, ?save, ?reload⟩
  case lpSample =>
    intro pdm y s u on he h
    rw [exec_lpSample on he, lpSample_some h]
  case lpValue =>
    intro pdm s hlp hrun hnext
    have hb := State.strmBoundary_running hrun hnext
    rw [State.lpSample_running hlp (by rw [hb]; exact hrun), hb, State.lpFilter_setStream_self]
    rfl
  case hqFrame =>
    intro pdm s on he hhq f u frame w r
    have hon : exec (.hqFrame pdm) s = .next _ := (exec_hqFrame on he pdm).trans (congrArg _ (if_neg (by simp [hhq])))
    refine ⟨fun hidle => hon.trans (congrArg _ (if_pos hidle)), fun hrun hsettled => hon.trans (congrArg _ (if_neg ?_))⟩
    exact not_or.2 ⟨not_not_intro hrun, ne_true_of_eq_false hsettled⟩
  case rate =>
    intro s on he hlp want ch hch
    exact (exec_pdmRateChange on he).trans (congrArg _ (if_neg (not_or.2 ⟨by simp [hlp], mt List.isEmpty_iff.1 hch⟩)))
  case settle =>
    intro s lp hq
    obtain ⟨hlow, hhigh⟩ := s.audSettle_flags lp hq
    exact ⟨hlow, hhigh, fun k hk => s.audSettle_reg_other lp hq hk⟩
  case settleEnd =>
    intro s on he
    rw [exec_settleEnd on he]
    unfold settleEnd
    split
    · rfl
    · rfl
  case commit =>
    intro q v s h
    have hframe := beamCommit_frame v (s.answer 0)
    refine ⟨_, exec_audBeamCommit h v, by rw [hframe]; rfl, by rw [hframe]; rfl, fun b hb => beamCommit_flag v _ hb,
      fun k hk => beamCommit_reg_other v _ hk⟩
  case save =>
    intro q v s h hbit
    exact ⟨_, (exec_save h v).trans (congrArg _ (audCtrl_save hbit _)), rfl, audSave_done _, audSave_resp _⟩
  case reload =>
    intro q v s h hbit
    obtain ⟨hflag, hframe⟩ := calReload_shown (s.answer 0)
    exact ⟨_, (exec_calReload h v).trans (congrArg _ (audCtrl_calReload hbit _)), hflag, by rw [hframe]; rfl⟩

/-! ### Speaker commands (R155 to R158) -/

section Speaker

variable {s : State} (on : s.pwr.chipOff = false) (he : s.flag (PAGE_CTRL 0x041) 0 = true)

include on he

theorem exec_spkSample (i0 v0 i1 v1 : Int) : exec (.spkSample i0 v0 i1 v1) s = .next (spkSample i0 v0 i1 v1 s) := only_heldIdle rfl on he _

theorem exec_spkMuteExpiry {d : Nat} (hd : d < 2) : exec (.spkMuteExpiry d) s = .next (spkMuteExpiry d s) :=
  only_heldIdle (decide_eq_true hd) on he _

theorem exec_spkPlimStep {d : Nat} (hd : d < 2) (mw : Nat) : exec (.spkPlimStep d mw) s = .next (spkPlimStep d mw s) :=
  only_heldIdle (decide_eq_true hd) on he _

end Speaker

theorem exec_spkThermal {s : State} (on : s.pwr.chipOff = false) (temp : Int) : exec (.spkThermal temp) s = .next (spkThermal temp s) :=
  only_next rfl on _

/-! ### Samples (R155 to R158) -/

/-- `s` past the boundary, the sense frame and the current limits of a sample. -/
def State.spkSensed (s : State) (i0 v0 i1 v1 : Int) : State :=
  (((s.strmBoundary 9).senseWrite [i0, v0, i1, v1]).spkLimit 0 i0).spkLimit 1 i1

/-- Which drivers' PWM cycles the sensed currents cut. -/
def State.spkCut (s : State) (i0 i1 : Int) : List Bool := [(s.strmBoundary 9).spkOver i0, (s.strmBoundary 9).spkOver i1]

/-- The first sample without a pair takes the underrun. -/
def State.spkStarved (z : State) : State := (({ z with aud := { z.aud with silent := true, fade := 0 } } : State).strmUnderrun 9).irq 0x041 3

/-- The first pair after an underrun starts the ramp up. -/
def State.spkFed (z : State) : State := if z.aud.silent then { z with aud := { z.aud with silent := false, fade := 0 } } else z

/-- The end of an underrun stands beside the registers. -/
theorem State.spkFed_flag (z : State) (k i : Nat) : z.spkFed.flag k i = z.flag k i := by
  unfold State.spkFed
  split
  · rfl
  · rfl

section SpkSample

variable {s z : State} {i0 v0 i1 v1 : Int} (hhq : s.domOn 5 = true) (hrun : (s.spkSensed i0 v0 i1 v1).strmState 9 = 1)

include hhq hrun

/-- A sample while stream 9 runs that finds a pair. -/
theorem spkSample_pair {a b : Int} (hpair : (s.spkSensed i0 v0 i1 v1).spkPair = (some (a, b), z)) :
    spkSample i0 v0 i1 v1 s = z.spkFed.spkOut [a, if z.flag SPK_CTRL 8 then a else b] (s.spkCut i0 i1) := by
  refine (if_neg (by simp [hhq])).trans ((if_neg (not_not_intro hrun)).trans ?_)
  unfold State.spkSensed at hpair
  dsimp only
  rw [hpair, ← z.spkFed_flag]
  rfl

/-- A sample while stream 9 runs that finds none. -/
theorem spkSample_starved (hpair : (s.spkSensed i0 v0 i1 v1).spkPair = (none, z)) :
    spkSample i0 v0 i1 v1 s = (if z.aud.silent then z else z.spkStarved).spkFade (s.spkCut i0 i1) := by
  refine (if_neg (by simp [hhq])).trans ((if_neg (not_not_intro hrun)).trans ?_)
  unfold State.spkSensed at hpair
  dsimp only
  rw [hpair]
  exact (apply_ite (State.spkFade · (s.spkCut i0 i1)) _ _ _).symm

end SpkSample

/-! ### The power limit (R157) -/

section PowerLimit

variable {s : State} {d mw : Nat} (hhq : s.domOn 5 = true)

include hhq

/-- A mean power above the limit takes one dB off; the first one shows, is counted and interrupts. -/
theorem spkPlimStep_above (h : s.fld SPK_PLIM 11 0 < mw) :
    spkPlimStep d mw s =
      let t := s.setSpk d { s.spkOf d with atten := (s.spkOf d).atten + 1 }
      if s.flag SPK_STATUS (4 + d) then t else ((t.setFlag SPK_STATUS (4 + d) true).bumpSat SPK_EVT 31 16).irq 0x041 1 :=
  (if_neg (by simp [hhq])).trans (if_pos h)

/-- One below it gives one dB back; with the last one the flag goes. -/
theorem spkPlimStep_below (h : mw < s.fld SPK_PLIM 11 0) (hatten : (s.spkOf d).atten ≠ 0) :
    spkPlimStep d mw s =
      let t := s.setSpk d { s.spkOf d with atten := (s.spkOf d).atten - 1 }
      if (s.spkOf d).atten = 1 then t.setFlag SPK_STATUS (4 + d) false else t :=
  (if_neg (by simp [hhq])).trans ((if_neg (Nat.lt_asymm h)).trans (if_pos ⟨h, hatten⟩))

end PowerLimit

/-! ### The temperature (R157) -/

theorem spkThermal_hot {s : State} (hhq : s.domOn 5 = true) {temp : Int} (h : 150 < temp) :
    spkThermal temp s = (s.setFlag SPK_STATUS 6 true).spkMuted := (if_neg (by simp [hhq])).trans (if_pos h)

/-- MUTED0 and then MUTED1 are written. -/
theorem State.spkMuted_eq (s : State) :
    s.spkMuted = (s.setFlag SPK_STATUS 0 ((s.spkOf 0).muted || s.flag SPK_STATUS 6)).setFlag SPK_STATUS 1
      ((s.spkOf 1).muted || s.flag SPK_STATUS 6) :=
  congrArg (fun b => State.setFlag _ SPK_STATUS 1 ((s.spkOf 1).muted || b)) (s.flag_setFlag_bit SPK_STATUS 0 6 _ (by decide) (by decide))

/-- MUTEDd of each driver: its own mute or the temperature; OVERTEMP stays. -/
theorem State.spkMuted_flags (s : State) :
    s.spkMuted.flag SPK_STATUS 0 = ((s.spkOf 0).muted || s.flag SPK_STATUS 6) ∧
    s.spkMuted.flag SPK_STATUS 1 = ((s.spkOf 1).muted || s.flag SPK_STATUS 6) ∧
    s.spkMuted.flag SPK_STATUS 6 = s.flag SPK_STATUS 6 := by
  have hkeep (u : State) {i j : Nat} (b : Bool) (hi : i < 32) (hj : j ≠ i) := u.flag_setFlag_bit SPK_STATUS i j b hi hj
  rw [State.spkMuted_eq]
  refine ⟨?_, State.flag_setFlag_same _ _ _ _ (by decide), ?_⟩
  · rw [hkeep _ _ (by decide) (by decide), State.flag_setFlag_same _ _ _ _ (by decide)]
  · rw [hkeep _ _ (by decide) (by decide), hkeep _ _ (by decide) (by decide)]

theorem State.spkMuted_reg_other (s : State) {k : Nat} (h : k ≠ SPK_STATUS) : s.spkMuted.reg k = s.reg k := by
  rw [State.spkMuted_eq, State.reg_setFlag_other _ _ _ h, State.reg_setFlag_other _ _ _ h]

theorem State.spkMuted_frame (s : State) : s.spkMuted = { s with regs := s.spkMuted.regs } := by
  rw [State.spkMuted_eq]
  exact State.regs_frame_trans (State.setFlag_frame ..) (State.setFlag_frame ..)

/-- Settles O23: a sample by whether a pair is there, the limits by their guards, the temperature by the two flags it mutes with. That
what a driver makes of a word is open is log entry 13; that the power limit counts onsets is log entry 53. -/
theorem speakerCommands : Obligations.SpeakerCommands := by
  unfold Obligations.SpeakerCommands
  refine ⟨?played, ?starved, ?unmute, ?limit, ?hot⟩
  case played =>
    intro i0 v0 i1 v1 a b s z on he hhq p cut w hrun hpair y
    exact (exec_spkSample on he ..).trans (congrArg _ (spkSample_pair hhq hrun hpair))
  case starved =>
    intro i0 v0 i1 v1 s z on he hhq p cut w hrun hpair y
    exact ⟨(exec_spkSample on he ..).trans (congrArg _ (spkSample_starved hhq hrun hpair)), State.flag_irq_same _ _ (by decide)⟩
  case unmute =>
    intro d s hd on he hmuted hover
    exact (exec_spkMuteExpiry on he hd).trans (congrArg _ (if_pos ⟨hmuted, hover⟩))
  case limit =>
    intro d mw s hd on he hhq
    have hstep := exec_spkPlimStep on he hd mw
    refine ⟨fun h hshown => hstep.trans (congrArg _ ?_), fun h hshown => hstep.trans (congrArg _ ?_),
      fun h hatten => hstep.trans (congrArg _ ?_), fun h hatten => hstep.trans (congrArg _ ?_)⟩
    case refine_1 => exact (spkPlimStep_above hhq h).trans (if_pos hshown)
    case refine_2 => exact (spkPlimStep_above hhq h).trans (if_neg (ne_true_of_eq_false hshown))
    case refine_3 => exact (spkPlimStep_below hhq h (by omega)).trans (if_neg (by omega))
    case refine_4 =>
      refine (spkPlimStep_below hhq h (by omega)).trans ((if_pos hatten).trans ?_)
      rw [hatten]
  case hot =>
    intro temp s on he hhq hhot
    have hover : (s.setFlag SPK_STATUS 6 true).flag SPK_STATUS 6 = true := State.flag_setFlag_same _ _ _ _ (by decide)
    obtain ⟨h0, h1, h6⟩ := (s.setFlag SPK_STATUS 6 true).spkMuted_flags
    rw [hover, Bool.or_true] at h0 h1
    refine ⟨_, (exec_spkThermal on temp).trans (congrArg _ (spkThermal_hot hhq hhot)), h6.trans hover, h0, h1,
      State.regs_frame_trans (State.setFlag_frame ..) (State.spkMuted_frame _), fun k hk => ?_⟩
    rw [State.spkMuted_reg_other _ hk, State.reg_setFlag_other _ _ _ hk]

end Sys2Proof.Machine
end

section
/-! SUPPORT AND PROOFS. Cameras, displays, buses and streams (R164 to R187): a stream's boundary, its commands and its buffers; a
receiver's frame; I3C, GPIO and SPI; the lines and the layers of a display. -/

namespace Sys2Proof.Machine

/-! ### A stream and its state (R178 to R180) -/

section Stream

variable (s : State) (st : Nat)

@[simp] theorem State.stream_setStream_same (x : Strm) : (s.setStream st x).stream st = x := Tab.get_set_same _ _ _

theorem State.stream_setStream_other {j : Nat} (x : Strm) (h : j ≠ st) : (s.setStream st x).stream j = s.stream j :=
  Tab.get_set_other _ _ h

theorem State.strmState_setReg_other {k : Nat} (v : Word) (h : STRM_STAT st ≠ k) : (s.setReg k v).strmState st = s.strmState st :=
  s.fld_setReg_other _ _ v h

theorem State.setStrmState_frame (v : Nat) : s.setStrmState st v = { s with regs := (s.setStrmState st v).regs } := rfl

theorem State.strmState_setStrmState {v : Nat} (hv : v < 4) : (s.setStrmState st v).strmState st = v := by
  have hne : STRM_STAT st ≠ STRM_RUNNING := by
    unfold STRM_STAT STRM_RUNNING
    omega
  exact (State.strmState_setReg_other _ _ _ hne).trans ((s.fld_setFld_same _ _ _ _ (by decide) (by decide)).trans (Nat.mod_eq_of_lt hv))

theorem State.reg_setStrmState_other (v : Nat) {k : Nat} (h : k ≠ STRM_STAT st) (h' : k ≠ STRM_RUNNING) :
    (s.setStrmState st v).reg k = s.reg k :=
  (State.reg_setFlag_other _ _ _ h').trans (s.reg_setFld_other _ _ _ h)

/-- A sequence register runs modulo 65,536. -/
theorem State.strmAdvance_seq (k n : Nat) : (s.strmAdvance st k n).fld k 15 0 = (s.fld k 15 0 + n) % 0x10000 := by
  have hkeep (u : State) (i : Nat) : (u.setFld k 19 16 i).fld k 15 0 = u.fld k 15 0 :=
    (u.fld_setReg_same _ _ _ _).trans (bits_setBits_other _ _ _ _ _ _ (by decide) (by decide) (by decide))
  exact (hkeep _ _).trans (s.fld_setFld_same _ _ _ _ (by decide) (by decide))

/-- Its index runs modulo COUNT, 16 at most. -/
theorem State.strmAdvance_index (k n : Nat) : (s.strmAdvance st k n).fld k 19 16 = (s.fld k 19 16 + n) % s.strmCount st := by
  have hcount : 0 < s.strmCount st ∧ s.strmCount st ≤ 16 := ⟨Nat.succ_pos _, nbits_lt _ _ _⟩
  have hindex := Nat.mod_lt (s.fld k 19 16 + n) hcount.1
  exact (State.fld_setFld_same _ _ _ _ _ (by decide) (by decide)).trans (Nat.mod_eq_of_lt (by omega))

theorem State.strmAdvance_frame (k n : Nat) : s.strmAdvance st k n = { s with regs := (s.strmAdvance st k n).regs } := rfl

theorem State.reg_strmAdvance_other {j k : Nat} (n : Nat) (h : j ≠ k) : (s.strmAdvance st k n).reg j = s.reg j :=
  (State.reg_setFld_other _ _ _ _ h).trans (s.reg_setFld_other _ _ _ h)

end Stream

/-! ### The boundary (R180) -/

section Boundary

variable {s : State} {st : Nat}

theorem State.strmBoundary_stopping (h : s.strmState st = 3) :
    s.strmBoundary st =
      ((s.setStrmState st 0).setStream st { s.stream st with next := 0, cap := false, ended := false }).unhold 13 st (strmDomain st) :=
  if_pos h

theorem State.strmBoundary_start (h : s.strmState st ≠ 3) (hnext : (s.stream st).next = 1) :
    s.strmBoundary st = (s.setStream st { s.stream st with next := 0 }).setStrmState st 1 := by
  refine (if_neg h).trans ?_
  rw [hnext]
  rfl

end Boundary

/-! ### START (R180) -/

section Start

variable (s : State) (st : Nat)

/-- The start of an audio path sets its own block and shows that it settles. -/
theorem State.audStart_spec :
    s.audStart st = { s with regs := (s.audStart st).regs, aud := (s.audStart st).aud } ∧
    ∀ k, k ≠ AUD_STATUS → (s.audStart st).reg k = s.reg k := by
  unfold State.audStart
  dsimp only
  split
  · split
    · exact ⟨rfl, fun _ _ => rfl⟩
    · exact ⟨rfl, fun k hk => State.audSettle_reg_other _ _ _ hk⟩
  · split
    · split
      · exact ⟨rfl, fun k hk => State.reg_setFlag_other _ _ _ hk⟩
      · exact ⟨rfl, fun k hk => State.audSettle_reg_other _ _ _ hk⟩
    · exact ⟨rfl, fun _ _ => rfl⟩

/-- What START does in the stream's endpoint: an audio path starts, a display has shown nothing, a receiver's frame timeout counts. -/
def State.endpointStart : State :=
  let s := s.audStart st
  let s := if st = 10 ∨ st = 11 then
      let d := s.display (st - 10)
      s.setDisplay (st - 10) { d with layers := d.layers.map fun l => { l with shown := false } }
    else s
  if st < 6 then s.setCamera st { s.camera st with fsAt := s.now } else s

theorem State.endpointStart_spec :
    s.endpointStart st = { s with
      regs := (s.endpointStart st).regs, dsi := (s.endpointStart st).dsi, cam := (s.endpointStart st).cam
      aud := (s.endpointStart st).aud } ∧
    ∀ k, k ≠ AUD_STATUS → (s.endpointStart st).reg k = s.reg k := by
  obtain ⟨hframe, hreg⟩ := s.audStart_spec st
  have hkeep (d : Tab Dsi) (c : Tab Cam) : ({ s.audStart st with dsi := d, cam := c } : State) = { s with
      regs := (s.audStart st).regs, dsi := d, cam := c, aud := (s.audStart st).aud } :=
    congrArg (fun x : State => { x with dsi := d, cam := c }) hframe
  unfold State.endpointStart
  dsimp only
  split
  · split
    · exact ⟨hkeep _ _, hreg⟩
    · exact ⟨hkeep _ _, hreg⟩
  · split
    · exact ⟨hkeep _ _, hreg⟩
    · exact ⟨hkeep _ _, hreg⟩

/-- `s` with START given to stream `st`: its sequences zero, its domain requested, the boundary awaited. -/
def State.strmQueued : State :=
  let s := (((s.setReg (STRM_SW_SEQ st) 0).setReg (STRM_HW_SEQ st) 0).hold 13 st (strmDomain st)).setStream st { next := 1 }
  s.setFlag (STRM_STAT st) 2 (s.strmOut st)

theorem State.hold_frame (src who d : Nat) : s.hold src who d = { s with holds := (s.hold src who d).holds } := by
  unfold State.hold
  split
  · rfl
  · rfl

theorem State.strmQueued_frame : s.strmQueued st = { s with
    regs := (s.strmQueued st).regs, strm := (s.strmQueued st).strm, holds := (s.strmQueued st).holds } := by
  unfold State.strmQueued
  dsimp only
  rw [State.hold_frame]
  rfl

theorem State.strmQueued_strm : (s.strmQueued st).strm = s.strm.set strmReset st { next := 1 } :=
  congrArg (fun l : Tab Strm => l.set strmReset st { next := 1 }) (State.hold_strm _ _ _ _)

theorem State.strmQueued_heldBy : (s.strmQueued st).heldBy (strmDomain st) 13 = true := State.heldBy_hold _ _ _ _

/-- START zeroes both sequences and leaves the stream's state. -/
theorem State.strmQueued_regs : (s.strmQueued st).reg (STRM_SW_SEQ st) = 0 ∧ (s.strmQueued st).reg (STRM_HW_SEQ st) = 0 ∧
    (s.strmQueued st).strmState st = s.strmState st := by
  have hzero {k : Nat} (hk : k ≠ STRM_STAT st) :
      (s.strmQueued st).reg k = ((s.setReg (STRM_SW_SEQ st) 0).setReg (STRM_HW_SEQ st) 0).reg k :=
    (State.reg_setFlag_other _ _ _ hk).trans (State.reg_hold ..)
  refine ⟨?_, ?_, ?_⟩
  · rw [hzero (by unfold STRM_SW_SEQ STRM_STAT; omega), State.reg_setReg_other _ _ (by unfold STRM_SW_SEQ STRM_HW_SEQ; omega),
      State.reg_setReg_same]
  · rw [hzero (by unfold STRM_HW_SEQ STRM_STAT; omega), State.reg_setReg_same]
  · refine (State.fld_setFlag_bit _ _ (by decide) (by decide)).trans ((congrArg (bits · 1 0) (State.reg_hold ..)).trans ?_)
    exact (State.strmState_setReg_other _ _ _ (by unfold STRM_STAT STRM_HW_SEQ; omega)).trans
      (State.strmState_setReg_other _ _ _ (by unfold STRM_STAT STRM_SW_SEQ; omega))

/-- A stopped stream whose configuration its endpoint has takes START. -/
theorem strmStart_stopped {s : State} {st : Nat} {q : Req} (hstop : s.strmState st = 0)
    (hcfg : ¬((st < 6 ∧ (!s.ispConfigOk st) = true) ∨ (st = 10 ∨ st = 11) ∧ (!s.dsiRateOk (st - 10)) = true)) :
    strmStart q st s =
      if 12 ≤ st then ((s.strmQueued st).endpointStart st).strmBoundary st else (s.strmQueued st).endpointStart st :=
  (if_neg (not_not_intro hstop)).trans (if_neg hcfg)

/-- What START leaves but for the boundary. -/
theorem State.strmQueued_endpointStart {t : State} (ht : t = (s.strmQueued st).endpointStart st) :
    t.reg (STRM_SW_SEQ st) = 0 ∧ t.reg (STRM_HW_SEQ st) = 0 ∧ t.strmState st = s.strmState st ∧
    t.heldBy (strmDomain st) 13 = true ∧ t.strm = s.strm.set strmReset st { next := 1 } ∧
    t.resp = s.resp ∧
    t = { s with regs := t.regs, strm := t.strm, holds := t.holds, dsi := t.dsi, cam := t.cam, aud := t.aud, resp := t.resp } := by
  subst ht
  obtain ⟨hframe, hreg⟩ := (s.strmQueued st).endpointStart_spec st
  obtain ⟨hsw, hhw, hstate⟩ := s.strmQueued_regs st
  refine ⟨?_, ?_, ?_, ?_, ?_, ?_, ?_⟩
  · rw [hreg _ (by unfold STRM_SW_SEQ AUD_STATUS; omega), hsw]
  · rw [hreg _ (by unfold STRM_HW_SEQ AUD_STATUS; omega), hhw]
  · exact (congrArg (bits · 1 0) (hreg _ (by unfold STRM_STAT AUD_STATUS; omega))).trans hstate
  · exact (congrArg (State.heldBy · (strmDomain st) 13) hframe).trans (s.strmQueued_heldBy st)
  · exact (congrArg State.strm hframe).trans (s.strmQueued_strm st)
  · rw [hframe, State.strmQueued_frame]
  · rw [hframe, State.strmQueued_frame]

end Start

/-! ### The commands of a stream (R180) -/

section Commands

variable {q : Req} {st : Nat} {s : State} (hst : st < 16) (h : s.lands q (STRM_CMD st) true = true)

include hst h

theorem exec_strmStart : exec (.strmStart q st) s = .next (strmStart q st (s.answer 0)) :=
  only_writeVia (by simp [State.lands_wf h, hst]) h 1 (strmCommand q st 1)

theorem exec_strmPause : exec (.strmPause q st) s = .next (strmPauseAll q st (s.answer 0)) :=
  only_writeVia (by simp [State.lands_wf h, hst]) h 2 (strmCommand q st 2)

theorem exec_strmResume : exec (.strmResume q st) s = .next (strmResume q st (s.answer 0)) :=
  only_writeVia (by simp [State.lands_wf h, hst]) h 3 (strmCommand q st 3)

theorem exec_strmStop : exec (.strmStop q st) s = .next (strmStopAll q st (s.answer 0)) :=
  only_writeVia (by simp [State.lands_wf h, hst]) h 4 (strmCommand q st 4)

end Commands

theorem exec_strmStopComplete {st : Nat} {s : State} (hst : st < 16) (on : s.pwr.chipOff = false) :
    exec (.strmStopComplete st) s = .next (strmStopComplete st s) := only_next (decide_eq_true hst) on _

theorem strmPauseAll_running {q : Req} {st : Nat} {s : State} (hrun : s.strmState st = 1) (hstill : (s.readersStopped st).strmState st = 1) :
    strmPauseAll q st s =
      let t := (s.readersStopped st).setStream st { (s.readersStopped st).stream st with next := 2 }
      if 12 ≤ st then t.strmBoundary st else t :=
  (if_pos hrun).trans (if_neg (not_not_intro hstill))

theorem strmResume_paused {q : Req} {st : Nat} {s : State} (hpause : s.strmState st = 2) :
    strmResume q st s = let t := s.setStream st { s.stream st with next := 3 }; if 12 ≤ st then t.strmBoundary st else t :=
  if_neg (not_not_intro hpause)

/-- STOP: streams 0 to 5 also drop the receiver's frame; 12 to 15 are STOPPED at once. -/
theorem strmStopAll_running {q : Req} {st : Nat} {s : State} (hrun : s.strmState st = 1 ∨ s.strmState st = 2)
    (hstill : (s.readersStopped st).strmState st = 1 ∨ (s.readersStopped st).strmState st = 2) :
    strmStopAll q st s =
      let t := ((s.readersStopped st).setStrmState st 3).setStream st {}
      if st < 6 then t.setCamera st { frames := (t.camera st).frames } else if 12 ≤ st then t.strmBoundary st else t := by
  have hstop : strmStop q st (s.readersStopped st) =
      let t := ((s.readersStopped st).setStrmState st 3).setStream st {}
      if 12 ≤ st then t.strmBoundary st else t := if_neg (by omega)
  refine (if_pos hrun).trans ?_
  dsimp only
  rw [hstop]
  by_cases h6 : st < 6
  · rw [if_pos h6, if_pos h6]
    dsimp only
    rw [if_neg (by omega)]
  · rw [if_neg h6, if_neg h6]

/-- The end of a stop that no boundary came to end. -/
theorem State.strmBoundary_stopped {s : State} {st : Nat} (h : s.strmState st = 3) :
    (s.strmBoundary st).strmState st = 0 ∧ ((s.strmBoundary st).stream st).cap = false ∧
    ⟨13, st, strmDomain st⟩ ∉ (s.strmBoundary st).holds ∧
    s.strmBoundary st = { s with
      regs := (s.strmBoundary st).regs, strm := (s.strmBoundary st).strm, holds := (s.strmBoundary st).holds } ∧
    ∀ k, k ≠ STRM_STAT st → k ≠ STRM_RUNNING → (s.strmBoundary st).reg k = s.reg k := by
  have hframe := s.setStrmState_frame st 0
  have hstate := s.strmState_setStrmState st (v := 0) (by decide)
  have hreg (k : Nat) := s.reg_setStrmState_other st 0 (k := k)
  rw [State.strmBoundary_stopping h]
  generalize s.setStrmState st 0 = u at hframe hstate hreg
  refine ⟨hstate, congrArg Strm.cap (State.stream_setStream_same _ _ _), ?_, ?_, hreg⟩
  · simp [State.unhold]
  · rw [hframe]
    rfl

/-- Settles O26: START by its parts, the other commands by the state they find. That streams 12 to 15, which have no boundary, are
RUNNING at once is log entry 50. -/
theorem streamStateCommands : Obligations.StreamStateCommands := by
  unfold Obligations.StreamStateCommands
  refine ⟨?start, ?badConfig, ?pause, ?resume, ?stop, ?badState, ?complete, ?completeDsi⟩
  case start =>
    intro q st s hst h hstop hcam hdsi
    have hcfg : ¬((st < 6 ∧ (!s.ispConfigOk st) = true) ∨ (st = 10 ∨ st = 11) ∧ (!s.dsiRateOk (st - 10)) = true) := by
      rintro (⟨h6, hbad⟩ | ⟨h10, hbad⟩)
      · simp [hcam h6] at hbad
      · simp [hdsi h10] at hbad
    have hexec := (exec_strmStart hst h).trans (congrArg _ (strmStart_stopped (s := s.answer 0) hstop hcfg))
    obtain ⟨hsw, hhw, hstate, hheld, hstrm, hresp, hframe⟩ := (s.answer 0).strmQueued_endpointStart st rfl
    generalize ((s.answer 0).strmQueued st).endpointStart st = t at hexec hsw hhw hstate hheld hstrm hresp hframe
    have hstop' : t.strmState st = 0 := hstate.trans hstop
    have hown : t.stream st = { next := 1 } := (congrArg (Tab.get strmReset · st) hstrm).trans (Tab.get_set_same _ _ _)
    have hother (j : Nat) (hj : j ≠ st) : t.stream j = s.stream j :=
      (congrArg (Tab.get strmReset · j) hstrm).trans (Tab.get_set_other _ _ hj)
    have hrest (r : Tab Word) (m : Tab Strm) : ({ t with regs := r, strm := m } : State) = { s with
        regs := r, strm := m, holds := t.holds, dsi := t.dsi, cam := t.cam, aud := t.aud, resp := t.resp } :=
      congrArg (fun x : State => { x with regs := r, strm := m }) hframe
    by_cases h12 : 12 ≤ st
    · rw [if_pos h12, State.strmBoundary_start (by omega) (by rw [hown])] at hexec
      rw [if_pos h12, if_pos h12]
      refine ⟨_, hexec, hresp, ?_, ?_, hheld, State.strmState_setStrmState _ _ (by decide), ?_, ?_,
        fun j hj => (State.stream_setStream_other _ _ _ hj).trans (hother j hj)⟩
      · exact (State.reg_setStrmState_other _ _ _ (by unfold STRM_SW_SEQ STRM_STAT; omega) (by unfold STRM_SW_SEQ STRM_RUNNING; omega)).trans hsw
      · exact (State.reg_setStrmState_other _ _ _ (by unfold STRM_HW_SEQ STRM_STAT; omega) (by unfold STRM_HW_SEQ STRM_RUNNING; omega)).trans hhw
      · exact congrArg Strm.next (State.stream_setStream_same _ _ _)
      · exact hrest _ _
    · rw [if_neg h12] at hexec
      rw [if_neg h12, if_neg h12]
      exact ⟨t, hexec, hresp, hsw, hhw, hheld, hstop', congrArg Strm.next hown, hrest _ _, hother⟩
  case badConfig =>
    intro q st s hst h hstop hcfg
    refine (exec_strmStart hst h).trans (congrArg _ ((if_neg (not_not_intro hstop)).trans (if_pos ?_)))
    exact hcfg.imp (And.imp_right (Bool.not_eq_true' _).mpr) (And.imp_right (Bool.not_eq_true' _).mpr)
  case pause =>
    intro q st s hst h hrun u hstill
    exact (exec_strmPause hst h).trans (congrArg _ (strmPauseAll_running hrun hstill))
  case resume =>
    intro q st s hst h hpause
    exact (exec_strmResume hst h).trans (congrArg _ (strmResume_paused hpause))
  case stop =>
    intro q st s hst h hrun u hstill
    exact (exec_strmStop hst h).trans (congrArg _ (strmStopAll_running hrun hstill))
  case badState =>
    intro q st s hst h bad
    refine ⟨fun hbad => (exec_strmStart hst h).trans (congrArg _ (if_pos hbad)),
      fun hbad => (exec_strmPause hst h).trans (congrArg _ ((if_neg hbad).trans (if_pos hbad))),
      fun hbad => (exec_strmResume hst h).trans (congrArg _ (if_pos hbad)), fun hbad => ?_⟩
    have hno : ¬(s.strmState st = 1 ∨ s.strmState st = 2) := by omega
    exact (exec_strmStop hst h).trans (congrArg _ ((if_neg hno).trans (if_pos (not_or.1 hno))))
  case complete =>
    intro st s hst h10 h11 on hstop
    have hexec : exec (.strmStopComplete st) s = .next (s.strmBoundary st) :=
      (exec_strmStopComplete hst on).trans (congrArg _ ((if_pos hstop).trans (if_neg (by omega))))
    exact ⟨_, hexec, State.strmBoundary_stopped hstop⟩
  case completeDsi =>
    intro n s hn on hstop u
    refine (exec_strmStopComplete (by omega) on).trans (congrArg _ ((if_pos hstop).trans ((if_pos (by omega)).trans ?_)))
    rw [Nat.add_sub_cancel_left]

end Sys2Proof.Machine
end

section
namespace Sys2Proof.Machine

/-! ### The buffers of a stream (R179, R181, R182) -/

theorem exec_strmSwSeqWrite {q : Req} {st : Nat} {s : State} (hst : st < 16) (h : s.lands q (STRM_SW_SEQ st) true = true) (v : Word) :
    exec (.strmSwSeqWrite q st v) s = .next (strmSwSeqWrite q st v (s.answer 0)) :=
  only_writeVia (by simp [State.lands_wf h, hst]) h v _

theorem exec_streamBufferComplete {st : Nat} {s : State} (hst : st < 16) (on : s.pwr.chipOff = false) :
    exec (.streamBufferComplete st) s = .next (strmBufferComplete st s) := only_next (decide_eq_true hst) on _

theorem exec_streamBufferConsumed {st : Nat} {s : State} (hst : st < 16) (on : s.pwr.chipOff = false) :
    exec (.streamBufferConsumed st) s = .next (strmBufferConsumed st s) := only_next (decide_eq_true hst) on _

/-- A sequence moved on by the distance to `v`, both of 16 bits, stands at `v`. -/
theorem seq_add_distance {f v : Nat} (hf : f < 0x10000) (hv : v < 0x10000) :
    (f + (v + 0x10000 - f) % 0x10000) % 0x10000 = v := by omega

section Buffer

variable {s : State} {st : Nat} (hin : s.strmOut st = false) (hrun : s.strmState st = 1 ∨ s.strmState st = 2)

include hin hrun

/-- An input stream in use completes what its endpoint has. -/
theorem strmBufferComplete_input : strmBufferComplete st s =
    if st < 6 then (if (s.camera st).done ∧ s.csiOn st then s.frameComplete st else s)
    else if st < 12 then (if (s.stream st).cap ∧ (s.stream st).ended then s.strmComplete st else s)
    else if s.strmState st = 2 then s
    else
      let s := s.strmOpen st s.now
      if (s.stream st).cap then
        (s.fresh.2.setStream st { s.stream st with len := Config.hostLength s.free % 0x100000000 }).strmComplete st
      else s := by
  refine if_neg ?_
  rw [hin]
  simpa using fun h1 => hrun.resolve_left h1

end Buffer

/-- A running output stream between two buffers consumes the one it is at. -/
theorem strmBufferConsumed_running {s : State} {st : Nat} (hout : s.strmOut st = true) (hrun : s.strmState st = 1) (h10 : st ≠ 10)
    (h11 : st ≠ 11) (hused : ¬(st = 9 ∧ (s.stream 9).cap = true ∧ (s.stream 9).ended = false)) :
    strmBufferConsumed st s = s.strmConsumed st := by
  refine (if_neg ?_).trans (if_neg ?_)
  · simp [hout, hrun, h10, h11]
  · simpa using hused

/-- A ready buffer is consumed: HW_SEQ goes one up and no buffer is open. -/
theorem State.strmConsumed_ready {s : State} {st : Nat} (h : s.strmAhead st ≠ 0) : s.strmConsumed st =
    (s.strmAdvance st (STRM_HW_SEQ st) 1).setStream st { s.stream st with cap := false, ended := false, len := 0 } := if_neg h

/-- Settles O27: the software's sequence by its room, a completion by its endpoint, a consumption by whether a buffer is ready. That
the length the host gives is open is log entry 15; that SW_SEQ of an output stream runs up to COUNT ahead is log entry 50. -/
theorem streamBufferCommands : Obligations.StreamBufferCommands := by
  unfold Obligations.StreamBufferCommands
  refine ⟨?release, ?records, ?frame, ?host, ?consumed, ?stopped⟩
  case release =>
    intro q st v s hst h n room
    have hexec := exec_strmSwSeqWrite hst h v
    refine ⟨fun hn => ⟨_, hexec.trans (congrArg _ (if_neg (Nat.not_lt_of_le hn))), rfl, ?_, State.strmAdvance_index ..,
      State.strmAdvance_frame .., fun k hk => State.reg_strmAdvance_other _ _ _ hk⟩, fun hn => hexec.trans (congrArg _ (if_pos hn))⟩
    exact (State.strmAdvance_seq ..).trans (seq_add_distance (nbits_lt _ _ _) (nbits_lt _ _ _))
  case records =>
    intro st s h6 h12 hin on hrun hcap hended
    rw [exec_streamBufferComplete (by omega) on, strmBufferComplete_input hin hrun, if_neg (by omega), if_pos h12, if_pos ⟨hcap, hended⟩]
  case frame =>
    intro st s h6 hin on hrun hdone hcsi
    rw [exec_streamBufferComplete (by omega) on, strmBufferComplete_input hin hrun, if_pos h6, if_pos ⟨hdone, hcsi⟩]
  case host =>
    intro st s h12 hst hin on hrun u hcap
    rw [exec_streamBufferComplete hst on, strmBufferComplete_input hin (.inl hrun), if_neg (by omega), if_neg (by omega),
      if_neg (by omega)]
    exact congrArg _ (if_pos hcap)
  case consumed =>
    intro st s hst hout on hrun h10 h11 hused
    have hexec := (exec_streamBufferConsumed hst on).trans (congrArg _ (strmBufferConsumed_running hout hrun h10 h11 hused))
    refine ⟨fun h0 => hexec.trans (congrArg _ (if_pos h0)), fun h0 => ⟨_, hexec.trans (congrArg _ (State.strmConsumed_ready h0)), ?_⟩⟩
    have hseq := s.strmAdvance_seq st (STRM_HW_SEQ st) 1
    have hindex := s.strmAdvance_index st (STRM_HW_SEQ st) 1
    have hframe := s.strmAdvance_frame st (STRM_HW_SEQ st) 1
    have hreg (k : Nat) := s.reg_strmAdvance_other st (j := k) (k := STRM_HW_SEQ st) 1
    generalize s.strmAdvance st (STRM_HW_SEQ st) 1 = u at hseq hindex hframe hreg
    refine ⟨hseq, hindex, ?_, ?_, hreg⟩
    · rw [State.stream_setStream_same]
    · rw [hframe]
      rfl
  case stopped =>
    intro st s hst on hstop
    refine ⟨(exec_streamBufferComplete hst on).trans (congrArg _ (if_pos (.inr ?_))),
      (exec_streamBufferConsumed hst on).trans (congrArg _ (if_pos (.inr (.inl ?_))))⟩
    · omega
    · omega

end Sys2Proof.Machine
end

section
namespace Sys2Proof.Machine

/-! ### An event of a stream (R18, R382) -/

theorem State.lockSeen_frame (s : State) (st e : Nat) : s.lockSeen st e = { s with rpt := (s.lockSeen st e).rpt } := by
  unfold State.lockSeen
  split
  · rfl
  · rfl

theorem State.strmEvent_frame (s : State) (st : Nat) :
    s.strmEvent st = { s with regs := (s.strmEvent st).regs, rpt := (s.strmEvent st).rpt } := by
  unfold State.strmEvent
  rw [State.lockSeen_frame]
  rfl

theorem State.strmState_strmEvent (s : State) (st j : Nat) : (s.strmEvent st).strmState j = s.strmState j := by
  unfold State.strmEvent
  rw [State.lockSeen_frame]
  exact (State.strmState_setReg_other _ _ _ (by unfold STRM_STAT STRM_LAST_TS_HI; omega)).trans
    (State.strmState_setReg_other _ _ _ (by unfold STRM_STAT STRM_LAST_TS_LO; omega))

/-! ### Packets of a receiver (R164, R165) -/

section Receiver

variable {s : State} {n : Nat} (hn : n < 6) (on : s.pwr.chipOff = false) (he : s.flag (PAGE_CTRL (0x044 + n)) 0 = true)

include hn on he

theorem exec_csiFrameStart (ecc : Nat) : exec (.csiFrameStart ⟨n, ecc⟩) s =
    .next (csiFrameStart ⟨n, ecc⟩ (if s.csiOn n && s.strmState n == 1 && ecc < 2 then s.ringLapped n else s)) :=
  only_heldIdle (decide_eq_true hn) on he _

theorem exec_csiFrameEnd (ecc : Nat) : exec (.csiFrameEnd ⟨n, ecc⟩) s = .next (frameEndOffer ⟨n, ecc⟩ s) :=
  only_heldIdle (decide_eq_true hn) on he _

theorem exec_csiLongPacket (vc dt ecc : Nat) (ok : Bool) (payload : List Byte) :
    exec (.csiLongPacket n vc dt ecc ok payload) s = .next (csiLongPacket n vc dt ecc ok payload s) :=
  only_heldIdle (decide_eq_true hn) on he _

theorem exec_ispLineDone : exec (.ispLineDone n) s = .next ((ispLineDone n s).ringOver n) := only_heldIdle (decide_eq_true hn) on he _

theorem exec_csiFrameTmo : exec (.csiFrameTmo n) s = .next (csiFrameTmo n s) := only_heldIdle (decide_eq_true hn) on he _

end Receiver

section Packet

variable {s : State} {n : Nat} (hon : s.csiOn n = true) (hst : s.strmState n ≠ 0)

include hon hst

/-- A short packet of a receiver in use whose header is whole. -/
theorem State.csiShort_whole : s.csiShort n 0 = some s :=
  (if_neg (by simp [hon, hst])).trans ((if_neg (by decide)).trans (congrArg some (if_neg (by decide))))

/-- A header with an error of two or more bits loses the packet, which is counted. -/
theorem State.csiShort_lost {ecc : Nat} (h2 : 2 ≤ ecc) : s.csiShort n ecc = none ∧ s.csiShortLost n ecc = s.csiError n 8 :=
  ⟨(if_neg (by simp [hon, hst])).trans (if_pos h2), if_neg (by simp [hon, hst]; omega)⟩

theorem csiFrameStart_lost {ecc : Nat} (h2 : 2 ≤ ecc) : csiFrameStart ⟨n, ecc⟩ s = s.csiError n 8 := by
  obtain ⟨hnone, hlost⟩ := State.csiShort_lost hon hst h2
  unfold csiFrameStart
  dsimp only
  rw [hnone, hlost]

theorem csiFrameEnd_lost {ecc : Nat} (h2 : 2 ≤ ecc) : csiFrameEnd ⟨n, ecc⟩ s = s.csiError n 8 := by
  obtain ⟨hnone, hlost⟩ := State.csiShort_lost hon hst h2
  unfold csiFrameEnd
  dsimp only
  rw [hnone, hlost]

theorem csiFrameEnd_whole :
    csiFrameEnd ⟨n, 0⟩ s = if (s.camera n).frame then ((s.strmStamp n).irq (0x044 + n) 1).frameEnd n else (s.strmStamp n).irq (0x044 + n) 1 := by
  unfold csiFrameEnd
  dsimp only
  rw [State.csiShort_whole hon hst]
  rfl

/-- A frame starts in a receiver with nothing left over. -/
theorem csiFrameStart_running (hrun : (s.strmBoundary n).strmState n = 1) (hframe : (s.camera n).frame = false)
    (hdone : (s.camera n).done = false) :
    csiFrameStart ⟨n, 0⟩ s =
      let u := ((s.strmBoundary n).strmEvent n).irq (0x044 + n) 0
      ((u.setCamera n { frame := true, frames := (u.camera n).frames + 1, fsAt := u.now }).setReg (CSI_LINE_CNT n) 0).strmOpen n u.now := by
  have hstate : (((s.strmBoundary n).strmEvent n).irq (0x044 + n) 0).strmState n = 1 :=
    (State.strmState_setReg_other _ _ _ (by unfold STRM_STAT IRQ_RAW; omega)).trans ((State.strmState_strmEvent ..).trans hrun)
  unfold csiFrameStart
  dsimp only
  rw [State.csiShort_whole hon hst]
  dsimp only
  rw [if_neg (ne_true_of_eq_false hframe), if_neg (ne_true_of_eq_false hdone), if_neg (by omega), if_pos hstate]
  rfl

/-- A long packet of one of the configured channel and type, its header and payload whole, inside a frame that lacks lines. -/
theorem csiLongPacket_line {payload : List Byte} (hframe : (s.camera n).frame = true) (hroom : (s.camera n).lines.length < s.csiH n) :
    csiLongPacket n (s.fld (CSI_CFG n) 5 4) (s.csiDt n) 0 true payload s = s.setCamera n { s.camera n with
      lines := (s.camera n).lines ++ [fitTo (if s.csiDt n = 0x1E then 2 * s.csiW n else s.csiW n) (unpackLine (s.csiDt n) payload)]
      bad := (s.camera n).bad || payload.length != dtBytes (s.csiDt n) (s.csiW n) } := by
  refine (if_neg (by simp [hon, hst])).trans ((if_neg (by decide)).trans ?_)
  refine (if_neg (by simp [State.csiDt])).trans ((if_neg (by simp [hframe])).trans ?_)
  exact if_neg (Nat.not_le_of_lt hroom)

end Packet

/-! ### The end of a frame (R165) -/

theorem State.csiError_frame (s : State) (n lo : Nat) : s.csiError n lo = { s with regs := (s.csiError n lo).regs } := by
  unfold State.csiError State.bumpSat
  split
  · rfl
  · rfl

theorem State.strmFlag_frame (s : State) (st i : Nat) : s.strmFlag st i = { s with strm := (s.strmFlag st i).strm } := by
  unfold State.strmFlag
  dsimp only
  split
  · rfl
  · rfl

theorem State.reg_bumpSat_other (s : State) {k m : Nat} (hi lo : Nat) (h : m ≠ k) : (s.bumpSat k hi lo).reg m = s.reg m := by
  unfold State.bumpSat
  split
  · exact s.reg_setFld_other _ _ _ h
  · rfl

@[simp] theorem State.camera_setCamera_same (s : State) (n : Nat) (x : Cam) : (s.setCamera n x).camera n = x := Tab.get_set_same _ _ _

theorem State.camera_setCamera_other (s : State) {n j : Nat} (x : Cam) (h : j ≠ n) : (s.setCamera n x).camera j = s.camera j :=
  Tab.get_set_other _ _ h

@[simp] theorem State.camera_setStream (s : State) (st n : Nat) (x : Strm) : (s.setStream st x).camera n = s.camera n := rfl

@[simp] theorem State.camera_csiError (s : State) (n lo j : Nat) : (s.csiError n lo).camera j = s.camera j :=
  (congrArg (State.camera · j) (s.csiError_frame n lo)).trans rfl

@[simp] theorem State.camera_strmFlag (s : State) (st i j : Nat) : (s.strmFlag st i).camera j = s.camera j :=
  (congrArg (State.camera · j) (s.strmFlag_frame st i)).trans rfl

/-- An error of the receiver sets its own interrupt alone. -/
theorem State.flag_csiError_irq (s : State) (n lo : Nat) {i : Nat} (hi : i ≠ 3) :
    (s.csiError n lo).flag (IRQ_RAW (0x044 + n)) i = s.flag (IRQ_RAW (0x044 + n)) i := by
  unfold State.csiError
  rw [State.irq_flag _ _ _ _ (by decide), if_neg hi]
  exact congrArg (bit · i) (s.reg_bumpSat_other _ _ (by unfold IRQ_RAW CSI_ERR; omega))

/-- What the end of a frame leaves of the receiver; of its interrupts it may set the one of errors. -/
theorem State.frameEnd_spec (s : State) (n : Nat) (cut : Bool) :
    (s.frameEnd n cut).camera n = { s.camera n with frame := false, done := true, bad := false } ∧
    ∀ i, i ≠ 3 → (s.frameEnd n cut).flag (IRQ_RAW (0x044 + n)) i = s.flag (IRQ_RAW (0x044 + n)) i := by
  have hflag (u : State) {i : Nat} (hi : i ≠ 3) :
      ((u.csiError n 24).strmFlag n 1).flag (IRQ_RAW (0x044 + n)) i = u.flag (IRQ_RAW (0x044 + n)) i :=
    (congrArg (State.flag · (IRQ_RAW (0x044 + n)) i) (State.strmFlag_frame ..)).trans (u.flag_csiError_irq n 24 hi)
  unfold State.frameEnd
  dsimp only
  split
  · refine ⟨?_, fun i hi => hflag _ hi⟩
    rw [State.camera_setStream, State.camera_strmFlag, State.camera_csiError, State.camera_setCamera_same]
  · refine ⟨?_, fun _ _ => rfl⟩
    rw [State.camera_setStream, State.camera_setCamera_same]

/-- A frame end that offers no frame to the always-on engine. -/
theorem frameEndOffer_plain {s : State} {n ecc : Nat} (h : ecc < 2 → n = 4 → s.flag (CSI_AO 4) 0 = false) :
    frameEndOffer ⟨n, ecc⟩ s = csiFrameEnd ⟨n, ecc⟩ s := by
  refine if_pos ?_
  by_cases h2 : ecc < 2
  · by_cases h4 : n = 4
    · simp [h h2 h4]
    · simp [h4]
  · simp [h2]

/-- A captured frame of receiver 4, the always-on tap set and tenant 0 the page's owner, is offered to the always-on engine. -/
theorem frameEndOffer_taken {s u : State} (hon : s.csiOn 4 = true) (hframe : (s.camera 4).frame = true) (hcap : (s.stream 4).cap = true)
    (htap : s.flag (CSI_AO 4) 0 = true) (hown : s.pageOwner 0x048 = 0) (hend : csiFrameEnd ⟨4, 0⟩ s = u) (hmode : u.ispMode 4 ≠ 0)
    (hw : 64 ≤ u.ispW 4) (hh : 48 ≤ u.ispH 4) :
    frameEndOffer ⟨4, 0⟩ s =
      let w := u.setFlag AIE_STATUS 4 false
      if w.flag AIE_STATUS 2 = true then w.bumpSat AIE_OVERRUN 31 16
      else { w with aie := { w.aie with vision := some (w.visionInput (s.camera 4).lines) } } := by
  subst hend
  refine (if_neg ?_).trans (if_neg ?_)
  · simp [hon, hframe, htap, hcap, hown]
  · omega

/-- Settles O28: a packet by its header, a line and a timeout by their guards. How CSI-2 packs the values of a line (unpackLine) is
log entry 51. -/
theorem cameraCommands : Obligations.CameraCommands := by
  unfold Obligations.CameraCommands
  refine ⟨?start, ?lost, ?line, ?dropped, ?frameEnd, ?offered, ?lineDone, ?timeout⟩
  case start =>
    intro n s hn on he hon hrun hnext hframe hdone hring
    have hboundary : (s.strmBoundary n).strmState n = 1 := by rw [State.strmBoundary_running hrun hnext]; exact hrun
    rw [exec_csiFrameStart hn on he, hring, ite_self, csiFrameStart_running hon (by omega) hboundary hframe hdone]
  case lost =>
    intro n ecc s hn on he hon hst h2
    rw [exec_csiFrameStart hn on he, exec_csiFrameEnd hn on he, if_neg (by simp; omega), csiFrameStart_lost hon hst h2,
      frameEndOffer_plain (fun h => by omega), csiFrameEnd_lost hon hst h2]
    exact ⟨rfl, rfl⟩
  case line =>
    intro n payload s hn on he hon hst hframe hroom hlen
    refine ⟨_, (exec_csiLongPacket hn on he _ _ _ _ _).trans (congrArg _ (csiLongPacket_line hon hst hframe hroom)), ?_, ?_, rfl,
      fun j hj => State.camera_setCamera_other _ _ hj⟩
    · rw [State.camera_setCamera_same]
    · rw [State.camera_setCamera_same]
      exact hframe
  case dropped =>
    intro n vc dt ecc ok payload s hn on he hon hst
    have hexec := exec_csiLongPacket hn on he vc dt ecc ok payload
    have hin : ¬((!s.csiOn n) = true ∨ s.strmState n = 0) := by simp [hon, hst]
    refine ⟨fun h2 => hexec.trans (congrArg _ ((if_neg hin).trans (if_pos h2))), fun h0 hother => hexec.trans (congrArg _ ?_)⟩
    subst h0
    exact (if_neg hin).trans ((if_neg (by decide)).trans (if_pos hother))
  case frameEnd =>
    intro n s hn on he hon hst htap
    have hirq : ((s.strmStamp n).irq (0x044 + n) 1).flag (IRQ_RAW (0x044 + n)) 1 = true := State.flag_irq_same _ _ (by decide)
    obtain ⟨hcam, hflag⟩ := ((s.strmStamp n).irq (0x044 + n) 1).frameEnd_spec n false
    have hexec := (exec_csiFrameEnd hn on he 0).trans (congrArg _
      ((frameEndOffer_plain fun _ => htap).trans (csiFrameEnd_whole hon hst)))
    cases hframe : (s.camera n).frame with
    | false =>
      rw [hframe] at hexec
      exact ⟨_, hexec, hirq, fun _ => rfl, nofun⟩
    | true =>
      rw [hframe] at hexec
      exact ⟨_, hexec, (hflag 1 (by decide)).trans hirq, nofun, fun _ => ⟨rfl, congrArg Cam.frame hcam, congrArg Cam.done hcam⟩⟩
  case offered =>
    intro s on he hon hst hframe htap hcap hown u hmode hw hh w
    have hwhole := csiFrameEnd_whole hon hst
    rw [if_pos hframe] at hwhole
    refine (exec_csiFrameEnd (n := 4) (by decide) on he 0).trans (congrArg _ ?_)
    exact frameEndOffer_taken hon hframe hcap htap hown hwhole hmode hw hh
  case lineDone =>
    intro n s hn on he hwork hleft hready
    exact (exec_ispLineDone hn on he).trans (congrArg (fun x : State => Host.Outcome.next (x.ringOver n)) (if_pos ⟨hwork, hleft, hready⟩))
  case timeout =>
    intro n s hn on he hon hst htmo hover
    exact (exec_csiFrameTmo hn on he).trans (congrArg _ (if_pos ⟨hon, hst, htmo, hover⟩))

end Sys2Proof.Machine
end

section
namespace Sys2Proof.Machine

/-! ### Commands on an I3C bus (R170) -/

section I3cRows

variable {q : Req} {n : Nat} {s : State} (hn : n < 2) (h : s.lands q (I3C_CMD n) true = true) (v : Word)

include hn h

theorem exec_entdaa : exec (.entdaa q n v) s = .next (i3cCommand n (setBits v 2 0 1) (s.answer 0)) :=
  only_writeVia (by simp [State.lands_wf h, hn]) h v _

theorem exec_i3cWrite : exec (.i3cWrite q n v) s = .next (i3cCommand n (setBits v 2 0 2) (s.answer 0)) :=
  only_writeVia (by simp [State.lands_wf h, hn]) h v _

theorem exec_i3cRead : exec (.i3cRead q n v) s = .next (i3cCommand n (setBits v 2 0 3) (s.answer 0)) :=
  only_writeVia (by simp [State.lands_wf h, hn]) h v _

theorem exec_i3cCcc : exec (.i3cCcc q n v) s = .next (i3cCommand n (setBits v 2 0 4) (s.answer 0)) :=
  only_writeVia (by simp [State.lands_wf h, hn]) h v _

end I3cRows

theorem i3cCommand_busy {n : Nat} {s : State} (h : s.flag (I3C_STAT n) 0 = true) (v : Word) : i3cCommand n v s = s := if_pos h

/-- The opcode a row writes takes the place of I3C_CMD's own; the address and the length stay. -/
theorem i3cCmd_fields (v : Word) {c : Nat} (hc : c < 8) : bits (setBits v 2 0 c) 2 0 = c ∧
    bits (setBits v 2 0 c) 10 4 = bits v 10 4 ∧ bits (setBits v 2 0 c) 23 16 = bits v 23 16 :=
  ⟨(bits_setBits_same _ _ _ _ (by decide) (by decide)).trans (Nat.mod_eq_of_lt hc),
    bits_setBits_other _ _ _ _ _ _ (by decide) (by decide) (by decide), bits_setBits_other _ _ _ _ _ _ (by decide) (by decide) (by decide)⟩

/-- What an idle controller does with a command, by its opcode. -/
theorem i3cCommand_idle {n : Nat} {s : State} (h : s.flag (I3C_STAT n) 0 = false) (v : Word) :
    let len := bits v 23 16
    let addr := byte (bits v 10 4 * 2)
    let x := s.i3cOf n
    i3cCommand n (setBits v 2 0 1) s = s.i3cStart n (setBits v 2 0 1) [0xFC, 0x07] ∧
    i3cCommand n (setBits v 2 0 2) s = (s.setI3c n { x with fifo := x.fifo.drop (ceilDiv len 4) }).i3cStart n (setBits v 2 0 2)
      (addr :: ((x.fifo.take (ceilDiv len 4)).flatMap fun w => leBytes 4 w.toNat).take len) ∧
    i3cCommand n (setBits v 2 0 3) s = s.i3cStart n (setBits v 2 0 3) [addr + 1] ∧
    i3cCommand n (setBits v 2 0 4) s =
      s.i3cStart n (setBits v 2 0 4) ([0xFC, byte len] ++ if 0x80 ≤ len then [addr] else []) := by
  have hidle : ¬s.flag (I3C_STAT n) 0 = true := ne_true_of_eq_false h
  refine ⟨?_, ?_, ?_, ?_⟩
  · refine (if_neg hidle).trans ?_
    rw [(i3cCmd_fields v (c := 1) (by decide)).1]
    rfl
  · obtain ⟨hop, haddr, hlen⟩ := i3cCmd_fields v (c := 2) (by decide)
    refine (if_neg hidle).trans ?_
    rw [hop, haddr, hlen]
    rfl
  · obtain ⟨hop, haddr, -⟩ := i3cCmd_fields v (c := 3) (by decide)
    refine (if_neg hidle).trans ?_
    rw [hop, haddr]
    rfl
  · obtain ⟨hop, haddr, hlen⟩ := i3cCmd_fields v (c := 4) (by decide)
    refine (if_neg hidle).trans ?_
    rw [hop, haddr, hlen]
    rfl

theorem State.flag_ioEmit (s : State) (o : Out) (k i : Nat) : (s.ioEmit o).flag k i = s.flag k i := by
  unfold State.ioEmit
  split
  · rfl
  · rfl

theorem State.i3cStart_busy (s : State) (n : Nat) (v : Word) (bytes : List Byte) : (s.i3cStart n v bytes).flag (I3C_STAT n) 0 = true := by
  unfold State.i3cStart
  dsimp only
  split
  · exact State.flag_setFlag_same _ _ _ _ (by decide)
  · exact (State.flag_ioEmit ..).trans (State.flag_setFlag_same _ _ _ _ (by decide))

theorem exec_i3cTransferDone {n : Nat} {s : State} (hn : n < 2) (on : s.pwr.chipOff = false)
    (he : s.flag (PAGE_CTRL (0x04D + n)) 0 = true) (nack : Bool) (data : List Byte) :
    exec (.i3cTransferDone n nack data) s = .next (i3cTransferDone n nack data s) := only_heldIdle (decide_eq_true hn) on he _

/-- The end of a command whose bytes are out. -/
theorem i3cTransferDone_out {n : Nat} {s : State} (hbusy : s.flag (I3C_STAT n) 0 = true) (hout : (s.i3cOf n).held = []) (nack : Bool)
    (data : List Byte) :
    i3cTransferDone n nack data s =
      let x := s.i3cOf n
      let got := if bits x.cmd 2 0 = 3 ∧ nack = false then fifoWords (data.take (bits x.cmd 23 16)) else []
      let u := ((s.setI3c n { fifo := (x.fifo ++ got).take 16 }).setFlag (I3C_STAT n) 0 false).setFlag (I3C_STAT n) 1 nack
      if n = 0 then u.autoNext else u := by
  refine (if_neg (by simp [hbusy, hout])).trans ?_
  simp only [Bool.not_eq_true']

/-! ### Auto-reads (R171) -/

section I3c0

variable {s : State} (on : s.pwr.chipOff = false)

include on

theorem exec_i3cIbi {n : Nat} (hn : n < 2) {addr : Nat} {payload : List Byte} (hlen : payload.length ≤ 8)
    (he : s.flag (PAGE_CTRL (0x04D + n)) 0 = true) : exec (.i3cIbi ⟨n, addr, payload⟩) s = .next (i3cIbi ⟨n, addr, payload⟩ s) :=
  only_heldIdle (decide_eq_true ⟨hn, hlen⟩) on he _

theorem exec_i3cAutoPeriod {k : Nat} (hk : k < 4) (he : s.flag (PAGE_CTRL 0x04D) 0 = true) :
    exec (.i3cAutoPeriod k) s = .next (i3cAutoPeriod k s) := only_heldIdle (decide_eq_true hk) on he _

theorem exec_i3cAutoReadDone {k : Nat} (hk : k < 4) (he : s.flag (PAGE_CTRL 0x04D) 0 = true) (data : List Byte) :
    exec (.i3cAutoReadDone k data) s = .next (i3cAutoReadDone k data s) := only_heldIdle (decide_eq_true hk) on he _

end I3c0

/-- `s` with entry `k` triggered where a trigger of kind `trig` for which `p` holds takes it. -/
def State.autoStep (trig : Nat) (p : Nat → Bool) (s : State) (k : Nat) : State :=
  if s.flag (I3C_AUTO k) 0 ∧ s.fld (I3C_AUTO k) 2 1 = trig ∧ p k then s.autoTrigger k else s

/-- Entry `k` after such a trigger. -/
def State.autoTriggered (s : State) (trig : Nat) (p : Nat → Bool) (k : Nat) : AutoRead :=
  if s.flag (I3C_AUTO k) 0 = true ∧ s.fld (I3C_AUTO k) 2 1 = trig ∧ p k = true then
    (if (s.autoRead k).wait = true then { s.autoRead k with merged := true } else ⟨true, s.now, false⟩) else s.autoRead k

@[simp] theorem State.autoRead_setAuto_same (s : State) (k : Nat) (x : AutoRead) : (s.setAuto k x).autoRead k = x :=
  Tab.get_set_same _ _ _

theorem State.autoRead_setAuto_other (s : State) {k j : Nat} (x : AutoRead) (h : j ≠ k) : (s.setAuto k x).autoRead j = s.autoRead j :=
  Tab.get_set_other _ _ h

section AutoStep

variable (trig : Nat) (p : Nat → Bool) (s : State) (k : Nat)

theorem State.autoTrigger_eq : s.autoTrigger k =
    s.setAuto k (if (s.autoRead k).wait = true then { s.autoRead k with merged := true } else ⟨true, s.now, false⟩) :=
  (apply_ite (s.setAuto k) _ _ _).symm

theorem State.autoStep_frame : State.autoStep trig p s k = { s with auto := (State.autoStep trig p s k).auto } := by
  unfold State.autoStep
  split
  · rw [State.autoTrigger_eq]
    rfl
  · rfl

theorem State.autoRead_autoStep_same : (State.autoStep trig p s k).autoRead k = s.autoTriggered trig p k := by
  unfold State.autoStep State.autoTriggered
  split
  · rw [State.autoTrigger_eq, State.autoRead_setAuto_same]
  · rfl

theorem State.autoRead_autoStep_other {j : Nat} (h : j ≠ k) : (State.autoStep trig p s k).autoRead j = s.autoRead j := by
  unfold State.autoStep
  split
  · rw [State.autoTrigger_eq, State.autoRead_setAuto_other _ _ h]
  · rfl

/-- A trigger of one entry leaves what decides on another. -/
theorem State.autoTriggered_autoStep_other {j : Nat} (h : j ≠ k) :
    (State.autoStep trig p s k).autoTriggered trig p j = s.autoTriggered trig p j := by
  have hread := s.autoRead_autoStep_other trig p k h
  rw [State.autoStep_frame] at hread ⊢
  unfold State.autoTriggered
  rw [hread]
  rfl

end AutoStep

/-- Entries are triggered one by one, each once. -/
theorem State.foldl_autoStep (trig : Nat) (p : Nat → Bool) {l : List Nat} (hl : l.Nodup) (s : State) (k : Nat) :
    (l.foldl (State.autoStep trig p) s).autoRead k = if k ∈ l then s.autoTriggered trig p k else s.autoRead k := by
  induction l generalizing s with
  | nil => rfl
  | cons j l ih =>
    obtain ⟨hj, hl⟩ := List.nodup_cons.1 hl
    rw [List.foldl_cons, ih hl]
    by_cases h : k = j
    · subst h
      rw [if_neg hj, if_pos List.mem_cons_self, State.autoRead_autoStep_same]
    · rw [State.autoTriggered_autoStep_other _ _ _ _ h, State.autoRead_autoStep_other _ _ _ _ h]
      simp [h]

theorem State.autoFire_enabled {s : State} (he : s.flag (PAGE_CTRL 0x04D) 0 = true) (trig : Nat) (p : Nat → Bool) :
    s.autoFire trig p = ((List.range 4).foldl (State.autoStep trig p) s).autoNext := State.heldIdle_enabled he _

theorem i3cAutoReadDone_current {k : Nat} {s : State} (hsoc : s.domOn 2 = true) (hcur : s.autoCur = some k) (data : List Byte) :
    i3cAutoReadDone k data s = ((s.setAuto k {}).autoRecord k (s.autoRead k) data).autoDone := if_neg (by simp [hsoc, hcur])

/-- Settles O29: a command by whether the controller is BUSY, a trigger by the entries it takes, an auto-read by whether stream 8 runs.
The bytes on the bus, the command ignored while BUSY and the IBI on I3C1 that does nothing are log entry 52. -/
theorem serialBusCommands : Obligations.SerialBusCommands := by
  unfold Obligations.SerialBusCommands
  refine ⟨?idle, ?busy, fun s n v bytes _ => s.i3cStart_busy n v bytes, ?done, ?ibi, ?fire, ?period, ?readDone⟩
  case idle =>
    intro q n v s hn h hidle u x len a
    rw [exec_entdaa hn h, exec_i3cWrite hn h, exec_i3cRead hn h, exec_i3cCcc hn h]
    obtain ⟨hentdaa, hwrite, hread, hccc⟩ := i3cCommand_idle (s := s.answer 0) hidle v
    exact ⟨congrArg _ hentdaa, congrArg _ hwrite, congrArg _ hread, congrArg _ hccc⟩
  case busy =>
    intro q n v s hn h hbusy
    have hkeep (w : Word) : i3cCommand n w (s.answer 0) = s.answer 0 := i3cCommand_busy (s := s.answer 0) hbusy w
    rw [exec_entdaa hn h, exec_i3cWrite hn h, exec_i3cRead hn h, exec_i3cCcc hn h, hkeep, hkeep, hkeep, hkeep]
    exact ⟨rfl, rfl, rfl, rfl⟩
  case done =>
    intro n nack data s hn on he hbusy hout x got u
    exact (exec_i3cTransferDone hn on he nack data).trans (congrArg _ (i3cTransferDone_out hbusy hout nack data))
  case ibi =>
    intro addr payload s hlen on
    refine ⟨fun he hsoc hpads => (exec_i3cIbi (n := 0) on (by decide) hlen he).trans (congrArg _ (if_pos ⟨hsoc, hpads, rfl⟩)),
      fun he => (exec_i3cIbi (n := 1) on (by decide) hlen he).trans (congrArg _ (if_neg ?_))⟩
    rintro ⟨-, -, h⟩
    exact Nat.one_ne_zero h
  case fire =>
    intro s trig p he
    refine ⟨_, State.autoFire_enabled he trig p, ?_, fun k hk => ?_⟩
    · exact foldl_keeps (fun x : State => x = { s with auto := x.auto }) _
        (fun x k hx => (State.autoStep_frame trig p x k).trans
          (congrArg (fun y : State => { y with auto := (State.autoStep trig p x k).auto }) hx)) _ s rfl
    · rw [State.foldl_autoStep trig p List.nodup_range, if_pos (List.mem_range.2 hk)]
      rfl
  case period =>
    intro k s hk on he hsoc
    exact (exec_i3cAutoPeriod on hk he).trans (congrArg _ (if_pos hsoc))
  case readDone =>
    intro k data s hk on he hsoc hcur x len body u
    have hexec := (exec_i3cAutoReadDone on hk he data).trans (congrArg _ (i3cAutoReadDone_current hsoc hcur data))
    exact ⟨fun hrun => hexec.trans (congrArg (fun y : State => Host.Outcome.next y.autoDone) (if_neg hrun)),
      fun hrun => hexec.trans (congrArg (fun y : State => Host.Outcome.next y.autoDone) (if_pos hrun))⟩

end Sys2Proof.Machine
end

section
namespace Sys2Proof.Machine

/-! ### GPIO (R187) -/

section Gpio

variable {s : State} (on : s.pwr.chipOff = false) (he : s.flag (PAGE_CTRL 0x04F) 0 = true)

include on he

theorem exec_gpioEdge {pin : Nat} (hpin : pin < 24) (rising : Bool) : exec (.gpioEdge pin rising) s = .next (gpioEdge pin rising s) :=
  only_heldIdle (decide_eq_true hpin) on he _

theorem exec_gpioFsyncPulse : exec .gpioFsyncPulse s = .next (gpioFsyncPulse s) := only_heldIdle rfl on he _

end Gpio

/-- Whether an edge selection takes an edge: 1 rising, 2 falling, 3 both. -/
def edgeTaken (sel : Nat) (rising : Bool) : Bool := sel == 3 || (sel == 1 && rising) || (sel == 2 && !rising)

/-- `s` with an edge of a pin in GPIO_IN and, where its selection takes it, in the page's interrupts. -/
def State.pinEdge (s : State) (pin : Nat) (rising : Bool) : State :=
  if edgeTaken (s.fld (GPIO_PIN pin) 7 6) rising then (s.setFlag GPIO_IN pin rising).irq 0x04F pin else s.setFlag GPIO_IN pin rising

section PinEdge

variable (s : State) {pin : Nat} (hpin : pin < 24) (rising : Bool)

theorem State.pinEdge_frame (pin : Nat) : s.pinEdge pin rising = { s with regs := (s.pinEdge pin rising).regs } := by
  unfold State.pinEdge
  split
  · rfl
  · rfl

theorem State.reg_pinEdge_other (pin : Nat) {k : Nat} (h : k ≠ GPIO_IN) (h' : k ≠ IRQ_RAW 0x04F) : (s.pinEdge pin rising).reg k = s.reg k := by
  unfold State.pinEdge
  split
  · exact (State.reg_irq_other _ h').trans (State.reg_setFlag_other _ _ _ h)
  · exact State.reg_setFlag_other _ _ _ h

include hpin

theorem State.pinEdge_in : (s.pinEdge pin rising).flag GPIO_IN pin = rising := by
  have hin : (s.setFlag GPIO_IN pin rising).flag GPIO_IN pin = rising := State.flag_setFlag_same _ _ _ _ (by omega)
  unfold State.pinEdge
  split
  · exact (State.flag_irq_other _ _ (by decide)).trans hin
  · exact hin

theorem State.pinEdge_irq : (s.pinEdge pin rising).flag (IRQ_RAW 0x04F) pin =
    (s.flag (IRQ_RAW 0x04F) pin || edgeTaken (s.fld (GPIO_PIN pin) 7 6) rising) := by
  unfold State.pinEdge
  split
  · rename_i htaken
    rw [State.flag_irq_same _ _ (by omega), htaken, Bool.or_true]
  · rename_i hnot
    rw [eq_false_of_ne_true hnot, Bool.or_false]
    exact State.flag_setFlag_other _ _ _ _ (by decide)

end PinEdge

/-- A trigger asks of the four entries alone. -/
theorem State.autoFire_congr (s : State) (trig : Nat) {p r : Nat → Bool} (h : ∀ k, k < 4 → p k = r k) :
    s.autoFire trig p = s.autoFire trig r := by
  unfold State.autoFire
  refine congrArg (fun u : State => s.heldIdle 77 u.autoNext) (List.foldl_rel (r := Eq) rfl fun k hk x y hxy => ?_)
  subst hxy
  rw [h k (List.mem_range.1 hk)]

theorem gpioEdge_on {pin : Nat} {s : State} (hsoc : s.domOn 2 = true) (rising : Bool) :
    gpioEdge pin rising s = (s.pinEdge pin rising).autoFire 1 fun k => s.fld (I3C_AUTO k) 12 8 == pin := by
  have hsel : (s.setFlag GPIO_IN pin rising).fld (GPIO_PIN pin) 7 6 = s.fld (GPIO_PIN pin) 7 6 :=
    State.fld_setReg_other _ _ _ _ (by unfold GPIO_PIN GPIO_IN; omega)
  have hauto (k : Nat) (hk : k < 4) : (s.pinEdge pin rising).fld (I3C_AUTO k) 12 8 = s.fld (I3C_AUTO k) 12 8 :=
    congrArg (bits · 12 8) (s.reg_pinEdge_other rising pin (by unfold I3C_AUTO GPIO_IN; omega) (by unfold I3C_AUTO IRQ_RAW; omega))
  have hedge : (if s.fld (GPIO_PIN pin) 7 6 = 3 ∨ (s.fld (GPIO_PIN pin) 7 6 = 1 ∧ rising = true) ∨
      (s.fld (GPIO_PIN pin) 7 6 = 2 ∧ (!rising) = true) then (s.setFlag GPIO_IN pin rising).irq 0x04F pin
      else s.setFlag GPIO_IN pin rising) = s.pinEdge pin rising := by
    unfold State.pinEdge
    simp only [edgeTaken, Bool.or_eq_true, Bool.and_eq_true, beq_iff_eq, or_assoc]
  refine (if_neg (by simp [hsoc])).trans ?_
  dsimp only
  rw [hsel, hedge]
  exact State.autoFire_congr _ _ fun k hk => by rw [hauto k hk]

/-- `s` with the frame synchronisation pulse of pin `p`, where it has one. -/
def State.fsyncPin (s : State) (p : Nat) : State :=
  if s.flag (GPIO_PIN p) 0 then (s.emit (.pin (0x100 + p) true)).emit (.pin (0x100 + p) false) else s

theorem State.fsyncPin_frame (s : State) (p : Nat) : s.fsyncPin p = { s with out := (s.fsyncPin p).out } := by
  unfold State.fsyncPin
  split
  · rfl
  · rfl

theorem State.mem_out_fsyncPin {s : State} {o : Out} (h : o ∈ s.out) (p : Nat) : o ∈ (s.fsyncPin p).out := by
  unfold State.fsyncPin
  split
  · exact .tail _ (.tail _ h)
  · exact h

theorem State.fsyncPin_pulse {s : State} {p : Nat} (h : s.flag (GPIO_PIN p) 0 = true) :
    .pin (0x100 + p) true ∈ (s.fsyncPin p).out ∧ .pin (0x100 + p) false ∈ (s.fsyncPin p).out := by
  unfold State.fsyncPin
  rw [if_pos h]
  exact ⟨.tail _ (.head _), .head _⟩

theorem State.foldl_fsyncPin_frame (l : List Nat) (s : State) :
    l.foldl State.fsyncPin s = { s with out := (l.foldl State.fsyncPin s).out } :=
  foldl_keeps (fun x : State => x = { s with out := x.out }) State.fsyncPin
    (fun x p hx => (x.fsyncPin_frame p).trans (congrArg (fun y : State => { y with out := (x.fsyncPin p).out }) hx)) l s rfl

/-- Every pin of the list that has the function pulses. -/
theorem State.foldl_fsyncPin_pulse {l : List Nat} {p : Nat} (hp : p ∈ l) (s : State) (h : s.flag (GPIO_PIN p) 0 = true) :
    .pin (0x100 + p) true ∈ (l.foldl State.fsyncPin s).out ∧ .pin (0x100 + p) false ∈ (l.foldl State.fsyncPin s).out := by
  induction l generalizing s with
  | nil => cases hp
  | cons j l ih =>
    rcases List.mem_cons.1 hp with rfl | hl
    · obtain ⟨hup, hdown⟩ := State.fsyncPin_pulse h
      exact foldl_keeps (fun x : State => .pin (0x100 + p) true ∈ x.out ∧ .pin (0x100 + p) false ∈ x.out) State.fsyncPin
        (fun x j hx => ⟨State.mem_out_fsyncPin hx.1 j, State.mem_out_fsyncPin hx.2 j⟩) l _ ⟨hup, hdown⟩
    · exact ih hl _ ((congrArg (State.flag · (GPIO_PIN p) 0) (s.fsyncPin_frame j)).trans h)

theorem gpioFsyncPulse_due {s : State} (hsoc : s.domOn 2 = true) (hdue : s.fsync = true) :
    gpioFsyncPulse s = (List.range 24).foldl State.fsyncPin { s with fsync := false } := if_neg (by simp [hsoc, hdue])

/-! ### SPI (R187) -/

theorem exec_spiXfer {q : Req} {s : State} (h : s.lands q SPI_XFER true = true) (v : Word) :
    exec (.spiXfer q v) s = .next (spiXfer v (s.answer 0)) := only_writeVia (State.lands_wf h) h v _

theorem exec_spiDone {s : State} (on : s.pwr.chipOff = false) (he : s.flag (PAGE_CTRL 0x050) 0 = true) (data : List Byte) :
    exec (.spiDone data) s = .next (spiDone data s) := only_heldIdle rfl on he _

theorem spiXfer_idle {s : State} (hidle : s.flag SPI_STAT 0 = false) (v : Word) :
    spiXfer v s =
      let u : State := { s with spi := v }
      let r := if bit v 16 then ([], u)
        else (u.unitRead (unitReq (u.pageOwner 0x050)) (u.reg64 SPI_ADDR_LO SPI_ADDR_HI) (bits v 15 0)).2
      (r.2.setFlag SPI_STAT 0 true).ioEmit (.spi (r.2.fld SPI_CFG 3 2) (r.2.fld SPI_CFG 1 0) (r.2.fld SPI_CFG 15 8) (bit v 16) r.1) := by
  refine (if_neg (ne_true_of_eq_false hidle)).trans ?_
  cases bit v 16 with
  | true => rfl
  | false => rfl

/-- The end of a transfer clears BUSY and sets the interrupt. -/
theorem State.spiEnded_flags (s : State) : ((s.setFlag SPI_STAT 0 false).irq 0x050 0).flag SPI_STAT 0 = false ∧
    ((s.setFlag SPI_STAT 0 false).irq 0x050 0).flag (IRQ_RAW 0x050) 0 = true :=
  ⟨(State.flag_irq_other _ _ (by decide)).trans (State.flag_setFlag_same _ _ _ _ (by decide)), State.flag_irq_same _ _ (by decide)⟩

/-- Settles O30: an edge by its selection, a pulse pin by pin, a transfer by its direction. That a pin leaves as 0x100 and its number, and
what a transfer's record carries, are log entry 52. -/
theorem pinAndSpiCommands : Obligations.PinAndSpiCommands := by
  unfold Obligations.PinAndSpiCommands
  refine ⟨?edge, ?fsync, ?xfer, ?done⟩
  case edge =>
    intro pin rising s hpin on he hsoc sel
    refine ⟨s.pinEdge pin rising, (exec_gpioEdge on he hpin rising).trans (congrArg _ (gpioEdge_on hsoc rising)),
      s.pinEdge_in hpin rising, (s.pinEdge_irq hpin rising).trans ?_, s.pinEdge_frame rising pin,
      fun k hk hk' => s.reg_pinEdge_other rising pin hk hk'⟩
    rw [edgeTaken, Bool.or_assoc, Bool.or_assoc, Bool.or_assoc]
  case fsync =>
    intro s on he hsoc hdue
    have hframe := State.foldl_fsyncPin_frame (List.range 24) { s with fsync := false }
    exact ⟨_, (exec_gpioFsyncPulse on he).trans (congrArg _ (gpioFsyncPulse_due hsoc hdue)), congrArg State.fsync hframe, hframe,
      fun p hp hfsync => State.foldl_fsyncPin_pulse (List.mem_range.2 hp) { s with fsync := false } hfsync⟩
  case xfer =>
    intro q v s h hidle u r
    exact (exec_spiXfer h v).trans (congrArg _ (spiXfer_idle (s := s.answer 0) hidle v))
  case done =>
    intro data s on he hbusy
    obtain ⟨hidle, hirq⟩ := State.spiEnded_flags { (if bit s.spi 16 = true then
        (s.unitWrite (unitReq (s.pageOwner 0x050)) (s.reg64 SPI_ADDR_LO SPI_ADDR_HI) (data.take (bits s.spi 15 0))).2 else s) with spi := 0 }
    exact ⟨_, (exec_spiDone on he data).trans (congrArg _ (if_neg (by simp [hbusy]))), hidle, hirq, rfl, rfl⟩

end Sys2Proof.Machine
end

section
namespace Sys2Proof.Machine

/-! ### The frame of a display (R173) -/

section Transmitter

variable {s : State} {n : Nat} (hn : n < 2) (on : s.pwr.chipOff = false) (he : s.flag (PAGE_CTRL (0x04A + n)) 0 = true)

include hn on he

theorem exec_dsiVsync : exec (.dsiVsync n) s = .next (dsiVsync n s) := only_heldIdle (decide_eq_true hn) on he _

theorem exec_dsiLatch : exec (.dsiLatch n) s = .next (dsiLatch n s) := only_heldIdle (decide_eq_true hn) on he _

theorem exec_dsiLine (line : Nat) (late : List Nat) : exec (.dsiLine n line late) s = .next (dsiLine n line late s) :=
  only_heldIdle (decide_eq_true hn) on he _

end Transmitter

theorem exec_layerSubmit {q : Req} {n l : Nat} {s : State} (hn : n < 2) (hl : l < 4) (h : s.lands q (LAYER_SUBMIT n l) true = true)
    (v : Word) : exec (.layerSubmit q n l v) s = .next (layerSubmit q n l v (s.answer 0)) :=
  only_writeVia (by simp [State.lands_wf h, hn, hl]) h v _

theorem exec_dsiDcs {q : Req} {n : Nat} {s : State} (hn : n < 2) (h : s.lands q (DSI_DCS n) true = true) (v : Word) :
    exec (.dsiDcs q n v) s = .next (dsiDcs n v (s.answer 0)) := only_writeVia (by simp [State.lands_wf h, hn]) h v _

theorem State.display_strmEvent (s : State) (st n : Nat) : (s.strmEvent st).display n = s.display n :=
  (congrArg (State.display · n) (s.strmEvent_frame st)).trans rfl

/-- The frame before is sent: the boundary comes, and a stream that it does not leave STOPPED begins its next frame. -/
theorem dsiVsync_sent {n : Nat} {s : State} (hon : s.dsiOn = true)
    (hsent : (s.display n).line.any (fun l => decide (l < s.dsiLines n)) = false) :
    dsiVsync n s =
      let u := s.strmBoundary (10 + n)
      let e := (u.strmEvent (10 + n)).irq (0x04A + n) 0
      let t := e.setDisplay n { e.display n with late := false, line := some 0 }
      if u.strmState (10 + n) = 0 then (u.setDisplay n { u.display n with line := none }).dcsFlush n
      else (if t.fld GPIO_FSYNC 24 24 = n then { t with fsync := true } else t).dcsFlush n := by
  refine (if_neg (by simp [hon, hsent])).trans ?_
  have hdisplay (u : State) : ((u.strmEvent (10 + n)).irq (0x04A + n) 0).display n = u.display n := u.display_strmEvent (10 + n) n
  dsimp only
  rw [hdisplay]

/-! ### The latch of the layers (R175) -/

theorem State.layer_setLayer_other (s : State) (n : Nat) {l j : Nat} (x : DLayer) (h : j ≠ l) :
    (s.setLayer n l x).layer n j = s.layer n j := by
  have hdisplay : (s.setLayer n l x).display n = { s.display n with layers := (s.display n).layers.set l x } := Tab.get_set_same _ _ _
  unfold State.layer at'
  rw [hdisplay]
  simp [List.getD_eq_getElem?_getD, List.getElem?_set_ne (Ne.symm h)]

/-- A layer past the list stays as an unlisted one, hidden. -/
theorem State.layer_setLayer_same (s : State) (n l : Nat) (x : DLayer) :
    (s.setLayer n l x).layer n l = x ∨ (s.setLayer n l x).layer n l = {} := by
  have hdisplay : (s.setLayer n l x).display n = { s.display n with layers := (s.display n).layers.set l x } := Tab.get_set_same _ _ _
  unfold State.layer at'
  rw [hdisplay]
  by_cases hl : l < (s.display n).layers.length
  · exact .inl (by simp [List.getD_eq_getElem?_getD, hl])
  · exact .inr (by simp [List.getD_eq_getElem?_getD, hl])

/-- Slots released one by one change no register but the one of their flags. -/
theorem State.foldl_clearFlag_keeps {c : Nat → Prop} {_ : DecidablePred c} (k : Nat) (l : List Nat) (s : State) :
    (l.foldl (fun s i => if c i then s.setFlag k i false else s) s).dsi = s.dsi ∧
    ∀ j, j ≠ k → (l.foldl (fun s i => if c i then s.setFlag k i false else s) s).reg j = s.reg j := by
  refine foldl_keeps (fun x : State => x.dsi = s.dsi ∧ ∀ j, j ≠ k → x.reg j = s.reg j) _ (fun x i hx => ?_) l s ⟨rfl, fun _ _ => rfl⟩
  obtain ⟨hdsi, hreg⟩ := hx
  split
  · exact ⟨hdsi, fun j hj => (x.reg_setFlag_other _ _ hj).trans (hreg j hj)⟩
  · exact ⟨hdsi, hreg⟩

/-- The latch of a layer puts its record in place and changes no register but LAYER_STAT; a layer that is not enabled becomes hidden. -/
theorem State.latchLayer_spec (s : State) (n l f : Nat) :
    ∃ (u : State) (x : DLayer), s.latchLayer n l f = u.setLayer n l x ∧ u.dsi = s.dsi ∧ (∀ k, k ≠ LAYER_STAT n l → u.reg k = s.reg k) ∧
      (s.flag (LAYER_CFG n l) 0 = false → x.hidden = true) := by
  unfold State.latchLayer
  dsimp only
  split
  · exact ⟨_, _, rfl, (State.setFld_dsi ..).trans (State.foldl_clearFlag_keeps ..).1,
      fun j hj => (State.reg_setFld_other _ _ _ _ hj).trans ((State.foldl_clearFlag_keeps ..).2 j hj), fun hoff => by rw [hoff]; rfl⟩
  · refine ⟨_, _, rfl, ?_, fun j hj => ?_, fun hoff => by rw [hoff]; rfl⟩
    · split
      · exact (State.bumpSat_dsi ..).trans (State.foldl_clearFlag_keeps ..).1
      · exact (State.foldl_clearFlag_keeps ..).1
    · split
      · exact (State.reg_bumpSat_other _ _ _ hj).trans ((State.foldl_clearFlag_keeps ..).2 j hj)
      · exact (State.foldl_clearFlag_keeps ..).2 j hj

section Latch

variable (s : State) (n l f : Nat)

/-- A latch leaves the enables of the layers. -/
theorem State.flag_latchLayer_cfg (j : Nat) : (s.latchLayer n l f).flag (LAYER_CFG n j) 0 = s.flag (LAYER_CFG n j) 0 := by
  obtain ⟨u, x, heq, -, hreg, -⟩ := s.latchLayer_spec n l f
  rw [heq]
  exact congrArg (bit · 0) (hreg _ (by unfold LAYER_CFG LAYER_STAT; omega))

/-- The latch of another layer leaves a layer as it is. -/
theorem State.layer_latchLayer_other {j : Nat} (h : j ≠ l) : (s.latchLayer n l f).layer n j = s.layer n j := by
  obtain ⟨u, x, heq, hdsi, -, -⟩ := s.latchLayer_spec n l f
  rw [heq, State.layer_setLayer_other _ _ _ h]
  exact congrArg (fun d : Tab Dsi => at' {} (d.get (fun _ => {}) n).layers j) hdsi

theorem State.latchLayer_hidden (h : s.flag (LAYER_CFG n l) 0 = false) : ((s.latchLayer n l f).layer n l).hidden = true := by
  obtain ⟨u, x, heq, -, -, hhidden⟩ := s.latchLayer_spec n l f
  rw [heq]
  rcases u.layer_setLayer_same n l x with hx | hx
  · rw [hx]
    exact hhidden h
  · rw [hx]

/-- After the latch of every layer those that are not enabled are hidden. -/
theorem State.foldl_latchLayer_hidden {ls : List Nat} (hl : l ∈ ls) (h : s.flag (LAYER_CFG n l) 0 = false) :
    ((ls.foldl (fun s j => s.latchLayer n j f) s).layer n l).hidden = true := by
  have hstep (x : State) (j : Nat) (hx : x.flag (LAYER_CFG n l) 0 = false ∧ (x.layer n l).hidden = true) :
      (x.latchLayer n j f).flag (LAYER_CFG n l) 0 = false ∧ ((x.latchLayer n j f).layer n l).hidden = true := by
    refine ⟨(x.flag_latchLayer_cfg n j f l).trans hx.1, ?_⟩
    by_cases hj : l = j
    · subst hj
      exact x.latchLayer_hidden n l f hx.1
    · rw [x.layer_latchLayer_other n j f hj]
      exact hx.2
  induction ls generalizing s with
  | nil => cases hl
  | cons j ls ih =>
    have hcfg := (s.flag_latchLayer_cfg n j f l).trans h
    rcases List.mem_cons.1 hl with rfl | hl
    · exact (foldl_keeps (fun x : State => x.flag (LAYER_CFG n l) 0 = false ∧ (x.layer n l).hidden = true) _ hstep ls _
        ⟨hcfg, s.latchLayer_hidden n l f h⟩).2
    · exact ih _ hl hcfg

end Latch

/-- The latch: the pose is read, the display pose made, every layer latched, DSI_FRAME counted up. -/
theorem dsiLatch_running {n : Nat} {s : State} (hon : s.dsiOn = true) (hst : s.strmState (10 + n) ≠ 0) :
    ∃ shown : List Byte, dsiLatch n s =
      let u := (s.readPose n).setDisplay n { (s.readPose n).display n with display := shown }
      let t := (List.range 4).foldl (fun x l => x.latchLayer n l (s.fld (DSI_FRAME n) 15 0)) u
      (t.setFld (DSI_FRAME n) 15 0 (s.fld (DSI_FRAME n) 15 0 + 1)).irq (0x04A + n) 1 :=
  ⟨_, if_neg (by simp [hon, hst])⟩

/-! ### The lines of a display (R173, R174, R177) -/

/-- `s` with active line `line` sent, its layers being `rows`: the columns of `late` are black, and the first of a frame that has a layer
takes the underrun. -/
def State.lineSent (s : State) (n line width : Nat) (late blank : List Nat) (rows : List (List (Option Word) × Nat)) : State :=
  let w := s.emit (.pixels n line ((List.range width).map fun i => if late.contains i then 0 else compose rows i) blank)
  if late.any (fun i => i < width && covered rows i) && !(w.display n).late then
    (((w.setDisplay n { w.display n with late := true }).bump (DSI_UNDERRUN n)).irq (0x04A + n) 2).strmUnderrun (10 + n)
  else w

/-- Where no layer is read every pixel is black, and none is late. -/
theorem State.lineSent_nil (s : State) (n line width : Nat) (late blank : List Nat) :
    s.lineSent n line width late blank [] = s.emit (.pixels n line (List.replicate width 0) blank) := by
  have hblack (i : Nat) : (if late.contains i then 0 else compose [] i) = 0 := ite_self _
  have hlate : (late.any fun i => i < width && covered [] i) = false := by simp [covered]
  unfold State.lineSent
  dsimp only
  simp only [hblack, hlate, List.map_const', List.length_range]
  rfl

/-- The line that is due goes out: blanking outside the active lines, else what the layers give while the stream runs. -/
theorem dsiLine_due {s : State} {n line : Nat} (hon : s.dsiOn = true) (hdue : (s.display n).line = some line) (hleft : line < s.dsiLines n)
    (late : List Nat) :
    let u := s.setDisplay n { s.display n with line := some (line + 1) }
    let first := (u.dsiV n).1 + (u.dsiV n).2.1
    let blank := [u.fld (DSI_HSYNC_HBP n) 15 0, u.fld (DSI_HSYNC_HBP n) 31 16, u.fld (DSI_HACT_HFP n) 31 16]
    let width := u.fld (DSI_HACT_HFP n) 15 0
    dsiLine n line late s =
      if line < first ∨ first + (u.dsiV n).2.2.1 ≤ line then (u.emit (.pixels n line [] blank)).dcsFlush n
      else if u.strmState (10 + n) = 1 ∧ u.life.bindStage < 2 then
        (u.layerLines n (line - first) width).2.lineSent n line width late blank (u.layerLines n (line - first) width).1
      else u.lineSent n line width late blank [] := by
  intro u first blank width
  refine (if_neg (by simp [hon, hdue, hleft])).trans (ite_congr rfl (fun _ => rfl) fun _ => ?_)
  simp only [State.lineSent, Bool.and_eq_true, beq_iff_eq, decide_eq_true_eq]
  by_cases hrun : u.strmState (10 + n) = 1 ∧ u.life.bindStage < 2
  · rw [if_pos hrun, if_pos hrun]
  · rw [if_neg hrun, if_neg hrun]

/-- Settles O31: a vsync by the state its boundary leaves, a latch layer by layer, a line by where it stands and whether the stream runs, a
submission by its tag. Black for late columns is log entry 50, a tag that counts in half of its range log entry 52. -/
theorem displayCommands : Obligations.DisplayCommands := by
  unfold Obligations.DisplayCommands
  refine ⟨?vsync, ?latch, ?line, ?submit, ?dcs⟩
  case vsync =>
    intro n s hn on he hon hsent u
    have hexec := (exec_dsiVsync hn on he).trans (congrArg _ (dsiVsync_sent hon hsent))
    exact ⟨fun hstop => hexec.trans (congrArg _ (if_pos hstop)), fun hgo => hexec.trans (congrArg _ (if_neg hgo))⟩
  case latch =>
    intro n s hn on he hon hst
    obtain ⟨shown, hlatch⟩ := dsiLatch_running hon hst
    refine ⟨_, _, (exec_dsiLatch hn on he).trans (congrArg _ hlatch), rfl, State.flag_irq_same _ _ (by decide), ?_, fun l hl hoff => ?_⟩
    · refine (State.fld_setReg_other _ _ _ _ (by unfold DSI_FRAME IRQ_RAW; omega)).trans ?_
      exact State.fld_setFld_same _ _ _ _ _ (by decide) (by decide)
    · exact State.foldl_latchLayer_hidden ((s.readPose n).setDisplay n { (s.readPose n).display n with display := shown }) n l _
        (List.mem_range.2 hl) hoff
  case line =>
    intro n line late s hn on he hon hdue hleft u first blank width
    have hexec := (exec_dsiLine hn on he line late).trans (congrArg _ (dsiLine_due hon hdue hleft late))
    have hin (h1 : first ≤ line) (h2 : line < first + (u.dsiV n).2.2.1) : ¬(line < first ∨ first + (u.dsiV n).2.2.1 ≤ line) := by omega
    refine ⟨fun hblank => hexec.trans (congrArg _ (if_pos hblank)), fun h1 h2 hstill => hexec.trans (congrArg _ ?_),
      fun h1 h2 hrun hbind => hexec.trans (congrArg _ ((if_neg (hin h1 h2)).trans (if_pos ⟨hrun, hbind⟩)))⟩
    have hno : ¬(u.strmState (10 + n) = 1 ∧ u.life.bindStage < 2) := by omega
    exact (if_neg (hin h1 h2)).trans ((if_neg hno).trans (State.lineSent_nil ..))
  case submit =>
    intro q n l v s hn hl h h3
    have hexec := exec_layerSubmit hn hl h v
    exact ⟨fun hold => hexec.trans (congrArg _ ((if_neg h3).trans (if_pos hold))),
      fun hnew => hexec.trans (congrArg _ ((if_neg h3).trans (if_neg (Nat.not_le_of_lt hnew))))⟩
  case dcs =>
    intro q n v s hn h
    have hexec := exec_dsiDcs hn h v
    exact ⟨fun hstop => hexec.trans (congrArg _ (if_pos hstop)), fun hgo => hexec.trans (congrArg _ (if_neg hgo))⟩

end Sys2Proof.Machine
end

section
/-! SUPPORT AND PROOFS. The always-on engine and the ply cascade (R188 to R202): the start and end of a program, the load of a model; the
scores, climbs, sleep timers and commands of the cascade, and the writes of a ply descriptor. -/

namespace Sys2Proof.Machine

/-! ### The programs of the engine (R189, R190) -/

section Engine

variable {s : State} (on : s.pwr.chipOff = false) (he : s.flag (PAGE_CTRL 0x008) 0 = true)

include on he

theorem exec_aieProgramStart (vision : Bool) : exec (.aieProgramStart vision) s = .next (aieStart vision s) := only_heldIdle rfl on he _

theorem exec_aieProgramDone (vision : Bool) : exec (.aieProgramDone vision) s = .next (aieDone vision s) := only_heldIdle rfl on he _

theorem exec_aieLoadDone : exec .aieLoadDone s = .next (aieLoadDone s) := only_heldIdle rfl on he _

end Engine

theorem exec_aieLoadCmd {q : Req} {s : State} (h : s.lands q AIE_LOAD_CMD true = true) (v : Word) :
    exec (.aieLoadCmd q v) s = .next (aieLoad v (s.answer 0)) := only_writeVia (State.lands_wf h) h v _

/-- Arbitration moves the pointers alone, and of the state it asks for them alone. -/
theorem State.arbitrate_withAie (s : State) (x : Aie) (a n : Nat) (reqs : List Nat) :
    ({ s with aie := x } : State).arbitrate a n reqs false =
      ((s.arbitrate a n reqs false).1, { s with aie := x, ptrs := (s.arbitrate a n reqs false).2.ptrs }) := by
  cases hpick : rotatePick n (s.ptrs.get (fun _ => 0) a) reqs with
  | none =>
    rw [State.arbitrate_none hpick]
    exact State.arbitrate_none hpick
  | some w =>
    rw [State.arbitrate_some hpick]
    exact State.arbitrate_some hpick

/-- Whether a program's input is ready. -/
def State.aieInput (s : State) (vision : Bool) : Bool := if vision then s.aie.vision.isSome else s.aie.audioReady

/-- The engine without a program's ready input. -/
def State.aieDropped (s : State) (vision : Bool) : Aie :=
  if vision then { s.aie with vision := none } else { s.aie with audioReady := false }

/-- The engine with a program's ready input taken as that of its run: the frame offered, or the newest feature frames, oldest first. -/
def State.aieTaken (s : State) (vision : Bool) : Aie :=
  if vision then { s.aieDropped vision with visionIn := s.aie.vision.getD [] }
  else { s.aieDropped vision with audioIn := (s.aie.frames.take (leNat (slice s.aie.model 11 1))).reverse.flatten }

/-- What becomes of a ready input: dropped where its program may not run, kept while a program runs or where the other is picked, taken
else. -/
theorem aieStart_ready {vision : Bool} {s : State} (hin : s.aieInput vision = true) :
    aieStart vision s =
      let pick := s.arbitrate 0x100 2 s.aieReady false
      if s.aieRuns vision = false then { s with aie := s.aieDropped vision }
      else if s.flag AIE_STATUS 1 = true ∨ s.flag AIE_STATUS 2 = true ∨ pick.1 ≠ some vision.toNat then s
      else ({ s with aie := s.aieTaken vision, ptrs := pick.2.ptrs } : State).setFlag AIE_STATUS (1 + vision.toNat) true := by
  have hdrop : (if vision then ({ s with aie.vision := none } : State) else { s with aie.audioReady := false }) =
      { s with aie := s.aieDropped vision } := by
    cases vision with
    | true => rfl
    | false => rfl
  unfold aieStart
  simp only [hdrop, State.arbitrate_withAie]
  refine (if_neg (ne_true_of_eq_false (congrArg not hin))).trans (ite_congr (by simp) (fun _ => rfl) fun _ => ite_congr rfl (fun _ => rfl)
    fun _ => ?_)
  cases vision with
  | true => rfl
  | false => rfl

theorem aieDone_running {vision : Bool} {s : State} (hrun : s.flag AIE_STATUS (1 + vision.toNat) = true) (hosc : s.refoscOk = true) :
    aieDone vision s = ((s.runProgram vision (if vision then s.aie.visionIn else s.aie.audioIn)).setFlag AIE_STATUS
      (1 + vision.toNat) false).irq 0x008 vision.toNat := if_neg (by simp [hrun, hosc])

/-! ### The load of a model (R191) -/

theorem aieLoad_start {v : Word} {s : State} (hv : bit v 0 = true) (hidle : s.flag AIE_STATUS 3 = false) :
    aieLoad v s = ((s.setFlag AIE_STATUS 3 true).setFlag AIE_STATUS 1 false).setFlag AIE_STATUS 2 false := if_neg (by simp [hv, hidle])

/-- `s` with a model that passes its checks in the model memory, and MODEL_VALID by whether it passes. -/
def State.modelTaken (s : State) (m : List Byte) : State :=
  (if Machine.modelOk m then ({ s with aie := { s.aie with model := m.take 32768 } } : State) else s).setFlag AIE_STATUS 0 (Machine.modelOk m)

theorem State.takeModel_eq (s : State) (m : List Byte) : s.takeModel m = (Machine.modelOk m, s.modelTaken m) := by
  unfold State.takeModel State.modelTaken
  cases Machine.modelOk m with
  | true => rfl
  | false => rfl

theorem State.aie_modelTaken {m : List Byte} (h : Machine.modelOk m = true) (s : State) :
    (s.modelTaken m).aie = { s.aie with model := m.take 32768 } := by
  unfold State.modelTaken
  rw [if_pos h]
  rfl

/-- `s` with the load of `m` ended: a model that fails its checks is captured as BAD_MODEL. -/
def State.loadEnded (s : State) (m : List Byte) : State :=
  let u := ((s.modelTaken m).setFlag AIE_STATUS 3 false).irq 0x008 2
  if Machine.modelOk m then u else u.err 0x008 0x118 0x10 true (unitReq 0)

/-- A load whose header and model are read ends with the model. -/
theorem aieLoadDone_read {s u w : State} {h m : List Byte} (hload : s.flag AIE_STATUS 3 = true)
    (hhead : s.unitRead (unitReq 0) (s.base64 AIE_LOAD_ADDR_LO AIE_LOAD_ADDR_HI) 64 = (0, h, u)) (hlen : leNat (slice h 4 4) ≤ 32768)
    (hmodel : u.unitRead (unitReq 0) (s.base64 AIE_LOAD_ADDR_LO AIE_LOAD_ADDR_HI) (leNat (slice h 4 4)) = (0, m, w)) :
    aieLoadDone s = w.loadEnded m := by
  have hshort : ¬((0 : Nat) ≠ 0 ∨ 32768 < leNat (slice h 4 4)) := by omega
  refine (if_neg (by simp [hload])).trans ?_
  simp only [hhead, if_neg hshort, hmodel, State.takeModel_eq, if_true]
  rfl

/-- An error captured touches ERR_CODE, ERR_INFO and bit 30 of IRQ_RAW. -/
theorem State.flag_err_other (s : State) {p k i : Nat} (off code : Nat) (wr : Bool) (q : Req) (hcode : k ≠ ERR_CODE p)
    (hinfo : k ≠ ERR_INFO p) (hirq : k = IRQ_RAW p → i ≠ 30) : (s.err p off code wr q).flag k i = s.flag k i := by
  unfold State.err
  split
  · rfl
  · split
    · have hset : ((s.setReg (ERR_CODE p) (word code)).setReg (ERR_INFO p)
          (word (off + wr.toNat * 0x1000 + q.cls % 8 * 0x2000 + q.index % 64 * 0x10000))).flag k i = s.flag k i :=
        (State.flag_setReg_other _ _ _ hinfo).trans (State.flag_setReg_other _ _ _ hcode)
      by_cases hk : k = IRQ_RAW p
      · subst hk
        rw [State.irq_flag _ _ _ _ (by decide), if_neg (hirq rfl), hset]
      · rw [State.flag_irq_other _ _ hk, hset]
    · exact State.flag_setFlag_other _ _ _ _ hcode

section LoadEnded

variable (s : State) (m : List Byte)

/-- BAD_MODEL leaves AIE_STATUS and the interrupt of the load. -/
theorem State.flag_loadEnded {k i : Nat} (hcode : k ≠ ERR_CODE 0x008) (hinfo : k ≠ ERR_INFO 0x008) (hi : i ≠ 30) :
    (s.loadEnded m).flag k i = (((s.modelTaken m).setFlag AIE_STATUS 3 false).irq 0x008 2).flag k i := by
  unfold State.loadEnded
  dsimp only
  split
  · rfl
  · exact State.flag_err_other _ _ _ _ _ hcode hinfo fun _ => hi

theorem State.loadEnded_status : (s.loadEnded m).flag AIE_STATUS 3 = false ∧ (s.loadEnded m).flag AIE_STATUS 0 = Machine.modelOk m := by
  have hstat {i : Nat} (hi : i ≠ 30) : (s.loadEnded m).flag AIE_STATUS i = ((s.modelTaken m).setFlag AIE_STATUS 3 false).flag AIE_STATUS i :=
    (s.flag_loadEnded m (by decide) (by decide) hi).trans (State.flag_irq_other _ _ (by decide))
  constructor
  · exact (hstat (by decide)).trans (State.flag_setFlag_same _ _ _ _ (by decide))
  · rw [hstat (by decide), State.flag_setFlag_bit _ _ _ _ _ (by decide) (by decide)]
    exact State.flag_setFlag_same _ _ _ _ (by decide)

theorem State.loadEnded_irq : (s.loadEnded m).flag (IRQ_RAW 0x008) 2 = true :=
  (s.flag_loadEnded m (by decide) (by decide) (by decide)).trans (State.flag_irq_same _ _ (by decide))

theorem State.loadEnded_aie (h : Machine.modelOk m = true) : (s.loadEnded m).aie = { s.aie with model := m.take 32768 } := by
  unfold State.loadEnded
  rw [if_pos h]
  exact s.aie_modelTaken h

end LoadEnded

/-- Settles O24: a ready input by what becomes of it, the end of a program and the start of a load past their guards, the end of a load
by the state it leaves. That the page's ENABLE holds the engine idle is log entry 34. -/
theorem alwaysOnEngineCommands : Obligations.AlwaysOnEngineCommands := by
  unfold Obligations.AlwaysOnEngineCommands
  refine ⟨?start, ?turnedAway, ?done, ?load, ?loadDone⟩
  case start =>
    intro vision s on he hin hruns haudio hvision hpick
    have hfree : ¬(s.flag AIE_STATUS 1 = true ∨ s.flag AIE_STATUS 2 = true ∨
        (s.arbitrate 0x100 2 s.aieReady false).1 ≠ some vision.toNat) := by simp [haudio, hvision, hpick]
    refine ⟨_, (exec_aieProgramStart on he vision).trans (congrArg _ ((aieStart_ready hin).trans
      ((if_neg (by simp [hruns])).trans (if_neg hfree)))), State.flag_setFlag_same _ _ _ _ (by cases vision <;> decide), ?_, ?_, rfl,
      fun k hk => State.reg_setFlag_other _ _ _ hk⟩
    · rintro rfl
      rfl
    · rintro rfl
      rfl
  case turnedAway =>
    intro vision s on he hin
    have hexec := (exec_aieProgramStart on he vision).trans (congrArg _ (aieStart_ready hin))
    refine ⟨fun hruns hbusy => hexec.trans (congrArg _ ((if_neg (by simp [hruns])).trans (if_pos (hbusy.imp_right .inl)))),
      fun hno => hexec.trans (congrArg _ (if_pos hno))⟩
  case done =>
    intro vision s on he hrun hosc
    rw [exec_aieProgramDone on he, aieDone_running hrun hosc]
  case load =>
    intro q v s h hv hidle
    refine ⟨_, (exec_aieLoadCmd h v).trans (congrArg _ (aieLoad_start hv hidle)), ?_, ?_, ?_, rfl, rfl, fun k hk => ?_⟩
    · rw [State.flag_setFlag_bit _ _ _ _ _ (by decide) (by decide), State.flag_setFlag_bit _ _ _ _ _ (by decide) (by decide)]
      exact State.flag_setFlag_same _ _ _ _ (by decide)
    · rw [State.flag_setFlag_bit _ _ _ _ _ (by decide) (by decide)]
      exact State.flag_setFlag_same _ _ _ _ (by decide)
    · exact State.flag_setFlag_same _ _ _ _ (by decide)
    · rw [State.reg_setFlag_other _ _ _ hk, State.reg_setFlag_other _ _ _ hk, State.reg_setFlag_other _ _ _ hk, State.reg_answer]
  case loadDone =>
    intro s u w h m on he hload hhead hlen hmodel
    obtain ⟨hended, hvalid⟩ := w.loadEnded_status m
    exact ⟨_, (exec_aieLoadDone on he).trans (congrArg _ (aieLoadDone_read hload hhead hlen hmodel)), hended, hvalid, w.loadEnded_irq m,
      w.loadEnded_aie m⟩

end Sys2Proof.Machine
end

section
namespace Sys2Proof.Machine

/-! ### Scores and commands of the cascade (R192, R196, R197) -/

section Ply

variable {s : State} {j : Nat} (hj : j < 4) (on : s.pwr.chipOff = false) (he : s.flag (PAGE_CTRL 0x007) 0 = true)

include hj on he

theorem exec_plyActive : exec (.plyActive j) s = .next (plyActive j s) := only_heldIdle (decide_eq_true hj) on he _

theorem exec_plySleepTimerExpiry : exec (.plySleepTimerExpiry j) s = .next (plySleep j s) := only_heldIdle (decide_eq_true hj) on he _

end Ply

theorem exec_cascScoreIn {q : Req} {j : Nat} {s : State} (hj : j < 8) (h : s.lands q (CASC_SCORE_IN j) true = true) (v : Word) :
    exec (.cascScoreIn q j v) s = .next (cascScoreIn j v (s.answer 0)) := only_writeVia (by simp [State.lands_wf h, hj]) h v _

theorem exec_descendAll {q : Req} {s : State} (h : s.lands q CASC_CMD true = true) (v : Word) :
    exec (.descendAll q v) s = .next (cascCommand (setBit v 0 true) (s.answer 0)) := only_writeVia (State.lands_wf h) h _ _

theorem exec_keep {q : Req} {s : State} (h : s.lands q CASC_CMD true = true) (v : Word) :
    exec (.keep q v) s = .next (cascCommand v (s.answer 0)) := only_writeVia (State.lands_wf h) h v _

theorem exec_descCfgWrite {q : Req} {j w : Nat} {s : State} (hj : j < 4) (hw : w < 8) (h : s.lands q (DESC_CFG j + 4 * w) true = true)
    (v : Word) : exec (.descCfgWrite q j w v) s = .next (descWrite q (DESC_CFG j + 4 * w) v (s.answer 0)) :=
  only_writeVia (by simp [State.lands_wf h, hj, hw]) h v _

theorem State.plyOf_setPly_same (s : State) (j : Nat) (x : Ply) : (s.setPly j x).plyOf j = x := Tab.get_set_same _ _ _

theorem State.plyOf_setPly_other (s : State) {j i : Nat} (x : Ply) (h : i ≠ j) : (s.setPly j x).plyOf i = s.plyOf i :=
  Tab.get_set_other _ _ h

/-- The plies that KEEP and DESCEND_ALL speak of. -/
theorem mem_plies {j : Nat} : j ∈ [1, 2, 3] ↔ 1 ≤ j ∧ j ≤ 3 := by
  simp only [List.mem_cons, List.not_mem_nil, or_false]
  omega

/-- Ply `j` with its due descent cleared and its sleep timer restarted. -/
def State.plyKept (s : State) (j : Nat) : Ply := { s.plyOf j with due := false, timer := s.now }

/-- `s` with ply `j` kept where `v` names it. -/
def State.keepPly (v : Word) (s : State) (j : Nat) : State := if bit v (4 + j) then s.setPly j (s.plyKept j) else s

section Keep

variable (v : Word) (s : State)

theorem State.keepPly_frame (j : Nat) : s.keepPly v j = { s with ply := (s.keepPly v j).ply } := by
  unfold State.keepPly
  split
  · rfl
  · rfl

theorem State.plyOf_keepPly_same (j : Nat) : (s.keepPly v j).plyOf j = if bit v (4 + j) = true then s.plyKept j else s.plyOf j := by
  unfold State.keepPly
  split
  · exact s.plyOf_setPly_same j _
  · rfl

theorem State.plyOf_keepPly_other {i j : Nat} (h : i ≠ j) : (s.keepPly v j).plyOf i = s.plyOf i := by
  unfold State.keepPly
  split
  · exact s.plyOf_setPly_other _ h
  · rfl

/-- Keeping one ply leaves what another becomes by being kept. -/
theorem State.plyKept_keepPly_other {i j : Nat} (h : i ≠ j) : (s.keepPly v j).plyKept i = s.plyKept i := by
  have hply := s.plyOf_keepPly_other v h
  rw [State.keepPly_frame] at hply ⊢
  unfold State.plyKept
  rw [hply]
  rfl

theorem State.foldl_keepPly_frame (l : List Nat) :
    l.foldl (State.keepPly v) s = { s with ply := (l.foldl (State.keepPly v) s).ply } :=
  foldl_keeps (fun t : State => t = { s with ply := t.ply }) _ (fun t i ht => by
    rw [t.keepPly_frame v i]
    exact congrArg (fun x : State => { x with ply := (t.keepPly v i).ply }) ht) l s rfl

/-- Plies are kept one by one, each once. -/
theorem State.plyOf_foldl_keepPly {l : List Nat} (hl : l.Nodup) (i : Nat) :
    (l.foldl (State.keepPly v) s).plyOf i = if i ∈ l ∧ bit v (4 + i) = true then s.plyKept i else s.plyOf i := by
  induction l generalizing s with
  | nil => simp
  | cons j l ih =>
    obtain ⟨hj, hl⟩ := List.nodup_cons.1 hl
    rw [List.foldl_cons, ih _ hl]
    by_cases h : i = j
    · subst h
      simp [hj, State.plyOf_keepPly_same]
    · rw [State.plyKept_keepPly_other _ _ h, State.plyOf_keepPly_other _ _ h]
      simp [h]

/-- Where no ply is named none is kept. -/
theorem State.foldl_keepPly_none {l : List Nat} (h : ∀ j ∈ l, bit v (4 + j) = false) : l.foldl (State.keepPly v) s = s := by
  induction l with
  | nil => rfl
  | cons j l ih =>
    have hskip : s.keepPly v j = s := if_neg (by simp [h j List.mem_cons_self])
    rw [List.foldl_cons, hskip]
    exact ih fun i hi => h i (List.mem_cons_of_mem _ hi)

end Keep

/-- `s` with ply `j` descended, but for one that is down or began to climb in this tick (R197). -/
def State.descendPly (s : State) (j : Nat) : State :=
  if s.plyUp j && !(s.plyState j == 1 && (s.plyOf j).t0 == s.now) then s.plyDescend j else s

/-- CASC_CMD keeps the plies it names, then with DESCEND_ALL descends them from the top. -/
theorem cascCommand_enabled {s : State} (he : s.flag (PAGE_CTRL 0x007) 0 = true) (v : Word) :
    cascCommand v s = if bit v 0 = true then [3, 2, 1].foldl State.descendPly ([1, 2, 3].foldl (State.keepPly v) s)
      else [1, 2, 3].foldl (State.keepPly v) s := State.heldIdle_enabled he _

/-! ### Climbs and sleep timers (R194, R196) -/

/-- A log entry is written at 0x400 and above, and counted. -/
theorem State.reg_cascLog_other (s : State) (j kind x : Nat) {k : Nat} (hcount : k ≠ CASC_LOG_WPTR) (hlow : k < 0x7400) :
    (s.cascLog j kind x).reg k = s.reg k := by
  have hlog (e w : Nat) : k ≠ CASC_LOG e w := by unfold CASC_LOG; omega
  unfold State.cascLog State.setReg64 State.bump
  dsimp only
  rw [State.reg_setReg_other _ _ hcount, State.reg_setReg_other _ _ (hlog _ _), State.reg_setReg_other _ _ (hlog _ _),
    State.reg_setReg_other _ _ (hlog _ _), State.reg_setReg_other _ _ (hlog _ _)]

/-- `s` with ply `j` ACTIVE after a climb of `time`. -/
def State.plyClimbed (s : State) (j time : Nat) : State :=
  let a := ((s.setPlyState j 2).setFld (DESC_STAT j) 15 0 time).cascLog j 1 time
  (a.setPly j { a.plyOf j with timer := a.now }).irq 0x007 0

theorem plyActive_climbing {s : State} {j : Nat} (hclimb : s.plyState j = 1) (hdoms : (s.plyDoms j).all s.domOn = true) :
    plyActive j s = (s.plyClimbed j (min 65535 ((s.now - (s.plyOf j).t0) * 10 / 96))).cascNotify := if_pos ⟨hclimb, hdoms⟩

section Climbed

variable (s : State) {j : Nat} (time : Nat)

/-- The log, the timer and the interrupt leave the registers of the plies. -/
theorem State.reg_plyClimbed {k : Nat} (hirq : k ≠ IRQ_RAW 0x007) (hcount : k ≠ CASC_LOG_WPTR) (hlow : k < 0x7400) :
    (s.plyClimbed j time).reg k = ((s.setPlyState j 2).setFld (DESC_STAT j) 15 0 time).reg k :=
  calc
    _ = (((s.setPlyState j 2).setFld (DESC_STAT j) 15 0 time).cascLog j 1 time).reg k :=
      (State.reg_irq_other _ hirq).trans (State.reg_congr (State.setPly_regs ..) k)
    _ = ((s.setPlyState j 2).setFld (DESC_STAT j) 15 0 time).reg k := State.reg_cascLog_other _ _ _ _ hcount hlow

theorem State.plyState_setPlyState (hj : j < 4) {v : Nat} (hv : v < 4) : (s.setPlyState j v).plyState j = v := by
  have hwidth : 2 * j + 1 + 1 - 2 * j = 2 := by omega
  refine (State.fld_setFld_same _ _ _ _ _ (by omega) (by omega)).trans ?_
  rw [hwidth]
  exact Nat.mod_eq_of_lt hv

theorem State.plyState_plyClimbed (hj : j < 4) : (s.plyClimbed j time).plyState j = 2 := by
  have hreg : (s.plyClimbed j time).reg CASC_STATUS = (s.setPlyState j 2).reg CASC_STATUS :=
    (s.reg_plyClimbed time (by decide) (by decide) (by decide)).trans
      (State.reg_setFld_other _ _ _ _ (by unfold CASC_STATUS DESC_STAT; omega))
  exact (congrArg (bits · (2 * j + 1) (2 * j)) hreg).trans (s.plyState_setPlyState hj (by decide))

theorem State.climbTime_plyClimbed (hj : j < 4) (htime : time < 65536) : (s.plyClimbed j time).fld (DESC_STAT j) 15 0 = time := by
  have hreg := s.reg_plyClimbed (j := j) time (k := DESC_STAT j) (by unfold DESC_STAT IRQ_RAW; omega)
    (by unfold DESC_STAT CASC_LOG_WPTR; omega) (by unfold DESC_STAT; omega)
  refine (congrArg (bits · 15 0) hreg).trans ((State.fld_setFld_same _ _ _ _ _ (by decide) (by decide)).trans ?_)
  exact Nat.mod_eq_of_lt htime

end Climbed

/-- A sleep timer that is over makes the descent due, and the due descents that may go on do. -/
theorem plySleep_over {s : State} {j : Nat} (hj : 1 ≤ j) (hup : s.plyState j = 2) (hset : s.fld (DESC_SLEEP j) 15 0 ≠ 0)
    (hover : (s.plyOf j).timer + 38400 * s.fld (DESC_SLEEP j) 15 0 ≤ s.now) :
    plySleep j s = State.plySettle 3 (s.setPly j { s.plyOf j with due := true }) := if_neg (by omega)

/-! ### Descriptors (R195, R202) -/

/-- Word `w` of descriptor `j` by its offset in the page. -/
theorem keyOff_desc {j w : Nat} (hj : j < 4) (hw : w < 8) :
    (keyOff (DESC_CFG j + 4 * w) - 0x200) / 0x20 = j ∧ keyOff (DESC_CFG j + 4 * w) % 0x20 / 4 = w := by
  unfold keyOff DESC_CFG
  omega

/-- `s` with DESC_CFG of ply `j` written, but for ARMED and RUN. -/
def State.descCfgSet (s : State) (j : Nat) (v : Word) : State :=
  s.setReg (DESC_CFG j) ((s.reg (DESC_CFG j) &&& 0xFF0000) ||| (v &&& 0xFFBF))

/-- Word 0 of a ply that has not FAILED is stored; a NEXT that is refused stays as it was, with the code. -/
theorem descWrite_cfg {q : Req} {j : Nat} {v : Word} {s : State} (hj : j < 4) (hst : s.plyState j ≠ 3) :
    descWrite q (DESC_CFG j) v s =
      let refused := (s.descCfgSet j v).setFld (DESC_CFG j) 5 4 (s.fld (DESC_CFG j) 5 4)
      if bits v 5 4 = s.fld (DESC_CFG j) 5 4 then s.descCfgSet j v
      else if s.plyUp j then refused.fail q (DESC_CFG j) 0x10
      else if bits v 5 4 ≠ 0 ∧ bits v 5 4 ≤ j then refused.fail q (DESC_CFG j) 0x11
      else s.descCfgSet j v := by
  obtain ⟨hply, hword⟩ := keyOff_desc hj (w := 0) (by decide)
  rw [Nat.mul_zero, Nat.add_zero] at hply hword
  unfold descWrite
  simp only [hply, hword, if_neg hst]
  rfl

/-- Another word of a ply that is not up is stored by its access codes. -/
theorem descWrite_other {q : Req} {j w : Nat} {v : Word} {s : State} (hj : j < 4) (hw : w < 8) (h0 : 1 ≤ w) (hdown : s.plyUp j = false) :
    descWrite q (DESC_CFG j + 4 * w) v s = s.plainWrite (DESC_CFG j + 4 * w) v := by
  obtain ⟨hply, hword⟩ := keyOff_desc hj hw
  unfold descWrite
  simp only [hply, hword, hdown]
  rw [if_neg (by omega), if_neg (by simp)]

/-- Settles O25: a climb and a sleep timer past their guards, CASC_CMD by the plies it keeps and descends, a descriptor's word 0 by what
becomes of its NEXT. That a NEXT is refused while the rest of the word is stored is log entry 55. -/
theorem cascadeCommands : Obligations.CascadeCommands := by
  unfold Obligations.CascadeCommands
  refine ⟨?score, ?active, ?sleep, ?descend, ?keep, ?same, ?next, ?other⟩
  case score =>
    intro q j v s hj h
    exact exec_cascScoreIn hj h v
  case active =>
    intro j s hj on he hclimb hdoms time a u
    have htime : time < 65536 := Nat.lt_of_le_of_lt (Nat.min_le_left ..) (by decide)
    exact ⟨(exec_plyActive hj on he).trans (congrArg _ (plyActive_climbing hclimb hdoms)), s.plyState_plyClimbed time hj,
      s.climbTime_plyClimbed time hj htime⟩
  case sleep =>
    intro j s h1 hj on he hup hset hover
    rw [exec_plySleepTimerExpiry hj on he, plySleep_over h1 hup hset hover]
  case descend =>
    intro q v s h he hv
    have hnone : ∀ j ∈ [1, 2, 3], bit (setBit v 0 true) (4 + j) = false := fun j hj => by
      obtain ⟨h1, h3⟩ := mem_plies.1 hj
      rw [bit_setBit _ _ _ _ (by decide), if_neg (by omega), hv j h1 h3]
    have hall : bit (setBit v 0 true) 0 = true := by rw [bit_setBit _ _ _ _ (by decide), if_pos rfl]
    refine (exec_descendAll h v).trans (congrArg _ ((cascCommand_enabled (s := s.answer 0) he _).trans ((if_pos hall).trans ?_)))
    rw [State.foldl_keepPly_none _ _ hnone]
    rfl
  case keep =>
    intro q v s h he hv
    refine ⟨_, (exec_keep h v).trans (congrArg _ ((cascCommand_enabled (s := s.answer 0) he v).trans (if_neg (by simp [hv])))),
      (s.answer 0).foldl_keepPly_frame v _, fun j => ?_⟩
    have hnamed : j ∈ [1, 2, 3] ∧ bit v (4 + j) = true ↔ 1 ≤ j ∧ j ≤ 3 ∧ bit v (4 + j) = true := by rw [mem_plies, and_assoc]
    exact ((s.answer 0).plyOf_foldl_keepPly v (by decide) j).trans (ite_congr (propext hnamed) (fun _ => rfl) fun _ => rfl)
  case same =>
    intro q j v s hj h hsame hst
    exact (exec_descCfgWrite hj (w := 0) (by decide) h v).trans (congrArg _ ((descWrite_cfg (s := s.answer 0) hj hst).trans (if_pos hsame)))
  case next =>
    intro q j v s hj h hnew hst u
    have hexec := (exec_descCfgWrite hj (w := 0) (by decide) h v).trans
      (congrArg _ ((descWrite_cfg (s := s.answer 0) hj hst).trans (if_neg hnew)))
    exact ⟨fun hup => hexec.trans (congrArg _ (if_pos hup)),
      fun hdown h0 hle => hexec.trans (congrArg _ ((if_neg (ne_true_of_eq_false hdown)).trans (if_pos ⟨h0, hle⟩)))⟩
  case other =>
    intro q j w v s hj h1 hw h hdown
    exact (exec_descCfgWrite hj hw h v).trans (congrArg _ (descWrite_other hj hw h1 hdown))

end Sys2Proof.Machine
end

section
/-! SUPPORT AND PROOFS. Mailboxes (R207 to R210, R221, R222): what the evaluation of the event condition leaves as it was; the staging
buffer, its claim and the slot; the bells; a change of the configuration. -/

namespace Sys2Proof.Machine

/-! ### What an evaluation leaves (R211 to R213) -/

theorem State.mbxClaim_congr {s u : State} (h : u.mbx.claims = s.mbx.claims) (m : Nat) : u.mbxClaim m = s.mbxClaim m := by
  unfold State.mbxClaim
  rw [h]

/-- `u` holds the registers of the mailbox pages 0x020 to 0x023, the claims and the answer of `s`: the delivery of an event leaves them. -/
structure KeepsMbx (s u : State) : Prop where
  reg : ∀ k, k / 0x4000 = 8 → u.reg k = s.reg k
  claims : u.mbx.claims = s.mbx.claims
  resp : u.resp = s.resp

namespace KeepsMbx

variable {s u v : State}

theorem refl (s : State) : KeepsMbx s s := ⟨fun _ _ => rfl, rfl, rfl⟩

theorem trans (h : KeepsMbx s u) (h' : KeepsMbx u v) : KeepsMbx s v :=
  ⟨fun k hk => (h'.reg k hk).trans (h.reg k hk), h'.claims.trans h.claims, h'.resp.trans h.resp⟩

theorem ite {c : Prop} [Decidable c] (h : KeepsMbx s u) (h' : KeepsMbx s v) : KeepsMbx s (if c then u else v) := by
  split
  · exact h
  · exact h'

/-- A write of a register of another page. -/
theorem setReg {k : Nat} (hk : k / 0x4000 ≠ 8) (s : State) (w : Word) : KeepsMbx s (s.setReg k w) :=
  ⟨fun _ hj => s.reg_setReg_other w fun e => hk (e ▸ hj), rfl, rfl⟩

theorem bumpSat {k : Nat} (hk : k / 0x4000 ≠ 8) (s : State) (hi lo : Nat) : KeepsMbx s (s.bumpSat k hi lo) :=
  ⟨fun _ hj => s.reg_bumpSat_other hi lo fun e => hk (e ▸ hj), congrArg Mbx.claims (State.bumpSat_mbx ..), State.bumpSat_resp ..⟩

theorem hold (s : State) (src who d : Nat) : KeepsMbx s (s.hold src who d) := by
  rw [State.hold_frame]
  exact ⟨fun _ _ => rfl, rfl, rfl⟩

theorem withHolds (s : State) (l : List Hold) : KeepsMbx s { s with holds := l } := ⟨fun _ _ => rfl, rfl, rfl⟩

theorem withHeld (s : State) (l : List Nat) : KeepsMbx s { s with mbx.held := l } := ⟨fun _ _ => rfl, rfl, rfl⟩

theorem emit (s : State) (o : Out) : KeepsMbx s (s.emit o) := ⟨fun _ _ => rfl, rfl, rfl⟩

theorem wakeSource (s : State) (b : Nat) : KeepsMbx s (s.wakeSource b) := by
  have awake : KeepsMbx s { s with pwr.asleep := false } := ⟨fun _ _ => rfl, rfl, rfl⟩
  exact ite (awake.trans (setReg (by decide) _ _)) (refl s)

theorem mbxWake (s : State) (m : Nat) : KeepsMbx s (s.mbxWake m) := by
  have released := withHolds s (s.holds.filter fun h => !(h.src == 10 && h.who == m))
  have held (d : Nat) := released.trans (hold _ 10 m d)
  unfold State.mbxWake
  dsimp only
  split
  · exact released
  · exact ite (ite (held _) ((held _).trans (wakeSource _ 3))) released

theorem msixRaise (s : State) (v : Nat) : KeepsMbx s (s.msixRaise v) := by
  have pending := setReg (k := MSIX_PBA) (by decide) s (setBit (s.reg MSIX_PBA) v true)
  exact ite (emit s _) (ite (pending.trans (emit _ _)) pending)

theorem msixFor (s : State) (v ten : Nat) : KeepsMbx s (s.msixFor v ten) := ite (msixRaise s v) (bumpSat (by decide) s 31 24)

theorem mbxDue (s : State) (m : Nat) : KeepsMbx s (s.mbxDue m) := ite ((withHeld s _).trans (msixFor _ _ _)) (withHeld s _)

theorem mbxEval (s before : State) (m : Nat) (pendWrite : Bool) : KeepsMbx s (s.mbxEval before m pendWrite) :=
  (mbxWake s m).trans (ite (mbxDue _ m) (refl _))

theorem requestSec (s : State) : KeepsMbx s s.requestSec := ite (refl s) (hold s 12 0x7F 1)

theorem flag (h : KeepsMbx s u) {k : Nat} (hk : k / 0x4000 = 8) (i : Nat) : u.flag k i = s.flag k i := congrArg (bit · i) (h.reg k hk)

theorem mbxClaim (h : KeepsMbx s u) (m : Nat) : u.mbxClaim m = s.mbxClaim m :=
  State.mbxClaim_congr h.claims m

end KeepsMbx

/-! ### The mailbox commands that land -/

section MbxCommands

variable {q : Req} {m : Nat} {s : State} (hm : m < 64)

include hm

theorem mbxOperands_wf {k : Nat} {wr : Bool} (h : s.lands q k wr = true) : (q.wf && decide (m < 64)) = true :=
  Bool.and_eq_true_iff.2 ⟨State.lands_wf h, decide_eq_true hm⟩

theorem exec_mbxSend {w : Nat} (hw : w < 16) (h : s.lands q (MBX_SEND m w) true = true) (v : Word) :
    exec (.mbxSend q m w v) s = .next (mbxSend q m w v (s.answer 0)) :=
  only_writeVia (Bool.and_eq_true_iff.2 ⟨mbxOperands_wf hm h, decide_eq_true hw⟩) h v _

theorem exec_mbxPublish (h : s.lands q (MBX_SEND m 15) true = true) (v : Word) :
    exec (.mbxPublish q m v) s = .next (mbxPublish q m v (s.answer 0)) := only_writeVia (mbxOperands_wf hm h) h v _

theorem exec_mbxSlotRead (h : s.lands q (MBX_SLOT m 15) false = true) : exec (.mbxSlotRead q m) s = .next (mbxSlotRead m s) :=
  only_readVia (mbxOperands_wf hm h) h _

theorem exec_mbxRing (h : s.lands q (MBX_RING m) true = true) (v : Word) :
    exec (.mbxRing q m v) s = .next (mbxRing m v (s.answer 0)) := only_writeVia (mbxOperands_wf hm h) h v _

theorem exec_mbxPendClear (h : s.lands q (MBX_PEND m) true = true) (v : Word) :
    exec (.mbxPendClear q m v) s = .next (mbxPendClear m v (s.answer 0)) := only_writeVia (mbxOperands_wf hm h) h v _

theorem exec_mbxClaimTmo (on : s.pwr.chipOff = false) (he : s.flag (PAGE_CTRL (0x020 + m / 16)) 0 = true) :
    exec (.mbxClaimTmo m) s = .next (mbxClaimTmo m s) := only_heldIdle (decide_eq_true hm) on he _

theorem exec_mbxCfgWrite (h : s.lands q (MBX_CFG m) true = true) (v : Word) :
    exec (.mbxCfgWrite q m v) s = .next (mbxCfgWrite m v (s.answer 0)) := only_writeVia (mbxOperands_wf hm h) h v _

/-- The registers of mailbox `m` that the unit keeps stand in the pages 0x020 to 0x023. -/
theorem mbxKeys_page : (∀ w, w < 16 → MBX_SLOT m w / 0x4000 = 8) ∧ MBX_RX_STAT m / 0x4000 = 8 ∧ MBX_PEND m / 0x4000 = 8 ∧
    MBX_CFG m / 0x4000 = 8 := by
  unfold MBX_SLOT MBX_RX_STAT MBX_PEND MBX_CFG
  exact ⟨fun w hw => by omega, by omega, by omega, by omega⟩

end MbxCommands

/-! ### The staging buffer and its claim (R207) -/

theorem Tab.get_clear {α : Type} {d : Nat → α} {p : Nat → Bool} {k : Nat} (hk : p k = true) (l : Tab α) :
    (Tab.clear p l).get d k = d k := by
  induction l with
  | nil => rfl
  | cons e l ih =>
    unfold Tab.clear at ih ⊢
    by_cases hp : p e.1 = true
    · rwa [List.filter_cons_of_neg (by simp [hp])]
    · rw [List.filter_cons_of_pos (by simp [hp])]
      exact (if_neg fun heq : e.1 = k => hp (heq ▸ hk)).trans ih

section Claim

variable (s : State) (m : Nat)

@[simp] theorem State.mbxClaim_bumpSat (k hi lo : Nat) : (s.bumpSat k hi lo).mbxClaim m = s.mbxClaim m :=
  State.mbxClaim_congr (congrArg Mbx.claims (State.bumpSat_mbx ..)) m

@[simp] theorem State.mbxClaim_setReg (k : Nat) (v : Word) : (s.setReg k v).mbxClaim m = s.mbxClaim m := rfl

@[simp] theorem State.mbxClaim_setClaim_some (q : Req) : (s.setClaim m (some q)).mbxClaim m = some q := by
  simp [State.setClaim, State.mbxClaim]

@[simp] theorem State.mbxClaim_setClaim_none : (s.setClaim m none).mbxClaim m = none := by
  simp [State.setClaim, State.mbxClaim, List.find?_filter]

@[simp] theorem State.reg_setClaim (o : Option Req) (k : Nat) : (s.setClaim m o).reg k = s.reg k := rfl

theorem State.stagingWord_stage_same (q : Req) (w : Nat) (v : Word) : (s.stage q m w v).stagingWord m w = v := Tab.get_set_same ..

theorem State.stagingWord_stage_other (q : Req) {w j : Nat} (v : Word) (h : j ≠ w) :
    (s.stage q m w v).stagingWord m j = s.stagingWord m j := Tab.get_set_other _ _ (by omega)

theorem State.stagingWord_clearStaging {w : Nat} (hw : w < 16) : (s.clearStaging m).stagingWord m w = 0 :=
  Tab.get_clear (p := fun k => k / 16 == m) (beq_iff_eq.2 (by omega)) _

end Claim

theorem mbxSend_free {q : Req} {m w : Nat} {s : State} (hw : w ≠ 15) (hfree : (s.mbxClaim m).any (· != q) = false) (v : Word) :
    mbxSend q m w v s = s.stage q m w v := (if_neg hw).trans (if_neg (ne_true_of_eq_false hfree))

theorem mbxSend_claimed {q : Req} {m w : Nat} {s : State} (hw : w ≠ 15) (hother : (s.mbxClaim m).any (· != q) = true) (v : Word) :
    mbxSend q m w v s = s.fail q (MBX_SEND m w) 0x11 := (if_neg hw).trans (if_pos hother)

theorem mbxSend_last (q : Req) (m : Nat) (v : Word) (s : State) : mbxSend q m 15 v s = mbxPublish q m v s := if_pos rfl

theorem mbxClaimTmo_late {m : Nat} {s : State} (hlate : s.mbxClaimLate m = true) :
    mbxClaimTmo m s = (s.setClaim m none).clearStaging m := if_pos hlate

/-! ### Publishing (R208) -/

/-- The first `n` words of the slot copied from the staging buffer: each is its staging word, and the mailbox unit is as it was. -/
theorem State.copySlots_spec (s : State) (m n : Nat) :
    let t := (List.range n).foldl (fun s w => s.setReg (MBX_SLOT m w) (s.stagingWord m w)) s
    t.mbx = s.mbx ∧ ∀ w, w < n → t.reg (MBX_SLOT m w) = s.stagingWord m w := by
  induction n with
  | zero => exact ⟨rfl, fun w hw => absurd hw (Nat.not_lt_zero w)⟩
  | succ n ih =>
    obtain ⟨hmbx, hreg⟩ := ih
    simp only [List.range_succ, List.foldl_append, List.foldl_cons, List.foldl_nil]
    refine ⟨hmbx, fun w hw => ?_⟩
    rcases Nat.lt_succ_iff_lt_or_eq.1 hw with hlt | rfl
    · exact (State.reg_setReg_other _ _ (by unfold MBX_SLOT; omega)).trans (hreg w hlt)
    · exact (State.reg_setReg_same ..).trans (congrArg (fun x : Mbx => x.staging.get (fun _ => 0) (m * 16 + w)) hmbx)

/-- The slot after the copy. -/
theorem State.reg_copyToSlot (s : State) (m : Nat) {w : Nat} (hw : w < 16) : (s.copyToSlot m).reg (MBX_SLOT m w) = s.stagingWord m w :=
  (s.copySlots_spec m 16).2 w hw

/-- MBX_RX_STAT of a message that `q` publishes: FULL with the publisher's tenant, class and index. -/
def mbxFullBy (q : Req) : Word := word (1 + q.tenant % 8 * 0x100 + q.cls % 8 * 0x800 + q.index % 64 * 0x4000)

/-- `s` with the message that ends in `v` published in mailbox `m`, before it is counted and the condition is evaluated. -/
def State.published (s : State) (q : Req) (m : Nat) (v : Word) : State :=
  (((s.stage q m 15 v).copyToSlot m).setClaim m none).setReg (MBX_RX_STAT m) (mbxFullBy q)

section Published

variable (s : State) (q : Req) (m : Nat) (v : Word)

theorem State.reg_published_slot {w : Nat} (hw : w < 16) :
    (s.published q m v).reg (MBX_SLOT m w) = if w = 15 then v else s.stagingWord m w := by
  unfold State.published
  rw [State.reg_setReg_other _ _ (by unfold MBX_SLOT MBX_RX_STAT; omega), State.reg_setClaim, State.reg_copyToSlot _ m hw]
  split
  next hlast => rw [hlast, State.stagingWord_stage_same]
  next hne => exact s.stagingWord_stage_other m q v hne

theorem State.reg_published_rxStat : (s.published q m v).reg (MBX_RX_STAT m) = mbxFullBy q := by
  unfold State.published
  exact State.reg_setReg_same ..

theorem State.mbxClaim_published : (s.published q m v).mbxClaim m = none := by
  unfold State.published
  rw [State.mbxClaim_setReg, State.mbxClaim_setClaim_none]

variable {s q m}

theorem mbxPublish_full (hfree : (s.mbxClaim m).any (· != q) = false) (hfull : s.flag (MBX_RX_STAT m) 0 = true) :
    mbxPublish q m v s = (s.bumpSat (MBX_TX_FULLCNT m) 15 0).fail q (MBX_SEND m 15) 0x10 :=
  (if_neg (ne_true_of_eq_false hfree)).trans (if_pos hfull)

/-- A message published and counted: the evaluation that follows, and the request of SEC, leave the mailbox as it is. -/
theorem mbxPublish_empty (hfree : (s.mbxClaim m).any (· != q) = false) (hempty : s.flag (MBX_RX_STAT m) 0 = false) :
    KeepsMbx ((s.published q m v).bumpSat (MBX_RX_CNT m) 15 0) (mbxPublish q m v s) := by
  have heval := KeepsMbx.mbxEval ((s.published q m v).bumpSat (MBX_RX_CNT m) 15 0) s m false
  unfold mbxPublish
  rw [if_neg (ne_true_of_eq_false hfree), if_neg (ne_true_of_eq_false hempty)]
  exact KeepsMbx.ite (heval.trans (KeepsMbx.requestSec _)) heval

end Published

/-! ### The slot read and the bells (R209, R210) -/

section Bells

variable {m : Nat} (hm : m < 64) (s : State)

include hm

theorem mbxSlotRead_empty : (mbxSlotRead m s).flag (MBX_RX_STAT m) 0 = false :=
  ((KeepsMbx.mbxEval _ s m false).flag (mbxKeys_page hm).2.1 0).trans (State.flag_setFlag_same _ _ _ _ (by decide))

theorem mbxRing_pend (v : Word) : (mbxRing m v s).reg (MBX_PEND m) = s.reg (MBX_PEND m) ||| v :=
  ((KeepsMbx.mbxEval _ s m false).reg _ (mbxKeys_page hm).2.2.1).trans
    ((State.reg_bumpSat_other _ _ _ (by unfold MBX_PEND MBX_RX_CNT; omega)).trans (State.reg_setReg_same ..))

theorem mbxPendClear_pend (v : Word) : (mbxPendClear m v s).reg (MBX_PEND m) = s.reg (MBX_PEND m) &&& ~~~v :=
  ((KeepsMbx.mbxEval _ s m true).reg _ (mbxKeys_page hm).2.2.1).trans (State.reg_setReg_same ..)

end Bells

/-! ### The configuration (R221, R222) -/

/-- Whether a write of `new` over `old` in MBX_CFG changes KIND, TARGET or RX_TENANT. -/
abbrev mbxRetargeted (old new : Word) : Prop :=
  bits old 1 0 ≠ bits new 1 0 ∨ bits old 9 4 ≠ bits new 9 4 ∨ bits old 18 16 ≠ bits new 18 16

theorem mbxCfgWrite_readOnly (v : Word) (s : State) : mbxCfgWrite 63 v s = s := if_pos rfl

/-- A write elsewhere stores the word, in a mailbox that is emptied first where its receiver changes. -/
theorem mbxCfgWrite_stores {m : Nat} (h : m ≠ 63) (v : Word) (s : State) :
    KeepsMbx ((if mbxRetargeted (s.reg (MBX_CFG m)) (v &&& 0x703FF) then s.mbxEmpty m else s).setReg (MBX_CFG m) (v &&& 0x703FF))
      (mbxCfgWrite m v s) := by
  unfold mbxCfgWrite
  rw [if_neg h]
  exact KeepsMbx.mbxEval _ s m false

theorem State.mbxEmpty_full (s : State) (m : Nat) : (s.mbxEmpty m).flag (MBX_RX_STAT m) 0 = false := by
  have hpend : (s.mbxEmpty m).flag (MBX_RX_STAT m) 0 = (s.setFlag (MBX_RX_STAT m) 0 false).flag (MBX_RX_STAT m) 0 :=
    State.flag_setReg_other _ _ _ (by unfold MBX_RX_STAT MBX_PEND; omega)
  exact hpend.trans (State.flag_setFlag_same _ _ _ _ (by decide))

theorem State.mbxEmpty_pend (s : State) (m : Nat) : (s.mbxEmpty m).reg (MBX_PEND m) = 0 := State.reg_setReg_same ..

/-- Settles O32: each command that lands by its effect, past which the evaluation of the event condition leaves the mailbox as it is. That
the claim timeout compares its start with the timestamp is log entry 27. -/
theorem mailboxCommands : Obligations.MailboxCommands := by
  unfold Obligations.MailboxCommands
  refine ⟨?send, ?publish, ?slotRead, ?ring, ?pendClear, ?claimTmo, ?cfgWrite⟩
  case send =>
    intro q m w v s hm hw h
    have hexec := exec_mbxSend hm (Nat.lt_succ_of_lt hw) h v
    exact ⟨fun hfree => ⟨_, hexec.trans (congrArg _ (mbxSend_free (s := s.answer 0) (Nat.ne_of_lt hw) hfree v)),
        (s.answer 0).stagingWord_stage_same m q w v, State.mbxClaim_setClaim_some _ m q, rfl, rfl,
        fun j _ hne => (s.answer 0).stagingWord_stage_other m q v hne⟩,
      fun hother => hexec.trans (congrArg _ (mbxSend_claimed (s := s.answer 0) (Nat.ne_of_lt hw) hother v))⟩
  case publish =>
    intro q m v s hm h hfree
    have hexec := exec_mbxPublish hm h v
    have hsame := (exec_mbxSend hm (by decide) h v).trans (congrArg _ (mbxSend_last q m v (s.answer 0)))
    refine ⟨hexec.trans hsame.symm,
      fun hfull => hexec.trans (congrArg _ (mbxPublish_full (s := s.answer 0) v hfree hfull)), fun hempty => ?_⟩
    obtain ⟨hslot, hrx, -, -⟩ := mbxKeys_page hm
    have hkeep := mbxPublish_empty (s := s.answer 0) v hfree hempty
    have hreg {k : Nat} (hk : k / 0x4000 = 8) (hne : k ≠ MBX_RX_CNT m) :
        (mbxPublish q m v (s.answer 0)).reg k = ((s.answer 0).published q m v).reg k :=
      (hkeep.reg k hk).trans (State.reg_bumpSat_other _ _ _ hne)
    have hword {w : Nat} (hw : w < 16) :
        (mbxPublish q m v (s.answer 0)).reg (MBX_SLOT m w) = if w = 15 then v else s.stagingWord m w :=
      (hreg (hslot w hw) (by unfold MBX_SLOT MBX_RX_CNT; omega)).trans ((s.answer 0).reg_published_slot q m v hw)
    refine ⟨_, hexec, (hword (by decide)).trans (if_pos rfl),
      fun w hw => (hword (Nat.lt_succ_of_lt hw)).trans (if_neg (Nat.ne_of_lt hw)),
      (hreg hrx (by unfold MBX_RX_STAT MBX_RX_CNT; omega)).trans ((s.answer 0).reg_published_rxStat q m v), ?_⟩
    exact (hkeep.mbxClaim m).trans ((State.mbxClaim_bumpSat ..).trans ((s.answer 0).mbxClaim_published q m v))
  case slotRead =>
    intro q m s hm h
    exact ⟨_, exec_mbxSlotRead hm h, (KeepsMbx.mbxEval _ s m false).resp, mbxSlotRead_empty hm s, rfl⟩
  case ring =>
    intro q m v s hm h
    exact ⟨_, exec_mbxRing hm h v, mbxRing_pend hm (s.answer 0) v⟩
  case pendClear =>
    intro q m v s hm h
    exact ⟨_, exec_mbxPendClear hm h v, mbxPendClear_pend hm (s.answer 0) v⟩
  case claimTmo =>
    intro m s hm on he hlate
    exact ⟨_, (exec_mbxClaimTmo hm on he).trans (congrArg _ (mbxClaimTmo_late hlate)), s.mbxClaim_setClaim_none m,
      fun w hw => (s.setClaim m none).stagingWord_clearStaging m hw, rfl⟩
  case cfgWrite =>
    intro q m v s hm h
    have hexec := exec_mbxCfgWrite hm h v
    refine ⟨?readOnly, fun hne => ?stores⟩
    case readOnly =>
      rintro rfl
      exact hexec.trans (congrArg _ (mbxCfgWrite_readOnly v _))
    case stores =>
      have hkeep := mbxCfgWrite_stores hne v (s.answer 0)
      obtain ⟨-, hrx, hpend, hcfg⟩ := mbxKeys_page hm
      refine ⟨_, hexec, (hkeep.reg _ hcfg).trans (State.reg_setReg_same ..), fun hkind => ?_⟩
      rw [if_pos (.inl hkind)] at hkeep
      exact ⟨((hkeep.flag hrx 0).trans (State.flag_setReg_other _ _ _ (by unfold MBX_RX_STAT MBX_CFG; omega))).trans
          (State.mbxEmpty_full _ m),
        ((hkeep.reg _ hpend).trans (State.reg_setReg_other _ _ (by unfold MBX_PEND MBX_CFG; omega))).trans (State.mbxEmpty_pend _ m)⟩

end Sys2Proof.Machine
end

section
/-! SUPPORT AND PROOFS. The tile's core (R225 to R227, R246): the record of a tile, what the trace unit and the counters leave, a bundle
that completes, and a fault. -/

namespace Sys2Proof.Machine

/-! ### The record of a tile -/

section Record

variable (s : State) (t : Nat)

@[simp] theorem State.tile_setTile_same (x : Tile) : (s.setTile t x).tile t = x := Tab.get_set_same ..

theorem State.tile_setTile_other {j : Nat} (x : Tile) (h : j ≠ t) : (s.setTile t x).tile j = s.tile j := Tab.get_set_other _ _ h

theorem State.tile_congr {s u : State} (h : u.tiles = s.tiles) (j : Nat) : u.tile j = s.tile j := by
  unfold State.tile
  rw [h]

theorem State.tilePc_congr {s u : State} {t : Nat} (h : u.reg (TILE_PC t) = s.reg (TILE_PC t)) : u.tilePc t = s.tilePc t :=
  congrArg (bits · 15 0) h

@[simp] theorem State.tile_setReg (k : Nat) (v : Word) : (s.setReg k v).tile t = s.tile t := rfl

@[simp] theorem State.tile_irq (p b : Nat) : (s.irq p b).tile t = s.tile t := rfl

@[simp] theorem State.tile_setTilePc (i v : Nat) : (s.setTilePc i v).tile t = s.tile t := rfl

@[simp] theorem State.tile_setTileSt (i v : Nat) : (s.setTileSt i v).tile t = s.tile t := rfl

end Record

/-! ### General and vector registers (R225) -/

section Registers

variable (x : Tile)

@[simp] theorem Tile.gr_zero : x.gr 0 = 0 := if_pos rfl

theorem Tile.gr_of_ne {i : Nat} (h : i ≠ 0) : x.gr i = x.g.get (fun _ => 0) i := if_neg h

theorem Tile.gr_congr {x y : Tile} (h : y.g = x.g) (i : Nat) : y.gr i = x.gr i := by
  unfold Tile.gr
  rw [h]

theorem Tile.vr_congr {x y : Tile} (h : y.v = x.v) (i : Nat) : y.vr i = x.vr i := by
  unfold Tile.vr
  rw [h]

theorem Tile.gr_setGr_same {i : Nat} (h : i ≠ 0) (v : Word) : (x.setGr i v).gr i = v := by
  rw [Tile.setGr, if_neg h, Tile.gr_of_ne _ h, Tab.get_set_same]

theorem Tile.gr_setGr_other {i j : Nat} (h : j ≠ i) (v : Word) : (x.setGr i v).gr j = x.gr j := by
  unfold Tile.setGr
  split
  · rfl
  · exact ite_congr rfl (fun _ => rfl) fun _ => Tab.get_set_other _ _ h

@[simp] theorem Tile.vr_setGr (i j : Nat) (v : Word) : (x.setGr i v).vr j = x.vr j := by
  unfold Tile.setGr
  split
  · rfl
  · rfl

@[simp] theorem Tile.x_setGr (i : Nat) (v : Word) : (x.setGr i v).x = x.x := by
  unfold Tile.setGr
  split
  · rfl
  · rfl

@[simp] theorem Tile.x_setVr (i : Nat) (bs : List Byte) : (x.setVr i bs).x = x.x := rfl

@[simp] theorem Tile.vr_setVr_same (i : Nat) (bs : List Byte) : (x.setVr i bs).vr i = bs := Tab.get_set_same ..

theorem Tile.vr_setVr_other {i j : Nat} (h : j ≠ i) (bs : List Byte) : (x.setVr i bs).vr j = x.vr j := Tab.get_set_other _ _ h

end Registers

/-! ### What the trace unit and the counters leave (R439 to R442) -/

section Debug

variable (s : State) (t : Nat)

theorem State.traceEv_frame (kind pc target : Nat) :
    s.traceEv t kind pc target =
      { s with regs := (s.traceEv t kind pc target).regs, dbg := (s.traceEv t kind pc target).dbg } := by
  unfold State.traceEv
  dsimp only
  split
  · rfl
  · split
    · rfl
    · unfold State.bumpSat
      split
      · rfl
      · rfl

theorem State.reg_traceEv (kind pc target : Nat) {k : Nat} (h : k ≠ DBG_TRACE_STAT) : (s.traceEv t kind pc target).reg k = s.reg k := by
  unfold State.traceEv
  dsimp only
  split
  · rfl
  · split
    · rfl
    · exact State.reg_bumpSat_other _ _ _ h

theorem State.tilePc_traceEv (kind pc target i : Nat) : (s.traceEv t kind pc target).tilePc i = s.tilePc i :=
  State.tilePc_congr (s.reg_traceEv t kind pc target (by unfold TILE_PC DBG_TRACE_STAT; omega))

@[simp] theorem State.tile_traceEv (kind pc target j : Nat) : (s.traceEv t kind pc target).tile j = s.tile j :=
  State.tile_congr (congrArg State.tiles (s.traceEv_frame t kind pc target)) j

@[simp] theorem State.mem_traceEv (kind pc target : Nat) : (s.traceEv t kind pc target).mem = s.mem := by
  rw [State.traceEv_frame]

/-- A count of an event changes the counters of the debug unit alone. -/
theorem State.pmc_spec (ev n : Nat) :
    s.pmc t ev n = { s with regs := (s.pmc t ev n).regs } ∧
      ∀ k, (∀ i, i < 8 → k ≠ DBG_PMC_LO i ∧ k ≠ DBG_PMC_HI i) → (s.pmc t ev n).reg k = s.reg k := by
  unfold State.pmc
  split
  · refine List.foldlRecOn (motive := fun u : State => u = { s with regs := u.regs } ∧
      ∀ k, (∀ i, i < 8 → k ≠ DBG_PMC_LO i ∧ k ≠ DBG_PMC_HI i) → u.reg k = s.reg k) _ _ ⟨rfl, fun _ _ => rfl⟩ ?_
    rintro u ⟨hframe, hreg⟩ i hi
    dsimp only
    split
    · refine ⟨State.regs_frame_trans hframe rfl, fun k hk => ?_⟩
      obtain ⟨hlo, hhi⟩ := hk i (List.mem_range.1 hi)
      exact (State.reg_setReg_other _ _ hhi).trans ((State.reg_setReg_other _ _ hlo).trans (hreg k hk))
    · exact ⟨hframe, hreg⟩
  · exact ⟨rfl, fun _ _ => rfl⟩

@[simp] theorem State.tile_pmc (ev n j : Nat) : (s.pmc t ev n).tile j = s.tile j :=
  State.tile_congr (congrArg State.tiles (s.pmc_spec t ev n).1) j

end Debug

/-! ### A bundle that completes (R226, R227) -/

/-- `y` has the general and vector registers and the X slot's results of `x`. -/
structure Tile.KeepsRegs (x y : Tile) : Prop where
  g : y.g = x.g
  v : y.v = x.v
  x : y.x = x.x

theorem Tile.KeepsRegs.trans {x y z : Tile} (h : x.KeepsRegs y) (h' : y.KeepsRegs z) : x.KeepsRegs z :=
  ⟨h'.g.trans h.g, h'.v.trans h.v, h'.x.trans h.x⟩

/-- The X slot's vector register and then its general register written. -/
def Tile.takes (x : Tile) (r : XRes) : Tile :=
  let y := r.v.elim x fun p => x.setVr p.1 p.2
  r.g.elim y fun p => y.setGr p.1 p.2

/-- The results of an X slot that stores nothing: its registers, and beside them what no register shows. -/
theorem State.xWrite_takes (s : State) (t : Nat) {r : XRes} (h : r.store = none) :
    ∃ y, s.xWrite t r = s.setTile t y ∧ ((s.tile t).takes r).KeepsRegs y := by
  unfold State.xWrite
  extract_lets x x1 x2 x3 x4 x5 x6 x7 u
  have htakes : x2 = x.takes r := by
    simp only [x2, x1, Tile.takes]
    cases r.v <;> cases r.g <;> rfl
  have hacc : x2.KeepsRegs x3 := by
    simp only [x3]
    split <;> exact ⟨rfl, rfl, rfl⟩
  have htag : x3.KeepsRegs x4 := by
    simp only [x4]
    split <;> exact ⟨rfl, rfl, rfl⟩
  have hflags : x4.KeepsRegs x5 := by
    simp only [x5]
    split <;> exact ⟨rfl, rfl, rfl⟩
  have hclr : x5.KeepsRegs x6 := by
    simp only [x6]
    split <;> exact ⟨rfl, rfl, rfl⟩
  have hmac : x6.KeepsRegs x7 := by
    simp only [x7]
    split <;> exact ⟨rfl, rfl, rfl⟩
  rw [h]
  exact ⟨x7, rfl, htakes ▸ (((hacc.trans htag).trans hflags).trans hclr).trans hmac⟩

section Takes

variable (x : Tile) (r : XRes)

theorem Tile.x_takes : (x.takes r).x = x.x := by
  unfold Tile.takes
  cases r.v <;> cases r.g <;> simp

theorem Tile.gr_takes_written {i : Nat} {v : Word} (h : r.g = some (i, v)) (hi : i ≠ 0) : (x.takes r).gr i = v := by
  unfold Tile.takes
  rw [h]
  exact Tile.gr_setGr_same _ hi v

theorem Tile.gr_takes_other {i : Nat} (h : ∀ v, r.g ≠ some (i, v)) : (x.takes r).gr i = x.gr i := by
  have hv : (r.v.elim x fun p => x.setVr p.1 p.2).gr i = x.gr i := by cases r.v <;> rfl
  unfold Tile.takes
  rcases hg : r.g with _ | ⟨j, v⟩
  · exact hv
  · have hne : i ≠ j := by
      rintro rfl
      exact h v hg
    exact (Tile.gr_setGr_other _ hne v).trans hv

theorem Tile.vr_takes : (x.takes r).vr = (r.v.elim x fun p => x.setVr p.1 p.2).vr := by
  unfold Tile.takes
  funext i
  cases r.g <;> simp

theorem Tile.vr_takes_written {i : Nat} {bs : List Byte} (h : r.v = some (i, bs)) : (x.takes r).vr i = bs := by
  rw [Tile.vr_takes, h]
  exact Tile.vr_setVr_same x i bs

theorem Tile.vr_takes_other {i : Nat} (h : ∀ bs, r.v ≠ some (i, bs)) : (x.takes r).vr i = x.vr i := by
  rw [Tile.vr_takes]
  rcases hv : r.v with _ | ⟨j, bs⟩
  · rfl
  · have hne : i ≠ j := by
      rintro rfl
      exact h bs hv
    exact Tile.vr_setVr_other x hne bs

end Takes

/-- `s` with the results of both slots of tile `t`'s bundle written: the X slot's, then the S slot's register. -/
def State.slotsWritten (s : State) (t : Nat) (dst : Option Nat) (v : Word) : State :=
  let u := (s.setTile t { s.tile t with x := none, await := none }).xWrite t ((s.tile t).x.getD {})
  dst.elim u fun d => u.setTile t ((u.tile t).setGr d v)

/-- `s` with a jump from the bundle at PC, where there is one, shown to the trace unit. -/
def State.jumpTraced (s : State) (t : Nat) (pc : Option Nat) : State := pc.elim s fun p => s.traceEv t 0 (s.tilePc t) (p % 0x10000)

theorem State.retireCore_eq (s : State) (t : Nat) (dst : Option Nat) (v : Word) (pc : Option Nat) :
    s.retireCore t dst v pc =
      let u := (s.slotsWritten t dst v).jumpTraced t pc
      ((u.pmc t 2 1).pmc t ((s.tile t).x.getD {}).ev 1).setTilePc t (pc.getD (u.tilePc t / 8 * 8 + 8)) := by
  cases dst <;> cases pc <;> rfl

/-- The record after a bundle whose X slot stores nothing, and the frame of both slots' results. -/
theorem State.slotsWritten_spec (s : State) (t : Nat) (dst : Option Nat) (v : Word) (h : ((s.tile t).x.getD {}).store = none) :
    ∃ y, (s.slotsWritten t dst v).tile t = dst.elim y (fun d => y.setGr d v) ∧
      (({ s.tile t with x := none, await := none } : Tile).takes ((s.tile t).x.getD {})).KeepsRegs y ∧
      s.slotsWritten t dst v = { s with tiles := (s.slotsWritten t dst v).tiles } ∧
      ∀ j, j ≠ t → (s.slotsWritten t dst v).tile j = s.tile j := by
  obtain ⟨y, hy, hkeep⟩ := (s.setTile t { s.tile t with x := none, await := none }).xWrite_takes t h
  rw [State.tile_setTile_same] at hkeep
  unfold State.slotsWritten
  rw [hy]
  refine ⟨y, ?_, hkeep, ?_, fun j hj => ?_⟩
  · cases dst <;> simp
  · cases dst <;> rfl
  · cases dst <;> simp [State.tile_setTile_other _ _ _ hj]

theorem State.tile_jumpTraced (s : State) (t : Nat) (pc : Option Nat) (j : Nat) : (s.jumpTraced t pc).tile j = s.tile j := by
  cases pc
  · rfl
  · exact State.tile_traceEv ..

theorem State.jumpTraced_frame (s : State) (t : Nat) (pc : Option Nat) :
    s.jumpTraced t pc = { s with regs := (s.jumpTraced t pc).regs, dbg := (s.jumpTraced t pc).dbg } := by
  cases pc
  · rfl
  · exact State.traceEv_frame ..

theorem State.reg_jumpTraced (s : State) (t : Nat) (pc : Option Nat) {k : Nat} (h : k ≠ DBG_TRACE_STAT) :
    (s.jumpTraced t pc).reg k = s.reg k := by
  cases pc
  · rfl
  · exact State.reg_traceEv _ _ _ _ _ h

theorem bits_word_low {n hi : Nat} (hn : n < 2 ^ (hi + 1)) (hhi : hi < 32) : bits (word n) hi 0 = n := by
  have h32 : n < 2 ^ 32 := Nat.lt_of_lt_of_le hn (Nat.pow_le_pow_right (by decide) hhi)
  unfold bits nbits word
  rw [BitVec.toNat_ofNat, Nat.mod_eq_of_lt h32]
  exact Nat.mod_eq_of_lt hn

theorem State.tilePc_setTilePc (s : State) (t v : Nat) : (s.setTilePc t v).tilePc t = v % 0x10000 :=
  (State.fld_setReg_same ..).trans (bits_word_low (Nat.mod_lt _ (by decide)) (by decide))

section Completes

variable (s : State) (t : Nat) (dst : Option Nat) (v : Word) (pc : Option Nat)

theorem State.tile_retireCore (j : Nat) : (s.retireCore t dst v pc).tile j = (s.slotsWritten t dst v).tile j := by
  rw [State.retireCore_eq]
  simp [State.tile_jumpTraced]

variable (h : ((s.tile t).x.getD {}).store = none)

include h

theorem State.reg_slotsWritten (k : Nat) : (s.slotsWritten t dst v).reg k = s.reg k := by
  obtain ⟨_, -, -, hframe, -⟩ := s.slotsWritten_spec t dst v h
  rw [hframe]
  rfl

theorem State.tilePc_retireCore : (s.retireCore t dst v pc).tilePc t = (pc.getD (s.tilePc t / 8 * 8 + 8)) % 0x10000 := by
  have hpc : ((s.slotsWritten t dst v).jumpTraced t pc).tilePc t = s.tilePc t :=
    State.tilePc_congr ((State.reg_jumpTraced _ t pc (by unfold TILE_PC DBG_TRACE_STAT; omega)).trans (s.reg_slotsWritten t dst v h _))
  rw [State.retireCore_eq]
  dsimp only
  rw [State.tilePc_setTilePc, hpc]

theorem State.retireCore_frame : s.retireCore t dst v pc =
    { s with
      regs := (s.retireCore t dst v pc).regs
      tiles := (s.retireCore t dst v pc).tiles
      dbg := (s.retireCore t dst v pc).dbg } := by
  obtain ⟨_, -, -, hw, -⟩ := s.slotsWritten_spec t dst v h
  rw [State.retireCore_eq]
  dsimp only
  generalize hu : (s.slotsWritten t dst v).jumpTraced t pc = u
  have hframe : u = { s with regs := u.regs, tiles := u.tiles, dbg := u.dbg } := by
    rw [← hu, State.jumpTraced_frame, hw]
  rw [(State.pmc_spec _ t _ 1).1, (u.pmc_spec t 2 1).1, hframe]
  rfl

theorem State.reg_retireCore {k : Nat} (hpc : k ≠ TILE_PC t) (htrace : k ≠ DBG_TRACE_STAT)
    (hpmc : ∀ n, k ≠ DBG_PMC_LO n ∧ k ≠ DBG_PMC_HI n) : (s.retireCore t dst v pc).reg k = s.reg k := by
  have hcount (u : State) (ev : Nat) : (u.pmc t ev 1).reg k = u.reg k := (u.pmc_spec t ev 1).2 k fun n _ => hpmc n
  rw [State.retireCore_eq]
  dsimp only
  rw [State.setTilePc, State.reg_setReg_other _ _ hpc, hcount, hcount, State.reg_jumpTraced _ t pc htrace, s.reg_slotsWritten t dst v h]

end Completes

/-! ### A fault (R246) -/

section TileFault

variable (s : State) (t : Nat) (x : Bool) (code info : Nat)

theorem State.tile_tileFault : (s.tileFault t x code info).tile t =
    { s.tile t with x := none, await := none, wait := none, sleep := 0, haltReq := false, steps := 0, frogDue := true,
                    code := if code = 0x13 then info else code } := by
  simp [State.tileFault]

theorem State.tileSt_tileFault : (s.tileFault t x code info).tileSt t = 3 := by
  unfold State.tileSt State.tileFault
  dsimp only
  unfold State.fld
  rw [State.reg_irq_other _ (by unfold TILE_STATUS IRQ_RAW tilePage; omega)]
  exact State.fld_setFld_same _ _ _ _ _ (by decide) (by decide)

theorem State.reg_tileFault_code :
    (s.tileFault t x code info).reg (TILE_FAULT t) = word (code + x.toNat * 0x100 + s.tilePc t * 0x10000) := by
  unfold State.tileFault State.setTileSt
  dsimp only
  rw [State.reg_irq_other _ (by unfold TILE_FAULT IRQ_RAW tilePage; omega),
    State.reg_setFld_other _ _ _ _ (by unfold TILE_FAULT TILE_STATUS; omega),
    State.reg_setReg_other _ _ (by unfold TILE_FAULT TILE_FAULT_INFO; omega), State.reg_setReg_same]
  exact congrArg (fun n => word (code + x.toNat * 0x100 + n * 0x10000)) (s.tilePc_traceEv t 3 (s.tilePc t) code t)

theorem State.reg_tileFault_info : (s.tileFault t x code info).reg (TILE_FAULT_INFO t) = word info := by
  unfold State.tileFault State.setTileSt
  dsimp only
  rw [State.reg_irq_other _ (by unfold TILE_FAULT_INFO IRQ_RAW tilePage; omega),
    State.reg_setFld_other _ _ _ _ (by unfold TILE_FAULT_INFO TILE_STATUS; omega), State.reg_setReg_same]

theorem State.mem_tileFault : (s.tileFault t x code info).mem = s.mem := by
  unfold State.tileFault
  exact State.mem_traceEv ..

end TileFault

/-! ### NOP -/

/-- NOP ready in the S slot commits nothing of its own, whatever the X slot latched. -/
theorem exec_nop_inS {s : State} {t : Nat} (ht : t < 64) (on : s.pwr.chipOff = false) (hslot : s.slotOf t 0 = some false) :
    exec (.nop t false 0) s = .next (s.commit t { s := s }) := by
  refine (only_next (decide_eq_true ht) on (nopIssue t false 0 s)).trans (congrArg _ ?_)
  unfold nopIssue
  rw [if_pos (.inl rfl), hslot]
  simp

/-- A fault that the X slot latched is taken where the S slot has none of its own and does not stall. -/
theorem State.commit_latched {s : State} {t c i : Nat} {xr : XRes} (hx : (s.tile t).x = some xr) (hf : xr.fault = some (c, i))
    {r : SRes} (hstall : r.stall = false) (hnone : r.fault = none) : s.commit t r = s.tileFault t true c i := by
  simp [State.commit, hx, hf, hstall, hnone]

/-- Settles O33: the registers by the two slots' writes in their order, the rest by the frame of each step. That the X slot's results wait
for the S slot, which retires both or takes the fault latched there, is log entry 56. -/
theorem bundleRetires : Obligations.BundleRetires := by
  unfold Obligations.BundleRetires
  refine ⟨?completes, ?latched, ?fault⟩
  case completes =>
    intro s t dst v pc _ r hstore u
    obtain ⟨y, htile, hkeep, -, hother⟩ := s.slotsWritten_spec t dst v hstore
    have hu : u.tile t = dst.elim y fun d => y.setGr d v := (s.tile_retireCore t dst v pc t).trans htile
    have hx : y.x = none := hkeep.x.trans (Tile.x_takes _ r)
    have hg (i : Nat) (hi : dst ≠ some i) : (u.tile t).gr i = y.gr i := by
      rw [hu]
      rcases dst with _ | d
      · rfl
      · exact Tile.gr_setGr_other y (fun e => hi (congrArg some e.symm)) v
    have hv (i : Nat) : (u.tile t).vr i = y.vr i := by
      rw [hu]
      cases dst <;> simp
    refine ⟨s.tilePc_retireCore t dst v pc hstore, ?xNone, Tile.gr_zero _, ?dst, ?xReg, ?gKept, ?xVec, ?vKept,
      fun j hj => (s.tile_retireCore t dst v pc j).trans (hother j hj), s.retireCore_frame t dst v pc hstore,
      fun k hpc htrace hpmc => s.reg_retireCore t dst v pc hstore hpc htrace hpmc⟩
    case xNone =>
      rw [hu]
      cases dst <;> simp [hx]
    case dst =>
      rintro i hi rfl
      rw [hu]
      exact Tile.gr_setGr_same y hi v
    case xReg => exact fun i a hi hd hr => (hg i hd).trans ((Tile.gr_congr hkeep.g i).trans (Tile.gr_takes_written _ r hr hi))
    case gKept => exact fun i hd hr => (hg i hd).trans ((Tile.gr_congr hkeep.g i).trans (Tile.gr_takes_other _ r hr))
    case xVec => exact fun i bs hr => (hv i).trans ((Tile.vr_congr hkeep.v i).trans (Tile.vr_takes_written _ r hr))
    case vKept => exact fun i hr => (hv i).trans ((Tile.vr_congr hkeep.v i).trans (Tile.vr_takes_other _ r hr))
  case latched =>
    intro s t xr c i ht on hslot hx hf
    rw [exec_nop_inS ht on hslot, State.commit_latched hx hf rfl rfl]
  case fault =>
    intro s t slot c i _ u
    have htile := s.tile_tileFault t slot c i
    exact ⟨s.tileSt_tileFault t slot c i, s.reg_tileFault_code t slot c i, s.reg_tileFault_info t slot c i,
      State.flag_irq_same _ _ (by decide), congrArg Tile.frogDue htile, fun n => Tile.gr_congr (congrArg Tile.g htile) n,
      s.mem_tileFault t slot c i⟩

end Sys2Proof.Machine
end

section
/-! SUPPORT AND PROOFS. The S slot's arithmetic (R229) and the core control registers (R248): how each kind of result of the S slot
commits, and what each instruction computes. -/

namespace Sys2Proof.Machine

/-! ### How a result of the S slot commits (R226, R227) -/

section Commit

theorem State.commit_fault (s u : State) (t c i : Nat) : s.commit t (.bad u c i) = u.tileFault t false c i := State.commit_bad _ rfl rfl

theorem State.commit_illegal (s : State) (t : Nat) : s.commit t (.illegal s) = s.tileFault t false 0x10 0 := State.commit_bad _ rfl rfl

theorem State.commit_stalled (s u : State) (t : Nat) : s.commit t { s := u, stall := true } = s := State.commit_stall _ rfl

variable {s : State} {t : Nat} {w : Word} (h : s.readyS t w = true)

include h

theorem State.commit_reg (u : State) (v : Word) : s.commit t (.reg u (fd w) v) = u.retire t (some (fd w)) v none :=
  State.commit_done h _ (.inr rfl) rfl rfl rfl rfl rfl

theorem State.commit_plain (u : State) : s.commit t { s := u } = u.retire t none 0 none :=
  State.commit_done h _ (.inl rfl) rfl rfl rfl rfl rfl

end Commit

/-! ### The commands -/

section Commands

variable {s : State} {t : Nat} {w : Word} (h : s.readyS t w = true)

include h

theorem exec_alu (ho : opc w = 0x01) : exec (.alu t w) s = .next (s.commit t (sAlu t w s)) := only_issueS h (beq_iff_eq.2 ho) _

theorem exec_addi (ho : opc w = 0x02) : exec (.addi t w) s = .next (s.commit t (sAddi t w s)) := only_issueS h (beq_iff_eq.2 ho) _

theorem exec_lui (ho : opc w = 0x03) : exec (.lui t w) s = .next (s.commit t (sLui w s)) := only_issueS h (beq_iff_eq.2 ho) _

theorem exec_ori (ho : opc w = 0x04) : exec (.ori t w) s = .next (s.commit t (sOri t w s)) := only_issueS h (beq_iff_eq.2 ho) _

theorem exec_csrr (ho : opc w = 0x1A) : exec (.csrr t w) s = .next (s.commit t (sCsrr t w s)) := only_issueS h (beq_iff_eq.2 ho) _

theorem exec_csrw (ho : opc w = 0x1B) : exec (.csrw t w) s = .next (s.commit t (sCsrw t w s)) := only_issueS h (beq_iff_eq.2 ho) _

end Commands

/-- NOP ready in the X slot latches no result. -/
theorem exec_nop_inX {s : State} {t : Nat} (h : s.readyX t 0 = true) : exec (.nop t true 0) s = .next (s.latch t {}) := by
  obtain ⟨on, ht, hslot, hfetch⟩ := State.readyX_iff.1 h
  refine (only_next (decide_eq_true ht) on (nopIssue t true 0 s)).trans (congrArg _ ?_)
  unfold nopIssue
  rw [if_pos (.inl rfl), hslot]
  exact if_pos hfetch

/-! ### What they compute (R229, R248) -/

/-- The functions of ALU by number, with their values on `a` and `b`. -/
def aluTable (a b : Word) : List (Nat × Word) :=
  let n := b.toNat % 32
  [(0, a + b), (1, a - b), (2, a &&& b), (3, a ||| b), (4, a ^^^ b), (5, a <<< n), (6, a >>> n), (7, a.sshiftRight n), (8, a * b),
    (9, word (a.toNat * b.toNat / 2 ^ 32)), (10, if a.toInt < b.toInt then 1 else 0), (11, if a.toNat < b.toNat then 1 else 0),
    (12, if a.toInt < b.toInt then a else b), (13, if a.toInt < b.toInt then b else a)]

theorem aluOp_listed {f : Nat} {a b v : Word} (h : (f, v) ∈ aluTable a b) : aluOp f a b = some v := by
  have hall : ∀ p ∈ aluTable a b, aluOp p.1 a b = some p.2 := by
    simp [aluTable, aluOp, BitVec.slt, BitVec.ult]
  exact hall _ h

theorem aluOp_unlisted {f : Nat} (h : 13 < f) (a b : Word) : aluOp f a b = none := by
  obtain ⟨k, rfl⟩ := Nat.exists_eq_add_of_le' h
  rfl

section Results

variable {s : State} {t : Nat} {w : Word}

theorem sAlu_value {v : Word} (h : aluOp (fn w) ((s.tile t).gr (fa w)) ((s.tile t).gr (fb w)) = some v) :
    sAlu t w s = .reg s (fd w) v := by
  unfold sAlu
  dsimp only
  rw [h]

theorem sAlu_illegal (h : 13 < fn w) : sAlu t w s = .illegal s := by
  unfold sAlu
  dsimp only
  rw [aluOp_unlisted h]

theorem sCsrr_value {v : Word} (ha : fa w = 0) (hb : bits w 15 8 = 0) (h : s.csr t (bits w 7 0) = some v) :
    sCsrr t w s = .reg (s.csrRead t (bits w 7 0)) (fd w) v := by
  unfold sCsrr
  rw [if_neg (by simp [ha, hb]), h]

theorem sCsrr_unknown (ha : fa w = 0) (hb : bits w 15 8 = 0) (h : s.csr t (bits w 7 0) = none) : sCsrr t w s = .illegal s := by
  unfold sCsrr
  rw [if_neg (by simp [ha, hb]), h]

theorem sCsrw_stored {u : State} (hd : fd w = 0) (hb : bits w 15 8 = 0)
    (h : s.csrWrite t (bits w 7 0) ((s.tile t).gr (fa w)) = some u) : sCsrw t w s = { s := u } := by
  unfold sCsrw
  rw [if_neg (by simp [hd, hb]), h]

theorem sCsrw_unknown (hd : fd w = 0) (hb : bits w 15 8 = 0) (h : s.csrWrite t (bits w 7 0) ((s.tile t).gr (fa w)) = none) :
    sCsrw t w s = .illegal s := by
  unfold sCsrw
  rw [if_neg (by simp [hd, hb]), h]

end Results

/-- Settles O34: each command commits the result its instruction computes. -/
theorem tileArithmetic : Obligations.TileArithmetic := by
  unfold Obligations.TileArithmetic
  refine ⟨?alu, ?addi, ?lui, ?ori, ?nopS, fun t s h => exec_nop_inX h, ?csrr, ?csrw⟩
  case alu =>
    intro t w s h ho a b n
    rw [exec_alu h ho]
    refine ⟨fun f v hmem hf => ?_, fun hbig => ?_⟩
    · have hop : aluOp (fn w) a b = some v := hf ▸ aluOp_listed hmem
      rw [sAlu_value hop, State.commit_reg h]
    · rw [sAlu_illegal hbig, State.commit_illegal]
  case addi =>
    intro t w s h ho
    rw [exec_addi h ho, sAddi, State.commit_reg h]
  case lui =>
    intro t w s h ho
    rw [exec_lui h ho, sLui]
    refine ⟨fun ha => ?_, fun ha => ?_⟩
    · rw [if_pos ha, State.commit_reg h]
    · rw [if_neg ha, State.commit_illegal]
  case ori =>
    intro t w s h ho
    rw [exec_ori h ho, sOri, State.commit_reg h]
  case nopS =>
    intro t s h
    obtain ⟨on, ht, hslot, -, -⟩ := State.readyS_iff.1 h
    rw [exec_nop_inS ht on hslot, State.commit_plain h]
  case csrr =>
    intro t w s h ho ha hb
    rw [exec_csrr h ho]
    refine ⟨fun v hv => ?_, fun hnone => ?_⟩
    · rw [sCsrr_value ha hb hv, State.commit_reg h]
    · rw [sCsrr_unknown ha hb hnone, State.commit_illegal]
  case csrw =>
    intro t w s h ho hd hb
    rw [exec_csrw h ho]
    refine ⟨fun u hu => ?_, fun hnone => ?_⟩
    · rw [sCsrw_stored hd hb hu, State.commit_plain h]
    · rw [sCsrw_unknown hd hb hnone, State.commit_illegal]

end Sys2Proof.Machine
end

section
/-! SUPPORT AND PROOFS. Loads and stores of the S slot: the scratchpad behind its checks (R230), and the accesses that LDG and STG perform
by address (R231). -/

namespace Sys2Proof.Machine

/-! ### The commands -/

section Commands

variable {s : State} {t : Nat} {w : Word} (h : s.readyS t w = true)

include h

theorem exec_ldl (ho : opc w = 0x08) : exec (.ldl t w) s = .next (s.commit t (sLdl t w s)) := only_issueS h (beq_iff_eq.2 ho) _

theorem exec_stl (ho : opc w = 0x09) : exec (.stl t w) s = .next (s.commit t (sStl t w s)) := only_issueS h (beq_iff_eq.2 ho) _

theorem exec_ldg (ho : opc w = 0x0C) : exec (.ldg t w) s = .next (s.commit t (sLdg t w s)) := only_issueS h (beq_iff_eq.2 ho) _

theorem exec_stg (ho : opc w = 0x0D) : exec (.stg t w) s = .next (s.commit t (sStg t w s)) := only_issueS h (beq_iff_eq.2 ho) _

theorem State.commit_await (u : State) (a : Await) :
    s.commit t { s := u, dst := some (fd w), await := some a } = u.setTile t { u.tile t with await := some a } := by
  obtain ⟨-, -, -, hx, -⟩ := State.readyS_iff.1 h
  have hone := State.readyS_once h (some (fd w)) (.inr rfl)
  simp only [State.commit, hx, hone]
  simp

theorem State.commit_posted (u : State) (f : Bool) (c : Nat) :
    s.commit t { s := u, posted := some (f, c) } = (u.retire t none 0 none).postedEnd t f (s.tilePc t) c :=
  State.commit_done h _ (.inl rfl) rfl rfl rfl rfl rfl

end Commands

/-! ### The scratchpad (R230, Table 11.7) -/

section Local

variable {s : State} {t : Nat}

theorem State.localCheck_beyond {off : Nat} (h : 0x7FFFF < off) (n : Nat) (wr : Bool) : s.localCheck t off n wr = (some (0x12, 0), s) :=
  if_pos h

theorem State.localCheck_unaligned {off n : Nat} (h : off ≤ 0x7FFFF) (hn : off % n ≠ 0) (wr : Bool) :
    s.localCheck t off n wr = (some (0x03, 0), s) := (if_neg (Nat.not_lt_of_le h)).trans (if_pos hn)

variable {w : Word} {c i : Nat} {u : State}

theorem sLdl_loads (h : s.localCheck t (addImm ((s.tile t).gr (fa w)) (imm16 w)) 4 false = (none, s)) :
    sLdl t w s = .reg s (fd w) (s.wordAt (spad t (addImm ((s.tile t).gr (fa w)) (imm16 w)))) := by
  unfold sLdl
  dsimp only
  rw [h]

theorem sLdl_faults (h : s.localCheck t (addImm ((s.tile t).gr (fa w)) (imm16 w)) 4 false = (some (c, i), u)) :
    sLdl t w s = .bad u c i := by
  unfold sLdl
  dsimp only
  rw [h]

theorem sStl_stores (h : s.localCheck t (addImm ((s.tile t).gr (fa w)) (imm16 w)) 4 true = (none, s)) :
    sStl t w s =
      { s := s.localStore t (addImm ((s.tile t).gr (fa w)) (imm16 w)) (leBytes 4 ((s.tile t).gr (fd w)).toNat) } := by
  unfold sStl
  dsimp only
  rw [h]

theorem sStl_faults (h : s.localCheck t (addImm ((s.tile t).gr (fa w)) (imm16 w)) 4 true = (some (c, i), u)) :
    sStl t w s = .bad u c i := by
  unfold sStl
  dsimp only
  rw [h]

end Local

/-! ### Accesses by address (R231) -/

/-- The state once the read of an LDG has been performed. -/
abbrev State.ldgRead (s : State) (t : Nat) (w : Word) : State :=
  (s.busRead (s.tileReq t) (s.globalAddr t w) 4).sideTurn t (s.globalAddr t w)

/-- The state once the write of an STG has been performed. -/
abbrev State.stgWritten (s : State) (t : Nat) (w : Word) : State :=
  (s.busWrite (s.tileReq t) (s.globalAddr t w) 4 ((s.tile t).gr (fd w)).toNat).sideTurn t (s.globalAddr t w)

section Global

variable {s : State} {t : Nat} {w : Word}

theorem sLdg_illegal (h : globalOk w = false) : sLdg t w s = .illegal s := if_pos (by simp [h])

theorem sStg_illegal (h : globalOk w = false) : sStg t w s = .illegal s := if_pos (by simp [h])

variable (hok : globalOk w = true)

include hok

theorem sLdg_blocked (h : s.globalWaits t (s.globalAddr t w) = true) : sLdg t w s = { s := s, stall := true } :=
  (if_neg (by simp [hok])).trans (if_pos h)

theorem sStg_blocked (h : s.globalWaits t (s.globalAddr t w) = true) : sStg t w s = { s := s, stall := true } :=
  (if_neg (by simp [hok])).trans (if_pos h)

variable (hfree : s.globalWaits t (s.globalAddr t w) = false)

include hfree

theorem sStg_stalls (h : (s.stgWritten t w).resp.code = 0x100) : sStg t w s =
    { s := (s.stgWritten t w).setTile t
        { (s.stgWritten t w).tile t with stg := ((s.stgWritten t w).tile t).stg ++ [(bit w 15, s.tilePc t / 8 * 8)] } } :=
  (if_neg (by simp [hok])).trans ((if_neg (by simp [hfree])).trans (if_pos h))

theorem sStg_completes (h : (s.stgWritten t w).resp.code ≠ 0x100) :
    sStg t w s = { s := s.stgWritten t w, posted := some (bit w 15, (s.stgWritten t w).resp.code) } :=
  (if_neg (by simp [hok])).trans ((if_neg (by simp [hfree])).trans (if_neg h))

theorem sLdg_noTag (h : (s.ldgRead t w).resp.code = 0x101) : sLdg t w s = { s := s.ldgRead t w, stall := true } := by
  unfold sLdg
  simp only [hok, hfree, h]
  simp

theorem sLdg_awaits (h : (s.ldgRead t w).resp.code = 0x100 ∨ (s.ldgRead t w).resp.code = 0x102) :
    sLdg t w s = { s := s.ldgRead t w, dst := some (fd w), await := some ⟨0, fd w, bit w 15⟩ } := by
  unfold sLdg
  rcases h with h | h
  · simp only [hok, hfree, h]
    simp
  · simp only [hok, hfree, h]
    simp

/-- A read that has ended: its code faults with F, else it is kept and the word is written. -/
theorem sLdg_ends (h : (s.ldgRead t w).resp.code < 0x100) : sLdg t w s =
    let u := s.ldgRead t w
    let c := u.resp.code
    if bit w 15 = true ∧ c = 8 then .bad u 0x08
    else if bit w 15 = true ∧ c ≠ 0 then .bad u 0x13 c
    else .reg (if bit w 15 = true then u else u.setTile t ((u.tile t).lastCode c)) (fd w) (if c = 0 then u.resp.data.headD 0 else 0) := by
  unfold sLdg State.ldgRead
  unfold State.ldgRead at h
  generalize (s.busRead (s.tileReq t) (s.globalAddr t w) 4).sideTurn t (s.globalAddr t w) = u at h ⊢
  simp only [hok, hfree, Bool.not_true, Bool.false_eq_true, if_false]
  split
  · omega
  · omega
  · omega
  · cases bit w 15 <;> rfl

end Global

/-- Settles O35: each command commits its result, by the check of its offset or by the code of its access. That an odd or zero a is illegal
is log entry 32, when a posted store's fault is taken is log entry 33, and the waits at the port are log entry 84. -/
theorem tileLoadsAndStores : Obligations.TileLoadsAndStores := by
  unfold Obligations.TileLoadsAndStores
  refine ⟨?ldl, ?stl, ?ldg, ?stg⟩
  case ldl =>
    intro t w s h ho off
    rw [exec_ldl h ho]
    have hbad (c i : Nat) (u : State) (hc : s.localCheck t off 4 false = (some (c, i), u)) :
        (.next (s.commit t (sLdl t w s)) : Host.Outcome State Fault Refusal) = .next (u.tileFault t false c i) := by
      rw [sLdl_faults hc, State.commit_fault]
    refine ⟨fun hc => ?_, hbad, fun hbig => hbad _ _ _ (State.localCheck_beyond hbig 4 false),
      fun hle hal => hbad _ _ _ (State.localCheck_unaligned hle hal false)⟩
    rw [sLdl_loads hc, State.commit_reg h]
  case stl =>
    intro t w s h ho off
    rw [exec_stl h ho]
    have hbad (c i : Nat) (u : State) (hc : s.localCheck t off 4 true = (some (c, i), u)) :
        (.next (s.commit t (sStl t w s)) : Host.Outcome State Fault Refusal) = .next (u.tileFault t false c i) := by
      rw [sStl_faults hc, State.commit_fault]
    refine ⟨fun hc => ?_, hbad, fun hbig => hbad _ _ _ (State.localCheck_beyond hbig 4 true),
      fun hle hal => hbad _ _ _ (State.localCheck_unaligned hle hal true)⟩
    rw [sStl_stores hc, State.commit_plain h]
  case ldg =>
    intro t w s h ho u c
    rw [exec_ldg h ho]
    refine ⟨fun hok hw => ?blocked, fun hok hfree => ⟨fun hc => ?ok, fun hc => ?noTag, fun hc => ?awaits, fun h0 hlt hf => ?kept,
      fun h0 hlt hf => ?faults⟩, fun hbad => ?illegal⟩
    case blocked => rw [sLdg_blocked hok hw, State.commit_stalled]
    case illegal => rw [sLdg_illegal hbad, State.commit_illegal]
    case noTag => rw [sLdg_noTag hok hfree hc, State.commit_stalled]
    case awaits => rw [sLdg_awaits hok hfree hc, State.commit_await h]
    case ok =>
      have hcode : (s.ldgRead t w).resp.code = 0 := hc
      rw [sLdg_ends hok hfree (by omega)]
      simp only [hcode]
      rw [if_neg (by simp), if_neg (by simp), State.commit_reg h]
      rfl
    case kept =>
      have hne : (s.ldgRead t w).resp.code ≠ 0 := h0
      rw [sLdg_ends hok hfree hlt]
      simp only [hf]
      rw [if_neg (by simp), if_neg (by simp), if_neg hne, State.commit_reg h]
      rfl
    case faults =>
      rw [sLdg_ends hok hfree hlt]
      dsimp only
      by_cases h8 : c = 8
      · rw [if_pos ⟨hf, h8⟩, if_pos h8, State.commit_fault]
      · rw [if_neg (fun e => h8 e.2), if_pos ⟨hf, h0⟩, if_neg h8, State.commit_fault]
  case stg =>
    intro t w s h ho u
    rw [exec_stg h ho]
    refine ⟨fun hok hw => ?blocked, fun hok hfree hc => ?completes, fun hok hfree hc => ?stalls, fun hbad => ?illegal⟩
    case blocked => rw [sStg_blocked hok hw, State.commit_stalled]
    case illegal => rw [sStg_illegal hbad, State.commit_illegal]
    case completes => rw [sStg_completes hok hfree hc, State.commit_posted h]
    case stalls => rw [sStg_stalls hok hfree hc, State.commit_plain h]

end Sys2Proof.Machine
end

section
/-! SUPPORT AND PROOFS. Control flow of the S slot: branches and jumps (R226, R232), waits (R240), checkpoints (R376), fences, END and YIELD
(R245, R246). -/

namespace Sys2Proof.Machine

/-! ### The commands -/

section Commands

variable {s : State} {t : Nat} {w : Word} (h : s.readyS t w = true)

include h

theorem exec_branch (hlo : 0x10 ≤ opc w) (hhi : opc w ≤ 0x15) : exec (.branch t w) s = .next (s.commit t (sBranch t w s)) :=
  only_issueS h (by simp [hlo, hhi]) _

theorem exec_jal (ho : opc w = 0x16) : exec (.jal t w) s = .next (s.commit t (sJal t w s)) := only_issueS h (beq_iff_eq.2 ho) _

theorem exec_jr (ho : opc w = 0x17) : exec (.jr t w) s = .next (s.commit t (sJr t w s)) := only_issueS h (beq_iff_eq.2 ho) _

theorem exec_wait (ho : opc w = 0x18) : exec (.wait t w) s = .next (s.commit t (sWait w s)) := only_issueS h (beq_iff_eq.2 ho) _

theorem exec_waitM (ho : opc w = 0x19) : exec (.waitM t w) s = .next (s.commit t (sWaitM w s)) := only_issueS h (beq_iff_eq.2 ho) _

theorem exec_endBundle (ho : opc w = 0x1C) (hf : fn w = 0) : exec (.endBundle t w) s = .next (s.commit t (sEnd w s)) :=
  only_issueS h (by simp [ho, hf]) _

theorem exec_yieldBundle (ho : opc w = 0x1C) (hf : fn w = 1) : exec (.yieldBundle t w) s = .next (s.commit t (sYield w s)) :=
  only_issueS h (by simp [ho, hf]) _

theorem exec_fence (ho : opc w = 0x1C) (hf : fn w = 2) : exec (.fence t w) s = .next (s.commit t (sFence t w s)) :=
  only_issueS h (by simp [ho, hf]) _

theorem exec_chkpt (ho : opc w = 0x1D) : exec (.chkpt t w) s = .next (s.commit t (sChkpt t w s)) := only_issueS h (beq_iff_eq.2 ho) _

theorem exec_fault (ho : opc w = 0x1E) : exec (.fault t w) s = .next (s.commit t (sFault w s)) := only_issueS h (beq_iff_eq.2 ho) _

/-- A result that may jump: its register is the instruction's, where it has one. -/
theorem State.commit_jump (u : State) {d : Option Nat} (hd : d = none ∨ d = some (fd w)) (v : Word) (pc : Option Nat) :
    s.commit t { s := u, dst := d, val := v, pc := pc } = u.retire t d v pc := State.commit_done h _ hd rfl rfl rfl rfl rfl

/-- A WAIT retires with the event word where its condition is true; else the tile waits. -/
theorem State.commit_wait (u : State) {d : Option Nat} (hd : d = none ∨ d = some (fd w)) (m : Nat × Nat × Bool) :
    s.commit t { s := u, dst := d, wait := some m } =
      if s.waitMet t m.2.1 m.2.2 = true then u.retire t (some m.1) (word (s.evt t)) none else u.tileWait t m := by
  obtain ⟨-, -, -, hx, -⟩ := State.readyS_iff.1 h
  have hone := State.readyS_once h d hd
  simp only [State.commit, hx, hone]
  simp

theorem State.commit_end (u : State) : s.commit t { s := u, then' := 2 } = (u.retireCore t none 0 none).tileEnd t := by
  obtain ⟨-, -, -, hx, -⟩ := State.readyS_iff.1 h
  simp only [State.commit, hx]
  simp

theorem State.commit_yield (u : State) : s.commit t { s := u, then' := 3 } =
    let v := u.retire t none 0 none
    if (v.tile t).preempt = true then v.setTile t { v.tile t with yielded := true } else v := by
  obtain ⟨-, -, -, hx, -⟩ := State.readyS_iff.1 h
  simp only [State.commit, hx]
  simp

end Commands

theorem exec_waitRelease {t : Nat} {s : State} (ht : t < 64) (on : s.pwr.chipOff = false) (he : s.flag (PAGE_CTRL (0x100 + t)) 0 = true) :
    exec (.waitRelease t) s = .next (waitRelease t s) := only_heldIdle (decide_eq_true ht) on he _

/-! ### What they do -/

/-- Whether a compare-and-branch opcode takes its branch, as a comparison of the numbers in the registers. -/
theorem taken_iff (o : Nat) (a b : Word) : taken o a b = true ↔
    match o with
    | 0x10 => a = b
    | 0x11 => a ≠ b
    | 0x12 => a.toInt < b.toInt
    | 0x13 => b.toInt ≤ a.toInt
    | 0x14 => a.toNat < b.toNat
    | _ => b.toNat ≤ a.toNat := by
  unfold taken
  split <;> simp [BitVec.slt, BitVec.ult]

section Results

variable {s : State} {t : Nat} {w : Word}

theorem sJr_jumps (hd : fd w = 0) (hb : fb w = 0) (hf : fn w = 0) (h : ((s.tile t).gr (fa w)).toNat < 0x10000) :
    sJr t w s = { s := s, pc := some (((s.tile t).gr (fa w)).toNat / 8 * 8) } :=
  (if_neg (by simp [hd, hb, hf])).trans (if_neg (Nat.not_le_of_lt h))

theorem sJr_outside (hd : fd w = 0) (hb : fb w = 0) (hf : fn w = 0) (h : 0x10000 ≤ ((s.tile t).gr (fa w)).toNat) :
    sJr t w s = .bad s 0x11 := (if_neg (by simp [hd, hb, hf])).trans (if_pos h)

theorem sWait_waits (ha : fa w = 0) (hm : bits w 15 0 ≠ 0) :
    sWait w s = { s := s, dst := some (fd w), wait := some (fd w, bits w 15 0, false) } := if_neg (by simp [ha, hm])

theorem sWaitM_waits (hd : fd w = 0) (ha : fa w = 0) (hm : bits w 15 0 < 64) :
    sWaitM w s = { s := s, wait := some (0, bits w 15 0, true) } := if_neg (by simp [hd, ha, hm])

theorem sFence_clean (h : sysClean w = true) : sFence t w s = { s := s, stall := !(s.tile t).msgIdle } := if_neg (by simp [h])

theorem sChkpt_keeps (hd : fd w = 0) (ha : fa w = 0) (h : (s.tile t).chk.any (fun c => bits w 15 0 < c.1) = false) :
    sChkpt t w s = { s := s.setTile t { s.tile t with chk := some (bits w 15 0, s.now) } } := by
  unfold sChkpt
  rw [if_neg (by simp [hd, ha])]
  dsimp only
  rw [h]
  simp

theorem sChkpt_ignored (hd : fd w = 0) (ha : fa w = 0) (h : (s.tile t).chk.any (fun c => bits w 15 0 < c.1) = true) :
    sChkpt t w s = { s := s } := by
  unfold sChkpt
  rw [if_neg (by simp [hd, ha])]
  dsimp only
  rw [h]
  simp

theorem sFault_clean (hd : fd w = 0) (ha : fa w = 0) (hb : bits w 15 8 = 0) : sFault w s = .bad s 0x14 (bits w 7 0) :=
  if_neg (by simp [hd, ha, hb])

/-- A waited event that is true: the WAIT completes on a clocked domain and asks for the domain elsewhere. -/
theorem waitRelease_met {d m : Nat} {b : Bool} (hwait : (s.tile t).wait = some (d, m, b)) (hst : s.tileSt t = 2)
    (hmet : s.waitMet t m b = true) : waitRelease t s =
      if s.domOn (tileDom t) = true then
        let v := s.traceEv t 2 ((s.tilePc t + 0x10000 - 8) % 0x10000) (s.tilePc t)
        ((v.setTile t (({ s.tile t with wait := none, sleep := 0 } : Tile).setGr d (word (v.evt t)))).setTileSt t 1).boundary t
      else s.setDom (tileDom t) { s.dom (tileDom t) with tcc := true } := by
  unfold waitRelease
  rw [hwait]
  exact if_neg (by simp [hst, hmet])

end Results

/-- Settles O36: each command commits its result, by its comparison, its condition or its code. That JR drops the low three bits and that a
branch's target wraps at 16 bits is log entry 57. -/
theorem tileControlFlow : Obligations.TileControlFlow := by
  unfold Obligations.TileControlFlow
  refine ⟨?branch, ?jal, ?jr, ?wait, ?waitM, ?release, ?sys, ?chkpt, ?fault⟩
  case branch =>
    intro t w s h hlo hhi d a takes
    have htaken : taken (opc w) d a = true ↔ takes := taken_iff (opc w) d a
    rw [exec_branch h hlo hhi, sBranch, State.commit_jump h _ (.inl rfl)]
    refine ⟨fun hyes => ?_, fun hno => ?_⟩
    · rw [if_pos (htaken.2 hyes)]
    · rw [if_neg (fun e => hno (htaken.1 e))]
  case jal =>
    intro t w s h ho
    exact (exec_jal h ho).trans (congrArg _ (State.commit_jump h s (.inr rfl) _ _))
  case jr =>
    intro t w s h ho hd hb hf a
    rw [exec_jr h ho]
    refine ⟨fun hin => ?_, fun hout => ?_⟩
    · rw [sJr_jumps hd hb hf hin, State.commit_jump h _ (.inl rfl)]
    · rw [sJr_outside hd hb hf hout, State.commit_fault]
  case wait =>
    intro t w s h ho ha hm
    rw [exec_wait h ho, sWait_waits ha hm, State.commit_wait h _ (.inr rfl)]
    exact ⟨fun hmet => congrArg _ (if_pos hmet), fun hmet => congrArg _ (if_neg (ne_true_of_eq_false hmet))⟩
  case waitM =>
    intro t w s h ho hd ha hm
    rw [exec_waitM h ho, sWaitM_waits hd ha hm, State.commit_wait h _ (.inl rfl)]
    exact ⟨fun hmet => congrArg _ (if_pos hmet), fun hmet => congrArg _ (if_neg (ne_true_of_eq_false hmet))⟩
  case release =>
    intro t d m b s ht on he hwait hst hmet
    rw [exec_waitRelease ht on he, waitRelease_met hwait hst hmet]
    exact ⟨fun hon => congrArg _ (if_pos hon), fun hoff => congrArg _ (if_neg (ne_true_of_eq_false hoff))⟩
  case sys =>
    intro t w s h ho hclean
    refine ⟨fun hf => ?ends, fun hf => ?yields, fun hf hidle => ?fenced, fun hf hbusy => ?waits⟩
    case ends => rw [exec_endBundle h ho hf, sEnd, if_pos hclean, State.commit_end h]
    case yields => rw [exec_yieldBundle h ho hf, sYield, if_pos hclean, State.commit_yield h]
    case fenced => rw [exec_fence h ho hf, sFence_clean hclean, hidle, Bool.not_true, State.commit_plain h]
    case waits => rw [exec_fence h ho hf, sFence_clean hclean, hbusy, Bool.not_false, State.commit_stalled]
  case chkpt =>
    intro t w s h ho hd ha v
    rw [exec_chkpt h ho]
    refine ⟨fun hnew => ?_, fun hold => ?_⟩
    · rw [sChkpt_keeps hd ha hnew, State.commit_plain h]
    · rw [sChkpt_ignored hd ha hold, State.commit_plain h]
  case fault =>
    intro t w s h ho hd ha hb
    rw [exec_fault h ho, sFault_clean hd ha hb, State.commit_fault]

end Sys2Proof.Machine
end

section
/-! SUPPORT AND PROOFS. The X slot's vector instructions (R230, R234, R236): how a result of the X slot is kept for the bundle, the lanes of
a vector register, and what each instruction computes. -/

namespace Sys2Proof.Machine

/-! ### How a result of the X slot is kept (R227) -/

section Issue

variable {s u : State} {t : Nat} {w : Word} {r : XRes} {mine : Bool} {f : State → Option XRes × State}

theorem only_issueX_latch (h : s.readyX t w = true) (hm : mine = true) (hf : f s = (some r, u)) :
    only (decide (t < 64)) s (s.issueX t w mine f) = .next (u.latch t r) := by
  rw [only_issueX h hm, hf]

theorem only_issueX_stall (h : s.readyX t w = true) (hm : mine = true) (hf : f s = (none, u)) :
    only (decide (t < 64)) s (s.issueX t w mine f) = .next s := by
  rw [only_issueX h hm, hf]

end Issue

section Commands

variable {s u : State} {t : Nat} {w : Word} {r : XRes} (h : s.readyX t w = true)

include h

theorem exec_vop (ho : opc w = 0x30) (hr : xVop t w s = (some r, u)) : exec (.vop t w) s = .next (u.latch t r) :=
  only_issueX_latch h (beq_iff_eq.2 ho) hr

theorem exec_vld (ho : opc w = 0x31) (hr : xVld t w s = (some r, u)) : exec (.vld t w) s = .next (u.latch t r) :=
  only_issueX_latch h (beq_iff_eq.2 ho) hr

theorem exec_vst (ho : opc w = 0x32) (hr : xVst t w s = (some r, u)) : exec (.vst t w) s = .next (u.latch t r) :=
  only_issueX_latch h (beq_iff_eq.2 ho) hr

theorem exec_vbc (ho : opc w = 0x33) (hr : xVbc t w s = (some r, u)) : exec (.vbc t w) s = .next (u.latch t r) :=
  only_issueX_latch h (beq_iff_eq.2 ho) hr

theorem exec_vext (ho : opc w = 0x34) (hr : xVext t w s = (some r, u)) : exec (.vext t w) s = .next (u.latch t r) :=
  only_issueX_latch h (beq_iff_eq.2 ho) hr

end Commands

/-! ### What they keep (R230, Table 11.5) -/

section Results

variable {s : State} {t : Nat} {w : Word}

theorem xVop_allowed (hty : vopTypes (bits w 5 0) (bits w 10 8) = true) (hclean : vopClean w = true) : xVop t w s =
    (some { v := some (fd w, (vopResult (s.tile t) w).1), flags := (vopResult (s.tile t) w).2, ev := 8 }, s) :=
  if_neg (by simp [hty, hclean])

theorem xVop_illegal (h : vopTypes (bits w 5 0) (bits w 10 8) = false ∨ vopClean w = false) :
    xVop t w s = (some { fault := some (0x10, 0) }, s) := if_pos (by simpa using h)

theorem xVld_loads (h : s.localCheck t (addImm ((s.tile t).gr (fa w)) (imm16 w * 64)) 64 false = (none, s)) : xVld t w s =
    (some { v := some (fd w, s.bytesAt (spad t (addImm ((s.tile t).gr (fa w)) (imm16 w * 64))) 64) }, s) := by
  unfold xVld
  dsimp only
  rw [h]

theorem xVld_faults {e : Nat × Nat} {u : State}
    (h : s.localCheck t (addImm ((s.tile t).gr (fa w)) (imm16 w * 64)) 64 false = (some e, u)) :
    xVld t w s = (some { fault := some e }, u) := by
  unfold xVld
  dsimp only
  rw [h]

theorem xVst_stores (h : s.localCheck t (addImm ((s.tile t).gr (fa w)) (imm16 w * 64)) 64 true = (none, s)) : xVst t w s =
    (some { store := some (addImm ((s.tile t).gr (fa w)) (imm16 w * 64), (s.tile t).vr (fd w)) }, s) := by
  unfold xVst
  dsimp only
  rw [h]

theorem xVst_faults {e : Nat × Nat} {u : State}
    (h : s.localCheck t (addImm ((s.tile t).gr (fa w)) (imm16 w * 64)) 64 true = (some e, u)) :
    xVst t w s = (some { fault := some e }, u) := by
  unfold xVst
  dsimp only
  rw [h]

theorem xVbc_broadcasts (hb : fb w = 0) (h7 : bits w 7 0 = 0) (hty : bits w 10 8 ≤ 4) :
    xVbc t w s = (some { v := some (fd w, broadcast (bits w 10 8) ((s.tile t).gr (fa w))) }, s) :=
  if_neg (by simp [hb, h7, hty])

theorem xVbc_illegal (hty : 4 < bits w 10 8) : xVbc t w s = (some { fault := some (0x10, 0) }, s) := if_pos (by simp [hty])

theorem xVext_extracts (hb : fb w = 0) (h7 : bits w 7 6 = 0) (hty : bits w 10 8 ≤ 4) (hi : bits w 5 0 < laneCount (bits w 10 8)) :
    xVext t w s =
      let ty := bits w 10 8
      let n := (lanesOf ty ((s.tile t).vr (fa w))).getD (bits w 5 0) 0
      (some { g := some (fd w, if isFloat ty then word n else ofInt (laneInt ty n)) }, s) := if_neg (by simp [hb, h7, hty, hi])

theorem xVext_illegal (h : 4 < bits w 10 8 ∨ laneCount (bits w 10 8) ≤ bits w 5 0) :
    xVext t w s = (some { fault := some (0x10, 0) }, s) := if_pos (.inr (.inr h))

end Results

/-! ### Lanes of one byte (R236) -/

theorem length_lanesOf (ty : Nat) (v : List Byte) : (lanesOf ty v).length = laneCount ty := by
  simp [lanesOf]

theorem at'_of_lt {α : Type} (d : α) {l : List α} {i : Nat} (h : i < l.length) : at' d l i = l[i] := by
  unfold at'
  rw [List.getD_eq_getElem?_getD, List.getElem?_eq_getElem h, Option.getD_some]

theorem leNat_slice_one (v : List Byte) (i : Nat) : leNat (slice v i 1) = (at' 0 v i).toNat := by
  unfold slice at'
  rw [List.take_one, List.head?_drop, List.getD_eq_getElem?_getD]
  cases v[i]? <;> simp [leNat]

theorem getElem_lanesOf_int8 (v : List Byte) {i : Nat} (h : i < (lanesOf 0 v).length) : (lanesOf 0 v)[i] = (at' 0 v i).toNat := by
  simp [lanesOf, laneBytes, leNat_slice_one]

theorem packLanes_int8 (l : List Nat) : packLanes 0 l = l.map byte := List.map_eq_flatMap.symm

/-- The INT8 sum of two lanes saturates. -/
theorem arithLane_add_int8 (rtz : Bool) (a b : Nat) :
    (arithLane 0 0 rtz a b).1 = ((max (-128) (min 127 (signed 8 a + signed 8 b))) % 256).toNat := by
  have hclamp (i : Int) : clampS 8 i = max (-128) (min 127 i) := by
    unfold clampS
    omega
  exact congrArg (fun i : Int => (i % 256).toNat) (hclamp _)

theorem vopResult_add_int8 {x : Tile} {w : Word} (hop : bits w 5 0 = 0) (hty : bits w 10 8 = 0) : (vopResult x w).1 =
    (List.zip (lanesOf 0 (x.vr (fa w))) (lanesOf 0 (bOperand x w 0))).map fun p => byte (arithLane 0 0 x.rtz p.1 p.2).1 := by
  unfold vopResult
  simp [hop, hty, lanesUp, packLanes_int8]

theorem vopResult_and {x : Tile} {w : Word} (hop : bits w 5 0 = 0x20) (hvec : bit w 6 = false) :
    vopResult x w = ((List.zip (x.vr (fa w)) (x.vr (fb w))).map fun p => p.1 &&& p.2, 0) := by
  unfold vopResult bOperand
  simp [hop, hvec]

/-- Settles O41: each command keeps the result its instruction computes; a lane of the INT8 sum by the lane's bytes. That a lane past the
last is illegal is log entry 57, and that results wait for the bundle is log entry 56. -/
theorem vectorCommands : Obligations.VectorCommands := by
  unfold Obligations.VectorCommands
  refine ⟨?vop, ?sum, fun x w hop hvec => vopResult_and hop hvec, ?vld, ?vst, ?vbc, ?vext⟩
  case vop =>
    exact fun t w s h ho => ⟨fun hty hclean => exec_vop h ho (xVop_allowed hty hclean), fun hbad => exec_vop h ho (xVop_illegal hbad)⟩
  case sum =>
    intro x w i hi hop hty
    have hlen (v : List Byte) : i < (lanesOf 0 v).length := by
      rw [length_lanesOf]
      exact hi
    have hzip (a b : List Byte) (f : Nat × Nat → Byte) : i < ((List.zip (lanesOf 0 a) (lanesOf 0 b)).map f).length := by
      rw [List.length_map, List.length_zip]
      exact Nat.lt_min.2 ⟨hlen a, hlen b⟩
    rw [vopResult_add_int8 hop hty, at'_of_lt _ (hzip ..), List.getElem_map, List.getElem_zip,
      arithLane_add_int8, getElem_lanesOf_int8, getElem_lanesOf_int8]
  case vld => exact fun t w s h ho => ⟨fun hc => exec_vld h ho (xVld_loads hc), fun e u hc => exec_vld h ho (xVld_faults hc)⟩
  case vst => exact fun t w s h ho => ⟨fun hc => exec_vst h ho (xVst_stores hc), fun e u hc => exec_vst h ho (xVst_faults hc)⟩
  case vbc =>
    exact fun t w s h ho hb h7 => ⟨fun hty => exec_vbc h ho (xVbc_broadcasts hb h7 hty), fun hty => exec_vbc h ho (xVbc_illegal hty)⟩
  case vext =>
    exact fun t w s h ho hb h7 => ⟨fun hty hi => exec_vext h ho (xVext_extracts hb h7 hty hi),
      fun hbad => exec_vext h ho (xVext_illegal hbad)⟩

end Sys2Proof.Machine
end

section
/-! SUPPORT AND PROOFS. The matrix assist (R237) and compute in memory (R238, R279 to R281): what MMA, MMR and MMZ keep, the queue of
CIM.MACs, and the sums a finished one adds to its entry. -/

namespace Sys2Proof.Machine

/-! ### The commands -/

section Commands

variable {s u : State} {t : Nat} {w : Word} {r : XRes} (h : s.readyX t w = true)

include h

theorem exec_mma (ho : opc w = 0x38) (hr : xMma t w s = (some r, u)) : exec (.mma t w) s = .next (u.latch t r) :=
  only_issueX_latch h (beq_iff_eq.2 ho) hr

theorem exec_mmr (ho : opc w = 0x39) (hr : xMmr t w s = (some r, u)) : exec (.mmr t w) s = .next (u.latch t r) :=
  only_issueX_latch h (beq_iff_eq.2 ho) hr

theorem exec_mmz (ho : opc w = 0x3A) (hr : xMmz w s = (some r, u)) : exec (.mmz t w) s = .next (u.latch t r) :=
  only_issueX_latch h (beq_iff_eq.2 ho) hr

theorem exec_cimMac (ho : opc w = 0x3C) (hr : xMac t w s = (some r, u)) : exec (.cimMac t w) s = .next (u.latch t r) :=
  only_issueX_latch h (beq_iff_eq.2 ho) hr

theorem exec_cimMac_stall (ho : opc w = 0x3C) (hr : xMac t w s = (none, u)) : exec (.cimMac t w) s = .next s :=
  only_issueX_stall h (beq_iff_eq.2 ho) hr

theorem exec_cimRd (ho : opc w = 0x3D) (hr : xCimRd t w s = (some r, u)) : exec (.cimRd t w) s = .next (u.latch t r) :=
  only_issueX_latch h (beq_iff_eq.2 ho) hr

theorem exec_cimRd_stall (ho : opc w = 0x3D) (hr : xCimRd t w s = (none, u)) : exec (.cimRd t w) s = .next s :=
  only_issueX_stall h (beq_iff_eq.2 ho) hr

theorem exec_cimClr (ho : opc w = 0x3E) (hr : xCimClr t w s = (some r, u)) : exec (.cimClr t w) s = .next (u.latch t r) :=
  only_issueX_latch h (beq_iff_eq.2 ho) hr

theorem exec_cimClr_stall (ho : opc w = 0x3E) (hr : xCimClr t w s = (none, u)) : exec (.cimClr t w) s = .next s :=
  only_issueX_stall h (beq_iff_eq.2 ho) hr

end Commands

theorem exec_cimMacDone {t : Nat} {s : State} (ht : t < 64) (on : s.pwr.chipOff = false) (he : s.flag (PAGE_CTRL (0x100 + t)) 0 = true) :
    exec (.cimMacDone t) s = .next (cimMacDone t s) := only_heldIdle (decide_eq_true ht) on he _

/-! ### The matrix assist (R237) -/

/-- What an MMA that computed these elements with their flags keeps for accumulator `m`. -/
def mmaKept (m : Nat) (r : List (Nat × Nat)) : XRes :=
  { acc := some (m, r.map fun e => word e.1), flags := r.foldl (fun z e => z ||| e.2) 0, ev := 7 }

section Matrix

variable {s : State} {t : Nat} {w : Word}

theorem xMma_int8 (hm : fd w < 4) (hf : fn w = 0) (htag : (s.tile t).fp32.contains (fd w) = false) : xMma t w s =
    (some (mmaKept (fd w) ((List.range 256).map fun n =>
      mmaInt ((s.tile t).vr (fa w)) ((s.tile t).vr (fb w)) ((s.tile t).accAt (fd w) (n / 16) (n % 16)) (n / 16) (n % 16))), s) := by
  unfold xMma
  dsimp only
  rw [hf, htag, if_neg (by simp [hm])]
  rfl

theorem xMma_bf16 (hm : fd w < 4) (hf : fn w = 1) (htag : (s.tile t).fp32.contains (fd w) = true) : xMma t w s =
    (some (mmaKept (fd w) ((List.range 256).map fun n =>
      mmaBf16 (lanesOf 1 ((s.tile t).vr (fa w))) (lanesOf 1 ((s.tile t).vr (fb w)))
        ((s.tile t).accAt (fd w) (n / 16) (n % 16)) (n / 16) (n % 16))), s) := by
  unfold xMma
  dsimp only
  rw [hf, htag, if_neg (by simp [hm])]
  rfl

theorem xMma_illegal (h : 4 ≤ fd w ∨ 1 < fn w ∨ (fn w = 0 ∧ (s.tile t).fp32.contains (fd w) = true) ∨
    (fn w = 1 ∧ (s.tile t).fp32.contains (fd w) = false)) : xMma t w s = (some { fault := some (0x10, 0) }, s) := by
  refine if_pos ?_
  rcases h with hm | hf | ⟨hf, htag⟩ | ⟨hf, htag⟩
  · exact .inl hm
  · exact .inr (.inl hf)
  · exact .inr (.inr (by simp only [htag, hf]; decide))
  · exact .inr (.inr (by simp only [htag, hf]; decide))

theorem xMmr_reads (hb : fb w = 0) (ha : fa w < 4) (hf : fn w < 16) : xMmr t w s =
    (some { v := some (fd w, (List.range 16).flatMap fun j => leBytes 4 ((s.tile t).accAt (fa w) (fn w) j).toNat) }, s) :=
  if_neg (by simp [hb, ha, hf])

theorem xMmz_zeroes (ha : fa w = 0) (hb : fb w = 0) (hd : fd w < 4) (hf : fn w ≤ 1) : xMmz w s =
    (some { acc := some (fd w, List.replicate 256 0), tag := some (fn w == 1) }, s) := if_neg (by simp [ha, hb, hd, hf])

end Matrix

theorem signed_toNat (w : Word) : signed 32 w.toNat = w.toInt := by
  have := w.isLt
  rw [BitVec.toInt_eq_toNat_cond]
  unfold signed
  dsimp only
  omega

/-- An INT8 element: the old one plus the exact sum of four products, modulo 2^32. -/
theorem mmaInt_value (a b : List Byte) (acc : Word) (i j : Nat) :
    let v (k : Nat) : Int := signed 8 (at' 0 a (4 * i + k)).toNat * signed 8 (at' 0 b (16 * k + j)).toNat
    (mmaInt a b acc i j).1 = ((acc.toInt + v 0 + v 1 + v 2 + v 3) % 2 ^ 32).toNat := by
  unfold mmaInt
  rw [signed_toNat]
  rfl

/-! ### Compute in memory (R238, R280, R281) -/

section Cim

variable {s : State} {t : Nat} {w : Word}

theorem xMac_queued (hclean : bits w 15 14 = 0) (hrow : bits w 12 0 % 8 = 0) (hroom : (s.tile t).cimQ.length < 2)
    (hflip : s.flipping t = false) (hok : s.macFault t (bits w 25 25) (bits w 12 0) = none) : xMac t w s =
    (some { mac := some ⟨bits w 25 25, bits w 24 21, bits w 12 0, bit w 13, (s.tile t).vr (fa w)⟩, ev := 6 }, s) := by
  unfold xMac
  dsimp only
  rw [if_neg (by simp [hclean, hrow]), if_neg (by simp [hroom, hflip]), hok]

theorem xMac_stalls (hclean : bits w 15 14 = 0) (hrow : bits w 12 0 % 8 = 0)
    (h : 2 ≤ (s.tile t).cimQ.length ∨ s.flipping t = true) : xMac t w s = (none, s) :=
  (if_neg (by simp [hclean, hrow])).trans (if_pos h)

theorem xCimRd_reads (hhi : bits w 20 20 = 0) (hlo : bits w 15 3 = 0) (h : (s.tile t).entryBusy (bits w 19 16) = false) : xCimRd t w s =
    (some { v := some (fd w, (List.range 16).flatMap fun j =>
      leBytes 4 ((s.tile t).cimAt (bits w 19 16) (16 * bits w 2 0 + j)).toNat) }, s) :=
  (if_neg (by simp [hhi, hlo])).trans (if_neg (ne_true_of_eq_false h))

theorem xCimRd_stalls (hhi : bits w 20 20 = 0) (hlo : bits w 15 3 = 0) (h : (s.tile t).entryBusy (bits w 19 16) = true) :
    xCimRd t w s = (none, s) :=
  (if_neg (by simp [hhi, hlo])).trans (if_pos h)

theorem xCimClr_clears (hhi : bits w 25 20 = 0) (hlo : bits w 15 0 = 0) (h : (s.tile t).entryBusy (bits w 19 16) = false) :
    xCimClr t w s = (some { clr := some (bits w 19 16) }, s) :=
  (if_neg (by simp [hhi, hlo])).trans (if_neg (ne_true_of_eq_false h))

theorem xCimClr_stalls (hhi : bits w 25 20 = 0) (hlo : bits w 15 0 = 0) (h : (s.tile t).entryBusy (bits w 19 16) = true) :
    xCimClr t w s = (none, s) :=
  (if_neg (by simp [hhi, hlo])).trans (if_pos h)

end Cim

/-! ### A CIM.MAC that finishes (R279, R280) -/

theorem Tab.get_clear_other {α : Type} {d : Nat → α} {p : Nat → Bool} {k : Nat} (hk : p k = false) (l : Tab α) :
    (Tab.clear p l).get d k = l.get d k := by
  induction l with
  | nil => rfl
  | cons e l ih =>
    unfold Tab.clear at ih ⊢
    by_cases hp : p e.1 = true
    · have hne : e.1 ≠ k := by
        rintro rfl
        exact ne_true_of_eq_false hk hp
      rw [List.filter_cons_of_neg (by simp [hp])]
      exact ih.trans (if_neg hne).symm
    · rw [List.filter_cons_of_pos (by simp [hp])]
      exact ite_congr rfl (fun _ => rfl) fun _ => ih

/-- A sum added to column `p.1` of the entry whose columns begin at key `base`. -/
def addColumn (base : Nat) (l : Tab Word) (p : Nat × Int) : Tab Word :=
  Tab.set (fun _ => 0) l (base + p.1) (ofInt (signed 32 (Tab.get (fun _ => 0) l (base + p.1)).toNat + p.2))

theorem Tab.get_addColumns_other (base : Nat) (ps : List (Nat × Int)) (l : Tab Word) {k : Nat} (h : ∀ p ∈ ps, k ≠ base + p.1) :
    (ps.foldl (addColumn base) l).get (fun _ => 0) k = l.get (fun _ => 0) k := by
  induction ps generalizing l with
  | nil => rfl
  | cons p ps ih =>
    obtain ⟨hp, hps⟩ := List.forall_mem_cons.1 h
    exact (ih _ hps).trans (Tab.get_set_other _ _ hp)

theorem Tab.get_addColumns (base : Nat) {ps : List (Nat × Int)} (hnd : (ps.map Prod.fst).Nodup) (l : Tab Word) {p : Nat × Int}
    (hp : p ∈ ps) : (ps.foldl (addColumn base) l).get (fun _ => 0) (base + p.1) =
      ofInt (signed 32 (l.get (fun _ => 0) (base + p.1)).toNat + p.2) := by
  induction ps generalizing l with
  | nil => cases hp
  | cons e ps ih =>
    obtain ⟨he, hnd⟩ := List.nodup_cons.1 (List.map_cons ▸ hnd)
    rcases List.mem_cons.1 hp with rfl | hp
    · exact (Tab.get_addColumns_other base ps _ fun e he' h => he (List.mem_map.2 ⟨e, he', by omega⟩)).trans (Tab.get_set_same ..)
    · have hne : p.1 ≠ e.1 := fun h => he (h ▸ List.mem_map_of_mem hp)
      rw [List.foldl_cons, ih hnd _ hp, addColumn, Tab.get_set_other _ _ (by omega)]

/-- The columns of tile `x` before the sums of `m` are added: those of its entry zero where it writes them. -/
def Tile.cimBefore (x : Tile) (m : CimOp) : Tab Word := if m.clear then x.cim.clear fun k => k / 128 == m.entry else x.cim

/-- The record of tile `x` once the sums of the oldest CIM.MAC `m` are in its entry. -/
def Tile.macDone (x : Tile) (m : CimOp) (rest : List CimOp) (sums : List Int) : Tile :=
  { x with cimQ := rest, cim := (List.zip (List.range sums.length) sums).foldl (addColumn (128 * m.entry)) (x.cimBefore m) }

theorem cimMacDone_cons {t : Nat} {s : State} {m : CimOp} {rest : List CimOp} (h : (s.tile t).cimQ = m :: rest) :
    cimMacDone t s = (s.setTile t ((s.tile t).macDone m rest (s.macSums t m))).tileSleep t := by
  unfold cimMacDone
  dsimp only
  rw [h]
  rfl

section MacDone

variable (x : Tile) (m : CimOp)

theorem Tile.get_cimBefore {c : Nat} (hc : c < 128) :
    (x.cimBefore m).get (fun _ => 0) (128 * m.entry + c) = if m.clear = true then (0 : Word) else x.cimAt m.entry c := by
  unfold Tile.cimBefore
  split
  · exact Tab.get_clear (p := fun k => k / 128 == m.entry) (beq_iff_eq.2 (by omega)) _
  · rfl

variable (rest : List CimOp) {sums : List Int} (hlen : sums.length ≤ 128)

include hlen

theorem Tile.cimAt_macDone {c : Nat} (hc : c < sums.length) : (x.macDone m rest sums).cimAt m.entry c =
    ofInt (signed 32 (if m.clear = true then (0 : Word) else x.cimAt m.entry c).toNat + at' 0 sums c) := by
  have hnd : ((List.zip (List.range sums.length) sums).map Prod.fst).Nodup := by
    rw [List.map_fst_zip (by simp)]
    exact List.nodup_range
  have hmem : (c, at' 0 sums c) ∈ List.zip (List.range sums.length) sums := by
    rw [at'_of_lt _ hc]
    exact List.mem_iff_getElem.2 ⟨c, by simpa using hc, by simp⟩
  rw [← Tile.get_cimBefore x m (Nat.lt_of_lt_of_le hc hlen)]
  exact Tab.get_addColumns (128 * m.entry) hnd (x.cimBefore m) hmem

theorem Tile.cimAt_macDone_other {e c : Nat} (he : e ≠ m.entry) (hc : c < 128) :
    (x.macDone m rest sums).cimAt e c = x.cimAt e c := by
  have hkeys : ∀ p ∈ List.zip (List.range sums.length) sums, 128 * e + c ≠ 128 * m.entry + p.1 := by
    intro p hp
    have hlt := List.mem_range.1 (List.of_mem_zip hp).1
    omega
  refine (Tab.get_addColumns_other (128 * m.entry) _ (x.cimBefore m) hkeys).trans ?_
  unfold Tile.cimBefore
  split
  · exact Tab.get_clear_other (p := fun k => k / 128 == m.entry) (beq_eq_false_iff_ne.2 (by omega)) _
  · rfl

end MacDone

theorem State.length_macSums (s : State) (t : Nat) (m : CimOp) : (s.macSums t m).length ≤ 128 := by
  unfold State.macSums
  dsimp only
  rw [List.length_map, List.length_range]
  split <;> decide

/-- Settles O42: each command keeps the result its instruction computes, and a finished CIM.MAC writes its sums column by column. That the
sums are made when it finishes and that CIM.CLR waits for the queued operations is log entry 59; the order of BF16 products is entry 57. -/
theorem matrixCommands : Obligations.MatrixCommands := by
  unfold Obligations.MatrixCommands
  refine ⟨?mma, mmaInt_value, ?mmr, ?mmz, ?mac, ?macDone, ?rd, ?clr⟩
  case mma =>
    exact fun t w s h ho => ⟨fun hm hf htag => exec_mma h ho (xMma_int8 hm hf htag),
      fun hm hf htag => exec_mma h ho (xMma_bf16 hm hf htag), fun hbad => exec_mma h ho (xMma_illegal hbad)⟩
  case mmr => exact fun t w s h ho hb ha hf => exec_mmr h ho (xMmr_reads hb ha hf)
  case mmz => exact fun t w s h ho ha hb hd hf => exec_mmz h ho (xMmz_zeroes ha hb hd hf)
  case mac =>
    exact fun t w s h ho hclean hrow => ⟨fun hroom hflip hok => exec_cimMac h ho (xMac_queued hclean hrow hroom hflip hok),
      fun hfull => exec_cimMac_stall h ho (xMac_stalls hclean hrow hfull)⟩
  case macDone =>
    intro t m rest s ht on he hq
    have hlen := s.length_macSums t m
    refine ⟨s.setTile t ((s.tile t).macDone m rest (s.macSums t m)), (exec_cimMacDone ht on he).trans (congrArg _ (cimMacDone_cons hq)),
      ?_, rfl, fun c hc => ?_, fun e c he hc => ?_, fun j hj => State.tile_setTile_other _ _ _ hj⟩
    · rw [State.tile_setTile_same]
      rfl
    · rw [State.tile_setTile_same, Tile.cimAt_macDone _ m rest hlen hc]
    · rw [State.tile_setTile_same, Tile.cimAt_macDone_other _ m rest hlen he hc]
  case rd =>
    exact fun t w s h ho hhi hlo => ⟨fun hfree => exec_cimRd h ho (xCimRd_reads hhi hlo hfree),
      fun hbusy => exec_cimRd_stall h ho (xCimRd_stalls hhi hlo hbusy)⟩
  case clr =>
    exact fun t w s h ho hhi hlo => ⟨fun hfree => exec_cimClr h ho (xCimClr_clears hhi hlo hfree),
      fun hbusy => exec_cimClr_stall h ho (xCimClr_stalls hhi hlo hbusy)⟩

end Sys2Proof.Machine
end

section
/-! SUPPORT AND PROOFS. Programs and frogs (R243, R244, R247, R65): TILE_CTRL, a program that begins, TILE_FROG, and the core's part of a
frog. -/

namespace Sys2Proof.Machine

/-! ### The commands -/

section Ctrl

variable {q : Req} {t : Nat} {s : State} (ht : t < 64) (h : s.lands q (TILE_CTRL t) true = true) (v : Word)

include ht h

theorem tileOperands_wf : (q.wf && decide (t < 64)) = true := Bool.and_eq_true_iff.2 ⟨State.lands_wf h, decide_eq_true ht⟩

theorem exec_tileStart : exec (.tileStart q t v) s =
    .next (tileCtrl q t (setBit v 0 true) (s.holder t).isSome (s.answer 0)) := only_writeVia (tileOperands_wf ht h) h _ _

theorem exec_tileFrogRequest : exec (.tileFrogRequest q t v) s =
    .next (tileCtrl q t (setBit v 1 true) (s.holder t).isSome (s.answer 0)) := only_writeVia (tileOperands_wf ht h) h _ _

end Ctrl

theorem exec_tileFrog {t : Nat} {s : State} (ht : t < 64) (on : s.pwr.chipOff = false) :
    exec (.tileFrog t) s = .next (tileFrog t s).teardownRun := only_next (decide_eq_true ht) on _

/-! ### TILE_CTRL (Table 11.8) -/

section TileCtrl

variable (q : Req) (t : Nat) {v : Word} (held : Bool) (s : State)

theorem tileCtrl_start (h0 : bit v 0 = true) (h1 : bit v 1 = false) : tileCtrl q t v held s =
    if s.tileSt t = 0 ∧ !held then s.tileBegin t 0 0 ((s.reg (TILE_ENTRY t)).toNat % 0x10000 / 8 * 8) true
    else s.fail q (TILE_CTRL t) 0x10 := by
  unfold tileCtrl
  simp [h0, h1]

theorem tileCtrl_frog (h0 : bit v 0 = false) (h1 : bit v 1 = true) :
    tileCtrl q t v held s = s.setTile t { s.tile t with frogDue := true } := by
  unfold tileCtrl
  simp [h0, h1]

end TileCtrl

/-! ### A program begins (R243, R244) -/

/-- The record of a tile whose registers are cleared: every register zero, TIMER too. -/
def Tile.cleared (x : Tile) : Tile := { x with g := [], v := [], acc := [], fp32 := [], cim := [], ccr := [(8, 0), (9, 0)] }

theorem Tile.gr_of_nil {x : Tile} (h : x.g = []) (i : Nat) : x.gr i = 0 := by
  unfold Tile.gr
  rw [h]
  exact ite_self _

theorem Tile.vr_of_nil {x : Tile} (h : x.v = []) (i : Nat) : x.vr i = vZero := by
  unfold Tile.vr
  rw [h]
  rfl

section Clear

variable (s : State) (t : Nat)

theorem State.tile_tileClear : (s.tileClear t).tile t = (s.tile t).cleared := by
  unfold State.tileClear
  rw [State.tile_setReg, State.tile_setReg, State.tile_setTile_same]
  rfl

theorem State.tile_tileClear_other {j : Nat} (h : j ≠ t) : (s.tileClear t).tile j = s.tile j := by
  unfold State.tileClear
  rw [State.tile_setReg, State.tile_setReg, State.tile_setTile_other _ _ _ h]

theorem State.reg_tileClear (k : Nat) :
    (s.tileClear t).reg k = ((s.setReg (TILE_SLEEP t) 0).setReg (TILE_DMA_STAT t) 0).reg k := rfl

theorem State.reg_tileClear_setTile (x : Tile) (k : Nat) : ((s.setTile t x).tileClear t).reg k = (s.tileClear t).reg k := rfl

end Clear

/-- `s` as a program of tenant `ten` finds it on tile `t`: cleared where the tenant of the program before was another. -/
def State.tenantCleared (s : State) (t ten : Nat) : State :=
  if (s.tile t).prev = some ten then s else (s.tileClear t).scFreeAll fun i => i / 2048 == t

/-- The record of a tile on which a program begins. -/
def Tile.begun (x : Tile) : Tile :=
  { x with x := none, await := none, wait := none, sleep := 0, yielded := false, parked := false, preempt := false, chk := none
           inbox := [], frogDue := false, code := 0 }

/-- TILE_STATUS of tile `t` with a program of tenant `ten` that runs for slot `job`, or is resident. -/
def runStatus (ten job : Nat) (resident : Bool) : Word := word (1 + resident.toNat * 8 + ten % 8 * 0x10 + job * 0x10000)

theorem runStatus_resident : ∀ ten < 8, bits (runStatus ten 0 true) 2 0 = 1 ∧ bits (runStatus ten 0 true) 6 4 = ten := by decide

section Begin

variable (s : State) (t ten : Nat)

theorem State.haltReq_tenantCleared : ((s.tenantCleared t ten).tile t).haltReq = (s.tile t).haltReq := by
  unfold State.tenantCleared
  split
  · rfl
  · exact (congrArg Tile.haltReq (s.tile_tileClear t)).trans rfl

theorem State.tenantCleared_changed (h : (s.tile t).prev ≠ some ten) : (s.tenantCleared t ten).reg (TILE_DMA_STAT t) = 0 ∧
    ((s.tenantCleared t ten).tile t).g = [] ∧ ((s.tenantCleared t ten).tile t).v = [] := by
  unfold State.tenantCleared
  rw [if_neg h]
  exact ⟨State.reg_setReg_same .., (congrArg Tile.g (s.tile_tileClear t)).trans rfl, (congrArg Tile.v (s.tile_tileClear t)).trans rfl⟩

/-- A program that begins with no halt due: its record and its registers, before the trace unit is told. -/
theorem State.tileBegin_running (h : (s.tile t).haltReq = false) (job pc : Nat) (resident : Bool) :
    ∃ u : State, s.tileBegin t ten job pc resident = u.traceEv t 4 pc 0 ∧ u.tile t = ((s.tenantCleared t ten).tile t).begun ∧
      ∀ k, u.reg k = (((s.tenantCleared t ten).setReg (TILE_STATUS t) (runStatus ten job resident)).setTilePc t pc).reg k :=
  ⟨_, if_neg (ne_true_of_eq_false ((s.haltReq_tenantCleared t ten).trans h)), State.tile_setTile_same .., fun _ => rfl⟩

end Begin

/-! ### A frog (R247) -/

section Frog

variable {s : State} {t : Nat}

theorem tileFrog_due (h : (s.tile t).frogDue = true) (hon : s.domOn (tileDom t) = true) :
    tileFrog t s = (s.frogTile t).unhold 14 t (tileDom t) := (if_neg (by simp [h])).trans (if_neg (by simp [hon]))

theorem tileFrog_asleep (h : (s.tile t).frogDue = true) (hoff : s.domOn (tileDom t) = false) :
    tileFrog t s = s.hold 14 t (tileDom t) := (if_neg (by simp [h])).trans (if_pos (by simp [hoff]))

theorem tileFrog_notDue (h : (s.tile t).frogDue = false) : tileFrog t s = s := if_pos (by simp [h])

end Frog

/-- `s` with the program of tile `t` stopped for a frog: no longer halted, the end shown to the trace unit, IDLE. -/
def State.frogStopped (s : State) (t : Nat) : State :=
  let u := if s.tileSt t = 4 then s.tileUnhalt t else s
  (if u.tileSt t = 0 then u else u.traceEv t 5 (u.tilePc t) (u.tile t).code).tileStop t

/-- The record of a tile that a frog empties, before its registers are cleared. -/
def Tile.frogged (x : Tile) : Tile :=
  { x with sleep := 0, dma := [], dmaOn := false, dmaPos := 0, dmaCode := none, stage := [], stageBad := [], stg := [], cimQ := [],
           out := [], inbox := [], frogDue := false, code := 0, chk := none, haltReq := false, steps := 0 }

section CoreFrog

variable (s : State) (t : Nat)

theorem State.tile_tileStop_other {j : Nat} (h : j ≠ t) : (s.tileStop t).tile j = s.tile j := State.tile_setTile_other _ _ _ h

theorem State.tile_frogStopped_other {j : Nat} (h : j ≠ t) : (s.frogStopped t).tile j = s.tile j := by
  unfold State.frogStopped
  extract_lets u
  have hunhalt : u.tile j = s.tile j := by
    simp only [u]
    split
    · rfl
    · rfl
  rw [State.tile_tileStop_other _ _ h]
  split
  · exact hunhalt
  · exact (State.tile_traceEv ..).trans hunhalt

theorem State.reg_frogStopped_status : (s.frogStopped t).reg (TILE_STATUS t) = 0 := State.reg_setReg_same ..

/-- The core's part of a frog, before its interrupt. -/
theorem State.coreFrog_spec : ∃ u : State, s.coreFrog t = u.irq (tilePage t) 2 ∧
    u.tiles = (((s.frogStopped t).setTile t ((s.frogStopped t).tile t).frogged).tileClear t).tiles ∧
    u.regs = (((s.frogStopped t).setTile t ((s.frogStopped t).tile t).frogged).tileClear t).regs := ⟨_, rfl, rfl, rfl⟩

theorem State.tile_coreFrog : (s.coreFrog t).tile t = ((s.frogStopped t).tile t).frogged.cleared := by
  obtain ⟨u, hu, htiles, -⟩ := s.coreFrog_spec t
  rw [hu, State.tile_irq, State.tile_congr htiles, State.tile_tileClear, State.tile_setTile_same]

theorem State.tile_coreFrog_other {j : Nat} (h : j ≠ t) : (s.coreFrog t).tile j = s.tile j := by
  obtain ⟨u, hu, htiles, -⟩ := s.coreFrog_spec t
  rw [hu, State.tile_irq, State.tile_congr htiles, State.tile_tileClear_other _ _ h, State.tile_setTile_other _ _ _ h,
    s.tile_frogStopped_other t h]

theorem State.reg_coreFrog {k : Nat} (h : k ≠ IRQ_RAW (tilePage t)) :
    (s.coreFrog t).reg k = (((s.frogStopped t).setReg (TILE_SLEEP t) 0).setReg (TILE_DMA_STAT t) 0).reg k := by
  obtain ⟨u, hu, -, hregs⟩ := s.coreFrog_spec t
  rw [hu, State.reg_irq_other _ h, State.reg_congr hregs, State.reg_tileClear_setTile, State.reg_tileClear]

theorem State.tileSt_coreFrog : (s.coreFrog t).tileSt t = 0 := by
  have hreg : (s.coreFrog t).reg (TILE_STATUS t) = 0 := by
    rw [State.reg_coreFrog _ _ (by unfold TILE_STATUS IRQ_RAW tilePage; omega),
      State.reg_setReg_other _ _ (by unfold TILE_STATUS TILE_DMA_STAT; omega),
      State.reg_setReg_other _ _ (by unfold TILE_STATUS TILE_SLEEP; omega), State.reg_frogStopped_status]
  unfold State.tileSt State.fld
  rw [hreg]
  rfl

theorem State.reg_coreFrog_dmaStat : (s.coreFrog t).reg (TILE_DMA_STAT t) = 0 := by
  rw [State.reg_coreFrog _ _ (by unfold TILE_DMA_STAT IRQ_RAW tilePage; omega), State.reg_setReg_same]

theorem State.flag_coreFrog_irq : (s.coreFrog t).flag (IRQ_RAW (tilePage t)) 2 = true := by
  obtain ⟨u, hu, -, -⟩ := s.coreFrog_spec t
  rw [hu]
  exact State.flag_irq_same _ _ (by decide)

end CoreFrog

/-- Settles O43: TILE_CTRL by its two bits, a begin and a frog by the record and the registers they leave. -/
theorem tileStartAndFrogCommands : Obligations.TileStartAndFrogCommands := by
  unfold Obligations.TileStartAndFrogCommands
  refine ⟨?start, ?begins, ?request, ?frog, ?core⟩
  case start =>
    intro q t v s ht h hfrog
    have h0 : bit (setBit v 0 true) 0 = true := by rw [bit_setBit _ _ _ _ (by decide), if_pos rfl]
    have h1 : bit (setBit v 0 true) 1 = false := by rw [bit_setBit _ _ _ _ (by decide), if_neg (by decide), hfrog]
    rw [exec_tileStart ht h, tileCtrl_start _ _ _ _ h0 h1]
    refine ⟨fun hidle hfree => congrArg _ (if_pos ⟨hidle, by simp [hfree]⟩), fun hbusy => congrArg _ (if_neg ?_)⟩
    rintro ⟨hidle, hfree⟩
    rcases hbusy with hne | hheld
    · exact hne hidle
    · simp [hheld] at hfree
  case begins =>
    intro s t ten pc _ hten hhalt u
    obtain ⟨w, hu, htile, hreg⟩ := s.tileBegin_running t ten hhalt 0 pc true
    obtain ⟨hst, hown⟩ := runStatus_resident ten hten
    have htile' : u.tile t = ((s.tenantCleared t ten).tile t).begun := by
      rw [← htile, ← State.tile_traceEv w t 4 pc 0 t, ← hu]
    have hreg' {k : Nat} (hk : k ≠ DBG_TRACE_STAT) :
        u.reg k = (((s.tenantCleared t ten).setReg (TILE_STATUS t) (runStatus ten 0 true)).setTilePc t pc).reg k := by
      rw [← hreg k, ← State.reg_traceEv w t 4 pc 0 hk, ← hu]
    have hstatus : u.reg (TILE_STATUS t) = runStatus ten 0 true := by
      rw [hreg' (by unfold TILE_STATUS DBG_TRACE_STAT; omega), State.setTilePc,
        State.reg_setReg_other _ _ (by unfold TILE_STATUS TILE_PC; omega), State.reg_setReg_same]
    refine ⟨(congrArg (bits · 2 0) hstatus).trans hst, (congrArg (bits · 6 4) hstatus).trans hown,
      (State.tilePc_congr (hreg' (by unfold TILE_PC DBG_TRACE_STAT; omega))).trans (State.tilePc_setTilePc ..), congrArg Tile.x htile',
      congrArg Tile.inbox htile', fun hother => ?_⟩
    obtain ⟨hdma, hg, hv⟩ := s.tenantCleared_changed t ten hother
    refine ⟨?_, fun i => ⟨?_, ?_⟩⟩
    · rw [hreg' (by unfold TILE_DMA_STAT DBG_TRACE_STAT; omega), State.setTilePc,
        State.reg_setReg_other _ _ (by unfold TILE_DMA_STAT TILE_PC; omega),
        State.reg_setReg_other _ _ (by unfold TILE_DMA_STAT TILE_STATUS; omega), hdma]
    · exact Tile.gr_of_nil ((congrArg Tile.g htile').trans hg) i
    · exact Tile.vr_of_nil ((congrArg Tile.v htile').trans hv) i
  case request =>
    intro q t v s ht h hstart
    have h0 : bit (setBit v 1 true) 0 = false := by rw [bit_setBit _ _ _ _ (by decide), if_neg (by decide), hstart]
    have h1 : bit (setBit v 1 true) 1 = true := by rw [bit_setBit _ _ _ _ (by decide), if_pos rfl]
    rw [exec_tileFrogRequest ht h, tileCtrl_frog _ _ _ _ h0 h1]
    rfl
  case frog =>
    intro t s ht on
    rw [exec_tileFrog ht on]
    refine ⟨fun hdue hon => ?_, fun hdue hoff => ?_, fun hnot => ?_⟩
    · rw [tileFrog_due hdue hon]
    · rw [tileFrog_asleep hdue hoff]
    · rw [tileFrog_notDue hnot]
  case core =>
    intro t s _ u
    have htile := s.tile_coreFrog t
    exact ⟨s.tileSt_coreFrog t, s.flag_coreFrog_irq t, congrArg Tile.dma htile, congrArg Tile.cimQ htile, congrArg Tile.out htile,
      congrArg Tile.inbox htile, congrArg Tile.frogDue htile, s.reg_coreFrog_dmaStat t,
      Tile.gr_of_nil (congrArg Tile.g htile), fun j hj => s.tile_coreFrog_other t hj⟩

end Sys2Proof.Machine
end

section
/-! SUPPORT AND PROOFS. Stitch counters (R266 to R270, R276): VALUE and CONFIG, the order of permission and state, what each operation
stores, the S slot's STITCH and NEXTN, and the counter pages. -/

namespace Sys2Proof.Machine

/-! ### VALUE and CONFIG (Table 12.4) -/

section Counter

variable (s : State) (i : Nat)

@[simp] theorem State.scValue_setScValue_same (v : Word) : (s.setScValue i v).scValue i = v := Tab.get_set_same ..

theorem State.scValue_setScValue_other {j : Nat} (v : Word) (h : j ≠ i) : (s.setScValue i v).scValue j = s.scValue j :=
  Tab.get_set_other _ _ h

@[simp] theorem State.scConfig_setScConfig_same (v : Word) : (s.setScConfig i v).scConfig i = v := Tab.get_set_same ..

theorem State.scConfig_setScConfig_other {j : Nat} (v : Word) (h : j ≠ i) : (s.setScConfig i v).scConfig j = s.scConfig j :=
  Tab.get_set_other _ _ h

@[simp] theorem State.scConfig_setScValue (v : Word) (j : Nat) : (s.setScValue i v).scConfig j = s.scConfig j := rfl

@[simp] theorem State.scValue_setScConfig (v : Word) (j : Nat) : (s.setScConfig i v).scValue j = s.scValue j := rfl

end Counter

theorem bits_setBit_other (w : Word) {i hi lo : Nat} (b : Bool) (h : i < 32) (hd : hi < i ∨ i < lo) :
    bits (setBit w i b) hi lo = bits w hi lo := bits_setBits_other _ _ _ _ _ _ h (Nat.le_refl i) hd

/-! ### Permission before state (R267) -/

section Permission

variable (s : State) (ten i : Nat) (op : ScOp) (x : Word) (holder adsel : Bool)

theorem State.scPermitted_free (h : scState (s.scValue i) = 0) : s.scPermitted ten i op holder adsel = (op == .init && holder) := if_pos h

theorem State.scPermitted_owned (h : scState (s.scValue i) ≠ 0) :
    s.scPermitted ten i op holder adsel = (adsel || scOwner (s.scConfig i) == ten) := if_neg h

variable {s ten i op holder adsel}

theorem State.scOp_refused (h : s.scPermitted ten i op holder adsel = false) : s.scOp ten i op x holder adsel = (1, s) :=
  if_pos (by simp [h])

section Permitted

variable (hp : s.scPermitted ten i op holder adsel = true)

include hp

theorem State.scOp_off (hoff : (s.dom (32 + i / 2048)).st = .off) : s.scOp ten i op x holder adsel = (2, s) :=
  (if_neg (by simp [hp])).trans (if_pos hoff)

variable (hon : (s.dom (32 + i / 2048)).st ≠ .off)

include hon

theorem State.scOp_stale (hst : scState (s.scValue i) = 2 ∧ op ≠ .init ∧ op ≠ .free) : s.scOp ten i op x holder adsel = (5, s) :=
  (if_neg (by simp [hp])).trans ((if_neg hon).trans (if_pos hst))

theorem State.scOp_done (hst : scState (s.scValue i) ≠ 2 ∨ op = .init ∨ op = .free) :
    s.scOp ten i op x holder adsel = (0, (s.scApply ten i op x).scEval i) := by
  refine (if_neg (by simp [hp])).trans ((if_neg hon).trans (if_neg ?_))
  rintro ⟨hstale, hinit, hfree⟩
  rcases hst with hst | hst | hst
  · exact hst hstale
  · exact hinit hst
  · exact hfree hst

end Permitted

variable (s ten i op holder adsel)

/-- An operation is done, or answers REFUSED, DOMAIN_OFF or STALE and changes nothing. -/
theorem State.scOp_cases : (∃ c, (c = 1 ∨ c = 2 ∨ c = 5) ∧ s.scOp ten i op x holder adsel = (c, s)) ∨
    s.scOp ten i op x holder adsel = (0, (s.scApply ten i op x).scEval i) := by
  cases hp : s.scPermitted ten i op holder adsel with
  | false => exact .inl ⟨1, by decide, State.scOp_refused x hp⟩
  | true =>
    by_cases hoff : (s.dom (32 + i / 2048)).st = .off
    · exact .inl ⟨2, by decide, State.scOp_off x hp hoff⟩
    · by_cases hst : scState (s.scValue i) = 2 ∧ op ≠ .init ∧ op ≠ .free
      · exact .inl ⟨5, by decide, State.scOp_stale x hp hoff hst⟩
      · exact .inr ((if_neg (by simp [hp])).trans ((if_neg hoff).trans (if_neg hst)))

theorem State.scOp_failed (h : (s.scOp ten i op x holder adsel).1 ≠ 0) : (s.scOp ten i op x holder adsel).2 = s := by
  rcases s.scOp_cases ten i op x holder adsel with ⟨c, -, hc⟩ | hdone
  · rw [hc]
  · rw [hdone] at h
    exact absurd rfl h

end Permission

/-! ### What the operations store (Table 12.5) -/

/-- A counter that is not ARMED stays as it is when it is evaluated. -/
theorem State.scEval_unarmed {s : State} {i : Nat} (h : bit (s.scValue i) 24 = false) : s.scEval i = s := if_neg (by simp [h])

/-- VALUE of a counter just initialised: LIVE and not ARMED. -/
theorem initialValue_live {n : Nat} (h : n < 2 ^ 24) :
    scState (word (0x10000000 + n)) = 1 ∧ bit (word (0x10000000 + n)) 24 = false := by
  have hn : (word (0x10000000 + n)).toNat = 2 ^ 28 + n := by
    rw [BitVec.toNat_ofNat]
    omega
  unfold scState bits bit nbits
  rw [hn]
  refine ⟨?_, ?_⟩
  · rw [Nat.shiftRight_eq_div_pow]
    omega
  · rw [Nat.testBit_two_pow_add_gt (by decide)]
    exact Nat.testBit_lt_two_pow h

theorem bits_count_lt (x : Word) : bits x 23 0 < 2 ^ 24 := nbits_lt ..

section Apply

variable (s : State) (ten i : Nat) (x : Word)

theorem State.scApply_set : s.scApply ten i .set x = s.setScValue i (setBits (s.scValue i) 23 0 (bits x 23 0)) := rfl

theorem State.scApply_add : s.scApply ten i .add x =
    let v := s.scValue i
    let y := clampS 24 (signed 24 (bits v 23 0) + signed 24 (bits x 23 0))
    s.setScValue i (setBit (setBits v 23 0 (y % 2 ^ 24).toNat) 26
      (bit v 26 || signed 24 (bits v 23 0) + signed 24 (bits x 23 0) != y)) := rfl

theorem State.scApply_arm : s.scApply ten i .arm x =
    (s.setScConfig i (setBit (setBits (s.scConfig i) 23 0 (bits x 23 0)) 24 (bit x 24))).setScValue i
      (setBit (setBit (setBit (s.scValue i) 24 true) 25 false) 27 (bit x 25)) := rfl

theorem State.scApply_init : s.scApply ten i .init x =
    (s.setScConfig i (setBits (s.scConfig i) 30 28 ten)).setScValue i (word (0x10000000 + bits x 23 0)) := rfl

theorem State.scApply_free : s.scApply ten i .free x = (s.setScConfig i 0).setScValue i 0 := rfl

/-- INIT makes the counter LIVE with its owner, and does not arm it. -/
theorem State.scApply_init_spec (hten : ten < 8) : scState ((s.scApply ten i .init x).scValue i) = 1 ∧
    scOwner ((s.scApply ten i .init x).scConfig i) = ten ∧ bit ((s.scApply ten i .init x).scValue i) 24 = false := by
  obtain ⟨hlive, hunarmed⟩ := initialValue_live (bits_count_lt x)
  rw [State.scApply_init, State.scValue_setScValue_same, State.scConfig_setScValue, State.scConfig_setScConfig_same]
  exact ⟨hlive, (bits_setBits_same _ _ _ _ (by decide) (by decide)).trans (Nat.mod_eq_of_lt hten), hunarmed⟩

/-- ARM stores the threshold and the comparison, arms the counter, clears NOTE and sets SCH. -/
theorem State.scApply_arm_spec : bit ((s.scApply ten i .arm x).scValue i) 24 = true ∧ bit ((s.scApply ten i .arm x).scValue i) 25 = false ∧
    bit ((s.scApply ten i .arm x).scValue i) 27 = bit x 25 ∧ bits ((s.scApply ten i .arm x).scConfig i) 23 0 = bits x 23 0 ∧
    bit ((s.scApply ten i .arm x).scConfig i) 24 = bit x 24 := by
  rw [State.scApply_arm, State.scValue_setScValue_same, State.scConfig_setScValue, State.scConfig_setScConfig_same]
  refine ⟨by simp [bit_setBit], by simp [bit_setBit], by simp [bit_setBit], ?_, by simp [bit_setBit]⟩
  rw [bits_setBit_other _ _ (by decide) (by decide), bits_setBits_same _ _ _ _ (by decide) (by decide)]
  exact Nat.mod_eq_of_lt (bits_count_lt x)

/-- A saturated sum reads back from COUNT. -/
theorem signed_count {y : Int} (hlo : -(2 ^ 23) ≤ y) (hhi : y ≤ 2 ^ 23 - 1) : signed 24 ((y % 2 ^ 24).toNat % 2 ^ 24) = y := by
  unfold signed
  dsimp only
  split <;> omega

theorem clampS_count (n : Int) : clampS 24 n = max (-(2 ^ 23)) (min (2 ^ 23 - 1) n) := by
  unfold clampS
  omega

/-- ADD adds a signed value, saturates, and flags a sum that saturated. -/
theorem State.scApply_add_spec :
    let v := s.scValue i
    let n := signed 24 (bits v 23 0) + signed 24 (bits x 23 0)
    let y := max (-(2 ^ 23)) (min (2 ^ 23 - 1) n)
    signed 24 (bits ((s.scApply ten i .add x).scValue i) 23 0) = y ∧
      bit ((s.scApply ten i .add x).scValue i) 26 = (bit v 26 || n != y) := by
  intro v n y
  have hy : clampS 24 n = y := clampS_count n
  have hvalue : (s.scApply ten i .add x).scValue i = setBit (setBits v 23 0 (y % 2 ^ 24).toNat) 26 (bit v 26 || n != y) := by
    rw [State.scApply_add, State.scValue_setScValue_same, ← hy]
  rw [hvalue, bit_setBit _ _ _ _ (by decide), bits_setBit_other _ _ (by decide) (by decide),
    bits_setBits_same _ _ _ _ (by decide) (by decide)]
  exact ⟨signed_count (by omega) (by omega), if_pos rfl⟩

/-- An operation changes no other counter. -/
theorem State.scApply_other (op : ScOp) {j : Nat} (h : j ≠ i) :
    (s.scApply ten i op x).scValue j = s.scValue j ∧ (s.scApply ten i op x).scConfig j = s.scConfig j := by
  have hvalue (v : Word) : (s.setScValue i v).scValue j = s.scValue j ∧ (s.setScValue i v).scConfig j = s.scConfig j :=
    ⟨s.scValue_setScValue_other i v h, s.scConfig_setScValue i v j⟩
  have hboth (c v : Word) : ((s.setScConfig i c).setScValue i v).scValue j = s.scValue j ∧
      ((s.setScConfig i c).setScValue i v).scConfig j = s.scConfig j :=
    ⟨(State.scValue_setScValue_other _ i v h).trans (s.scValue_setScConfig i c j),
      (State.scConfig_setScValue _ i v j).trans (s.scConfig_setScConfig_other i c h)⟩
  cases op with
  | read => exact ⟨rfl, rfl⟩
  | set => exact hvalue _
  | add => exact hvalue _
  | arm => exact hboth _ _
  | init => exact hboth _ _
  | free => exact hboth _ _

end Apply

/-- Settles O38: each clause by the branch of the one order of checks. -/
theorem stitchCounterPermission : Obligations.StitchCounterPermission := by
  unfold Obligations.StitchCounterPermission
  intro s ten i op x holder hten st owner out
  have hmine (hst : st ≠ 0) (hown : owner = ten) : s.scPermitted ten i op holder false = true := by
    rw [s.scPermitted_owned ten i op holder false hst, show scOwner (s.scConfig i) = ten from hown]
    exact beq_self_eq_true ten
  refine ⟨?free, ?initialises, ?others, fun hst hown hinit hfree hon => ?stale, fun hst hlive hown hon => ?live,
    s.scOp_failed ten i op x holder false⟩
  case free =>
    intro hst hnot
    refine State.scOp_refused x ?_
    rw [s.scPermitted_free ten i op holder false hst]
    rcases hnot with hop | hholder
    · simp [hop]
    · simp [hholder]
  case initialises =>
    rintro hst rfl rfl hon
    have hp : s.scPermitted ten i .init true false = true := s.scPermitted_free ten i .init true false hst
    obtain ⟨hlive, howner, hunarmed⟩ := s.scApply_init_spec ten i x hten
    have hout : out = (0, s.scApply ten i .init x) :=
      (State.scOp_done x hp hon (.inr (.inl rfl))).trans (congrArg _ (State.scEval_unarmed hunarmed))
    rw [hout]
    exact ⟨rfl, hlive, howner⟩
  case others =>
    intro hst hown
    refine State.scOp_refused x ?_
    rw [s.scPermitted_owned ten i op holder false hst]
    exact beq_eq_false_iff_ne.2 hown
  case stale => exact State.scOp_stale x (hmine (by omega) hown) hon ⟨hst, hinit, hfree⟩
  case live => exact congrArg Prod.fst (State.scOp_done x (hmine hst hown) hon (.inl hlive))

/-! ### A request sent by a tile's port (R254, R257, R269) -/

section Send

variable {s : State} {t : Nat} {w : Word}

/-- The S slot's request of tile `t`, as it leaves the port with tag `tag`: posted where `d` is 0, else the core waits for its response. -/
def State.sent (s : State) (t d : Nat) (f : Bool) (m : Msg) (loc tag : Nat) : State :=
  s.inject t { m with tag := tag } ⟨tag, m.kind == 4, d != 0, f, m.kind == 2, loc, s.tilePc t / 8 * 8, false⟩

theorem State.sendMsg_tagged {m : Msg} {tag : Nat} (hport : m.kind = 5 ∨ s.portStalled t = false)
    (htag : (s.tile t).freeTag = some tag) (d : Nat) (f : Bool) (loc : Nat) : s.sendMsg t d f m loc =
      if d = 0 then { s := s.sent t d f m loc tag }
      else { s := s.sent t d f m loc tag, dst := some d, await := some ⟨if m.kind = 4 then 2 else 1, d, f⟩ } := by
  have hnot : ¬(m.kind ≠ 5 ∧ s.portStalled t = true) := by
    rcases hport with h | h
    · exact fun e => e.1 h
    · simp [h]
  unfold State.sendMsg
  rw [if_neg hnot, htag]
  rfl

theorem State.sendMsg_noTag (htag : (s.tile t).freeTag = none) (d : Nat) (f : Bool) (m : Msg) (loc : Nat) :
    s.sendMsg t d f m loc = { s := s, stall := true } := by
  unfold State.sendMsg
  rw [htag, ite_self]

theorem State.commit_sendMsg (h : s.readyS t w = true) {m : Msg} {tag : Nat} (hport : m.kind = 5 ∨ s.portStalled t = false)
    (htag : (s.tile t).freeTag = some tag) (f : Bool) (loc : Nat) : s.commit t (s.sendMsg t (fd w) f m loc) =
      let v := s.sent t (fd w) f m loc tag
      if fd w = 0 then v.retire t none 0 none
      else v.setTile t { v.tile t with await := some ⟨if m.kind = 4 then 2 else 1, fd w, f⟩ } := by
  rw [State.sendMsg_tagged hport htag]
  dsimp only
  split
  · exact State.commit_plain h _
  · exact State.commit_await h _ _

end Send

/-! ### STITCH in the S slot (R269, R270) -/

/-- FN of an operation. -/
def ScOp.code : ScOp → Nat
  | .read => 0
  | .set => 1
  | .add => 2
  | .arm => 3
  | .init => 5
  | .free => 6

/-- The S slot's instruction for an operation. -/
def ScOp.instr (t : Nat) (w : Word) : ScOp → Instr
  | .read => .stitchRead t w
  | .set => .stitchSet t w
  | .add => .stitchAdd t w
  | .arm => .stitchArm t w
  | .init => .stitchInit t w
  | .free => .stitchFree t w

/-- The counter a STITCH instruction names. -/
abbrev State.scIndex (s : State) (t : Nat) (w : Word) : Nat := bits ((s.tile t).gr (fa w)) 16 0

section Stitch

variable {s : State} {t : Nat} {w : Word} {op : ScOp}

theorem exec_stitch (h : s.readyS t w = true) (ho : opc w = 0x21) (hf : fn w = op.code) :
    exec (op.instr t w) s = .next (s.commit t (s.stitch t w op)) := by
  cases op <;> exact only_issueS h (by simp [ho, hf, ScOp.code]) _

theorem exec_nextn (h : s.readyS t w = true) (ho : opc w = 0x21) (hf : fn w = 7) :
    exec (.nextn t w) s = .next (s.commit t (sNextn t w s)) := only_issueS h (by simp [ho, hf]) _

variable (hclean : stitchClean w = true)

include hclean

theorem sNextn_clean : sNextn t w s = .reg (s.scNextN t).2 (fd w) (s.scNextN t).1 := if_neg (by simp [hclean])

/-- On a counter of the tile itself: the VALUE word, STALE, or the code with a log entry. -/
theorem State.commit_stitch_local (h : s.readyS t w = true) (hi : s.scIndex t w / 2048 = t) : s.commit t (s.stitch t w op) =
    let r := s.scOp (s.tileTen t) (s.scIndex t w) op ((s.tile t).gr (fb w)) true
    if r.1 = 0 then r.2.retire t (some (fd w)) (r.2.scValue (s.scIndex t w)) none
    else if r.1 = 5 then s.tileFault t false 0x05 0
    else (s.logRefusal (s.tileReq t) 0 (op != .read) 1).tileFault t false 0x13 r.1 := by
  unfold State.stitch
  dsimp only
  rw [if_neg (by simp [hclean]), if_pos hi]
  rcases s.scOp_cases (s.tileTen t) (s.scIndex t w) op ((s.tile t).gr (fb w)) true false with ⟨c, hc, hr⟩ | hr
  · rcases hc with rfl | rfl | rfl
    · rw [hr]
      exact State.commit_fault ..
    · rw [hr]
      exact State.commit_fault ..
    · rw [hr]
      exact State.commit_fault ..
  · rw [hr]
    exact State.commit_reg h _ _

variable (hi : s.scIndex t w / 2048 ≠ t)

include hi

/-- ARM, INIT and FREE name a counter of the tile itself. -/
theorem State.commit_stitch_localOnly (hop : op = .arm ∨ op = .init ∨ op = .free) :
    s.commit t (s.stitch t w op) = (s.countCode t 0x1A).tileFault t false 0x13 0x1A := by
  unfold State.stitch
  dsimp only
  rw [if_neg (by simp [hclean]), if_neg hi, if_pos hop]
  exact State.commit_fault ..

/-- READ, SET and ADD of another tile's counter leave as a STITCH message. -/
theorem State.stitch_remote (hop : ¬(op = .arm ∨ op = .init ∨ op = .free)) (hfence : s.fenced t = false) : s.stitch t w op =
    s.sendMsg t (fd w) true
      { kind := 4, port := 0, src := t, dst := s.scIndex t w / 2048, cls := 0, ten := s.tileTen t, tag := 0, len := 0, addr := s.scIndex t w
        oper := setBits (word (((s.tile t).gr (fb w)).toNat % 0x4000000)) 31 28 (fn w), aux := 0 } 0 :=
  (if_neg (by simp [hclean])).trans ((if_neg hi).trans ((if_neg hop).trans (if_neg (by simp [hfence]))))

end Stitch

theorem State.scNextN_none {s : State} {t : Nat} (h : s.scNoted t = false) : s.scNextN t = (0, s) := by
  unfold State.scNoted at h
  unfold State.scNextN
  rw [List.find?_eq_none.2 (List.any_eq_false.1 h)]

theorem State.scNextN_some {s : State} {t : Nat} (h : s.scNoted t = true) :
    ∃ i v, i / 2048 = t ∧ s.scNextN t = (word (0x80000000 + i % 2048), s.setScValue i (setBit v 25 false)) := by
  unfold State.scNoted at h
  unfold State.scNextN
  cases hfind : s.sc.value.find? fun e => e.1 / 2048 == t && bit e.2 25 with
  | none => exact absurd h (by simpa using hfind)
  | some e =>
    have hnoted := List.find?_some hfind
    obtain ⟨htile, -⟩ := Bool.and_eq_true_iff.1 hnoted
    exact ⟨e.1, e.2, beq_iff_eq.1 htile, rfl⟩

/-! ### The counter pages (R276) -/

/-- The operand of a row's operation: OP stands above it. -/
theorem word_operand (v : Word) (op : Nat) : word ((setBits v 31 28 op).toNat % 0x4000000) = word (v.toNat % 0x4000000) :=
  congrArg word (bits_setBits_other v 31 28 op 25 0 (by decide) (by decide) (by decide))

section Page

variable {q : Req} {p : Nat} {v : Word} {s : State}

/-- An operation of a page on a counter whose owner lets the requester in. -/
theorem scPage_op {op : ScOp} (hmine : ¬((q.cls == 6) = false ∧ scOwner (s.scConfig (s.scSel p)) ≠ 0))
    (hcode : ScOp.ofCode (bits v 31 28) = some op) (hop : op ≠ .read) : scPage q p v s =
      let r := s.scOp 0 (s.scSel p) op (word (v.toNat % 0x4000000)) true (q.cls == 6)
      if s.scPermitted 0 (s.scSel p) op true (q.cls == 6) = false then s.refuse q (regBase + SC_OP p) true 1
      else if r.1 = 0 then r.2 else r.2.fail q (SC_OP p) r.1 := by
  unfold scPage
  dsimp only
  rw [if_neg (by simpa using hmine), hcode]
  cases op with
  | read => exact absurd rfl hop
  | _ =>
    dsimp only
    generalize s.scOp 0 (s.scSel p) _ (word (v.toNat % 0x4000000)) true (q.cls == 6) = r
    cases s.scPermitted 0 (s.scSel p) _ true (q.cls == 6) with
    | false => rfl
    | true => rcases r with ⟨_ | c, u⟩ <;> rfl

/-- A row's operation that lands, by its code in OP. -/
theorem only_scRow (hp : p < 128) (h : s.lands q (SC_OP p) true = true) (op : ScOp) (hop : op ≠ .read) :
    only (q.wf && decide (p < 128)) s (s.scRow q p v op.code) = .next (
      let u := s.answer 0
      let r := u.scOp 0 (u.scSel p) op (word (v.toNat % 0x4000000)) true (q.cls == 6)
      if ((q.cls == 6) = false ∧ scOwner (u.scConfig (u.scSel p)) ≠ 0) ∨ u.scPermitted 0 (u.scSel p) op true (q.cls == 6) = false then
        u.refuse q (regBase + SC_OP p) true 1
      else if r.1 = 0 then r.2 else r.2.fail q (SC_OP p) r.1) := by
  have hcode : ScOp.ofCode (bits (setBits v 31 28 op.code) 31 28) = some op := by
    rw [bits_setBits_same _ _ _ _ (by decide) (by decide)]
    cases op <;> rfl
  refine (only_writeVia (Bool.and_eq_true_iff.2 ⟨State.lands_wf h, decide_eq_true hp⟩) h _ _).trans (congrArg _ ?_)
  dsimp only
  generalize s.answer 0 = u
  by_cases hother : (q.cls == 6) = false ∧ scOwner (u.scConfig (u.scSel p)) ≠ 0
  · rw [if_pos (.inl hother)]
    exact if_pos (by simpa using hother)
  · rw [scPage_op hother hcode hop, word_operand]
    exact if_congr (or_iff_right hother).symm rfl rfl

end Page

/-- Settles O39: an operation's effect on its counter, the S slot's STITCH by the operation's code or as a message, NEXTN by the noted
counter it finds, and the counter pages by their one rule. -/
theorem stitchCommands : Obligations.StitchCommands := by
  unfold Obligations.StitchCommands
  refine ⟨?stores, fun s ten i op x holder adsel hp hon hst => State.scOp_done x hp hon hst, ?stitch, ?nextn, ?noted, ?page⟩
  case stores =>
    intro s ten i x hten v
    obtain ⟨hlive, howner, -⟩ := s.scApply_init_spec ten i x hten
    have hfree : (s.scApply ten i .free x).scConfig i = 0 := by
      rw [State.scApply_free, State.scConfig_setScValue, State.scConfig_setScConfig_same]
    exact ⟨State.scValue_setScValue_same .., s.scApply_add_spec ten i x, s.scApply_arm_spec ten i x, ⟨hlive, howner⟩,
      ⟨State.scValue_setScValue_same .., hfree⟩, fun op j hj => s.scApply_other ten i x op hj⟩
  case stitch =>
    intro t w s h ho hclean i x
    refine ⟨fun hi => ?own, fun hi => ?localOnly, fun tag hi hfence hport htag => ?remote⟩
    case own =>
      have hrow (op : ScOp) (hf : fn w = op.code) := (exec_stitch h ho hf).trans (congrArg _ (State.commit_stitch_local hclean h hi))
      exact ⟨hrow .read, hrow .set, hrow .add, hrow .arm, hrow .init, hrow .free⟩
    case localOnly =>
      have hrow (op : ScOp) (hop : op = .arm ∨ op = .init ∨ op = .free) (hf : fn w = op.code) :=
        (exec_stitch h ho hf).trans (congrArg _ (State.commit_stitch_localOnly hclean hi hop))
      exact ⟨hrow .arm (by decide), hrow .init (by decide), hrow .free (by decide)⟩
    case remote =>
      have hrow (op : ScOp) (hop : ¬(op = .arm ∨ op = .init ∨ op = .free)) (hf : fn w = op.code) := (exec_stitch h ho hf).trans (congrArg _
        ((congrArg _ (State.stitch_remote hclean hi hop hfence)).trans (State.commit_sendMsg h (.inr hport) htag true 0)))
      exact ⟨hrow .read (by decide), hrow .set (by decide), hrow .add (by decide)⟩
  case nextn =>
    intro t w s h ho hf hclean
    rw [exec_nextn h ho hf, sNextn_clean hclean, State.commit_reg h]
  case noted =>
    intro s t
    refine ⟨State.scNextN_none, fun hnoted => ?_⟩
    obtain ⟨i, v, hi, hnext⟩ := State.scNextN_some hnoted
    rw [hnext]
    refine ⟨i, hi, rfl, ?_, fun j hj => State.scValue_setScValue_other _ _ _ hj⟩
    rw [State.scValue_setScValue_same, bit_setBit _ _ _ _ (by decide), if_pos rfl]
  case page =>
    intro q p v s hp h u i adsel out
    exact ⟨only_scRow hp h .set (by decide), only_scRow hp h .add (by decide), only_scRow hp h .arm (by decide),
      only_scRow hp h .init (by decide), only_scRow hp h .free (by decide)⟩

end Sys2Proof.Machine
end

section
/-! SUPPORT AND PROOFS. A tile's messages (R256, R262, R263) and its DMA engine (R233, R258, R261): MSG by its header image, RECV, the queue of
descriptors, the start and the end of a transfer, and a block on its way. -/

namespace Sys2Proof.Machine

/-! ### The commands -/

section Commands

variable {s : State} {t : Nat} {w : Word}

theorem exec_msg (h : s.readyS t w = true) (ho : opc w = 0x20) : exec (.msg t w) s = .next (s.commit t (sMsg t w s)) :=
  only_issueS h (beq_iff_eq.2 ho) _

theorem exec_recv (h : s.readyS t w = true) (ho : opc w = 0x22) : exec (.recv t w) s = .next (s.commit t (sRecv t w s)) :=
  only_issueS h (beq_iff_eq.2 ho) _

theorem exec_dma (h : s.readyS t w = true) (ho : opc w = 0x23) : exec (.dma t w) s = .next (s.commit t (sDma t w s)) :=
  only_issueS h (beq_iff_eq.2 ho) _

variable (ht : t < 64) (on : s.pwr.chipOff = false) (he : s.flag (PAGE_CTRL (0x100 + t)) 0 = true)

include ht on he

theorem exec_dmaTransferStart : exec (.dmaTransferStart t) s = .next (dmaStart t s) := only_heldIdle (decide_eq_true ht) on he _

theorem exec_dmaTransferDone : exec (.dmaTransferDone t) s = .next (dmaDone t s) := only_heldIdle (decide_eq_true ht) on he _

end Commands

/-! ### MSG (R256, R262) -/

/-- The fields of a header image. -/
abbrev imgKind (h : List Byte) : Nat := nbits (leNat h) 3 0
abbrev imgLen (h : List Byte) : Nat := nbits (leNat (slice h 6 2)) 12 0
abbrev imgAddr (h : List Byte) : Nat := leNat (slice h 8 5)
abbrev imgLoc (h : List Byte) : Nat := nbits (leNat (slice h 0x14 4)) 18 0
abbrev imgDst (h : List Byte) : Nat := leNat (slice h 3 1)

/-- Whether a header image obeys the rules. -/
abbrev imgObeys (h : List Byte) : Bool := imageOk (imgKind h) (imgLoc h) (imgLen h) (imgAddr h) (imgDst h)

/-- Whether a header image asks for a message with a payload: a PUT or a SEND. -/
abbrev imgPays (h : List Byte) : Bool := imgKind h == 1 || imgKind h == 3

/-- The header image that MSG names. -/
abbrev State.msgImage (s : State) (t : Nat) (w : Word) : List Byte := s.bytesAt (spad t ((s.tile t).gr (fa w)).toNat) 32

/-- The request that a header image asks tile `t` for, with its payload and the payload's poison marks. -/
abbrev State.imgMsg (s : State) (t : Nat) (h : List Byte) : Msg :=
  { kind := imgKind h, port := 0, src := t
    dst := if imgKind h = 3 then imgDst h else if imgKind h = 5 then 64 else routerOf (imgAddr h)
    cls := 0, ten := s.tileTen t, tag := 0, len := imgLen h, addr := imgAddr h, oper := word (leNat (slice h 0x10 4))
    aux := word (leNat (slice h 0x1C 4)), data := if imgPays h then s.bytesAt (spad t (imgLoc h)) (imgLen h) else []
    bad := if imgPays h then (List.range (ceilDiv (imgLen h) 32)).filter fun i =>
      s.poisonIn (spad t (imgLoc h) + 32 * i) (min 32 (imgLen h - 32 * i)) else [] }

/-- No header image that obeys the rules is a STITCH message. -/
theorem kind_ne_stitch_of_imageOk {kind loc len addr dst : Nat} (h : imageOk kind loc len addr dst = true) : kind ≠ 4 := by
  rintro rfl
  exact Bool.false_ne_true h

section Message

variable {s : State} {t : Nat} {w : Word}

/-- The S slot's request that is no STITCH message: posted, or waited for with its code. -/
theorem State.commit_sendMsg_code (h : s.readyS t w = true) {m : Msg} {tag : Nat} (hk : m.kind ≠ 4)
    (hport : m.kind = 5 ∨ s.portStalled t = false) (htag : (s.tile t).freeTag = some tag) (f : Bool) (loc : Nat) :
    s.commit t (s.sendMsg t (fd w) f m loc) =
      let v := s.inject t { m with tag := tag } ⟨tag, false, fd w != 0, f, m.kind == 2, loc, s.tilePc t / 8 * 8, false⟩
      if fd w = 0 then v.retire t none 0 none else v.setTile t { v.tile t with await := some ⟨1, fd w, f⟩ } := by
  rw [State.commit_sendMsg h hport htag, State.sent, beq_eq_false_iff_ne.2 hk, if_neg hk]

variable (hb : fb w = 0) (hf : fn w ≤ 1) (hc : s.localCheck t ((s.tile t).gr (fa w)).toNat 32 false = (none, s)) (hfence : s.fenced t = false)

include hb hf hc hfence

theorem sMsg_breaks (hbad : imgObeys (s.msgImage t w) = false) : sMsg t w s = s.msgCode t (fd w) (fn w == 1) 0x1A := by
  unfold sMsg
  dsimp only
  rw [if_neg (by simp [hb, hf]), hc]
  exact (if_neg (ne_true_of_eq_false hfence)).trans (if_pos (by simp [hbad]))

theorem sMsg_sends (hok : imgObeys (s.msgImage t w) = true)
    (hread : imgPays (s.msgImage t w) = true →
      (s.checkRange (s.tileReq t) false (spad t (imgLoc (s.msgImage t w))) (imgLen (s.msgImage t w))).toBool = true) :
    sMsg t w s = s.sendMsg t (fd w) (fn w == 1) (s.imgMsg t (s.msgImage t w)) (imgLoc (s.msgImage t w)) := by
  have hallowed : (if imgPays (s.msgImage t w) then
      (s.checkRange (s.tileReq t) false (spad t (imgLoc (s.msgImage t w))) (imgLen (s.msgImage t w))).map fun _ => ()
      else .ok ()) = Except.ok () := by
    split
    next hpays =>
      have := hread hpays
      cases hrange : s.checkRange (s.tileReq t) false (spad t (imgLoc (s.msgImage t w))) (imgLen (s.msgImage t w)) with
      | error c => rw [hrange] at this; exact absurd this Bool.false_ne_true
      | ok u => rfl
    next => rfl
  unfold sMsg
  dsimp only
  rw [if_neg (by simp [hb, hf]), hc]
  dsimp only
  rw [if_neg (ne_true_of_eq_false hfence), if_neg (by simp [hok]), hallowed]

end Message

/-! ### RECV (R263) and DMA (R233) -/

section Queues

variable {s : State} {t : Nat} {w : Word}

theorem sRecv_empty (ha : fa w = 0) (hb : fb w = 0) (hf : fn w ≤ 1) (h : (s.tile t).inbox = []) : sRecv t w s = .reg s (fd w) 0 := by
  unfold sRecv
  rw [if_neg (by simp [ha, hb, hf])]
  dsimp only
  rw [h]

theorem sRecv_takes (ha : fa w = 0) (hb : fb w = 0) (hf : fn w ≤ 1) {slot len src : Nat} {rest : List (Nat × Nat × Nat)}
    (h : (s.tile t).inbox = (slot, len, src) :: rest) : sRecv t w s =
      .reg (if fn w = 1 then s.setTile t { s.tile t with inbox := rest } else s) (fd w)
        (word (len + slot * 0x2000 + src * 0x20000 + 0x80000000)) := by
  unfold sRecv
  rw [if_neg (by simp [ha, hb, hf])]
  dsimp only
  rw [h]

theorem sDma_checked (hd : fd w = 0) (hb : fb w = 0) (hf : fn w = 0)
    (hc : s.localCheck t ((s.tile t).gr (fa w)).toNat 32 false = (none, s)) : sDma t w s =
      if 8 ≤ (s.tile t).dma.length then { s := s, stall := true }
      else { s := s.setTile t { s.tile t with dma := (s.tile t).dma ++ [(s.tileTen t, s.msgImage t w)] } } := by
  unfold sDma
  dsimp only
  rw [if_neg (by simp [hd, hb, hf]), hc]

end Queues

/-! ### The start and the end of a transfer (R233) -/

/-- The record of tile `x` whose head transfer becomes active with an outcome. -/
abbrev Tile.dmaActive (x : Tile) (code : Option Nat) : Tile := { x with dmaOn := true, dmaPos := 0, dmaCode := code, stage := [], stageBad := [] }

section Transfer

variable {s : State} {t ten : Nat} {d : List Byte} {ds : List (Nat × List Byte)}

theorem dmaStart_head (hq : (s.tile t).dma = (ten, d) :: ds) (hidle : (s.tile t).dmaOn = false) (hrun : (s.tile t).parked = false)
    (hon : s.domOn (tileDom t) = true) (hfence : s.fenced t = false) : dmaStart t s =
      if dmaValid d then (s.setTile t ((s.tile t).dmaActive none)).dmaGo t else s.setTile t ((s.tile t).dmaActive (some 3)) := by
  unfold dmaStart
  dsimp only
  rw [hq]
  dsimp only
  rw [if_neg (by simp [hidle, hrun, hon, hfence]), ← hq]

/-- A transfer that is active with nothing of it on its way, once the engine has gone on: it ends by its outcome. -/
theorem dmaDone_active (hq : ((s.dmaGo t).tile t).dma = (ten, d) :: ds) (hact : ((s.dmaGo t).tile t).dmaOn = true)
    (hfence : (s.dmaGo t).fenced t = false) (hwait : (s.dmaGo t).dmaAwaits t = false) :
    let v := s.dmaGo t
    (∀ c, (v.tile t).dmaCode = some c →
      dmaDone t s = ((v.setFlag (TILE_DMA_STAT t) 16 true).setFld (TILE_DMA_STAT t) 15 8 c).dmaLeave t) ∧
    ((v.tile t).dmaCode = none → (v.tile t).dmaPos < dmaLen d → dmaDone t s = v) ∧
    (∀ u x, (v.tile t).dmaCode = none → dmaLen d ≤ (v.tile t).dmaPos → v.dmaStitch t ten d = (true, u) →
      u.dmaBell t ten d = (true, x) → dmaDone t s = x.dmaLeave t) := by
  intro v
  unfold dmaDone
  dsimp only
  rw [hq]
  dsimp only
  rw [if_neg (by simp [hact, hfence, hwait])]
  refine ⟨fun c hc => ?failed, fun hnone hmore => ?more, fun u x hnone hall hadd hbell => ?ends⟩
  case failed => rw [show ((s.dmaGo t).tile t).dmaCode = some c from hc]
  case more =>
    rw [show ((s.dmaGo t).tile t).dmaCode = none from hnone]
    exact if_pos hmore
  case ends =>
    rw [show ((s.dmaGo t).tile t).dmaCode = none from hnone]
    dsimp only
    rw [if_neg (Nat.not_lt_of_le hall), show (s.dmaGo t).dmaStitch t ten d = (true, u) from hadd]
    dsimp only
    rw [hbell]

end Transfer

/-! ### One block (R258, R261) -/

section Block

variable {s : State} {t ten dst : Nat} {bs : List Byte} {bad : List Nat}

theorem State.dmaPut_own (hown : ownSpad t dst = true) (hin : isOutbound dst = false) : s.dmaPut t ten dst false bs bad =
    (true, (s.storeGrans (dmaReq t ten) dst bs bad).2.dmaBlockEnd t (s.storeGrans (dmaReq t ten) dst bs bad).1) := by
  unfold State.dmaPut
  dsimp only
  rw [if_neg (by simp [hin]), if_neg Bool.false_ne_true, if_pos hown]

theorem State.dmaPut_message (hother : ownSpad t dst = false) (hin : isOutbound dst = false) : s.dmaPut t ten dst false bs bad =
    s.dmaSend t { dmaMsg t ten 1 64 dst with data := bs, bad := bad } 0 true := by
  unfold State.dmaPut
  dsimp only
  rw [if_neg (by simp [hin]), if_neg Bool.false_ne_true, if_neg (ne_true_of_eq_false hother), if_neg (ne_true_of_eq_false hin)]

variable {d : List Byte} {ds : List (Nat × List Byte)} (hq : (s.tile t).dma = (ten, d) :: ds) (hact : (s.tile t).dmaOn = true)
  (hcode : (s.tile t).dmaCode = none) (hstage : (s.tile t).stage = []) (hrun : (s.tile t).parked = false) (hfence : s.fenced t = false)
  (hwait : s.dmaAwaits t = false) (hmore : (s.tile t).dmaPos < dmaLen d)

include hq hact hcode hstage hrun hfence hwait hmore

/-- A block that lies in the tile's own scratchpad is read and put where it goes. -/
theorem State.dmaMove_own {c : Nat} {u : State} (hown : ownSpad t (dmaSrc d + (s.tile t).dmaPos) = true)
    (hload : s.loadGrans (dmaReq t ten) (dmaSrc d + (s.tile t).dmaPos) 64 = (c, bs, bad, u)) (hc : c = 0 ∨ c = 8) :
    s.dmaMove t = u.dmaPut t ten (dmaDst d + (s.tile t).dmaPos) (dmaFlag d 0) bs bad := by
  unfold State.dmaMove
  dsimp only
  rw [hq]
  dsimp only
  rw [if_neg (by simp [hact, hcode, hfence, hwait, hmore, hrun]), if_neg (by simp [hstage]), if_pos hown, hload]
  exact if_pos hc

/-- A block that lies elsewhere on the chip is fetched by a GET. -/
theorem State.dmaMove_get (hother : ownSpad t (dmaSrc d + (s.tile t).dmaPos) = false)
    (hin : isOutbound (dmaSrc d + (s.tile t).dmaPos) = false) : s.dmaMove t =
      s.dmaSend t (dmaMsg t ten 2 64 (dmaSrc d + (s.tile t).dmaPos)) (dmaDst d + (s.tile t).dmaPos - spad t 0) true := by
  unfold State.dmaMove
  dsimp only
  rw [hq]
  dsimp only
  rw [if_neg (by simp [hact, hcode, hfence, hwait, hmore, hrun]), if_neg (by simp [hstage]), if_neg (ne_true_of_eq_false hother),
    if_neg (ne_true_of_eq_false hin)]

end Block

/-! ### No read of the own scratchpad leaves the chip -/

/-- The host window holds whole scratchpads or none. -/
theorem isOutbound_ownSpad {t a b : Nat} (ha : ownSpad t a = true) (hb : ownSpad t b = true) (h : isOutbound a = true) :
    isOutbound b = true := by
  simp only [ownSpad, isOutbound, Bool.and_eq_true, decide_eq_true_eq] at ha hb h ⊢
  unfold spad at ha hb
  omega

/-- An address of the host window lies in no tier. -/
theorem granulesOf_outbound {a : Nat} (h : isOutbound a = true) : granulesOf a 32 = none := by
  simp only [isOutbound, Bool.and_eq_true, decide_eq_true_eq] at h
  have hnone : granAt (max a ((a / 0x1000 + 0) * 0x1000)) = none := by
    rw [show max a ((a / 0x1000 + 0) * 0x1000) = a by omega]
    unfold granAt
    rw [if_neg (by omega), if_neg (by omega), if_neg (by omega), if_neg (by omega)]
  obtain ⟨n, hn⟩ : ∃ n, (a + 32 + 0xFFF) / 0x1000 - a / 0x1000 = n + 1 := ⟨(a + 32 + 0xFFF) / 0x1000 - a / 0x1000 - 1, by omega⟩
  unfold granulesOf
  rw [hn, List.range_succ_eq_map, List.mapM_cons, hnone]
  rfl

theorem State.memRead_outbound {a : Nat} (h : isOutbound a = true) (s : State) (q : Req) : (s.memRead q a 32).1 = 1 := by
  have hrange : s.rangeOk q false a 32 = none := by
    rw [State.rangeOk, granulesOf_outbound h]
    rfl
  simp only [isOutbound, Bool.and_eq_true, decide_eq_true_eq] at h
  have hrom : isRom a = false := decide_eq_false (by omega)
  have hcim : isCimWin a = false := by
    unfold isCimWin
    rw [decide_eq_false (show ¬ a < 0x64000000 by omega), Bool.and_false]
  unfold State.memRead
  dsimp only
  rw [if_neg (by simp [hrom]), if_neg (ne_true_of_eq_false hcim), hrange]
  split
  · rfl
  · rfl

/-- One granule more of a read in granules: the code so far, the data, the poisoned granules and the state. -/
def granStep (q : Req) (a : Nat) : Nat × List Byte × List Nat × State → Nat → Nat × List Byte × List Nat × State :=
  fun (c, d, b, s) i => match s.memRead q (a + 32 * i) 32 with
    | (8, e, s) => ((if c = 0 then 8 else c), d ++ e, b ++ [i], s)
    | (x, e, s) => ((if c = 0 ∨ c = 8 then (if x = 0 then c else x) else c), d ++ e, b, s)

theorem State.loadGrans_eq (s : State) (q : Req) (a n : Nat) :
    s.loadGrans q a n = (List.range (n / 32)).foldl (granStep q a) (0, [], [], s) := rfl

/-- A refused granule is the code of a read with no other code. -/
theorem granStep_refused {s : State} {q : Req} {a : Nat} (i : Nat) (h : (s.memRead q (a + 32 * i) 32).1 = 1) (d : List Byte) (b : List Nat) :
    (granStep q a (0, d, b, s) i).1 = 1 := by
  obtain ⟨e, u, hfirst⟩ : ∃ e u, s.memRead q (a + 32 * i) 32 = (1, e, u) := ⟨_, _, Prod.ext h rfl⟩
  unfold granStep
  dsimp only
  rw [hfirst]
  rfl

/-- A code other than OK and POISON stays. -/
theorem granStep_ended {c : Nat} (h0 : c ≠ 0) (h8 : c ≠ 8) (q : Req) (a i : Nat) (d : List Byte) (b : List Nat) (s : State) :
    (granStep q a (c, d, b, s) i).1 = c := by
  unfold granStep
  dsimp only
  split
  · exact if_neg h0
  · exact if_neg (by simp [h0, h8])

/-- A read of two granules whose first is refused is refused. -/
theorem State.loadGrans_refused {s : State} {q : Req} {a : Nat} (h : (s.memRead q a 32).1 = 1) : (s.loadGrans q a 64).1 = 1 := by
  obtain ⟨d, b, u, hfirst⟩ : ∃ d b u, granStep q a (0, [], [], s) 0 = (1, d, b, u) :=
    ⟨_, _, _, Prod.ext (granStep_refused 0 h [] []) rfl⟩
  rw [State.loadGrans_eq, show List.range (64 / 32) = [0, 1] from rfl, List.foldl_cons, hfirst]
  exact granStep_ended (by decide) (by decide) ..

theorem State.loadGrans_outbound {a : Nat} (h : isOutbound a = true) (s : State) (q : Req) : (s.loadGrans q a 64).1 = 1 :=
  State.loadGrans_refused (s.memRead_outbound h q)

/-- Settles O37: each command of the S slot by what its checks leave, a transfer by its outcome, a block by where it lies and where it goes. That
a posted message retires at once is log entry 58, and that a block moves by messages of 64 bytes is log entry 60. -/
theorem tileMessageCommands : Obligations.TileMessageCommands := by
  unfold Obligations.TileMessageCommands
  refine ⟨?msg, ?recv, ?dma, ?start, ?done, ?block⟩
  case msg =>
    intro t tag w s h ho hb hf off h' kind len addr loc img pays hc hfence
    rw [exec_msg h ho]
    refine ⟨fun hok hread hport htag => ?sends, fun hok hget hnone => ?waits, fun hbad hf1 => ?faults, fun hbad hf0 hd => ?kept⟩
    case sends =>
      rw [sMsg_sends hb hf hc hfence hok hread]
      have hsent := State.commit_sendMsg_code h (m := s.imgMsg t (s.msgImage t w)) (kind_ne_stitch_of_imageOk hok) hport htag (fn w == 1) loc
      dsimp only [State.imgMsg, imgKind, imgLen, imgAddr, imgLoc, imgDst, imgPays, State.msgImage] at hsent ⊢
      exact congrArg Host.Outcome.next hsent
    case waits =>
      have hpays : imgPays (s.msgImage t w) = false := by
        rw [imgPays, show imgKind (s.msgImage t w) = 2 from hget]
        rfl
      rw [sMsg_sends hb hf hc hfence hok fun hp => absurd hp (ne_true_of_eq_false hpays), State.sendMsg_noTag hnone, State.commit_stalled]
    case faults =>
      rw [sMsg_breaks hb hf hc hfence hbad, hf1]
      exact congrArg _ (State.commit_fault ..)
    case kept =>
      rw [sMsg_breaks hb hf hc hfence hbad, hf0]
      exact congrArg _ ((congrArg _ (if_neg hd)).trans (State.commit_reg h _ _))
  case recv =>
    intro t w s h ho ha hb hf
    rw [exec_recv h ho]
    refine ⟨fun hempty => ?_, fun slot len src rest hin => ?_⟩
    · rw [sRecv_empty ha hb hf hempty, State.commit_reg h]
    · rw [sRecv_takes ha hb hf hin, State.commit_reg h]
  case dma =>
    intro t w s h ho hd hb hf off hc
    rw [exec_dma h ho, sDma_checked hd hb hf hc]
    refine ⟨fun hroom => ?_, fun hfull => ?_⟩
    · rw [if_neg (Nat.not_le_of_lt hroom), State.commit_plain h]
    · rw [if_pos hfull, State.commit_stalled]
  case start =>
    intro t ten d ds s ht on he hq hidle hrun hon hfence
    rw [exec_dmaTransferStart ht on he, dmaStart_head hq hidle hrun hon hfence]
    exact ⟨fun hvalid => congrArg _ (if_pos hvalid), fun hbad => congrArg _ (if_neg (ne_true_of_eq_false hbad))⟩
  case done =>
    intro t ten d ds s ht on he v hq hact hfence hwait
    obtain ⟨hfailed, hmore, hends⟩ := dmaDone_active hq hact hfence hwait
    rw [exec_dmaTransferDone ht on he]
    exact ⟨fun c hc => congrArg _ (hfailed c hc), fun hnone hpos => congrArg _ (hmore hnone hpos),
      fun u x hnone hall hadd hbell => congrArg _ (hends u x hnone hall hadd hbell)⟩
  case block =>
    intro t ten d ds s hq hact hcode hstage hrun hfence hwait hmore himem src dst
    refine ⟨fun c u bs bad hsrc hload hc => ?own, fun hother hin => State.dmaMove_get hq hact hcode hstage hrun hfence hwait hmore hother hin⟩
    have hmove := State.dmaMove_own hq hact hcode hstage hrun hfence hwait hmore hsrc hload hc
    rw [himem] at hmove
    refine ⟨fun hown => hmove.trans (State.dmaPut_own hown ?_), fun hother hin => hmove.trans (State.dmaPut_message hother hin)⟩
    by_contra hout
    have hrefused := s.loadGrans_outbound (isOutbound_ownSpad hown hsrc (Bool.eq_true_of_not_eq_false hout)) (dmaReq t ten)
    rw [hload] at hrefused
    omega

end Sys2Proof.Machine
end

section
/-! SUPPORT AND PROOFS. The mesh (R252 to R265, R268): the checks a request meets in their order, what each TYPE does at its target, responses,
the flits an output counts, routes, and the end of a fence. -/

namespace Sys2Proof.Machine

/-! ### The commands -/

section Commands

variable {s : State} (on : s.pwr.chipOff = false)

include on

theorem exec_stitchMessageArrive (k : Nat) : exec (.stitchMessageArrive k) s = .next (stitchArrive k s) := only_next rfl on _

theorem exec_doorbellMessage (k : Nat) : exec (.doorbellMessage k) s = .next (doorbellArrive k s) := only_next rfl on _

variable (he : s.flag (PAGE_CTRL 0x060) 0 = true)

include he

theorem exec_putArrive (k : Nat) : exec (.putArrive k) s = .next (putArrive k s) := only_heldIdle rfl on he _

theorem exec_getArrive (k : Nat) : exec (.getArrive k) s = .next (getArrive k s) := only_heldIdle rfl on he _

theorem exec_sendArrive (k : Nat) : exec (.sendArrive k) s = .next (sendArrive k s) := only_heldIdle rfl on he _

theorem exec_meshResponse (k : Nat) : exec (.meshResponse k) s = .next (meshResponse k s) := only_heldIdle rfl on he _

theorem exec_meshFenceLift {t : Nat} (ht : t < 64) : exec (.meshFenceLift t) s = .next (fenceLift t s) :=
  only_heldIdle (decide_eq_true ht) on he _

end Commands

/-! ### The checks of a request (R255, R259, R265) -/

section PreCheck

variable {s : State} {m : Msg} (k : Nat) (go : State)

theorem State.preCheck_waits {d : Nat} (h : s.msgWaits m = some d) : s.preCheck k m go = s.waitFor d := by
  unfold State.preCheck
  rw [h]

variable (hw : s.msgWaits m = none)

include hw

theorem State.preCheck_awake : s.preCheck k m go =
    if m.tileOf.any s.fenced then s.respond k 8
    else if !s.msgPermitted m then
      (s.logRefusal m.req m.addr (m.kind != 2) (if m.kind ≤ 2 ∧ !meshTarget m.addr m.len then 0 else 1)).respond k 1
    else if s.msgOff m then (m.tileOf.elim s fun t => s.msgErr m t 2).portEnd k 2
    else go := by
  unfold State.preCheck
  rw [hw]

theorem State.preCheck_fenced (h : m.tileOf.any s.fenced = true) : s.preCheck k m go = s.respond k 8 :=
  (State.preCheck_awake k go hw).trans (if_pos h)

variable (hopen : m.tileOf.any s.fenced = false)

include hopen

theorem State.preCheck_refused (h : s.msgPermitted m = false) : s.preCheck k m go =
    (s.logRefusal m.req m.addr (m.kind != 2) (if m.kind ≤ 2 ∧ meshTarget m.addr m.len = false then 0 else 1)).respond k 1 := by
  rw [State.preCheck_awake k go hw, if_neg (ne_true_of_eq_false hopen), if_pos (by simp [h])]
  simp only [Bool.not_eq_true']

variable (hp : s.msgPermitted m = true)

include hp

theorem State.preCheck_off {t : Nat} (h : s.msgOff m = true) (ht : m.tileOf = some t) :
    s.preCheck k m go = (s.msgErr m t 2).portEnd k 2 := by
  rw [State.preCheck_awake k go hw, if_neg (ne_true_of_eq_false hopen), if_neg (by simp [hp]), if_pos h, ht]
  rfl

theorem State.preCheck_applied (h : s.msgOff m = false) : s.preCheck k m go = go := by
  rw [State.preCheck_awake k go hw, if_neg (ne_true_of_eq_false hopen), if_neg (by simp [hp]), if_neg (ne_true_of_eq_false h)]

end PreCheck

/-- A command for the request at place `k` first makes the checks. -/
theorem exec_request {k : Nat} {m : Msg} {s : State} {c : Instr} (on : s.pwr.chipOff = false) (he : s.flag (PAGE_CTRL 0x060) 0 = true)
    (hc : (c, m.kind) ∈ [(Instr.putArrive k, 1), (.getArrive k, 2), (.sendArrive k, 3), (.stitchMessageArrive k, 4)])
    (h : s.requestAt k m.kind = some m) : ∃ go, exec c s = .next (s.preCheck k m go) := by
  simp only [List.mem_cons, List.not_mem_nil, or_false, Prod.mk.injEq] at hc
  rcases hc with ⟨rfl, hk⟩ | ⟨rfl, hk⟩ | ⟨rfl, hk⟩ | ⟨rfl, hk⟩
  · rw [exec_putArrive on he, putArrive, ← hk, h]
    exact ⟨_, rfl⟩
  · rw [exec_getArrive on he, getArrive, ← hk, h]
    exact ⟨_, rfl⟩
  · rw [exec_sendArrive on he, sendArrive, ← hk, h]
    exact ⟨_, rfl⟩
  · rw [exec_stitchMessageArrive on, stitchArrive, ← hk, h]
    exact ⟨_, rfl⟩

/-! ### What a request does at its target (R255, R263, R264, R268) -/

section Apply

variable {s : State} {k : Nat} {m : Msg} (hw : s.msgWaits m = none) (hopen : m.tileOf.any s.fenced = false)
  (hp : s.msgPermitted m = true) (hon : s.msgOff m = false) (hin : m.fenced = false)

include hw hopen hp hon hin

theorem putArrive_stores (h : s.requestAt k 1 = some m) {c : Nat} {u : State} (hst : s.storeGrans m.req m.addr m.data m.bad = (c, u))
    (hc : c ≠ 0x100) : putArrive k s = u.respond k c := by
  unfold putArrive
  rw [h]
  dsimp only
  rw [State.preCheck_applied k _ hw hopen hp hon, if_neg (ne_true_of_eq_false hin), hst]
  split
  next heq => exact absurd (congrArg Prod.fst heq) hc
  next heq => cases heq; rfl

omit hin in
theorem getArrive_loads (h : s.requestAt k 2 = some m) {c : Nat} {d : List Byte} {b : List Nat} {u : State}
    (hld : s.loadGrans m.req m.addr m.len = (c, d, b, u)) (hc : c = 0 ∨ c = 8) : getArrive k s = u.respond k c 0 d b := by
  unfold getArrive
  rw [h]
  dsimp only
  rw [State.preCheck_applied k _ hw hopen hp hon, hld]
  rcases hc with rfl | rfl
  · rfl
  · rfl

theorem stitchArrive_applies (h : s.requestAt k 4 = some m) {op : ScOp} (hop : ScOp.ofCode (bits m.oper 31 28) = some op) :
    stitchArrive k s =
      let r := s.scOp m.ten (m.addr % 131072) op m.oper false
      r.2.respond k r.1 (if r.1 = 0 then r.2.scValue (m.addr % 131072) else 0) := by
  unfold stitchArrive
  rw [h]
  dsimp only
  rw [State.preCheck_applied k _ hw hopen hp hon, if_neg (ne_true_of_eq_false hin), hop]
  rfl

variable (h : s.requestAt k 3 = some m) (hclean : m.bad = [])

include h hclean

theorem sendArrive_tooLong (hlen : s.slotBytes m.dst < m.len) : sendArrive k s = s.respond k 0x19 := by
  unfold sendArrive
  rw [h]
  exact (State.preCheck_applied k _ hw hopen hp hon).trans ((if_neg (by simp [hin, hclean])).trans (if_pos hlen))

variable (hlen : m.len ≤ s.slotBytes m.dst)

include hlen

theorem sendArrive_full (hfull : ∀ i, i < 16 → ((s.tile m.dst).inbox.any fun e => e.1 == i) = true) :
    sendArrive k s = s.respond k 0x18 := by
  have hnone : ((List.range 16).find? fun i => !(s.tile m.dst).inbox.any fun e => e.1 == i) = none :=
    List.find?_eq_none.2 fun i hi => by simp [hfull i (List.mem_range.1 hi)]
  unfold sendArrive
  rw [h]
  refine (State.preCheck_applied k _ hw hopen hp hon).trans ((if_neg (by simp [hin, hclean])).trans
    ((if_neg (Nat.not_lt_of_le hlen)).trans ?_))
  rw [hnone]

theorem sendArrive_enters {i : Nat} {u : State} (hfree : ((List.range 16).find? fun i => !(s.tile m.dst).inbox.any fun e => e.1 == i) = some i)
    (hst : s.storeGrans m.req (spad m.dst (s.slotAt m.dst i)) m.data [] = (0, u)) : sendArrive k s =
      (u.setTile m.dst { u.tile m.dst with inbox := (u.tile m.dst).inbox ++ [(i, m.len, m.src)] }).respond k 0 := by
  -- A name for the store that hides its definition: no check below is to evaluate it.
  obtain ⟨store, hstore⟩ : ∃ f, f = State.storeGrans := ⟨_, rfl⟩
  unfold sendArrive
  rw [h]
  refine (State.preCheck_applied k _ hw hopen hp hon).trans ((if_neg (by simp [hin, hclean])).trans
    ((if_neg (Nat.not_lt_of_le hlen)).trans ?_))
  rw [← hstore] at hst ⊢
  rw [hfree]
  dsimp only
  rw [hst]
  rfl

end Apply

/-- A DOORBELL whose tile the side path serves is a write of MBX_RING by its requester (R260). -/
theorem doorbellArrive_served {s v : State} {k : Nat} {m : Msg} (h : s.requestAt k 5 = some m) (hosc : s.refoscOk = true)
    (hserved : s.arbitrate 0x102 64 s.sideWaits false = (some m.src, v)) : doorbellArrive k s =
      let u := v.regAccessNow none m.req (MBX_RING (bits m.oper 5 0)) 4 true m.aux.toNat fun s => mbxRing (bits m.oper 5 0) m.aux (s.answer 0)
      u.respond k u.resp.code := by
  unfold doorbellArrive
  rw [h]
  dsimp only
  rw [hserved]
  exact if_neg (by simp [hosc])

/-! ### The flits an output counts (Table 12.6) -/

@[simp] theorem State.tile_passed (s : State) (m : Msg) (t : Nat) : (s.passed m).tile t = s.tile t := by
  unfold State.passed
  split
  · rfl
  · rfl

theorem State.reg_passed {s : State} {m : Msg} (hk : m.kind ≠ 5) (hp : m.atPort = false) : (s.passed m).reg MESH_PERF_FLITS =
    s.reg MESH_PERF_FLITS +
      (if s.flag MESH_PERF_SEL 12 = m.resp ∧ (s.fld MESH_PERF_SEL 5 0, s.fld MESH_PERF_SEL 10 8) ∈ m.route then word m.flits else 0) := by
  unfold State.passed
  by_cases hsel : s.flag MESH_PERF_SEL 12 = m.resp ∧ (s.fld MESH_PERF_SEL 5 0, s.fld MESH_PERF_SEL 10 8) ∈ m.route
  · rw [if_pos hsel, if_pos ⟨hk, by simp [hp], hsel.1, List.contains_iff_mem.2 hsel.2⟩, State.reg_setReg_same]
  · rw [if_neg hsel, if_neg fun e => hsel ⟨e.2.2.1, List.contains_iff_mem.1 e.2.2.2⟩]
    exact (BitVec.add_zero _).symm

/-! ### Responses (R257) -/

/-- A response that may arrive frees its tag and is delivered; then the engine goes on and the tile's sleep is looked at. -/
theorem meshResponse_delivers {s : State} {k : Nat} {m : Msg} {o : Outst} (h : s.responseAt k = some m)
    (ho : ((s.tile m.home).out.find? fun o => o.tag == m.tag) = some o) : meshResponse k s =
      let v : State := { s.passed m with net := s.net.eraseIdx k }
      (((v.setTile m.home { s.tile m.home with out := (s.tile m.home).out.filter fun e => e.tag != m.tag }).responseTo m.home m o).dmaGo
        m.home).tileSleep m.home := by
  have htile : ({ s.passed m with net := s.net.eraseIdx k } : State).tile m.home = s.tile m.home := s.tile_passed m m.home
  unfold meshResponse
  rw [h]
  dsimp only
  rw [htile, ho]

/-- The core is told the code of its request: the instruction that waits for it, or the end of a posted one. -/
def State.coreTold (s : State) (t : Nat) (m : Msg) (o : Outst) (c : Nat) : State :=
  if o.wait then (match (s.tile t).await with
    | some a => s.awaitEnd t a c m.aux
    | none => s)
  else if m.cls = 1 then s
  else s.postedEnd t (o.f && !o.stitch) o.pc c

section Response

variable {s : State} {t : Nat} {m : Msg} {o : Outst}

theorem State.responseTo_engine (h : o.dma = true) : s.responseTo t m o =
    if o.get then (s.countCode t m.code).dmaBrought t m.code m.data m.bad else (s.countCode t m.code).dmaBlockEnd t m.code := if_pos h

/-- A response for the core: the data of a GET is stored with an outcome `p`, then the core is told the code. -/
theorem State.responseTo_core (h : o.dma = false) {p r : Nat × State} (hp : s.storeGrans m.req (spad t o.loc) m.data m.bad = p)
    (hr : (if o.get = true ∧ (m.code = 0 ∨ m.code = 8) then (if p.1 = 0 then m.code else p.1, p.2) else (m.code, s)) = r) :
    s.responseTo t m o = (r.2.countCode t r.1).coreTold t m o r.1 := by
  subst hr
  unfold State.responseTo
  rw [if_neg (ne_true_of_eq_false h), hp]
  by_cases hget : o.get = true ∧ (m.code = 0 ∨ m.code = 8)
  · rw [if_pos hget, if_pos hget]
    rcases p with ⟨_ | e, v⟩
    · rfl
    · rfl
  · rw [if_neg hget, if_neg hget]
    rfl

theorem State.coreTold_posted (hwait : o.wait = false) (hcls : m.cls ≠ 1) (c : Nat) :
    s.coreTold t m o c = s.postedEnd t (o.f && !o.stitch) o.pc c := (if_neg (ne_true_of_eq_false hwait)).trans (if_neg hcls)

theorem State.coreTold_awaited {a : Await} (hwait : o.wait = true) (ha : (s.tile t).await = some a) (c : Nat) :
    s.coreTold t m o c = s.awaitEnd t a c m.aux := by
  unfold State.coreTold
  rw [if_pos hwait, ha]

end Response

/-! ### Routes (R252) -/

/-- With hops enough for the distance a route ends at the local output of the router it goes to. -/
theorem routeFrom_reaches (n a b : Nat) (h : (a % 8 - b % 8) + (b % 8 - a % 8) + (a / 8 - b / 8) + (b / 8 - a / 8) ≤ n) :
    (routeFrom n a b).getLast? = some (b, 0) := by
  induction n generalizing a with
  | zero =>
    obtain rfl : a = b := by omega
    rfl
  | succ n ih =>
    have hstep (c : Nat) (p : Nat × Nat) (hc : (c % 8 - b % 8) + (b % 8 - c % 8) + (c / 8 - b / 8) + (b / 8 - c / 8) ≤ n) :
        (p :: routeFrom n c b).getLast? = some (b, 0) := by
      rw [List.getLast?_cons, ih c hc]
      rfl
    unfold routeFrom
    split
    · exact hstep _ _ (by omega)
    · split
      · exact hstep _ _ (by omega)
      · split
        · exact hstep _ _ (by omega)
        · split
          · exact hstep _ _ (by omega)
          · obtain rfl : a = b := by omega
            rfl

/-- The first output of a route: east or west, then south or north. -/
theorem routeFrom_head (n a b : Nat) :
    (a % 8 < b % 8 → (routeFrom (n + 1) a b).head? = some (a, 2)) ∧ (b % 8 < a % 8 → (routeFrom (n + 1) a b).head? = some (a, 4)) ∧
    (a % 8 = b % 8 → a < b → (routeFrom (n + 1) a b).head? = some (a, 3)) ∧
    (a % 8 = b % 8 → b < a → (routeFrom (n + 1) a b).head? = some (a, 1)) := by
  unfold routeFrom
  refine ⟨fun heast => ?_, fun hwest => ?_, fun hcol hsouth => ?_, fun hcol hnorth => ?_⟩
  · rw [if_pos heast]
    rfl
  · rw [if_neg (by omega), if_pos hwest]
    rfl
  · rw [if_neg (by omega), if_neg (by omega), if_pos hsouth]
    rfl
  · rw [if_neg (by omega), if_neg (by omega), if_neg (by omega), if_pos hnorth]
    rfl

/-! ### The end of a fence (R265) -/

/-- The register that says whether port `t` is fenced. -/
abbrev fenceKey (t : Nat) : Nat := if t < 32 then MESH_FENCED_LO else MESH_FENCED_HI

theorem fenceLift_drained {s : State} {t : Nat} (hf : s.fenced t = true) (hnet : s.net.any (fun m => m.home == t) = false) :
    fenceLift t s = s.setFlag (fenceKey t) (t % 32) false := if_pos ⟨hf, by simp [hnet]⟩

theorem State.fenced_setFlag_same (s : State) (t : Nat) (b : Bool) : (s.setFlag (fenceKey t) (t % 32) b).fenced t = b :=
  State.flag_setFlag_same _ _ _ _ (Nat.mod_lt _ (by decide))

/-- Another port's bit stands in the other register, or beside this one. -/
theorem State.fenced_setFlag_other (s : State) {t j : Nat} (ht : t < 64) (hj : j < 64) (hne : j ≠ t) (b : Bool) :
    (s.setFlag (fenceKey t) (t % 32) b).fenced j = s.fenced j := by
  by_cases hside : j < 32 ↔ t < 32
  · have hkey : fenceKey j = fenceKey t := if_congr hside rfl rfl
    unfold State.fenced
    rw [show (if j < 32 then MESH_FENCED_LO else MESH_FENCED_HI) = fenceKey t from hkey]
    exact State.flag_setFlag_bit _ _ _ _ _ (Nat.mod_lt _ (by decide)) (by omega)
  · have hkey : fenceKey j ≠ fenceKey t := by
      unfold fenceKey
      split <;> split
      · omega
      · decide
      · decide
      · omega
    exact State.flag_setFlag_other _ _ _ _ hkey

/-- Settles O40: a request by the checks and then by its TYPE, a response by what its tag stands for, a route by induction on its hops. How the
flits of a message are counted and which way north lies is log entry 84. -/
theorem meshCommands : Obligations.MeshCommands := by
  unfold Obligations.MeshCommands
  refine ⟨?checks, ?applies, ?doorbell, ?response, ?delivery, ?flits, ?routes, ?fence⟩
  case checks =>
    intro k m s c on he hc h
    obtain ⟨go, hexec⟩ := exec_request on he hc h
    rw [hexec]
    exact ⟨fun d hd => congrArg _ (State.preCheck_waits k go hd), fun hw hf => congrArg _ (State.preCheck_fenced k go hw hf),
      fun hw hopen hp => congrArg _ (State.preCheck_refused k go hw hopen hp),
      fun t hw hopen hp hoff ht => congrArg _ (State.preCheck_off k go hw hopen hp hoff ht)⟩
  case applies =>
    intro k m s on he h hw hopen hp hon hin
    refine ⟨fun c u hk hst hc => ?put, fun c d b u hk hld hc => ?get, fun hk hclean => ?send, fun op hk hop => ?stitch⟩
    case put => exact (exec_putArrive on he k).trans (congrArg _ (putArrive_stores hw hopen hp hon hin (hk ▸ h) hst hc))
    case get => exact (exec_getArrive on he k).trans (congrArg _ (getArrive_loads hw hopen hp hon (hk ▸ h) hld hc))
    case send =>
      rw [hk] at h
      rw [exec_sendArrive on he k]
      exact ⟨fun hlen => congrArg _ (sendArrive_tooLong hw hopen hp hon hin h hclean hlen),
        fun hlen hfull => congrArg _ (sendArrive_full hw hopen hp hon hin h hclean hlen hfull),
        fun i u hlen hfree hst => congrArg _ (sendArrive_enters hw hopen hp hon hin h hclean hlen hfree hst)⟩
    case stitch => exact (exec_stitchMessageArrive on k).trans (congrArg _ (stitchArrive_applies hw hopen hp hon hin (hk ▸ h) hop))
  case doorbell =>
    exact fun k m s v on h hosc hserved => (exec_doorbellMessage on k).trans (congrArg _ (doorbellArrive_served h hosc hserved))
  case response =>
    exact fun k m o s on he h ho => (exec_meshResponse on he k).trans (congrArg _ (meshResponse_delivers h ho))
  case delivery =>
    intro t m o s
    refine ⟨State.responseTo_engine, fun hcore => ?_⟩
    intro p r u
    rw [State.responseTo_core hcore (p := p) (r := r) rfl rfl]
    exact ⟨fun hpost hcls => State.coreTold_posted hpost hcls _, fun a hwait ha => State.coreTold_awaited hwait ha _⟩
  case flits => exact fun m s hk hp => State.reg_passed hk hp
  case routes =>
    exact fun a b ha hb => ⟨routeFrom_reaches 14 a b (by omega), routeFrom_head 13 a b⟩
  case fence =>
    intro t s ht on he hf hnet
    exact ⟨_, (exec_meshFenceLift on he ht).trans (congrArg _ (fenceLift_drained hf hnet)), s.fenced_setFlag_same t false, rfl,
      fun j hj hne => s.fenced_setFlag_other ht hj hne false⟩

end Sys2Proof.Machine
end
